-- ==== Sys2Proof/Word.lean ====
section
/-! DEFINITION. The word types of the machine (10_state.md R20, R22, R23; 00_scope.md R9, R15). -/

namespace Sys2Proof

/-- XLEN = 64: a general or control register (00_scope.md R9). -/
abbrev Word := BitVec 64

/-- A register pair, the odd register in bits 127:64 (10_state.md R23). -/
abbrev Quad := BitVec 128

/-- One byte of memory. -/
abbrev Byte := BitVec 8

/-- The base unit of instruction encoding (30_encoding.md R110). -/
abbrev Half := BitVec 16

/-- A virtual address of VA_BITS = 48 bits (10_state.md R24; log 5). -/
abbrev VAddr := BitVec 48

/-- The number of a general register, R0..R63 (10_state.md R20, R22). -/
abbrev Reg := BitVec 6

/-- The number of a register pair: pair `p` is R(2p) below, R(2p+1) above (10_state.md R23; log 18). -/
abbrev Pair := BitVec 5

/-- The number of a control register, C0..C63 (10_state.md R27). -/
abbrev CReg := BitVec 6

end Sys2Proof
end

