-- ==== Sys2Proof/Machine/Bits.lean ====
section
/-! DEFINITION. The bit-field and extension helpers of 00_scope.md R15, used by the decoder and by every meaning. -/

namespace Sys2Proof.Machine

open Sys2Proof

/-- `sext_N(v)`: the low N bits of v, sign-extended to 64 (R15). -/
def sext (n : Nat) (v : Word) : Word := (v.setWidth n).signExtend 64
/-- `zext_N(v)`: the low N bits of v, zero-extended to 64 (R15). -/
def zext (n : Nat) (v : Word) : Word := (v.setWidth n).setWidth 64
/-- `oext_N(v)`: the low N bits of v, one-extended to 64 (R14, R15). -/
def oext (n : Nat) (v : Word) : Word := (BitVec.allOnes 64 <<< n) ||| zext n v

/-- Bit i of a value. -/
def bitAt {w : Nat} (v : BitVec w) (i : Nat) : Bool := v.getLsbD i
/-- The slice v[lo+len-1 : lo] (R15). -/
def slice {w : Nat} (v : BitVec w) (lo len : Nat) : BitVec len := v.extractLsb' lo len
/-- v with v[lo+len-1 : lo] replaced. -/
def setSlice {w : Nat} (v : BitVec w) (lo len : Nat) (x : BitVec len) : BitVec w :=
  (v &&& ~~~((BitVec.allOnes len).setWidth w <<< lo)) ||| (x.setWidth w <<< lo)
/-- v with bit i replaced. -/
def setBit {w : Nat} (v : BitVec w) (i : Nat) (b : Bool) : BitVec w := setSlice v i 1 (BitVec.ofBool b)
/-- A truth value as a 64-bit 0 or 1. -/
def boolWord (b : Bool) : Word := if b then 1#64 else 0#64

/-- The halves of a pair value: {odd, even} (10_state.md R23). -/
def loWord (q : Quad) : Word := q.setWidth 64
def hiWord (q : Quad) : Word := (q >>> 64).setWidth 64
def quad (hi lo : Word) : Quad := hi ++ lo

/-- Index of the highest set bit, searching from bit k - 1 down. -/
def highestBit {w : Nat} (v : BitVec w) : Nat → Option Nat
  | 0 => none
  | k + 1 => if v.getLsbD k then some k else highestBit v k
/-- Index of the lowest set bit among the k bits from bit i up. -/
def lowestBit {w : Nat} (v : BitVec w) (i : Nat) : Nat → Option Nat
  | 0 => none
  | k + 1 => if v.getLsbD i then some i else lowestBit v (i + 1) k
/-- The bits of v[w-1:0] in reverse order. -/
def reverseBits {w : Nat} (v : BitVec w) : BitVec w :=
  (List.range w).foldl (fun acc i => (acc <<< 1) ||| (BitVec.ofBool (v.getLsbD i)).setWidth w) 0#w
/-- The n bytes of v in reverse order. -/
def reverseBytes (n : Nat) (v : Word) : Word :=
  (List.range n).foldl (fun acc i => (acc <<< 8) ||| zext 8 (v >>> (8 * i))) 0#64

/-- One 16-bit lane of a word, lane 0 in bits 15:0. -/
def lane16 (v : Word) (i : Nat) : BitVec 16 := v.extractLsb' (16 * i) 16
/-- One 32-bit lane of a word. -/
def lane32 (v : Word) (i : Nat) : BitVec 32 := v.extractLsb' (32 * i) 32
/-- One byte lane of a word. -/
def lane8 (v : Word) (i : Nat) : BitVec 8 := v.extractLsb' (8 * i) 8
/-- Four 16-bit lanes, lane 0 lowest. -/
def words4 (f : Nat → BitVec 16) : Word := f 3 ++ f 2 ++ f 1 ++ f 0
/-- Two 32-bit lanes, lane 0 lowest. -/
def words2 (f : Nat → BitVec 32) : Word := f 1 ++ f 0
/-- Eight byte lanes, lane 0 lowest. -/
def bytes8 (f : Nat → BitVec 8) : Word := f 7 ++ f 6 ++ f 5 ++ f 4 ++ f 3 ++ f 2 ++ f 1 ++ f 0

/-- Whether a 64-bit value is the zero-, one- or sign-extension of its low n bits. -/
def fitsU (v : Word) (n : Nat) : Bool := zext n v == v
def fitsN (v : Word) (n : Nat) : Bool := oext n v == v
def fitsS (v : Word) (n : Nat) : Bool := sext n v == v
/-- Whether a register number is one of R0..R15, and of R0..R31 (10_state.md R20, R22). -/
def nib (r : Reg) : Bool := slice r 4 2 == 0#2
def small (r : Reg) : Bool := slice r 5 1 == 0#1
/-- The E3.F2 microfloat a Binary64 value is, and whether it is one: exponent 1020 + E3, fraction F2 on top
(49_gfp.md R783). -/
def microOf (v : Word) : BitVec 5 := ((v >>> 50) - 0xFF0#64).setWidth 5
def isMicro (v : Word) : Bool :=
  slice v 0 50 == 0#50 && decide (0xFF0 ≤ (v >>> 50).toNat) && decide ((v >>> 50).toNat < 0x1010)

end Sys2Proof.Machine
end

