-- ==== Sys2Proof/Machine/Flags.lean ====
section
/-! DEFINITION. The flag computations: carries, borrows, compares, tests, decimal carries, the predicate stack. -/

namespace Sys2Proof.Machine

open Sys2Proof

/-! ### Carry and borrow (40_alu.md R201, R207, R217, R254) -/

/-- a + b + c and the carry out of bit 63 (R201). -/
def addCarry (a b : Word) (c : Bool) : Word × Bool :=
  let s := a.toNat + b.toNat + c.toNat
  (BitVec.ofNat 64 s, decide (2 ^ 64 ≤ s))
/-- a + (~b) + (1 - t) and the borrow (R207). -/
def subBorrow (a b : Word) (t : Bool) : Word × Bool :=
  let s := a.toNat + (2 ^ 64 - 1 - b.toNat) + (!t).toNat
  (BitVec.ofNat 64 s, decide (s < 2 ^ 64))
/-- The 32-bit sum and its carry, sign-extended (R254). -/
def addCarry32 (a b : Word) (c : Bool) : Word × Bool :=
  let s := (a.setWidth 32).toNat + (b.setWidth 32).toNat + c.toNat
  (sext 32 (BitVec.ofNat 64 s), decide (2 ^ 32 ≤ s))
/-- The 32-bit difference and its borrow, sign-extended (R254). -/
def subBorrow32 (a b : Word) (t : Bool) : Word × Bool :=
  let s := (a.setWidth 32).toNat + (2 ^ 32 - 1 - (b.setWidth 32).toNat) + (!t).toNat
  (sext 32 (BitVec.ofNat 64 s), decide (s < 2 ^ 32))

/-! ### Decimal (40_alu.md R237, R238) -/

/-- Digit i of a 16-digit BCD number. -/
def bcdDigit (v : Word) (i : Nat) : Nat := (v.extractLsb' (4 * i) 4).toNat
/-- Whether every digit is 0 to 9 (U-40-1). -/
def bcdValid (v : Word) : Bool := (List.range 16).all fun i => decide (bcdDigit v i ≤ 9)
/-- The digit loop of R237 over digits i, i+1, ..., given as functions: the sum's number and the last carry. -/
def bcdLoop (a b : Nat → Nat) (i : Nat) (c : Nat) : Nat → Nat × Nat
  | 0 => (0, c)
  | k + 1 =>
    let s := a i + b i + c
    let d := if 9 < s then s + 6 else s
    let (rest, cOut) := bcdLoop a b (i + 1) (if 9 < s then 1 else 0) k
    (d % 16 + 16 * rest, cOut)
/-- R237: the BCD sum and its carry. -/
def bcdAdd (n m : Word) (t : Bool) : Word × Bool :=
  let (v, c) := bcdLoop (bcdDigit n) (bcdDigit m) 0 t.toNat 16
  (BitVec.ofNat 64 v, c == 1)
/-- R238: the nines' complement of m is added with the carry inverted going in and coming out. -/
def bcdSub (n m : Word) (t : Bool) : Word × Bool :=
  let (v, c) := bcdLoop (bcdDigit n) (fun i => 9 - bcdDigit m i) 0 (!t).toNat 16
  (BitVec.ofNat 64 v, c == 0)

/-! ### Compares and tests (41_compare_flags.md R261 to R279) -/

def low32 (v : Word) : BitVec 32 := v.setWidth 32
def eq32 (a b : Word) : Bool := low32 a == low32 b
def gt32 (a b : Word) : Bool := decide ((low32 b).toInt < (low32 a).toInt)
def hi32 (a b : Word) : Bool := decide ((low32 b).toNat < (low32 a).toNat)
def ge32 (a b : Word) : Bool := decide ((low32 b).toInt ≤ (low32 a).toInt)
def hs32 (a b : Word) : Bool := decide ((low32 b).toNat ≤ (low32 a).toNat)
def eq64 (a b : Word) : Bool := a == b
def gt64 (a b : Word) : Bool := decide (b.toInt < a.toInt)
def hi64 (a b : Word) : Bool := decide (b.toNat < a.toNat)
def ge64 (a b : Word) : Bool := decide (b.toInt ≤ a.toInt)
def hs64 (a b : Word) : Bool := decide (b.toNat ≤ a.toNat)
/-- TST: no common bit among bits 31:0 (R273). -/
def tst32 (a b : Word) : Bool := low32 (a &&& b) == 0#32
/-- TSTQ: no common bit (R274). -/
def tst64 (a b : Word) : Bool := (a &&& b) == 0#64
/-- The 48-bit address of a pointer (R276). -/
def ptr48 (v : Word) : BitVec 48 := v.setWidth 48
/-- The 96-bit address of a 128-bit pointer (R277). -/
def ptr96 (q : Quad) : BitVec 96 := ptr48 (hiWord q) ++ ptr48 (loWord q)

/-! ### The predicate stack (41_compare_flags.md R296, R297) -/

/-- SRTPROP: T and U after the operation Imm[1:0] on U[Imm[4:2]] (R296). -/
def srtpropFlags (i : BitVec 5) (t : Bool) (u : BitVec 8) : Bool × BitVec 8 :=
  let x := (i.extractLsb' 2 3).toNat
  match i.extractLsb' 0 2 with
  | 0#2 => (t, setBit u x t)
  | 1#2 => (bitAt u x, u)
  | 2#2 => (t && bitAt u x, u)
  | _ => (t || bitAt u x, u)

/-- PUSH: U shifts left, T enters at U0 (R297). -/
def pushT (t : Bool) (u : BitVec 8) : BitVec 8 := (u <<< 1) ||| (BitVec.ofBool t).setWidth 8

/-- SRTTWID's stack commands: T and U after command 00 to 08 (R297); none for the others. -/
def srttwidFlags (i : BitVec 5) (t : Bool) (u : BitVec 8) : Option (Bool × BitVec 8) :=
  match i with
  | 0#5 => some (t, pushT t u)
  | 1#5 => some (bitAt u 0, u >>> 1)
  | 2#5 => some (bitAt u 1, u >>> 2)
  | 3#5 => some (bitAt u 2, u >>> 3)
  | 4#5 => some (t && bitAt u 0, u)
  | 5#5 => some (t || bitAt u 0, u)
  | 6#5 => some (t && bitAt u 0, pushT (t && bitAt u 0) u)
  | 7#5 => some (t || bitAt u 0, pushT (t || bitAt u 0) u)
  | 8#5 => some (t, 0#8)
  | _ => none

end Sys2Proof.Machine
end

