-- ==== Sys2Proof/Config.lean ====
section
/-! DEFINITION. What the spec leaves to the implementation: parameters with the spec's own default (a body), and
free values and parameters with no stated value (opaque: no proof can see them). 93_implementation_defined.md
section 4 lists them all; the log rows name the ones chosen here. -/

namespace Sys2Proof.Config

open Sys2Proof

/-! ### Feature groups and profile (00_scope.md R8, R10; log 5) -/

/-- The optional groups, one boolean each: those of CPUID index 1 bits 8 to 31 in that order, then those the listings
name without a CPUID bit (R8). -/
structure Features where
  wex : Bool
  wex3w : Bool
  jumbo : Bool
  mmu : Bool
  addr48 : Bool
  gsv : Bool
  pmort : Bool
  gfp : Bool
  gsvx : Bool
  gfpx : Bool
  fmac : Bool
  alux : Bool
  xgpr : Bool
  predS : Bool
  fp2 : Bool
  convFp16 : Bool
  riscv : Bool
  ttag : Bool
  xmov : Bool
  xmovQadd : Bool
  dmac : Bool
  op64RiMov : Bool
  mulq : Bool
  fdiv : Bool
  riMov : Bool
  ldOp : Bool
  nnx : Bool
  jcmp : Bool
  jcmpz : Bool
  cmp3r : Bool
  fpImm : Bool
  rgb : Bool
  rgbx : Bool
  rgbf : Bool
  rgbCce : Bool
  uab : Bool
  ldst48 : Bool
  rbs : Bool
  mulw : Bool
  mull : Bool
  mulx : Bool
  minmax : Bool
  clz : Bool
  aluptr : Bool
  aluxptr : Bool
  wex2 : Bool
  op64 : Bool
  movx2 : Bool
  ldtex : Bool
  bitnn : Bool
  bits : Bool
  bcd : Bool
  bce : Bool
  div : Bool
  gfpMac : Bool
  keyring : Bool
  dbg : Bool
  pdott : Bool
  blkuvf1 : Bool
  xg2 : Bool

/-- Every group present, the RISC-V modes excepted, which no rule describes (log 5). -/
def features : Features :=
  { wex := true, wex3w := true, jumbo := true, mmu := true, addr48 := true, gsv := true, pmort := true, gfp := true,
    gsvx := true, gfpx := true, fmac := true, alux := true, xgpr := true, predS := true, fp2 := true, convFp16 := true,
    riscv := false, ttag := true, xmov := true, xmovQadd := true, dmac := true, op64RiMov := true, mulq := true,
    fdiv := true, riMov := true, ldOp := true, nnx := true, jcmp := true, jcmpz := true, cmp3r := true, fpImm := true,
    rgb := true, rgbx := true, rgbf := true, rgbCce := true, uab := true, ldst48 := true, rbs := true, mulw := true,
    mull := true, mulx := true, minmax := true, clz := true, aluptr := true, aluxptr := true, wex2 := true, op64 := true,
    movx2 := true, ldtex := true, bitnn := true, bits := true, bcd := true, bce := true, div := true, gfpMac := true,
    keyring := true, dbg := true, pdott := true, blkuvf1 := true, xg2 := true }
/-- GSVF and GSVFX are there where GSV and GFP, or GSV and GFPX, are (48_gsv_media.md R670). -/
def Features.gsvf (f : Features) : Bool := f.gsv && f.gfp
def Features.gsvfx (f : Features) : Bool := f.gsv && f.gfpx
/-- CPUID index 1 bits 31:8 (47_system_ttag.md R602). -/
def Features.bits31to8 (f : Features) : BitVec 24 :=
  [f.wex, f.wex3w, f.jumbo, f.mmu, f.addr48, f.gsv, f.pmort, f.gfp, f.gsvx, f.gfpx, f.fmac, f.alux, f.xgpr, f.predS, f.fp2,
    f.convFp16, f.riscv, f.ttag, f.xmov, f.xmovQadd, f.dmac, f.op64RiMov, f.mulq, f.fdiv].foldr
    (fun b v => (v <<< 1) ||| (BitVec.ofBool b).setWidth 24) 0#24
def featureBits : BitVec 24 := features.bits31to8
/-- PROFILE_FIX32D: the restrictions of the Fix32-D profile (R10, default false). -/
def profileFix32D : Bool := false
/-- Whether the Fix32-D profile has the indexed loads and stores (MOVIDX, 44_load_store.md R431). -/
def movIdx : Bool := true
/-- NGPR (R9). -/
def ngpr : Nat := if profileFix32D then 32 else if features.xgpr || features.xg2 then 64 else 32

/-! ### Reset and platform -/

/-- RESET_SR: MD = 1, BL = 1 (70_reset_and_hazards.md R900). -/
def resetSR : Word := 0x50000000#64
/-- RESET_PC (R900). -/
def resetPC : VAddr := 0#48
/-- RESET_VBR (R900). -/
def resetVBR : Word := 0#64
/-- The RTSU window, implementation-dependent (70_reset_and_hazards.md R911). -/
opaque rtsuWindow : Nat
/-- VA_BITS (00_scope.md R9, default 48; log 5). -/
def vaBits : Nat := if features.addr48 then 48 else 32
/-- CORE_ID (R9, default 0). -/
def coreId : BitVec 8 := 0#8
/-- numCores (60_exceptions.md R885): the routing field names up to 16 cores (log 13). -/
def numCores : Nat := 16
/-- PROFILE letter (R9, default 'A'). -/
def profileLetter : Byte := 0x41#8
/-- TLB_ROWS_LOG2, TLB_ASSOC (R9: any value). -/
opaque tlbRowsLog2 : BitVec 5
opaque tlbAssocLog2 : BitVec 3

/-! ### Free values -/

/-- The k-th free value of the run (00_scope.md R15 `draw`; log 3). -/
opaque draw : Nat → Word

/-! ### Environment (60_exceptions.md R880; log 11, 12) -/

/-- The interrupt codes the environment raises at the k-th instruction boundary. -/
opaque raiseIrq : Nat → List Half
/-- A register-form TRAP of another core that names this one, its code with bits 11:8 cleared and the address it gives for
TEA (R885; only that form has bits 11:8 to name a core). -/
structure RoutedTrap where
  code : Half
  tea  : BitVec 48
deriving DecidableEq, Repr
/-- The TRAPs other cores route here before the k-th step (R885; log 11, 13). -/
opaque routedTraps : Nat → List RoutedTrap
/-- By how much the 1 MHz counter advances at the k-th step. -/
opaque usecStep : Nat → Word
/-- One less than the number of clock cycles the k-th step takes. -/
opaque cyclesFor : Nat → Nat

/-! ### Encoding (30_encoding.md) -/

/-- Whether rows of status dropped, maydrop, unknown or contested decode (R150; log 6); the decoder asks it for each. -/
def acceptDropped : Bool := true
/-- Whether 3EjA is CPUID with the index 16 + j (R111 and the opcode table) or, as the last sentence of 47_system_ttag.md R600 has
it, no instruction (log 6). -/
def cpuidMirror : Bool := true
/-- CMP_IMM_WIDTH: 9 or 10 (41_compare_flags.md R262; log 19). -/
def cmpImmWide : Bool := false
/-- IMM32_HALF_ORDER = prefix_low (R166; log 17). -/
def imm32PrefixHigh : Bool := false
/-- Whether a Jumbo displacement is scaled (44_load_store.md R430; log 40). -/
def jumboDispScaled : Bool := false
/-- wexWidth and lane3Shift (R141; log 16). -/
def wexWidth : Nat := if features.wex3w then 3 else 2
opaque lane3Shift : Bool
/-- Whether W.i = 1 selects the F2 block in a 9w form, W.i = 0 the F1 block, or the other way round (R165; log 17). -/
opaque xgpr9SelectsF2 : Bool
/-- The E letter R of F2nm_7Rjj and F2nm_8Rjj, defined nowhere: the value of bits 11:8 that it stands for, if any
(48_gsv_media.md R1000, default none; log 6). -/
def eLetterR : Option (Fin 16) := none
/-- The 16-bit words of MOV.B that are BREAK instead (47_system_ttag.md R596; log 47). -/
def isBreakOverlap (_word : Half) : Bool := false

/-! ### Memory (20_memory.md) -/

/-- What a physical address is (R86; log 7). -/
inductive Region where
  | ram
  | rom
  | mmio
  | zeroPage
  | rtsPage
  | unmapped
deriving DecidableEq, Repr

/-- A piece of the memory map: the addresses from base to base + size - 1 (R86). -/
structure MapEntry where
  base : Nat
  size : Nat
  kind : Region
deriving DecidableEq, Repr

/-- What the RTS pages hold (47_system_ttag.md R612): `RTS` over and over (log 59). -/
def rtsWord : Half := 0x3010#16
/-- What a byte nothing has written reads as (log 4). -/
def unwritten (_pa : Nat) : Byte := 0#8

/-- An access handed to a device: its first address, its size, the value stored if it is a store (R76). -/
structure DeviceAccess where
  addr   : Nat
  size   : Nat
  stored : Option Nat
deriving DecidableEq, Repr
/-- What a device answers, after the accesses it has seen before (R76; log 60). -/
opaque device : List DeviceAccess → DeviceAccess → Nat

/-- What an access is for. -/
inductive Access where
  | fetch
  | read
  | write
deriving DecidableEq, Repr

/-- The registers that describe the page tables, as they stood when a TLB entry was loaded (R90, 70_reset_and_hazards.md
R912; log 8). -/
structure TableRegs where
  ttb  : Word
  sttb : Word
  mmcr : Word
deriving DecidableEq, Repr
/-- What a TLB entry says of an address it matches: where it lies, that the access is denied, or that the ACL decides under
the entry's VUGID (R88, R89). -/
inductive TlbHit where
  | ok (pa : Nat)
  | denied
  | acl (pa : Nat) (vugid : Half)
deriving DecidableEq, Repr, Inhabited

/-- Whether a TLB entry, of 256 bits or of 128, matches an access to an address, and what it then says; its layout is in no
source (R88, R90; log 8). -/
opaque tlbHit : (ext : Bool) → (entry : BitVec 256) → TableRegs → (krr sr : Word) → (va : Nat) → Access → Option TlbHit
/-- Where the 3-bit mode stands in the 12 bits of an ACL entry's access mode, and what its User flags grant (R89, R614). -/
opaque aclMode : BitVec 12 → BitVec 3
opaque aclGrants : BitVec 12 → (sr : Word) → Access → Bool
/-- Log2 of the page size (R88: not enumerated). DESIGN CHOICE (log 8): R88 counts a page-size selector among the MMCR fields no
source gives and speaks of "the active base page size"; here it is one constant of the machine, which MMCR does not select. -/
opaque pageBytesLog2 : Nat
/-- Log2 of the cache line size (47_system_ttag.md R607). -/
opaque lineBytesLog2 : Nat

/-! ### Integer and bit operations -/

/-- Which DWORD of a PMORT source lands on the odd bit positions (40_alu.md R240). -/
opaque pmortUIsHigh : Bool
/-- How a 64-bit background fills a 128-bit BITMOVX result (40_alu.md R251; log 42). -/
opaque bitmovxBackground : Word → Quad

/-! ### Extended loads and stores (45_load_store_ext.md) -/

/-- The bounds check of a tag-0010 or tag-0011 pointer for an access (R522). -/
opaque xmovBoundsOk : (ptr : Quad) → (va size : Nat) → Bool
/-- Whether an XMOV load sign-extends (R516: not stated). -/
opaque xmovSigned : Bool
/-- The texel's address and the unpacked texel of LDTEX (R528; log 26). -/
opaque ldtexAddr : (base st disp : Word) → Word
opaque ldtex : (mem : List (Nat × BitVec 8)) → (base st disp : Word) → Word

/-! ### System instructions (47_system_ttag.md) -/

/-- The version characters of CPUID index 0 (R601). -/
opaque cpuidVersion : BitVec 24
/-- CPUID indices the spec does not describe (R604). -/
opaque cpuid : BitVec 5 → Word
/-- Whether SLEEP faults when no interrupt can be delivered (R597). -/
opaque sleepFaults : Bool
/-- The row of a TLB entry: of 128 bits (LDTLB) or of 256 (LDXTLB) (R610, R611). -/
opaque tlbRow : (ext : Bool) → BitVec 256 → Nat
/-- The sniper addresses of a cache line, used where they lie in a ZERO or RTS page (R612, R613; log 59). -/
opaque snipeDC : (line : Nat) → Word
opaque snipeIC : (line : Nat) → Word
/-- The ACL cache after an insertion (R614). -/
opaque aclInsert : List Word → Word → List Word
/-- The key transforms (R620 to R623) and the mask of the low-order bits LDEKEY tests (R622). -/
opaque keyDecode : (ekey v : Quad) → Option Word
opaque keyEncode : (ekey : Quad) → (k : Word) → Quad
opaque ekeyLowBits : Quad
/-- Whether a page may hold the local mode transitions (R630). -/
opaque secureExecutePage : VAddr → Bool
/-- The canary of a reference value under a seed (R646). -/
opaque canary : (seed v : Word) → Word
/-- The WEX profiles the core supports (R650). -/
opaque wexProfileSupported : BitVec 5 → Bool
/-- The capability operations (R648, R941): the blessed value, whether a value is blessed, whether SR enforces
bounds, and whether setting bounds traps (none), or succeeds blessing (some true) or not (some false). -/
opaque bless : Quad → Quad
opaque isBlessed : Quad → Bool
opaque bceEnabled : (sr : Word) → Bool
opaque bceSetBounds : Quad → (bounds : BitVec 32) → (user : Bool) → Option Bool
/-- The bias LEAT gives a moved bounded pointer, none where it is not representable (R660). -/
opaque leatBias : (ptr delta : Word) → Option (BitVec 4)
/-- Whether MOVTT takes the low 16 bits of Ri (R938, default false; log 45). -/
def movttFromLow16 : Bool := false

/-! ### Packed operations (48_gsv_media.md) -/

/-- Whether +0 and -0 are equal to PCMPEQ.H and .F (R691). -/
opaque pcmpZeroEq : Bool
/-- The prediction PDOTT makes where its predicate does not hold exactly (R703, R704). -/
opaque pdott : (single : Bool) → BitVec 2 → Word → Bool
/-- What PSCHEQ, PSCHNE write when nothing matches, by the number of elements (R962). -/
opaque pschNone : Nat → Word
/-- The elements of PCONV whose type is a unit range, by type codes and value (49_gfp.md R833). -/
opaque pconvUnit : (src dst : BitVec 4) → Nat → Nat

/-! ### Pixels and blocks (48_rgb_blocks.md) -/

/-- Luminance, and the choice among equally bright pixels (R730). -/
opaque rgb5Luma : Half → Nat
opaque rgb5Tie : (max : Bool) → Word → Nat
/-- The selector of a pixel between two endpoints (R731). -/
opaque rgb5Classify : (pixel min max : Half) → BitVec 2
/-- The palette index of a colour, before the law of R732. -/
opaque rgb5ToIndex8 : Half → Byte
/-- The layout PSTCM30AH writes, bits 31:30 (R738, default 00; log 25). -/
def rgb30aPackMode : BitVec 2 := 0#2
/-- 2/3 of the first and 1/3 of the second, before the law of R740. -/
opaque third : Nat → Nat → Nat
/-- The interpolated Half of two FP8U bytes, 2/3 of the first, before the between-law of `thirdsHdr` (R743; log 25). -/
opaque utx3hInterp : Byte → Byte → Half
/-- BLKUVF1 by variant (R745). -/
opaque blkuvf1 : BitVec 2 → (block index : Word) → Word
/-- The decoded sample, before the left and right bias of a UAB2 block (R749). -/
opaque uabDecode : (uab2 : Bool) → (block : Word) → BitVec 4 → BitVec 16
/-- The bias a byte that is not zero stands for (R1003). -/
opaque uabBias : Byte → BitVec 16

/-! ### Floating point (49_gfp.md) -/

/-- The formats of 49_gfp.md; `long` is LongDouble (R785). -/
inductive FpFmt where
  | half | single | double | long
deriving DecidableEq, Repr
/-- The operations of `fpElem` (R781). -/
inductive FpOp where
  | add | sub | mul | div | sqrt | mac | mas | mrs | mra | fromInt | fromUInt | convert
deriving DecidableEq, Repr
/-- The result oracle (R781, R1024; log 22). -/
opaque fpu : FpFmt → FpOp → List Nat → (rm : Byte) → Nat
/-- The status bits an operation sets (R788; log 23). -/
opaque fpStatus : FpOp → List Nat → Nat → BitVec 4
/-- LD_MANT_BITS (R785, default 80). -/
def ldMantBits : Nat := 80
/-- Whether FADDA, FSUBA, FMULA use mode 00, 08 or 09 (R782, R796). -/
opaque faddaSingle : Bool
opaque faddaTruncate : Bool
def faddaMode : Byte := if faddaSingle then (if faddaTruncate then 9#8 else 8#8) else 0#8
/-- Whether zeros of either sign are equal to FCMPEQ (R830, default true). -/
def fcmpZeroEq : Bool := true
/-- The fast approximations (R848, R849, R1044, R1045). -/
opaque fdivApprox : Word → Word → Word
opaque fdivApproxX : Quad → Quad → Quad
opaque fsqrtApprox : Word → Word
opaque fsqrtApproxX : Quad → Quad
/-- A-Law's lowest binade, and whether what lies below it keeps its sign (R1068, R1069). -/
opaque alawEncodeLow : Half → Byte
opaque alawDecodeLow : Byte → Half
opaque alawTinySigned : Bool

/-! ### Exceptions (60_exceptions.md) -/

/-- The choices that fix the causes of the exception codes of a class, one after another (R852; log 9). -/
opaque excPick : (mmu : Bool) → Nat → Byte
/-- The three priority levels of an interrupt: High ("System/Fault"), Medium ("Timers, ..."), Low (everything else)
(R855). -/
inductive IrqLevel where
  | low | medium | high
deriving DecidableEq, Repr, Inhabited
/-- Their order, High above Medium above Low. -/
def IrqLevel.rank : IrqLevel → Nat
  | .low => 0 | .medium => 1 | .high => 2
/-- Priority level of an interrupt code (R855; log 57). -/
opaque irqLevel : Half → IrqLevel
/-- Decode mode bits {WX4, WX3, WX2, WXE} at trap entry (R860, default all zero). -/
def trapDecodeMode : BitVec 4 := 0#4
/-- VEC_OFFSET by class (R860; log 10). -/
def vecOffset (cls : BitVec 4) : VAddr :=
  match cls with
  | 0x8#4 => 0x08#48
  | 0xA#4 => 0x18#48
  | 0xC#4 => 0x10#48
  | 0xE#4 => 0x20#48
  | _ => 0x00#48
/-- Whether a synchronous exception with SR.BL = 1 stops the core (R861, default false). -/
def doubleFaultHalts : Bool := false

end Sys2Proof.Config
end

