-- ==== Sys2Proof/Machine/State.lean ====
section
/-! DEFINITION. The state of one BJX2 core, the reasons a step can stop, and the state after reset
(10_state.md; 60_exceptions.md R855; 70_reset_and_hazards.md R900). -/

namespace Sys2Proof.Machine

open Sys2Proof

/-- Reasons the machine stops with a fault. Every exception the spec describes is TAKEN (a next state), so only
the configured nested-trap policy ends here. -/
inductive Fault where
  /-- Raised by entering a synchronous exception with SR.BL = 1 when `Config.doubleFaultHalts` (60_exceptions.md
  R861: the core is stuck). Safe: the spec gives the core no further step. -/
  | doubleFault
deriving DecidableEq, Repr

/-- Reasons the model stops with no meaning: the cases the spec itself gives the treatment `refuse`
(93_implementation_defined.md). Every one is safe: nothing about what follows can be proved. -/
inductive Refusal where
  /-- Raised by an arm of exec whose instruction has no meaning yet. -/
  | notModelled (mnemonic : String)
  /-- Raised by fetch: decode modes other than 0, 1, 4, 5 (00_scope.md R3, U-46-3). -/
  | decodeMode
  /-- Raised by fetch: a prefixed instruction whose base is in an E range (30_encoding.md R136). -/
  | prefixedPredicate
  /-- Raised by fetch: a bundle that breaks an obligation of 30_encoding.md R141 while SR.WXE = 1. -/
  | bundleObligation
  /-- Raised by a write to C0 (10_state.md R26, U-10-1). -/
  | writeToPC
  /-- Raised by the Sn register moves (10_state.md R46, U-10-2). -/
  | sRegister
  /-- Raised by a write that would set a reserved SR bit (10_state.md R28, U-10-3). -/
  | reservedSRBit
  /-- Raised by an instruction naming X0, X14, X32 or X46 (45_load_store_ext.md R481), and by fetch of one naming a register
  NGPR leaves out (10_state.md R23). -/
  | forbiddenPair
  /-- Raised by a misaligned .X, .TW or LDTEX access (20_memory.md R73, U-45-1). -/
  | misaligned
  /-- Raised by a jump to an odd address, or in XG2 to one that is no multiple of 4 (20_memory.md R74, U-46-1). -/
  | oddTarget
  /-- Raised by a misaligned access to the MMIO range, by an instruction fetch there, and by INVIC and INVDC of an address
  there (20_memory.md R73, 70_reset_and_hazards.md R921, 47_system_ttag.md R607). -/
  | mmio
  /-- Raised by RTSU inside the LR window (70_reset_and_hazards.md R911). -/
  | rtsuWindow
  /-- Raised by TRAP with a pattern the mode or the table does not allow (47_system_ttag.md R640, D30). -/
  | trapPattern
  /-- Raised by TRAP Xn, whose operand layout no source gives (47_system_ttag.md R640). -/
  | trapPair
  /-- Raised by SRTTWID's IF/ELSE commands (41_compare_flags.md R298). -/
  | srttwid
  /-- Raised by BITMOV control words outside the stated ranges (40_alu.md R250, R252). -/
  | bitmovControl
  /-- Raised by BITNN with Ro[63:59] not zero (40_alu.md R239). -/
  | bitnnReserved
  /-- Raised by PSHUF.W with reserved immediate bits (48_gsv_media.md R959). -/
  | pshufReserved
  /-- Raised by RBSLD.X and RBSST.X with an odd register id (45_load_store_ext.md R531). -/
  | rbsPair
  /-- Raised by a floating-point operation with a reserved rounding mode (49_gfp.md R782). -/
  | roundingMode
  /-- Raised by an ACL match whose entry has a reserved mode code (20_memory.md R89). -/
  | aclMode
deriving DecidableEq, Repr

/-- What one step or one meaning answers. -/
abbrev Out (σ : Type) := Host.Outcome σ Fault Refusal

/-- How far the flush procedure of 20_memory.md R98 has come for a stored byte. -/
inductive FlushStage where
  /-- In the L1 data cache, not yet marked. -/
  | dirty
  /-- Marked by INVDC. -/
  | flushed
  /-- Loaded after the mark: written back to L2. -/
  | writtenBack
  /-- Marked again: instruction fetch reloads it after INVIC. -/
  | inL2
deriving DecidableEq, Repr

/-- A stored byte that instruction fetch may still see with an older value (20_memory.md R97). -/
structure StaleByte where
  addr  : Nat
  olds  : List Byte
  stage : FlushStage
deriving DecidableEq, Repr

/-- The access-disable flags SETTRAP attached to a cache line (20_memory.md R91). -/
structure Tripwire where
  line     : Nat
  noRead   : Bool
  noWrite  : Bool
  noFetch  : Bool
deriving DecidableEq, Repr

/-- A TLB entry with the row it stands in (10_state.md R50): 128 bits from LDTLB, 256 from LDXTLB. -/
structure TlbEntry where
  row  : Nat
  ext  : Bool
  bits : BitVec 256
  /-- TTB, STTB and MMCR when the entry was loaded: it keeps its meaning (70_reset_and_hazards.md R912). -/
  regs : Config.TableRegs
deriving DecidableEq, Repr

/-- A pending interrupt (60_exceptions.md R855), with the TEA value that a TRAP routed here by another core brought (R885). -/
structure PendingIrq where
  code : Half
  tea  : Option Word
deriving DecidableEq, Repr

/-- An interrupt made pending on another core (60_exceptions.md R885), with the TEA value that goes with it. -/
structure RemoteTrap where
  core : BitVec 4
  code : Half
  tea  : Option Word
deriving DecidableEq, Repr

/-- The whole machine state. The last six fields are the model's own. -/
structure State where
  /-- R0..R63 (10_state.md R20). -/
  regs : Vector Word 64
  /-- C0, the program counter (R24). -/
  pc   : VAddr
  /-- The address after the instruction being executed (R25). -/
  npc  : VAddr
  lr   : Word
  sr   : Word
  vbr  : Word
  spc  : Word
  ssp  : Word
  gbr  : Word
  tbr  : Word
  ttb  : Word
  tea  : Word
  mmcr : Word
  exsr : Word
  sttb : Word
  krr  : Word
  /-- High address bits; only read when VA_BITS = 96 (R39). -/
  gbh  : Word
  /-- Banked registers: bank b, register i at 64 * b + i (R47). -/
  rbs  : Vector Word 256
  /-- Oldest entry first (R50). -/
  tlb  : List TlbEntry
  acl  : List Word
  /-- The keyring encryption key (R52). -/
  ekey : Quad
  ldekrrEnabled : Bool
  canarySeed : Word
  stale : List StaleByte
  tripwires : List Tripwire
  /-- CPUID 28 and 30 (R55). -/
  usec   : Word
  cycles : Word
  /-- The pending interrupts, one for each code (60_exceptions.md R855). -/
  pending  : List PendingIrq
  sleeping : Bool
  /-- Instructions since LR was last written, the one under way included (70_reset_and_hazards.md R911). -/
  lrAge  : Nat
  remote : List RemoteTrap
  /-- Physical memory in canonical form: rising addresses, no byte equal to what an unlisted one reads as. -/
  mem : List Host.Cell
  /-- MODEL: how many free values have been read (log 3). -/
  draws : Nat
  /-- MODEL: how many steps have begun (log 11, 12). -/
  clock : Nat
  /-- MODEL: how many synchronous faults have been raised (log 16). -/
  faults : Nat
  /-- MODEL: the address the last synchronous fault gave TEA, if it gave one (log 16). -/
  faultTea : Option Word
  /-- MODEL: the accesses devices have seen, oldest first; what a device answers may depend on them (20_memory.md R76). -/
  device : List Config.DeviceAccess
  /-- MODEL: the memory map of this machine, which no step changes (20_memory.md R86: a parameter; log 7). -/
  map : List Config.MapEntry
deriving DecidableEq, Repr

/-- The machine right after reset (70_reset_and_hazards.md R900; the values the spec leaves open are named in log 1). -/
def State.reset : State :=
  { regs := Vector.replicate 64 0#64, pc := Config.resetPC, npc := 0#48, lr := 0#64, sr := Config.resetSR,
    vbr := Config.resetVBR, spc := 0#64, ssp := 0#64, gbr := 0#64, tbr := 0#64, ttb := 0#64, tea := 0#64,
    mmcr := 0#64, exsr := 0#64, sttb := 0#64, krr := 0#64, gbh := 0#64, rbs := Vector.replicate 256 0#64,
    tlb := [], acl := [], ekey := 0#128, ldekrrEnabled := false, canarySeed := 0#64, stale := [],
    tripwires := [], usec := 0#64, cycles := 0#64, pending := [], sleeping := false,
    lrAge := Config.rtsuWindow, remote := [], mem := [], draws := 0, clock := 0, faults := 0, faultTea := none,
    device := [], map := [] }

end Sys2Proof.Machine
end

