-- ==== Sys2Proof/Machine/Ops.lean ====
section
/-! DEFINITION. The shared operations of the machine: registers, flags, free values, entering and leaving an
exception, translation, memory. Every meaning is written over these. -/

namespace Sys2Proof.Machine

open Sys2Proof

/-! ### General registers (10_state.md R20, R23) -/

/-- R[r]. -/
def getReg (s : State) (r : Reg) : Word := s.regs[r.toNat]'(r.isLt)
/-- R[r] <- v. No general register is hard-wired (R20). -/
def setReg (s : State) (r : Reg) (v : Word) : State := { s with regs := s.regs.set r.toNat v r.isLt }
/-- The even register of a pair. -/
def pairLo (p : Pair) : Reg := p ++ 0#1
/-- The odd register of a pair. -/
def pairHi (p : Pair) : Reg := p ++ 1#1
/-- X[p] = {R[2p+1], R[2p]} (R23). -/
def getPair (s : State) (p : Pair) : Quad := getReg s (pairHi p) ++ getReg s (pairLo p)
/-- X[p] <- v. -/
def setPair (s : State) (p : Pair) (v : Quad) : State :=
  setReg (setReg s (pairLo p) (loWord v)) (pairHi p) (hiWord v)
/-- R0, R1, R15 under their names (R21). -/
def dlr : Reg := 0#6
def dhr : Reg := 1#6
def sp : Reg := 15#6
/-- X0, X14, X32, X46 are not allowed as pair operands (45_load_store_ext.md R481). -/
def pairAllowed (p : Pair) : Bool := p != 0#5 && p != 7#5 && p != 16#5 && p != 23#5

/-! ### SR bits (10_state.md R28) -/

def srT (s : State) : Bool := bitAt s.sr 0
def srS (s : State) : Bool := bitAt s.sr 1
def srIPL (s : State) : BitVec 2 := slice s.sr 2 2
def srXMUE (s : State) : Bool := bitAt s.sr 25
def srWXE (s : State) : Bool := bitAt s.sr 27
def srBL (s : State) : Bool := bitAt s.sr 28
def srRB (s : State) : Bool := bitAt s.sr 29
def srMD (s : State) : Bool := bitAt s.sr 30
def srJQ (s : State) : Bool := bitAt s.sr 31
def setT (s : State) (b : Bool) : State := { s with sr := setBit s.sr 0 b }
def setS (s : State) (b : Bool) : State := { s with sr := setBit s.sr 1 b }
/-- The predicate stack U7..U0 = SR[15:8] (R28). -/
def srU (s : State) : BitVec 8 := slice s.sr 8 8
def setU (s : State) (u : BitVec 8) : State := { s with sr := setSlice s.sr 8 8 u }
/-- The decode mode {WX4, WX3, WX2, WXE} (R31). -/
def modeOfSR (sr : Word) : BitVec 4 := slice sr 22 1 ++ slice sr 23 1 ++ slice sr 26 1 ++ slice sr 27 1
def setModeSR (sr : Word) (m : BitVec 4) : Word :=
  setBit (setBit (setBit (setBit sr 22 (bitAt m 3)) 23 (bitAt m 2)) 26 (bitAt m 1)) 27 (bitAt m 0)
def decodeMode (s : State) : BitVec 4 := modeOfSR s.sr
/-- XG2 and XG2 + WEX (00_scope.md R3). -/
def isXG2 (s : State) : Bool := decodeMode s == 4#4 || decodeMode s == 5#4
/-- MD = 1 (60_exceptions.md R870). -/
def supervisor (s : State) : Bool := srMD s
/-- MD = 1 and RB = 1: inside an interrupt handler (R870). -/
def inISR (s : State) : Bool := srMD s && srRB s
/-- Bounds checks are supported and enabled (45_load_store_ext.md R522, 47_system_ttag.md R648). -/
def boundsOn (s : State) : Bool := Config.features.bce && Config.bceEnabled s.sr
/-- SR bits no source defines: 63:32 and 21:16 (10_state.md R28). -/
def srReserved : Word := 0xFFFFFFFF003F0000#64

/-! ### Free values (00_scope.md R15; log 3) -/

/-- The free value the next read gives. -/
def freeWord (s : State) : Word := Config.draw s.draws
/-- The state after one free value has been read. -/
def drawn (s : State) : State := { s with draws := s.draws + 1 }
/-- Two free words as one pair value. -/
def freeQuad (s : State) : Quad := quad (Config.draw (s.draws + 1)) (Config.draw s.draws)
def drawn2 (s : State) : State := { s with draws := s.draws + 2 }
/-- One free bit. -/
def freeBit (s : State) : Bool := bitAt (freeWord s) 0

/-! ### Ending an instruction -/

/-- pc <- npc (10_state.md R25). -/
def retire (s : State) : Out State := .next { s with pc := s.npc }
/-- The pc is to be a multiple of 4: in XG2 and under PROFILE_FIX32D (20_memory.md R74, 00_scope.md R10). -/
def wordPC (s : State) : Bool := isXG2 s || Config.profileFix32D
/-- pc <- target, where the target meets the alignment of the decode mode (20_memory.md R74). -/
def jumpTo (t : VAddr) (s : State) : Out State :=
  if bitAt t 0 || (wordPC s && bitAt t 1) then .refused .oddTarget else .next { s with pc := t }
/-- LR <- v; the window of RTSU begins again (70_reset_and_hazards.md R911). -/
def setLR (s : State) (v : Word) : State := { s with lr := v, lrAge := 0 }

/-! ### Taking an exception and returning from one (60_exceptions.md R851, R852, R860, R862) -/

/-- The exceptions with a code of their own (R852). No rule raises `misalignedAccess` and `setTrapFault`, but TRAP may
name their codes (00_scope.md R18). -/
inductive Exc where
  | breakpoint | undefinedInstruction | privilegeViolation | boundsCheck | canaryCheck | keyFault | xblessFault
  | xmovTagFault | tripwire | sleepFault | accessFault | misalignedAccess | setTrapFault | tlbMiss | aclCheck
deriving DecidableEq, Repr

/-- Whether an exception is the MMU's. -/
def Exc.mmu : Exc → Bool
  | .tlbMiss => true | .aclCheck => true | .breakpoint => false | .undefinedInstruction => false
  | .privilegeViolation => false | .boundsCheck => false | .canaryCheck => false | .keyFault => false
  | .xblessFault => false | .xmovTagFault => false | .tripwire => false | .sleepFault => false
  | .accessFault => false | .misalignedAccess => false | .setTrapFault => false
/-- The class of its code: 0xA for the MMU, 0x8 otherwise (R851, R852). -/
def Exc.cls (e : Exc) : BitVec 4 := if e.mmu then 0xA#4 else 0x8#4
/-- The number of an exception within its class. -/
def Exc.index : Exc → Byte
  | .tlbMiss => 0#8 | .aclCheck => 1#8
  | .breakpoint => 0#8 | .undefinedInstruction => 1#8 | .privilegeViolation => 2#8 | .boundsCheck => 3#8
  | .canaryCheck => 4#8 | .keyFault => 5#8 | .xblessFault => 6#8 | .xmovTagFault => 7#8 | .tripwire => 8#8
  | .sleepFault => 9#8 | .accessFault => 10#8 | .misalignedAccess => 11#8 | .setTrapFault => 12#8
/-- Two bytes exchanged. -/
def swapByte (a b x : Byte) : Byte := if x = a then b else if x = b then a else x
/-- The bytes of a class rearranged by free choices, so that any different causes may stand for the numbers below k. -/
def causeOf (mmu : Bool) : Nat → Byte → Byte
  | 0, x => x
  | k + 1, x => causeOf mmu k (swapByte (BitVec.ofNat 8 k) (Config.excPick mmu k) x)
/-- EXC_<name>: the class, a zero routing field, a free cause, different for each of a class (R851, R852; log 9). -/
def Exc.code (e : Exc) : Half := e.cls ++ 0#4 ++ causeOf e.mmu 13 e.index

/-- SR as a trap entry leaves it: MD, RB, BL set, IPL = 00, the configured decode mode (R860 step 5). -/
def trapSR (sr : Word) : Word :=
  setModeSR (setSlice (setBit (setBit (setBit sr 30 true) 29 true) 28 true) 2 2 0#2) Config.trapDecodeMode
/-- EXSR at entry: {SR[31:0], 0x0000, code} (R860 step 2). -/
def trapEXSR (sr : Word) (code : Half) : Word := slice sr 0 32 ++ 0#16 ++ code
/-- The handler's address for a code (R860 step 6). -/
def trapVector (s : State) (code : Half) : VAddr := slice s.vbr 0 48 + Config.vecOffset (slice code 12 4)

/-- The one entry sequence, for a code, an optional address and the pc to save (R860). -/
def enterTrap (code : Half) (tea : Option Word) (saved : VAddr) (s : State) : State :=
  { s with
    spc := saved.setWidth 64
    exsr := trapEXSR s.sr code
    tea := tea.getD s.tea
    regs := s.regs.set 15 s.ssp (by decide)
    ssp := getReg s sp
    sr := trapSR s.sr
    pc := trapVector s code }

/-- Trap(code): entry with the address of the next instruction saved (R852, R860). -/
def trapTo (code : Half) (tea : Option Word) (s : State) : Out State :=
  if Config.doubleFaultHalts && srBL s then .fault .doubleFault else .next (enterTrap code tea s.npc s)
/-- A synchronous fault: entry with the pc of this instruction saved; a nested one follows R861. -/
def raiseWith (e : Exc) (tea : Option Word) (s : State) : Out State :=
  if Config.doubleFaultHalts && srBL s then .fault .doubleFault
  else .next { enterTrap e.code tea s.pc s with faults := s.faults + 1, faultTea := tea }
def raise (e : Exc) (s : State) : Out State := raiseWith e none s
/-- A memory fault: TEA receives the address, of a 96-bit one the low 64 bits (R853; log 31). -/
def raiseAt (e : Exc) (va : Nat) (s : State) : Out State := raiseWith e (some (BitVec.ofNat 64 va)) s

/-- The return sequence (R862); restoring a reserved SR bit is refused (10_state.md R28). -/
def returnFromTrap (s : State) : Out State :=
  let sr := slice s.sr 32 32 ++ slice s.exsr 32 32
  if sr &&& srReserved != 0#64 then .refused .reservedSRBit
  else jumpTo (slice s.spc 0 48)
    { s with sr := sr, regs := s.regs.set 15 s.ssp (by decide), ssp := getReg s sp }

/-! ### Control registers (10_state.md R26, R27; 47_system_ttag.md R590, R591) -/

/-- The value of an assigned control register; C0 reads as npc (R26). None for a reserved, "(N/A)" or unassigned
number. -/
def controlValue (s : State) (c : CReg) : Option Word :=
  match c with
  | 0#6 => some (s.npc.setWidth 64)
  | 1#6 => some s.lr | 2#6 => some s.sr | 3#6 => some s.vbr | 4#6 => some s.spc | 5#6 => some s.ssp
  | 6#6 => some s.gbr | 7#6 => some s.tbr | 8#6 => some s.ttb | 9#6 => some s.tea | 10#6 => some s.mmcr
  | 11#6 => some s.exsr | 12#6 => some s.sttb | 13#6 => some s.krr
  | _ => none
/-- Readable in every mode: C0, C1, C2, C6, C7 (R591). -/
def controlReadable (c : CReg) : Bool := c == 0#6 || c == 1#6 || c == 2#6 || c == 6#6 || c == 7#6
/-- Writable in every mode: C0 (refused), C1, C6 (R590). -/
def controlWritable (c : CReg) : Bool := c == 0#6 || c == 1#6 || c == 6#6
/-- Go on with C[c] if the mode may read it (R591, D6). -/
def readControl (c : CReg) (s : State) (go : Word → Out State) : Out State :=
  match controlValue s c with
  | none => raise .undefinedInstruction s
  | some v => if supervisor s || controlReadable c then go v else raise .privilegeViolation s
/-- Go on if the mode may write C[c]; C0 is refused (R590, U-10-1). -/
def mayWriteControl (c : CReg) (s : State) (go : Out State) : Out State :=
  if (controlValue s c).isNone then raise .undefinedInstruction s
  else if c == 0#6 then .refused .writeToPC
  else if supervisor s || controlWritable c then go
  else raise .privilegeViolation s
/-- C[c] <- v where the mode may; setting a reserved SR bit is refused (10_state.md R28, U-10-3). -/
def setControl (c : CReg) (v : Word) (s : State) (go : State → Out State) : Out State :=
  match c with
  | 1#6 => go (setLR s v)
  | 2#6 => if v &&& srReserved != 0#64 then .refused .reservedSRBit else go { s with sr := v }
  | 3#6 => go { s with vbr := v } | 4#6 => go { s with spc := v } | 5#6 => go { s with ssp := v }
  | 6#6 => go { s with gbr := v } | 7#6 => go { s with tbr := v } | 8#6 => go { s with ttb := v }
  | 9#6 => go { s with tea := v } | 10#6 => go { s with mmcr := v } | 11#6 => go { s with exsr := v }
  | 12#6 => go { s with sttb := v } | 13#6 => go { s with krr := v }
  | _ => .refused .writeToPC
/-- Go on in Supervisor mode, PrivilegeViolation otherwise (60_exceptions.md R870). -/
def supervisorOnly (s : State) (go : Out State) : Out State :=
  if supervisor s then go else raise .privilegeViolation s

/-! ### Memory (20_memory.md R70, R85; log 4) -/

/-- The byte at a physical address: the listed one, or what an unwritten byte reads as. -/
def Memory.read : List Host.Cell → Nat → Byte
  | [], a => Config.unwritten a
  | (c, v) :: t, a => if a = c then v else Memory.read t a

/-- The memory with one byte replaced, kept in canonical form. -/
def Memory.write : List Host.Cell → Nat → Byte → List Host.Cell
  | [], a, b => if b = Config.unwritten a then [] else [(a, b)]
  | (c, v) :: t, a, b =>
    if a < c then (if b = Config.unwritten a then (c, v) :: t else (a, b) :: (c, v) :: t)
    else if a = c then (if b = Config.unwritten a then t else (a, b) :: t)
    else (c, v) :: Memory.write t a b

/-- The canonical form: addresses strictly rising, no entry equal to what an unlisted address reads as. -/
def Memory.wf : List Host.Cell → Bool
  | [] => true
  | [(a, v)] => v != Config.unwritten a
  | (a, v) :: (b, w) :: t => decide (a < b) && v != Config.unwritten a && Memory.wf ((b, w) :: t)

/-- The cache line of a physical address (47_system_ttag.md R607). -/
def lineOf (pa : Nat) : Nat := pa / 2 ^ Config.lineBytesLog2

/-- A store of one byte: the old value stays visible to fetch until it is flushed (R97). -/
def noteStale (mem : List Host.Cell) (st : List StaleByte) (a : Nat) : List StaleByte :=
  match st with
  | [] => [{ addr := a, olds := [Memory.read mem a], stage := .dirty }]
  | e :: t =>
    if e.addr = a then
      { e with olds := if Memory.read mem a ∈ e.olds then e.olds else Memory.read mem a :: e.olds, stage := .dirty } :: t
    else e :: noteStale mem t a

/-- Mem[a] <- b. -/
def storeByte (s : State) (a : Nat) (b : Byte) : State :=
  { s with mem := Memory.write s.mem a b, stale := noteStale s.mem s.stale a }

/-! ### The memory map (20_memory.md R86; log 7) -/

/-- What stands at a physical address: the first region of the map that holds it, RAM elsewhere in a 96-bit physical
space. -/
def regionOf : List Config.MapEntry → Nat → Config.Region
  | [], pa => if pa < 2 ^ 96 then .ram else .unmapped
  | e :: t, pa => if e.base ≤ pa ∧ pa < e.base + e.size then e.kind else regionOf t pa
/-- The address belongs to a device (R76). -/
def isMmio (s : State) (pa : Nat) : Bool := regionOf s.map pa == .mmio
/-- The byte of an RTS page at an address (47_system_ttag.md R612; log 59). -/
def rtsByte (pa : Nat) : Byte := if pa % 2 = 0 then slice Config.rtsWord 0 8 else slice Config.rtsWord 8 8
/-- The byte a load or a fetch finds at a physical address: zero in a ZERO page, RTS in an RTS page, memory elsewhere. -/
def readByte (s : State) (pa : Nat) : Byte :=
  match regionOf s.map pa with
  | .zeroPage => 0#8
  | .rtsPage => rtsByte pa
  | .ram => Memory.read s.mem pa | .rom => Memory.read s.mem pa
  | .mmio => Memory.read s.mem pa | .unmapped => Memory.read s.mem pa

/-! ### Sniper addresses (20_memory.md R100, 47_system_ttag.md R612; log 59) -/

/-- The address computed where it lies in a ZERO or RTS page, NULL otherwise. -/
def sniper (map : List Config.MapEntry) (a : Word) : Word :=
  match regionOf map a.toNat with
  | .zeroPage => a | .rtsPage => a
  | .ram => 0#64 | .rom => 0#64 | .mmio => 0#64 | .unmapped => 0#64
/-- The sniper addresses of the line of a physical address. -/
def snipeD (s : State) (pa : Nat) : Word := sniper s.map (Config.snipeDC (lineOf pa))
def snipeI (s : State) (pa : Nat) : Word := sniper s.map (Config.snipeIC (lineOf pa))
/-- Whether an access to some addresses is one to a sniper address. -/
def snipes (a : Word) (pas : List Nat) : Bool := a != 0#64 && pas.contains a.toNat

/-- What a data access does to a stored byte's way to L2: one to its sniper address evicts its line (R100), one to a line
INVDC has marked writes that line back (R98). -/
def touchStage (s : State) (pas : List Nat) (e : StaleByte) : FlushStage :=
  if snipes (snipeD s e.addr) pas then .inL2
  else if e.stage = .flushed ∧ (pas.any fun a => lineOf a == lineOf e.addr) = true then .writtenBack else e.stage
def touched (s : State) (pas : List Nat) : State :=
  { s with stale := s.stale.map fun e => { e with stage := touchStage s pas e } }
/-- A fetch from the sniper address of a byte's line in the instruction cache makes fetch reload the line from L2 (R100). -/
def evictI (s : State) (pas : List Nat) : State :=
  { s with stale := s.stale.filter fun e => !(e.stage == .inL2 && snipes (snipeI s e.addr) pas) }

/-! ### Address formation and translation (20_memory.md R80 to R92, 60_exceptions.md R853) -/

/-- How many virtual addresses the mode can name (R81, R82). -/
def vaSpace (s : State) : Nat :=
  if Config.vaBits = 96 then 2 ^ 96 else if Config.vaBits = 48 && srJQ s then 2 ^ 48 else 2 ^ 32
/-- The virtual address of an effective address: the high bits are ignored (R81), or come from GBH (R82). -/
def vaOf (s : State) (ea : Word) : Nat :=
  if Config.vaBits = 96 then (slice s.gbh 0 48 ++ slice ea 0 48 : BitVec 96).toNat
  else if Config.vaBits = 48 && srJQ s then (slice ea 0 48).toNat else (slice ea 0 32).toNat

/-- The addresses of n bytes from a base, wrapping at the end of the space. -/
def spanOf (space va : Nat) : Nat → List Nat
  | 0 => []
  | n + 1 => va % space :: spanOf space (va + 1) n

/-- How an access that cannot go on ends. -/
inductive Barred where
  | exc (e : Exc)
  | refuse (r : Refusal)
deriving DecidableEq, Repr
/-- The outcome of translating one byte's address. -/
inductive Xlat where
  | ok (pa : Nat)
  | bad (b : Barred)
deriving DecidableEq, Repr

/-- Translation is off without an MMU, and while MMCR holds its reset value (R88, 70_reset_and_hazards.md R900; log 8). -/
def mmuOff (s : State) : Bool := !Config.features.mmu || s.mmcr == 0#64
/-- What translation says of an address. -/
inductive Translation where
  | ok (pa : Nat)
  | denied
  | aclDenied
  | aclReserved
deriving DecidableEq, Repr
/-- The first ACL entry for a TLB entry's VUGID and one of the four keys of KRR, both matching exactly; one of mode 000 is
ignored (R89; log 8). -/
def aclFind (s : State) (vugid : Half) : Option Word :=
  s.acl.find? fun e => slice e 0 16 == vugid && (List.range 4).any (fun k => slice s.krr (16 * k) 16 == slice e 16 16) &&
    Config.aclMode (slice e 32 12) != 0#3
/-- The ACL check: no match fails; mode 001 grants by its User flags; the other modes are reserved (R89). -/
def aclCheck (s : State) (k : Config.Access) (pa : Nat) (vugid : Half) : Translation :=
  match aclFind s vugid with
  | none => .aclDenied
  | some e =>
    if Config.aclMode (slice e 32 12) = 1#3 then (if Config.aclGrants (slice e 32 12) s.sr k then .ok pa else .denied)
    else .aclReserved
/-- What a TLB entry that matches says, the ACL asked where it asks for it. -/
def answerOf (s : State) (k : Config.Access) : Config.TlbHit → Translation
  | .ok pa => .ok pa
  | .denied => .denied
  | .acl pa vugid => aclCheck s k pa vugid
/-- What the newest entry that matches says; none where no entry matches (R88, R99). -/
def tlbLook (s : State) (k : Config.Access) (va : Nat) : List TlbEntry → Option Config.TlbHit
  | [] => none
  | e :: t =>
    match tlbLook s k va t with
    | some x => some x
    | none => Config.tlbHit e.ext e.bits e.regs s.krr s.sr va k
/-- Translation: the address itself, or what the TLB says of it, each entry under TTB, STTB and MMCR as they were when it was
loaded (R88, R90, 70_reset_and_hazards.md R912). -/
def translate (s : State) (k : Config.Access) (va : Nat) : Option Translation :=
  if mmuOff s then some (.ok va) else (tlbLook s k va s.tlb).map (answerOf s k)
/-- Whether an access of a kind may be made in a region: nothing stores to ROM, to a ZERO or to an RTS page (R86, decision
D8; log 59). -/
def reachable (k : Config.Access) : Config.Region → Bool
  | .ram => true | .mmio => true | .unmapped => false
  | .rom => k != .write | .zeroPage => k != .write | .rtsPage => k != .write
/-- The physical address, or what R88, R89 and R86 say instead. -/
def translateByte (s : State) (k : Config.Access) (va : Nat) : Xlat :=
  match translate s k va with
  | none => .bad (.exc .tlbMiss)
  | some .denied => .bad (.exc .accessFault)
  | some .aclDenied => .bad (.exc .aclCheck)
  | some .aclReserved => .bad (.refuse .aclMode)
  | some (.ok pa) => if reachable k (regionOf s.map pa) then .ok pa else .bad (.exc .accessFault)

/-- Whether a tripwire names this access (R91). -/
def wired (s : State) (k : Config.Access) (va : Nat) : Bool :=
  s.tripwires.any fun w => w.line == lineOf va &&
    (match k with | .fetch => w.noFetch | .read => w.noRead | .write => w.noWrite)
/-- The page of a virtual address, of the one page size of the machine (R88; DESIGN CHOICE, log 8). -/
def pageOf (va : Nat) : Nat := va / 2 ^ Config.pageBytesLog2
/-- The address TEA names for a failure at byte b of an access from va: va, or the first byte of a later page (R853). -/
def teaOf (va b : Nat) : Nat := if b = va ∨ pageOf b = pageOf va then va else pageOf b * 2 ^ Config.pageBytesLog2

/-- The physical addresses of some bytes, or the first that does not translate, with the reason. -/
inductive Mapped where
  | all (pas : List Nat)
  | fails (va : Nat) (b : Barred)
/-- One more address in front. -/
def Mapped.cons (pa : Nat) : Mapped → Mapped
  | .all pas => .all (pa :: pas)
  | .fails va b => .fails va b
def mapAll (s : State) (k : Config.Access) : List Nat → Mapped
  | [] => .all []
  | va :: vas =>
    match translateByte s k va with
    | .bad b => .fails va b
    | .ok pa => (mapAll s k vas).cons pa
/-- The first byte a tripwire in force stops, with the free bits read: whether a tripwire that names the access is in force
or forgotten is a free bit (R91). -/
def tripped (k : Config.Access) : List Nat → State → Option Nat × State
  | [], s => (none, s)
  | va :: vas, s =>
    if wired s k va then (if freeBit s then (some va, drawn s) else tripped k vas (drawn s)) else tripped k vas s

/-- What translating some bytes answers: their physical addresses, or how the instruction ends instead. -/
inductive Resolved where
  | ok (pas : List Nat) (s : State)
  | stop (o : Out State)

/-- The end of an access from va that is barred at byte b. -/
def barAt (va b : Nat) (x : Barred) (s : State) : Out State :=
  match x with
  | .exc e => raiseAt e (teaOf va b) s
  | .refuse r => .refused r
/-- Translate some bytes of an access from va: the pages in rising order, in each the translation before the tripwires; the
first failure decides (R853). -/
def resolveAll (k : Config.Access) (va : Nat) (vas : List Nat) (s : State) : Resolved :=
  match mapAll s k vas with
  | .all pas =>
    match tripped k vas s with
    | (none, s') => .ok pas s'
    | (some b, s') => .stop (barAt va b (.exc .tripwire) s')
  | .fails b x =>
    match tripped k (vas.takeWhile fun a => decide (a ≠ b ∧ pageOf a ≠ pageOf b)) s with
    | (none, s') => .stop (barAt va b x s')
    | (some b', s') => .stop (barAt va b' (.exc .tripwire) s')
/-- Go on with the physical addresses of the n bytes from va in a space. -/
def resolve (k : Config.Access) (space va n : Nat) (s : State) (go : List Nat → State → Out State) : Out State :=
  match resolveAll k (va % space) (spanOf space va n) s with
  | .ok pas s' => go pas s'
  | .stop o => o

/-! ### Reads and writes (R70, R73, R76, R80, R81; log 60) -/

/-- Little-endian value of the bytes at some physical addresses (R70). -/
def bytesLE (s : State) : List Nat → Nat
  | [] => 0
  | a :: as => (readByte s a).toNat + 256 * bytesLE s as
/-- Store the low bytes of a value, lowest first (R70). -/
def storeLE : List Nat → Nat → State → State
  | [], _, s => s
  | a :: as, v, s => storeLE as (v / 256) (storeByte s a (BitVec.ofNat 8 v))

/-- An access to a device, which answers as it will and remembers it; refused where it is misaligned or partly outside the
range (R73, R76). -/
def deviceAccess (pas : List Nat) (stored : Option Nat) (s : State) (go : Nat → State → Out State) : Out State :=
  let a : Config.DeviceAccess := { addr := pas.headD 0, size := pas.length, stored := stored }
  if pas.all (isMmio s) && a.addr % Nat.gcd a.size 8 == 0 then
    go (Config.device s.device a % 256 ^ a.size) { s with device := s.device ++ [a] }
  else .refused .mmio
/-- One read of at most 8 bytes (R75). -/
def readPiece (pas : List Nat) (s : State) (go : Nat → State → Out State) : Out State :=
  if pas.any (isMmio s) then deviceAccess pas none s go else go (bytesLE s pas) (touched s pas)
/-- One write of at most 8 bytes (R75). -/
def writePiece (pas : List Nat) (v : Nat) (s : State) (go : State → Out State) : Out State :=
  if pas.any (isMmio s) then deviceAccess pas (some (v % 256 ^ pas.length)) s fun _ => go
  else go (storeLE pas v (touched s pas))
/-- The value at some physical addresses; where a device is among them, 16 bytes are two accesses of 8 (R72, R75). -/
def readAt (pas : List Nat) (s : State) (go : Nat → State → Out State) : Out State :=
  if pas.any (isMmio s) then
    readPiece (pas.take 8) s fun lo s' => readPiece (pas.drop 8) s' fun hi s'' => go (lo + 256 ^ 8 * hi) s''
  else go (bytesLE s pas) (touched s pas)
/-- The low bytes of a value written at some physical addresses, as `readAt` reads them. -/
def writeAt (pas : List Nat) (v : Nat) (s : State) (go : State → Out State) : Out State :=
  if pas.any (isMmio s) then
    writePiece (pas.take 8) v s fun s' => writePiece (pas.drop 8) (v / 256 ^ 8) s' go
  else go (storeLE pas v (touched s pas))

/-- MemRead at virtual addresses of a space: n bytes from va, as a number. DESIGN CHOICE (log 7): no source places the
system structures of R73 (d), so an address of one is an ordinary address, at any alignment. -/
def readVA (space va n : Nat) (s : State) (go : Nat → State → Out State) : Out State :=
  resolve .read space va n s fun pas s' => readAt pas s' go
/-- MemWrite: every byte is translated before any is written (44_load_store.md R425); the system structures as for
`readVA`. -/
def writeVA (space va n v : Nat) (s : State) (go : State → Out State) : Out State :=
  resolve .write space va n s fun pas s' => writeAt pas v s' go
/-- MemRead(ea, n) of an ordinary load (R80, R81). -/
def readMem (ea : Word) (n : Nat) (s : State) (go : Nat → State → Out State) : Out State :=
  readVA (vaSpace s) (vaOf s ea) n s go
/-- MemWrite(ea, n, v) of an ordinary store. -/
def writeMem (ea : Word) (n v : Nat) (s : State) (go : State → Out State) : Out State :=
  writeVA (vaSpace s) (vaOf s ea) n v s go

end Sys2Proof.Machine
end

