-- ==== Sys2Proof/Syntax.lean ====
section
/-! DEFINITION. The instructions of spec/opcode_table.json and their operand forms. The operands hold what an
encoding says after its fields are put together (30_encoding.md R112 to R118, R122): register numbers, and
immediates already extended to 64 bits. -/

namespace Sys2Proof

/-- A second source: a register, or an immediate already extended (00_scope.md R14). -/
inductive Src where
  | reg (r : Reg)
  | imm (v : Word)
deriving DecidableEq, Repr

/-- Direction of a memory move (44_load_store.md R420). -/
inductive Dir where
  | load
  | store
deriving DecidableEq, Repr

/-- Which SR bit a compare writes (41_compare_flags.md R260). -/
inductive Flag where
  | t
  | s
deriving DecidableEq, Repr

/-- The address forms of 44_load_store.md R421 to R430; registers as encoded, the special bases not yet resolved. -/
inductive Addr where
  /-- (Rm), 16-bit forms: an ordinary base whatever m is. -/
  | ind (m : Reg)
  /-- (Rm, Disp), the displacement scaled by the access size. -/
  | disp (m : Reg) (d : Word)
  /-- (Rm, Disp) with a byte displacement: Jumbo, and Disp17s*1. -/
  | dispByte (m : Reg) (d : Word)
  /-- (Rm, Ro). -/
  | index (m o : Reg)
  /-- (Rm, Ro, Disp11u). -/
  | indexDisp (m o : Reg) (d : BitVec 11)
  /-- (Rm, Ro*Sc, Disp9u). -/
  | indexSc (m o : Reg) (sc : BitVec 2) (d : BitVec 9)
  /-- (GBR, Disp*size), the explicitly scaled forms. -/
  | gbr (d : Word)
deriving DecidableEq, Repr

/-- The XMOV address forms, base a register pair (45_load_store_ext.md R520). -/
inductive XAddr where
  | disp (m : Pair) (d : Word)
  | index (m : Pair) (o : Reg)
deriving DecidableEq, Repr

/-- Where a branch goes: a displacement in 16-bit words from npc, or (PC, Rn) (46_branch.md R541). -/
inductive Target where
  | disp (d : Word)
  | reg (r : Reg)
deriving DecidableEq, Repr

/-- A floating-point second operand: a register, or an immediate already converted to Binary64 (49_gfp.md R783). -/
inductive FSrc where
  | reg (r : Reg)
  | imm (v : Word)
deriving DecidableEq, Repr

/-- The immediate of a rotated load: Imm10, or the Jumbo form's 33 bits (43_load_immediate.md R412). -/
inductive RotImm where
  | short (i : BitVec 10)
  | jumbo (i : BitVec 33)
deriving DecidableEq, Repr

/-- The size and extension of an LDOP access (45_load_store_ext.md R525). -/
inductive LdOpSize where
  | b | w | l | q | ub | uw | ul
deriving DecidableEq, Repr

/-- The displacement of LDTEX, which holds parameters (R528). -/
inductive TexDisp where
  | none
  | disp (d : BitVec 11)
  | scaled (sc : BitVec 2) (d : BitVec 9)
deriving DecidableEq, Repr

/-- The operators of JCMPZ (46_branch.md R587). -/
inductive ZCond where
  | eq | ne | le | gt | lt | ge
deriving DecidableEq, Repr

/-- One constructor per operation of spec/opcode_table.json; the LAWS.json map gives each its row's mnemonic. -/
inductive Instr where
  /- Integer arithmetic, logic, moves and bit operations (40_alu.md) -/
  /-- ADD (R200). -/
  | add (m : Reg) (s : Src) (n : Reg)
  /-- ADC (R201). -/
  | adc (m : Reg) (n : Reg)
  /-- ADDS.L (R202). -/
  | addsL (m : Reg) (s : Src) (n : Reg)
  /-- ADDU.L (R203). -/
  | adduL (m : Reg) (s : Src) (n : Reg)
  /-- SUB (R204). -/
  | sub (m : Reg) (o : Reg) (n : Reg)
  /-- SUBS.L (R205). -/
  | subsL (m : Reg) (o : Reg) (n : Reg)
  /-- SUBU.L (R206). -/
  | subuL (m : Reg) (o : Reg) (n : Reg)
  /-- SBB (R207). -/
  | sbb (m : Reg) (n : Reg)
  /-- SUB.P (R208). -/
  | subP (m : Reg) (o : Reg) (n : Reg)
  /-- SUBX.P (R209). -/
  | subxP (m : Pair) (o : Pair) (n : Pair)
  /-- AND (R210). -/
  | and (m : Reg) (s : Src) (n : Reg)
  /-- OR (R211). -/
  | or (m : Reg) (s : Src) (n : Reg)
  /-- XOR (R212). -/
  | xor (m : Reg) (s : Src) (n : Reg)
  /-- BSWAPU.L (R213). -/
  | bswapuL (m : Reg) (n : Reg)
  /-- BSWAP.Q (R214). -/
  | bswapQ (m : Reg) (n : Reg)
  /-- NOT (R215). -/
  | not (m : Reg) (n : Reg)
  /-- NEG (R216). -/
  | neg (m : Reg) (n : Reg)
  /-- NEGC (R217). -/
  | negc (n : Reg)
  /-- NOP (R218). -/
  | nop
  /-- NOP3 (R218). -/
  | nop3r (n : Reg)
  /-- NOP3 (R218). -/
  | nop3rrr (m : Reg) (o : Reg) (n : Reg)
  /-- MOV (R219). -/
  | mov (m : Reg) (n : Reg)
  /-- MOVX (R220). -/
  | movx (m : Pair) (n : Pair)
  /-- MOVD (R221). -/
  | movd (m : Reg) (n : Reg)
  /-- EXTS.B (R222). -/
  | extsB (m : Reg) (n : Reg)
  /-- EXTS.W (R223). -/
  | extsW (m : Reg) (n : Reg)
  /-- EXTS.L (R224). -/
  | extsL (m : Reg) (n : Reg)
  /-- EXTU.B (R225). -/
  | extuB (m : Reg) (n : Reg)
  /-- EXTU.W (R226). -/
  | extuW (m : Reg) (n : Reg)
  /-- EXTU.L (R227). -/
  | extuL (m : Reg) (n : Reg)
  /-- CSELT (R228). -/
  | cselt (m : Reg) (o : Reg) (n : Reg)
  /-- MIN (R229). -/
  | min (m : Reg) (o : Reg) (n : Reg)
  /-- MAX (R230). -/
  | max (m : Reg) (o : Reg) (n : Reg)
  /-- CLZ (R231). -/
  | clz (m : Reg) (n : Reg)
  /-- CLZQ (R232). -/
  | clzq (m : Reg) (n : Reg)
  /-- CTZ (R233). -/
  | ctz (m : Reg) (n : Reg)
  /-- CTZQ (R234). -/
  | ctzq (m : Reg) (n : Reg)
  /-- BTRNS (R235). -/
  | btrns (m : Reg) (n : Reg)
  /-- BTRNSQ (R236). -/
  | btrnsq (m : Reg) (n : Reg)
  /-- BCDADC (R237). -/
  | bcdadc (m : Reg) (n : Reg)
  /-- BCDSBB (R238). -/
  | bcdsbb (m : Reg) (n : Reg)
  /-- BITNN (R239). -/
  | bitnn (m : Reg) (o : Reg) (n : Reg)
  /-- PMORT.L (R240). -/
  | pmortL (m : Reg) (n : Reg)
  /-- PMORT.Q (R241). -/
  | pmortQ (m : Reg) (n : Reg)
  /-- BITSEL (R242). -/
  | bitsel (m : Reg) (o : Reg) (n : Reg)
  /-- BITSELX (R243). -/
  | bitselx (m : Pair) (o : Pair) (n : Pair)
  /-- BITMOV (R250). -/
  | bitmovImm (m : Reg) (o : Reg) (n : Reg) (c : BitVec 24)
  /-- BITMOV (R250). -/
  | bitmovReg (m : Reg) (o : Reg) (p : Reg) (n : Reg)
  /-- BITMOVX (R251). -/
  | bitmovxImm (m : Pair) (o : Reg) (n : Pair) (c : BitVec 24)
  /-- BITMOVX (R251). -/
  | bitmovxReg (m : Pair) (o : Reg) (p : Pair) (n : Pair)
  /-- BITMOVS (R252). -/
  | bitmovsImm (m : Reg) (o : Reg) (n : Reg) (c : BitVec 24)
  /-- BITMOVS (R252). -/
  | bitmovsReg (m : Reg) (o : Reg) (p : Reg) (n : Reg)
  /-- BITMOVSX (R253). -/
  | bitmovsxImm (m : Pair) (o : Reg) (n : Pair) (c : BitVec 24)
  /-- BITMOVSX (R253). -/
  | bitmovsxReg (m : Pair) (o : Reg) (p : Pair) (n : Pair)
  /-- ADC.L (R254). -/
  | adcL (m : Reg) (n : Reg)
  /-- SBB.L (R254). -/
  | sbbL (m : Reg) (n : Reg)
  /- Compare, test and status flags (41_compare_flags.md) -/
  /-- CMPEQ (R264). -/
  | cmpEQ (s : Src) (n : Reg) (f : Flag)
  /-- CMPEQS (R264). -/
  | cmpEQS (m : Reg) (n : Reg)
  /-- CMPGT (R265). -/
  | cmpGT (s : Src) (n : Reg) (f : Flag)
  /-- CMPGTS (R265). -/
  | cmpGTS (m : Reg) (n : Reg)
  /-- CMPHI (R266). -/
  | cmpHI (s : Src) (n : Reg) (f : Flag)
  /-- CMPHIS (R266). -/
  | cmpHIS (m : Reg) (n : Reg)
  /-- CMPGE (R267). -/
  | cmpGE (s : Src) (n : Reg) (f : Flag)
  /-- CMPGES (R267). -/
  | cmpGES (m : Reg) (n : Reg)
  /-- CMPHS (R268). -/
  | cmpHS (s : Src) (n : Reg) (f : Flag)
  /-- CMPHSS (R268). -/
  | cmpHSS (m : Reg) (n : Reg)
  /-- CMPQEQ (R269). -/
  | cmpQEQ (s : Src) (n : Reg) (f : Flag)
  /-- CMPQEQS (R269). -/
  | cmpQEQS (m : Reg) (n : Reg)
  /-- CMPQGT (R270). -/
  | cmpQGT (s : Src) (n : Reg) (f : Flag)
  /-- CMPQGTS (R270). -/
  | cmpQGTS (m : Reg) (n : Reg)
  /-- CMPQHI (R271). -/
  | cmpQHI (s : Src) (n : Reg) (f : Flag)
  /-- CMPQHIS (R271). -/
  | cmpQHIS (m : Reg) (n : Reg)
  /-- CMPQGE (R272). -/
  | cmpQGE (s : Src) (n : Reg) (f : Flag)
  /-- CMPQGES (R272). -/
  | cmpQGES (m : Reg) (n : Reg)
  /-- CMPQHS (R275). -/
  | cmpQHS (s : Src) (n : Reg) (f : Flag)
  /-- CMPQHSS (R275). -/
  | cmpQHSS (m : Reg) (n : Reg)
  /-- TST (R273). -/
  | tst (s : Src) (n : Reg) (f : Flag)
  /-- TSTS (R273). -/
  | tstS (m : Reg) (n : Reg)
  /-- TSTQ (R274). -/
  | tstQ (s : Src) (n : Reg) (f : Flag)
  /-- TSTQS (R274). -/
  | tstQS (m : Reg) (n : Reg)
  /-- CMPPEQ (R276). -/
  | cmpPEQ (m : Reg) (n : Reg)
  /-- CMPPEQX (R277). -/
  | cmpPEQX (m : Pair) (n : Pair)
  /-- CMPPGT (R278). -/
  | cmpPGT (m : Reg) (n : Reg)
  /-- CMPPGTX (R279). -/
  | cmpPGTX (m : Pair) (n : Pair)
  /-- CMPQEQ (R280). -/
  | cmp3EQ (m : Reg) (s : Src) (n : Reg)
  /-- CMPQGT (R281). -/
  | cmp3GT (m : Reg) (s : Src) (n : Reg)
  /-- CMPQNE (R282). -/
  | cmp3NE (m : Reg) (s : Src) (n : Reg)
  /-- CMPQLT (R283). -/
  | cmp3LT (m : Reg) (v : Word) (n : Reg)
  /-- CMPQGE (R284). -/
  | cmp3GE (m : Reg) (o : Reg) (n : Reg)
  /-- CMPQHI (R285). -/
  | cmp3HI (m : Reg) (v : Word) (n : Reg)
  /-- CMPQBI (R286). -/
  | cmp3BI (m : Reg) (v : Word) (n : Reg)
  /-- CLRT (R290). -/
  | clrT
  /-- SETT (R291). -/
  | setT
  /-- CLRS (R292). -/
  | clrS
  /-- SETS (R293). -/
  | setS
  /-- NOTT (R294). -/
  | notT
  /-- NOTS (R295). -/
  | notS
  /-- SRTPROP (R296). -/
  | srtprop (i : BitVec 5)
  /-- SRTTWID (R297, R298). -/
  | srttwid (i : BitVec 5)
  /-- MOVT (R300). -/
  | movT (n : Reg)
  /-- MOVNT (R300). -/
  | movNT (n : Reg)
  /- Shifts, rotates, multiply, multiply-accumulate and divide (42_shift_muldiv.md) -/
  /-- SHAD (R322). -/
  | shad (m : Reg) (s : Src) (n : Reg)
  /-- SHADQ (R323). -/
  | shadq (m : Reg) (s : Src) (n : Reg)
  /-- SHADX (R324). -/
  | shadx (m : Pair) (o : Reg) (n : Pair)
  /-- SHLD (R325). -/
  | shld (m : Reg) (s : Src) (n : Reg)
  /-- SHLDQ (R326). -/
  | shldq (m : Reg) (s : Src) (n : Reg)
  /-- SHLDX (R327). -/
  | shldx (m : Pair) (o : Reg) (n : Pair)
  /-- SHAR (R328). -/
  | shar (m : Reg) (o : Reg) (n : Reg)
  /-- SHARQ (R329). -/
  | sharq (m : Reg) (o : Reg) (n : Reg)
  /-- SHARX (R330). -/
  | sharx (m : Pair) (o : Reg) (n : Pair)
  /-- SHLR (R331). -/
  | shlr (m : Reg) (o : Reg) (n : Reg)
  /-- SHLRQ (R332). -/
  | shlrq (m : Reg) (o : Reg) (n : Reg)
  /-- SHLRX (R333). -/
  | shlrx (m : Pair) (o : Reg) (n : Pair)
  /-- ROTCL.L (R340). -/
  | rotclL (n : Reg)
  /-- ROTCL.Q (R341). -/
  | rotclQ (n : Reg)
  /-- ROTCR.L (R342). -/
  | rotcrL (n : Reg)
  /-- ROTCR.Q (R343). -/
  | rotcrQ (n : Reg)
  /-- ROTL (R344). -/
  | rotl (n : Reg)
  /-- ROTR (R345). -/
  | rotr (n : Reg)
  /-- ROTL.Q (R346). -/
  | rotlQ (m : Reg) (o : Reg) (n : Reg)
  /-- ROTL.L (R347). -/
  | rotlL (m : Reg) (o : Reg) (n : Reg)
  /-- ROTLX (R348). -/
  | rotlx (m : Pair) (o : Reg) (n : Pair)
  /-- ROTR.Q (R349). -/
  | rotrQ (m : Reg) (o : Reg) (n : Reg)
  /-- MULS (R355). -/
  | muls (m : Reg) (s : Src) (n : Reg)
  /-- MULU (R356). -/
  | mulu (m : Reg) (s : Src) (n : Reg)
  /-- MULS.Q (R357). -/
  | mulsQ (m : Reg) (o : Reg) (n : Reg)
  /-- MULU.Q (R358). -/
  | muluQ (m : Reg) (o : Reg) (n : Reg)
  /-- MULHS.Q (R359). -/
  | mulhsQ (m : Reg) (o : Reg) (n : Reg)
  /-- MULHU.Q (R360). -/
  | mulhuQ (m : Reg) (o : Reg) (n : Reg)
  /-- DMULS.L (R361). -/
  | dmulsL (m : Reg) (o : Reg) (n : Reg)
  /-- DMULU.L (R362). -/
  | dmuluL (m : Reg) (o : Reg) (n : Reg)
  /-- MULS.W (R363). -/
  | mulsW (m : Reg) (s : Src) (n : Reg)
  /-- MULU.W (R364). -/
  | muluW (m : Reg) (s : Src) (n : Reg)
  /-- MULU.X (R365). -/
  | muluX (m : Pair) (n : Pair)
  /-- MULHU.X (R366). -/
  | mulhuX (m : Pair) (n : Pair)
  /-- MACS.L (R370). -/
  | macsL (m : Reg) (b : Src) (a : Reg) (n : Reg)
  /-- MACU.L (R371). -/
  | macuL (m : Reg) (b : Src) (a : Reg) (n : Reg)
  /-- DMACS.L (R372). -/
  | dmacsL (m : Reg) (b : Src) (a : Reg) (n : Reg)
  /-- DMACU.L (R373). -/
  | dmacuL (m : Reg) (b : Src) (a : Reg) (n : Reg)
  /-- DIVS.Q (R376). -/
  | divsQ (m : Reg) (o : Reg) (n : Reg)
  /-- DIVU.Q (R377). -/
  | divuQ (m : Reg) (o : Reg) (n : Reg)
  /-- DIVS.L (R378). -/
  | divsL (m : Reg) (o : Reg) (n : Reg)
  /-- DIVU.L (R379). -/
  | divuL (m : Reg) (o : Reg) (n : Reg)
  /-- MODS.Q (R380). -/
  | modsQ (m : Reg) (o : Reg) (n : Reg)
  /-- MODU.Q (R381). -/
  | moduQ (m : Reg) (o : Reg) (n : Reg)
  /-- MODS.L (R382). -/
  | modsL (m : Reg) (o : Reg) (n : Reg)
  /-- MODU.L (R383). -/
  | moduL (m : Reg) (o : Reg) (n : Reg)
  /-- DIV0 (R385). -/
  | div0
  /-- DIV1 (R386). -/
  | div1
  /- Load immediate (43_load_immediate.md) -/
  /-- LDIZ (R391, R394). -/
  | ldiz (v : Word) (n : Reg)
  /-- LDIN (R392, R395). -/
  | ldin (v : Word) (n : Reg)
  /-- LDI (R393). -/
  | ldi8 (v : Word) (n : Reg)
  /-- LDI (R396). -/
  | ldi64 (v : Word) (n : Reg)
  /-- LDIMIZ (R397). -/
  | ldimiz (v : Word) (n : Reg)
  /-- LDIMIN (R398). -/
  | ldimin (v : Word) (n : Reg)
  /-- LDISH (R399). -/
  | ldish (v : Word) (n : Reg)
  /-- LDIHI (R400). -/
  | ldihi (v : Word) (n : Reg)
  /-- LDIHI.L (R400). -/
  | ldihiL (i : BitVec 32) (n : Reg)
  /-- LDIHIQ (R401). -/
  | ldihiq (v : Word) (n : Reg)
  /-- LDIHI.Q (R401). -/
  | ldihiQ (i : BitVec 32) (n : Reg)
  /-- LDISH16 (R402). -/
  | ldish16 (v : Word) (n : Reg)
  /-- LDIROZ (R412). -/
  | ldiroz (i : RotImm) (n : Reg)
  /-- LDIROZQ (R413). -/
  | ldirozq (i : RotImm) (n : Reg)
  /-- LDIRON (R414). -/
  | ldiron (i : RotImm) (n : Reg)
  /-- LDIRONQ (R415). -/
  | ldironq (i : RotImm) (n : Reg)
  /- Loads, stores and effective addresses (44_load_store.md) -/
  /-- MOV.B (R435). -/
  | movB (d : Dir) (n : Reg) (a : Addr)
  /-- MOV.W (R436). -/
  | movW (d : Dir) (n : Reg) (a : Addr)
  /-- MOV.L (R437). -/
  | movL (d : Dir) (n : Reg) (a : Addr)
  /-- MOV.Q (R438). -/
  | movQ (d : Dir) (n : Reg) (a : Addr)
  /-- MOVU.B (R439). -/
  | movuB (n : Reg) (a : Addr)
  /-- MOVU.W (R440). -/
  | movuW (n : Reg) (a : Addr)
  /-- MOVU.L (R441). -/
  | movuL (n : Reg) (a : Addr)
  /-- MOVN.L (R442). -/
  | movnL (n : Reg) (a : Addr)
  /-- LEA.B (R446). -/
  | leaB (n : Reg) (a : Addr)
  /-- LEA.W (R447). -/
  | leaW (n : Reg) (a : Addr)
  /-- LEA.L (R448). -/
  | leaL (n : Reg) (a : Addr)
  /-- LEA.Q (R449). -/
  | leaQ (n : Reg) (a : Addr)
  /- Extended loads and stores (45_load_store_ext.md) -/
  /-- MOV.X (R480). -/
  | movX (d : Dir) (n : Pair) (a : Addr)
  /-- MOV.C (R485). -/
  | movC (d : Dir) (c : CReg) (a : Addr)
  /-- MOV.TW (R510). -/
  | movTW (d : Dir) (n : Reg) (a : Addr)
  /-- MOVU.TW (R511). -/
  | movuTW (n : Reg) (a : Addr)
  /-- MOV.HTW (R512). -/
  | movHTW (d : Dir) (n : Reg) (a : Addr)
  /-- XMOV.B (R516). -/
  | xmovB (d : Dir) (n : Reg) (a : XAddr)
  /-- XMOV.W (R517). -/
  | xmovW (d : Dir) (n : Reg) (a : XAddr)
  /-- XMOV.L (R518). -/
  | xmovL (d : Dir) (n : Reg) (a : XAddr)
  /-- XMOV.Q (R519). -/
  | xmovQ (d : Dir) (n : Reg) (a : XAddr)
  /-- XMOV.X (R521). -/
  | xmovX (d : Dir) (n : Pair) (a : XAddr)
  /-- LDOP_x.x (R525). -/
  | ldop (u : BitVec 4) (d : Dir) (k : LdOpSize) (n : Reg) (a : Addr)
  /-- LDTEX (R528). -/
  | ldtex (m : Reg) (o : Reg) (d : TexDisp) (n : Reg)
  /-- RBSLD.Q (R530). -/
  | rbsldQ (i : BitVec 8) (n : Reg)
  /-- RBSLD.X (R531). -/
  | rbsldX (i : BitVec 8) (n : Pair)
  /-- RBSST.Q (R532). -/
  | rbsstQ (i : BitVec 8) (n : Reg)
  /-- RBSST.X (R533). -/
  | rbsstX (i : BitVec 8) (n : Pair)
  /- Branches, calls, returns (46_branch.md) -/
  /-- BRA (R546). -/
  | bra (t : Target)
  /-- JMP (R547). -/
  | jmp (n : Reg)
  /-- JMP (R563). -/
  | jmpAbs (a : BitVec 48)
  /-- BSR (R548). -/
  | bsr (t : Target)
  /-- JSR (R549). -/
  | jsr (n : Reg)
  /-- JSR (R565). -/
  | jsrAbs (a : BitVec 48)
  /-- RTS (R550). -/
  | rts
  /-- RTSU (R551). -/
  | rtsu
  /-- BT (R552). -/
  | bt (t : Target)
  /-- BF (R553). -/
  | bf (t : Target)
  /-- JT (R554). -/
  | jt (n : Reg)
  /-- JF (R555). -/
  | jf (n : Reg)
  /-- BRA.L (R556). -/
  | braL (n : Reg)
  /-- BSR.L (R557). -/
  | bsrL (n : Reg)
  /-- BT.L (R558). -/
  | btL (n : Reg)
  /-- BF.L (R559). -/
  | bfL (n : Reg)
  /-- JMPMD (R561). -/
  | jmpmd (i : BitVec 4) (n : Reg)
  /-- JSRMD (R562). -/
  | jsrmd (i : BitVec 4) (n : Reg)
  /-- BREQ.L (R566). -/
  | brEQL (n : Reg) (d : Word)
  /-- BREQ.Q (R566). -/
  | brEQQ (n : Reg) (d : Word)
  /-- BRNE.L (R567). -/
  | brNEL (n : Reg) (d : Word)
  /-- BRNE.Q (R567). -/
  | brNEQ (n : Reg) (d : Word)
  /-- BRLT.L (R568). -/
  | brLTL (n : Reg) (d : Word)
  /-- BRLT.Q (R568). -/
  | brLTQ (n : Reg) (d : Word)
  /-- BRGE.L (R569). -/
  | brGEL (n : Reg) (d : Word)
  /-- BRGE.Q (R569). -/
  | brGEQ (n : Reg) (d : Word)
  /-- BRLE.L (R588). -/
  | brLEL (n : Reg) (d : Word)
  /-- BRLE.Q (R588). -/
  | brLEQ (n : Reg) (d : Word)
  /-- BRGT.L (R589). -/
  | brGTL (n : Reg) (d : Word)
  /-- BRGT.Q (R589). -/
  | brGTQ (n : Reg) (d : Word)
  /-- JTSTT (R571). -/
  | jtstT (m : Reg) (n : Reg) (d : Word)
  /-- JTSTQT (R572). -/
  | jtstQT (m : Reg) (n : Reg) (d : Word)
  /-- JTSTF (R573). -/
  | jtstF (m : Reg) (n : Reg) (d : Word)
  /-- JTSTQF (R574). -/
  | jtstQF (m : Reg) (n : Reg) (d : Word)
  /-- JCMPGT (R575). -/
  | jcmpGT (m : Reg) (n : Reg) (d : Word)
  /-- JCMPQGT (R576). -/
  | jcmpQGT (m : Reg) (n : Reg) (d : Word)
  /-- JCMPLE (R577). -/
  | jcmpLE (m : Reg) (n : Reg) (d : Word)
  /-- JCMPQLE (R578). -/
  | jcmpQLE (m : Reg) (n : Reg) (d : Word)
  /-- JCMPHI (R579). -/
  | jcmpHI (m : Reg) (n : Reg) (d : Word)
  /-- JCMPQHI (R580). -/
  | jcmpQHI (m : Reg) (n : Reg) (d : Word)
  /-- JCMPLS (R581). -/
  | jcmpLS (m : Reg) (n : Reg) (d : Word)
  /-- JCMPQLS (R582). -/
  | jcmpQLS (m : Reg) (n : Reg) (d : Word)
  /-- JCMPEQ (R583). -/
  | jcmpEQ (m : Reg) (n : Reg) (d : Word)
  /-- JCMPQEQ (R584). -/
  | jcmpQEQ (m : Reg) (n : Reg) (d : Word)
  /-- JCMPNE (R585). -/
  | jcmpNE (m : Reg) (n : Reg) (d : Word)
  /-- JCMPQNE (R586). -/
  | jcmpQNE (m : Reg) (n : Reg) (d : Word)
  /-- JCMPZ_Q_xx (R587). -/
  | jcmpz (q : Bool) (c : ZCond) (n : Reg) (d : Word)
  /- System, control registers, security, type tags (47_system_ttag.md) -/
  /-- MOV (R590). -/
  | movToC (m : Reg) (c : CReg)
  /-- MOV (R591). -/
  | movFromC (c : CReg) (n : Reg)
  /-- MOV (R592). -/
  | movToS (m : Reg) (k : CReg)
  /-- MOV (R593). -/
  | movFromS (k : CReg) (n : Reg)
  /-- BREAK (R596). -/
  | breakOp
  /-- BREAK2 (R596). -/
  | break2
  /-- SLEEP (R597). -/
  | sleep
  /-- RTE (R598). -/
  | rte
  /-- CPUID (R600). -/
  | cpuid (i : BitVec 5)
  /-- INVTLB (R606). -/
  | invtlb
  /-- INVIC (R607). -/
  | invic (n : Reg)
  /-- INVDC (R608). -/
  | invdc (n : Reg)
  /-- LDTLB (R610). -/
  | ldtlb
  /-- LDXTLB (R611). -/
  | ldxtlb
  /-- SNIPEDC (R612). -/
  | snipedc (m : Reg) (n : Reg)
  /-- SNIPEIC (R613). -/
  | snipeic (m : Reg) (n : Reg)
  /-- LDACL (R614). -/
  | ldacl
  /-- LDEKRR (R620). -/
  | ldekrr
  /-- SVEKRR (R621). -/
  | svekrr
  /-- LDEKEY (R622). -/
  | ldekey
  /-- LDEENC (R623). -/
  | ldeenc
  /-- SXENTR (R630). -/
  | sxentr
  /-- SUENTR (R631). -/
  | suentr
  /-- SVENTR (R632). -/
  | sventr
  /-- TRAP (R640). -/
  | trapImm (i : BitVec 5)
  /-- TRAP (R640). -/
  | trapReg (n : Reg)
  /-- TRAP (R640). -/
  | trapPair (n : Pair)
  /-- SETTRAP (R645). -/
  | settrap (m : Reg) (n : Reg)
  /-- VSKG (R646). -/
  | vskg (m : Reg) (n : Reg)
  /-- VSKC (R647). -/
  | vskc (m : Reg) (n : Reg)
  /-- XBLESS (R648). -/
  | xbless (m : Pair) (n : Pair)
  /-- WEXMD (R650). -/
  | wexmd (i : BitVec 5)
  /-- BNDCHK.B (R653). -/
  | bndchkB (m : Reg) (n : Reg)
  /-- BNDCHK.W (R654). -/
  | bndchkW (m : Reg) (n : Reg)
  /-- BNDCHK (R655). -/
  | bndchkImm (i : Word) (n : Reg)
  /-- BNDCHK.L (R656). -/
  | bndchkL (m : Reg) (n : Reg)
  /-- BNDCHK.Q (R657). -/
  | bndchkQ (m : Reg) (n : Reg)
  /-- BNDCMP.B (R658). -/
  | bndcmpB (m : Reg) (n : Reg)
  /-- BNDCMP.W (R659). -/
  | bndcmpW (m : Reg) (n : Reg)
  /-- BNDCMP.L (R661). -/
  | bndcmpL (m : Reg) (n : Reg)
  /-- BNDCMP.Q (R662). -/
  | bndcmpQ (m : Reg) (n : Reg)
  /-- BNDCMP (R663). -/
  | bndcmpImm (i : Word) (n : Reg)
  /-- LEAT.B (R664). -/
  | leatB (n : Reg) (a : Addr)
  /-- LEAT.W (R665). -/
  | leatW (n : Reg) (a : Addr)
  /-- LEAT.L (R666). -/
  | leatL (n : Reg) (a : Addr)
  /-- LEAT.Q (R667). -/
  | leatQ (n : Reg) (a : Addr)
  /-- CMPTAEQ (R668). -/
  | cmpTAEQ (m : Reg) (n : Reg)
  /-- CMPTAHI (R669). -/
  | cmpTAHI (m : Reg) (n : Reg)
  /-- CMPTAHS (R930). -/
  | cmpTAHS (m : Reg) (n : Reg)
  /-- CMPTTEQ (R931). -/
  | cmpTTEQ (i : BitVec 6) (n : Reg)
  /-- CONVFXI (R932). -/
  | convfxi (m : Reg) (n : Reg)
  /-- CONVFLI (R933). -/
  | convfli (m : Reg) (n : Reg)
  /-- MOVST (R934). -/
  | movST (m : Reg) (n : Reg)
  /-- XMOVST (R935). -/
  | xmovST (m : Pair) (n : Pair)
  /-- MOVZT (R936). -/
  | movZT (m : Reg) (n : Reg)
  /-- XMOVZT (R937). -/
  | xmovZT (m : Pair) (n : Pair)
  /-- MOVTT (R938). -/
  | movTTReg (m : Reg) (o : Reg) (n : Reg)
  /-- MOVTT (R939). -/
  | movTTTag (m : Reg) (i : BitVec 5) (n : Reg)
  /-- MOVTT (R940). -/
  | movTTImm (m : Reg) (v : Word) (n : Reg)
  /-- XMOVTT (R941). -/
  | xmovTTReg (m : Pair) (o : Reg) (n : Pair)
  /-- XMOVTT (R942). -/
  | xmovTTImm (i : BitVec 32) (n : Pair)
  /- Packed SIMD and neural-net (48_gsv_media.md) -/
  /-- MOVHD (R674). -/
  | movHD2 (m : Reg) (n : Reg)
  /-- MOVLD (R675). -/
  | movLD2 (m : Reg) (n : Reg)
  /-- MOVHLD (R676). -/
  | movHLD2 (m : Reg) (n : Reg)
  /-- MOVLHD (R677). -/
  | movLHD2 (m : Reg) (n : Reg)
  /-- MOVHD (R678). -/
  | movHD (m : Reg) (o : Reg) (n : Reg)
  /-- MOVLD (R679). -/
  | movLD (m : Reg) (o : Reg) (n : Reg)
  /-- MOVHLD (R680). -/
  | movHLD (m : Reg) (o : Reg) (n : Reg)
  /-- MOVLHD (R681). -/
  | movLHD (m : Reg) (o : Reg) (n : Reg)
  /-- MOVHW (R682). -/
  | movHW (m : Reg) (o : Reg) (n : Reg)
  /-- MOVLW (R683). -/
  | movLW (m : Reg) (o : Reg) (n : Reg)
  /-- PADD.W (R684). -/
  | paddW (m : Reg) (o : Reg) (n : Reg)
  /-- PADD.L (R685). -/
  | paddL (m : Reg) (o : Reg) (n : Reg)
  /-- PADD.F (R686). -/
  | paddF (m : Reg) (o : Reg) (n : Reg)
  /-- PADDX.F (R687). -/
  | paddxF (m : Pair) (o : Pair) (n : Pair)
  /-- PADD.H (R688). -/
  | paddH (m : Reg) (o : Reg) (n : Reg)
  /-- PADDX.D (R689). -/
  | paddxD (m : Pair) (o : Pair) (n : Pair)
  /-- PSUB.F (R777). -/
  | psubF (m : Reg) (o : Reg) (n : Reg)
  /-- PSUBX.F (R778). -/
  | psubxF (m : Pair) (o : Pair) (n : Pair)
  /-- PSUB.H (R779). -/
  | psubH (m : Reg) (o : Reg) (n : Reg)
  /-- PSUBX.D (R952). -/
  | psubxD (m : Pair) (o : Pair) (n : Pair)
  /-- PMUL.F (R750). -/
  | pmulF (m : Reg) (o : Reg) (n : Reg)
  /-- PMULX.F (R751). -/
  | pmulxF (m : Pair) (o : Pair) (n : Pair)
  /-- PMUL.H (R752). -/
  | pmulH (m : Reg) (o : Reg) (n : Reg)
  /-- PMULX.D (R753). -/
  | pmulxD (m : Pair) (o : Pair) (n : Pair)
  /-- PSUB.W (R775). -/
  | psubW (m : Reg) (o : Reg) (n : Reg)
  /-- PSUB.L (R776). -/
  | psubL (m : Reg) (o : Reg) (n : Reg)
  /-- PADD.X (R950). -/
  | paddXrm (m : Reg) (o : Reg) (n : Reg) (i : BitVec 8)
  /-- PADDX.X (R951). -/
  | paddxXrm (m : Pair) (o : Pair) (n : Pair) (i : BitVec 8)
  /-- PMUL.X (R754). -/
  | pmulXrm (m : Reg) (o : Reg) (n : Reg) (i : BitVec 8)
  /-- PMULX.X (R755). -/
  | pmulxXrm (m : Pair) (o : Pair) (n : Pair) (i : BitVec 8)
  /-- PMULS.W (R756). -/
  | pmulsW (m : Reg) (o : Reg) (n : Reg)
  /-- PMULU.W (R757). -/
  | pmuluW (m : Reg) (o : Reg) (n : Reg)
  /-- PMULS.LW (R758). -/
  | pmulsLW (m : Reg) (o : Reg) (n : Reg)
  /-- PMULU.LW (R759). -/
  | pmuluLW (m : Reg) (o : Reg) (n : Reg)
  /-- PMULS.HW (R761). -/
  | pmulsHW (m : Reg) (o : Reg) (n : Reg)
  /-- PMULU.HW (R762). -/
  | pmuluHW (m : Reg) (o : Reg) (n : Reg)
  /-- PCMPEQ.H (R691). -/
  | pcmpEQH (m : Reg) (n : Reg)
  /-- PCMPEQ.F (R692). -/
  | pcmpEQF (m : Reg) (n : Reg)
  /-- PCMPGT.H (R693). -/
  | pcmpGTH (m : Reg) (n : Reg)
  /-- PCMPGT.F (R694). -/
  | pcmpGTF (m : Reg) (n : Reg)
  /-- PCMPEQ.W (R695). -/
  | pcmpEQW (m : Reg) (n : Reg)
  /-- PCMPEQ.L (R696). -/
  | pcmpEQL (m : Reg) (n : Reg)
  /-- PCMPHI.W (R697). -/
  | pcmpHIW (m : Reg) (n : Reg)
  /-- PCMPHI.L (R698). -/
  | pcmpHIL (m : Reg) (n : Reg)
  /-- PCMPGT.W (R699). -/
  | pcmpGTW (m : Reg) (n : Reg)
  /-- PCMPGT.L (R700). -/
  | pcmpGTL (m : Reg) (n : Reg)
  /-- PCSELT.W (R701). -/
  | pcseltW (m : Reg) (o : Reg) (n : Reg)
  /-- PCSELT.L (R702). -/
  | pcseltL (m : Reg) (o : Reg) (n : Reg)
  /-- PSELT.W (R953). -/
  | pselTW (m : Reg) (n : Reg)
  /-- PSELF.W (R954). -/
  | pselFW (m : Reg) (n : Reg)
  /-- PSELT.L (R955). -/
  | pselTL (m : Reg) (n : Reg)
  /-- PSELF.L (R956). -/
  | pselFL (m : Reg) (n : Reg)
  /-- PDOTT.H (R703). -/
  | pdottH (i : BitVec 2) (n : Reg)
  /-- PDOTT.F (R704). -/
  | pdottF (i : BitVec 2) (n : Reg)
  /-- PSTCF8H (R705). -/
  | pstcF8H (m : Reg) (n : Reg)
  /-- PLDCF8H (R706). -/
  | pldcF8H (m : Reg) (n : Reg)
  /-- PLDCH (R707). -/
  | pldcH (m : Reg) (n : Reg)
  /-- PLDCHH (R708). -/
  | pldcHH (m : Reg) (n : Reg)
  /-- PLDCEHL (R709). -/
  | pldcEHL (m : Reg) (n : Reg)
  /-- PLDCEHH (R710). -/
  | pldcEHH (m : Reg) (n : Reg)
  /-- PSTCH (R711). -/
  | pstcH (m : Reg) (n : Reg)
  /-- PLDCM8SH (R713). -/
  | pldcM8SH (m : Reg) (n : Reg)
  /-- PLDCM8UH (R714). -/
  | pldcM8UH (m : Reg) (n : Reg)
  /-- PSTCM8SH (R715). -/
  | pstcM8SH (m : Reg) (n : Reg)
  /-- PSTCM8UH (R716). -/
  | pstcM8UH (m : Reg) (n : Reg)
  /-- PRCPA.H (R763). -/
  | prcpaH (m : Reg) (n : Reg)
  /-- PRCPA.F (R764). -/
  | prcpaF (m : Reg) (n : Reg)
  /-- PRELU.H (R765). -/
  | preluH (m : Reg) (n : Reg)
  /-- PRELU.F (R766). -/
  | preluF (m : Reg) (n : Reg)
  /-- PSHAL.W (R767). -/
  | pshalW (m : Reg) (n : Reg)
  /-- PSHLL.W (R768). -/
  | pshllW (m : Reg) (n : Reg)
  /-- PSHAR.W (R769). -/
  | psharW (m : Reg) (n : Reg)
  /-- PSHLR.W (R770). -/
  | pshlrW (m : Reg) (n : Reg)
  /-- PSQRTA.H (R771). -/
  | psqrtaH (m : Reg) (n : Reg)
  /-- PSQRTUA.H (R772). -/
  | psqrtuaH (m : Reg) (n : Reg)
  /-- PSQRTA.F (R773). -/
  | psqrtaF (m : Reg) (n : Reg)
  /-- PSQRTUA.F (R774). -/
  | psqrtuaF (m : Reg) (n : Reg)
  /-- PLDCH (R712). -/
  | pldcHImm (i : BitVec 32) (n : Reg)
  /-- PLDCM8SH (R717). -/
  | pldcM8SHImm (i : BitVec 32) (n : Reg)
  /-- PLDCM8UH (R718). -/
  | pldcM8UHImm (i : BitVec 32) (n : Reg)
  /-- PSHUF.B (R957). -/
  | pshufB (m : Reg) (i : BitVec 8) (n : Reg)
  /-- PSHUF.W (R958). -/
  | pshufW (m : Reg) (i : BitVec 8) (n : Reg)
  /-- PSHUF.W (R959). -/
  | pshufW33 (m : Reg) (i : BitVec 33) (n : Reg)
  /-- PSHUF.W (R960). -/
  | pshufW17 (m : Reg) (i : BitVec 17) (n : Reg)
  /-- PSCHEQ.W (R962). -/
  | pscheqW (m : Reg) (o : Reg) (n : Reg)
  /-- PSCHEQ.B (R963). -/
  | pscheqB (m : Reg) (o : Reg) (n : Reg)
  /-- PSCHNE.W (R964). -/
  | pschneW (m : Reg) (o : Reg) (n : Reg)
  /-- PSCHNE.B (R965). -/
  | pschneB (m : Reg) (o : Reg) (n : Reg)
  /-- SWAP.B (R966). -/
  | swapB (m : Reg) (n : Reg)
  /-- SWAP.W (R967). -/
  | swapW (m : Reg) (n : Reg)
  /-- SWAP.8B (R968). -/
  | swap8B (m : Reg) (n : Reg)
  /-- SWAP.L (R969). -/
  | swapL (m : Reg) (n : Reg)
  /-- SWAP.LB (R970). -/
  | swapLB (m : Reg) (n : Reg)
  /-- SWAP.LW (R971). -/
  | swapLW (m : Reg) (n : Reg)
  /-- SWCP.LB (R972). -/
  | swcpLB (m : Reg) (n : Reg)
  /-- SWCP.LW (R973). -/
  | swcpLW (m : Reg) (n : Reg)
  /-- SWAP.MB (R974). -/
  | swapMB (m : Reg) (n : Reg)
  /-- SWAP.MW (R975). -/
  | swapMW (m : Reg) (n : Reg)
  /-- SWCP.MB (R976). -/
  | swcpMB (m : Reg) (n : Reg)
  /-- SWCP.MW (R977). -/
  | swcpMW (m : Reg) (n : Reg)
  /-- SWAP.HB (R978). -/
  | swapHB (m : Reg) (n : Reg)
  /-- SWAP.HW (R979). -/
  | swapHW (m : Reg) (n : Reg)
  /-- SWCP.HB (R980). -/
  | swcpHB (m : Reg) (n : Reg)
  /-- SWCP.HW (R981). -/
  | swcpHW (m : Reg) (n : Reg)
  /-- PADDSHX.X (R983). -/
  | paddshxX (m : Pair) (o : Pair) (i : BitVec 11) (n : Pair)
  /-- PSUBSHX.X (R984). -/
  | psubshxX (m : Pair) (o : Pair) (i : BitVec 11) (n : Pair)
  /-- PMULSHX.X (R985). -/
  | pmulshxX (m : Pair) (o : Pair) (i : BitVec 11) (n : Pair)
  /-- PADDSH.H (R986). -/
  | paddshH (m : Reg) (o : Reg) (i : BitVec 11) (n : Reg)
  /-- PSUBSH.H (R987). -/
  | psubshH (m : Reg) (o : Reg) (i : BitVec 11) (n : Reg)
  /-- PMULSH.H (R988). -/
  | pmulshH (m : Reg) (o : Reg) (i : BitVec 11) (n : Reg)
  /-- PMACSH.H (R989). -/
  | pmacshHV (m : Reg) (i : BitVec 56) (n : Reg)
  /-- PMACSH.F (R990). -/
  | pmacshFV (m : Pair) (i : BitVec 56) (n : Pair)
  /-- PADD.H (R991). -/
  | paddHV (m : Reg) (i : BitVec 56) (n : Reg)
  /-- PADD.F (R992). -/
  | paddFV (m : Pair) (i : BitVec 56) (n : Pair)
  /-- PMUL.H (R993). -/
  | pmulHV (m : Reg) (i : BitVec 56) (n : Reg)
  /-- PMUL.F (R994). -/
  | pmulFV (m : Pair) (i : BitVec 56) (n : Pair)
  /-- PADDSH.H (R995). -/
  | paddshHV (m : Reg) (i : BitVec 56) (n : Reg)
  /-- PADDSH.F (R996). -/
  | paddshFV (m : Pair) (i : BitVec 56) (n : Pair)
  /-- PMULSH.H (R997). -/
  | pmulshHV (m : Reg) (i : BitVec 56) (n : Reg)
  /-- PMULSH.F (R998). -/
  | pmulshFV (m : Pair) (i : BitVec 56) (n : Pair)
  /-- PMUL.F8H (R999). -/
  | pmulF8H (m : Reg) (o : Reg) (n : Reg)
  /-- PMULTX.L (R1000). -/
  | pmultxL (m : Pair) (i : BitVec 8) (n : Pair)
  /-- PMULT.W (R1001). -/
  | pmultW (m : Reg) (i : BitVec 8) (n : Reg)
  /- Pixel, texture-block and audio-block helpers (48_rgb_blocks.md) -/
  /-- RGB5PCK32 (R723). -/
  | rgb5pck32 (m : Reg) (n : Reg)
  /-- RGB5PCK64 (R724). -/
  | rgb5pck64 (m : Reg) (n : Reg)
  /-- RGB5UPCK32 (R725). -/
  | rgb5upck32 (m : Reg) (n : Reg)
  /-- RGB5UPCK64 (R726). -/
  | rgb5upck64 (m : Reg) (n : Reg)
  /-- RGB32PCK64 (R727). -/
  | rgb32pck64 (m : Reg) (n : Reg)
  /-- RGB32UPCK64 (R728). -/
  | rgb32upck64 (m : Reg) (n : Reg)
  /-- RGB5SHR1 (R729). -/
  | rgb5shr1 (m : Reg) (n : Reg)
  /-- RGB5MINMAX (R730). -/
  | rgb5minmax (m : Reg) (n : Reg)
  /-- RGB5PCKI8 (R732). -/
  | rgb5pcki8 (m : Reg) (n : Reg)
  /-- RGB5SH3 (R734). -/
  | rgb5sh3 (m : Reg) (n : Reg)
  /-- RGB5USH3 (R735). -/
  | rgb5ush3 (m : Reg) (n : Reg)
  /-- PLDCM30AH (R737). -/
  | pldcm30ah (m : Reg) (n : Reg)
  /-- PSTCM30AH (R738). -/
  | pstcm30ah (m : Reg) (n : Reg)
  /-- RGB5CCENC (R731). -/
  | rgb5ccenc (m : Reg) (o : Reg) (n : Reg)
  /-- BLERP (R739). -/
  | blerp (m : Reg) (o : Reg) (n : Reg)
  /-- BLERPx (R741). -/
  | blerp4 (m : Reg) (o : Reg) (p : Reg) (k : BitVec 2) (n : Reg)
  /-- BLKUTX2 (R740). -/
  | blkutx2 (m : Reg) (o : Reg) (n : Reg)
  /-- BLKUTX1 (R742). -/
  | blkutx1 (m : Reg) (o : Reg) (n : Reg)
  /-- BLKUTX3H (R743). -/
  | blkutx3h (m : Pair) (o : Reg) (n : Reg)
  /-- BLKUTX3L (R744). -/
  | blkutx3l (m : Pair) (o : Reg) (n : Reg)
  /-- BLKUVF1VL (R745). -/
  | blkuvf1VL (m : Reg) (o : Reg) (n : Reg)
  /-- BLKUVF1VH (R746). -/
  | blkuvf1VH (m : Reg) (o : Reg) (n : Reg)
  /-- BLKUVF1SL (R747). -/
  | blkuvf1SL (m : Reg) (o : Reg) (n : Reg)
  /-- BLKUVF1SH (R748). -/
  | blkuvf1SH (m : Reg) (o : Reg) (n : Reg)
  /-- BLKUAB1 (R1002). -/
  | blkuab1 (m : Reg) (o : Reg) (n : Reg)
  /-- BLKUAB2 (R1003). -/
  | blkuab2 (m : Reg) (o : Reg) (n : Reg)
  /- Floating point and packed conversions (49_gfp.md) -/
  /-- FABS (R790). -/
  | fabs (m : Reg) (n : Reg)
  /-- FNEG (R791). -/
  | fneg (m : Reg) (n : Reg)
  /-- FMIN (R800). -/
  | fmin (m : Reg) (o : Reg) (n : Reg)
  /-- FMAX (R801). -/
  | fmax (m : Reg) (o : Reg) (n : Reg)
  /-- FADD (R792, R793, R797, R798, R799, R803, R805, R806). -/
  | fadd (m : Reg) (b : FSrc) (n : Reg) (r : BitVec 8)
  /-- FADDX (R794, R804). -/
  | faddx (m : Pair) (o : Pair) (n : Pair) (r : BitVec 8)
  /-- FADDG (R795). -/
  | faddg (m : Reg) (o : Reg) (n : Reg)
  /-- FADDA (R796, R802). -/
  | fadda (m : Reg) (b : FSrc) (n : Reg)
  /-- FSUB (R807, R808, R812, R813). -/
  | fsub (m : Reg) (b : FSrc) (n : Reg) (r : BitVec 8)
  /-- FSUBX (R809, R814). -/
  | fsubx (m : Pair) (o : Pair) (n : Pair) (r : BitVec 8)
  /-- FSUBG (R810). -/
  | fsubg (m : Reg) (o : Reg) (n : Reg)
  /-- FSUBA (R811). -/
  | fsuba (m : Reg) (o : Reg) (n : Reg)
  /-- FMUL (R815, R816, R820, R821, R822, R823, R825, R827, R828). -/
  | fmul (m : Reg) (b : FSrc) (n : Reg) (r : BitVec 8)
  /-- FMULX (R817, R826). -/
  | fmulx (m : Pair) (o : Pair) (n : Pair) (r : BitVec 8)
  /-- FMULG (R818). -/
  | fmulg (m : Reg) (o : Reg) (n : Reg)
  /-- FMULA (R819, R824). -/
  | fmula (m : Reg) (b : FSrc) (n : Reg)
  /-- FCMPEQ (R829, R830, R832, R835, R836). -/
  | fcmpEQ (b : FSrc) (n : Reg)
  /-- FCMPXEQ (R831). -/
  | fcmpXEQ (m : Pair) (n : Pair)
  /-- FCMPGE (R837, R838, R839). -/
  | fcmpGE (v : Word) (n : Reg)
  /-- FCMPGT (R840, R841, R843, R844, R845). -/
  | fcmpGT (b : FSrc) (n : Reg)
  /-- FCMPXGT (R842). -/
  | fcmpXGT (m : Pair) (n : Pair)
  /-- FDIV (R846). -/
  | fdiv (m : Reg) (o : Reg) (n : Reg)
  /-- FDIVX (R847). -/
  | fdivx (m : Pair) (o : Pair) (n : Pair)
  /-- FDIVA (R848). -/
  | fdiva (m : Reg) (o : Reg) (n : Reg)
  /-- FDIVXA (R849). -/
  | fdivxa (m : Pair) (o : Pair) (n : Pair)
  /-- FSQRT (R1042). -/
  | fsqrt (m : Reg) (n : Reg)
  /-- FSQRTX (R1043). -/
  | fsqrtx (m : Pair) (n : Pair)
  /-- FSQRTA (R1044). -/
  | fsqrta (m : Reg) (n : Reg)
  /-- FSQRTXA (R1045). -/
  | fsqrtxa (m : Pair) (n : Pair)
  /-- FLDCF (R1010, R1011). -/
  | fldcf (m : Reg) (n : Reg)
  /-- FLDCHF (R1012). -/
  | fldchf (m : Reg) (n : Reg)
  /-- FLDCI (R1013). -/
  | fldci (m : Reg) (n : Reg)
  /-- FLDCH (R1014). -/
  | fldch (m : Reg) (n : Reg)
  /-- FLDCIU (R1015). -/
  | fldciu (m : Reg) (n : Reg)
  /-- FLDCIS.L (R1016). -/
  | fldcisL (m : Reg) (n : Reg)
  /-- FLDCIU.L (R1017). -/
  | fldciuL (m : Reg) (n : Reg)
  /-- FLDCH (R1020, R1021). -/
  | fldchImm (i : BitVec 40) (n : Reg)
  /-- FLDCF (R1022, R1023). -/
  | fldcfImm (i : BitVec 32) (n : Reg)
  /-- FSTCF (R1046, R1047). -/
  | fstcf (m : Reg) (n : Reg)
  /-- FSTCHF (R1048). -/
  | fstchf (m : Reg) (n : Reg)
  /-- FSTCI (R1049). -/
  | fstci (m : Reg) (n : Reg)
  /-- FSTCH (R1050). -/
  | fstch (m : Reg) (n : Reg)
  /-- FMAC (R1024, R1026). -/
  | fmac (m : Reg) (o : Reg) (p : Reg) (n : Reg)
  /-- FMACX (R1025, R1027). -/
  | fmacx (m : Pair) (o : Pair) (p : Pair) (n : Pair)
  /-- FMAS (R1028). -/
  | fmas (m : Reg) (o : Reg) (p : Reg) (n : Reg)
  /-- FMASX (R1029). -/
  | fmasx (m : Pair) (o : Pair) (p : Pair) (n : Pair)
  /-- FMRS (R1030). -/
  | fmrs (m : Reg) (o : Reg) (p : Reg) (n : Reg)
  /-- FMRSX (R1031). -/
  | fmrsx (m : Pair) (o : Pair) (p : Pair) (n : Pair)
  /-- FMRA (R1032). -/
  | fmra (m : Reg) (o : Reg) (p : Reg) (n : Reg)
  /-- FMRAX (R1033). -/
  | fmrax (m : Pair) (o : Pair) (p : Pair) (n : Pair)
  /-- PMAC.H (R1034). -/
  | pmacH (m : Reg) (o : Reg) (p : Reg) (n : Reg)
  /-- PMAC.F (R1035). -/
  | pmacF (m : Pair) (o : Pair) (p : Pair) (n : Pair)
  /-- PMAS.H (R1036). -/
  | pmasH (m : Reg) (o : Reg) (p : Reg) (n : Reg)
  /-- PMAS.F (R1037). -/
  | pmasF (m : Pair) (o : Pair) (p : Pair) (n : Pair)
  /-- PMRS.H (R1038). -/
  | pmrsH (m : Reg) (o : Reg) (p : Reg) (n : Reg)
  /-- PMRS.F (R1039). -/
  | pmrsF (m : Pair) (o : Pair) (p : Pair) (n : Pair)
  /-- PMRA.H (R1040). -/
  | pmraH (m : Reg) (o : Reg) (p : Reg) (n : Reg)
  /-- PMRA.F (R1041). -/
  | pmraF (m : Pair) (o : Pair) (p : Pair) (n : Pair)
  /-- PCONV (R833). -/
  | pconv (m : Reg) (i : BitVec 8) (n : Reg)
  /-- PCONVX (R834). -/
  | pconvx (m : Pair) (i : BitVec 8) (n : Pair)
  /-- PCVTSB2HL (R1052). -/
  | pcvtSB2HL (m : Reg) (n : Reg)
  /-- PCVTUB2HL (R1053). -/
  | pcvtUB2HL (m : Reg) (n : Reg)
  /-- PCVTSB2HH (R1054). -/
  | pcvtSB2HH (m : Reg) (n : Reg)
  /-- PCVTUB2HH (R1055). -/
  | pcvtUB2HH (m : Reg) (n : Reg)
  /-- PCVTSW2FL (R1056). -/
  | pcvtSW2FL (m : Reg) (n : Reg)
  /-- PCVTUW2FL (R1057). -/
  | pcvtUW2FL (m : Reg) (n : Reg)
  /-- PCVTSW2FH (R1058). -/
  | pcvtSW2FH (m : Reg) (n : Reg)
  /-- PCVTUW2FH (R1059). -/
  | pcvtUW2FH (m : Reg) (n : Reg)
  /-- PCVTH2SB (R1060). -/
  | pcvtH2SB (m : Reg) (n : Reg)
  /-- PCVTH2UB (R1061). -/
  | pcvtH2UB (m : Reg) (n : Reg)
  /-- PCVTSW2H (R1062). -/
  | pcvtSW2H (m : Reg) (n : Reg)
  /-- PCVTUW2H (R1063). -/
  | pcvtUW2H (m : Reg) (n : Reg)
  /-- PCVTF2SW (R1064). -/
  | pcvtF2SW (m : Reg) (n : Reg)
  /-- PCVTF2UW (R1065). -/
  | pcvtF2UW (m : Reg) (n : Reg)
  /-- PCVTH2SW (R1066). -/
  | pcvtH2SW (m : Reg) (n : Reg)
  /-- PCVTH2UW (R1067). -/
  | pcvtH2UW (m : Reg) (n : Reg)
  /-- PCVTH2AL (R1068). -/
  | pcvtH2AL (m : Reg) (n : Reg)
  /-- PCVTAL2H (R1069). -/
  | pcvtAL2H (m : Reg) (n : Reg)
deriving DecidableEq, Repr

end Sys2Proof
end

