-- ==== Sys2Proof/Machine/Operands.lean ====
section
/-! DEFINITION. The operand forms: second sources, effective addresses, branch targets, pair checks. -/

namespace Sys2Proof.Machine

open Sys2Proof

/-- The value of a second source. -/
def srcVal (s : State) : Src → Word
  | .reg r => getReg s r
  | .imm v => v

/-- Go on if every pair named may be used as a pair operand (45_load_store_ext.md R481). -/
def withPairs (ps : List Pair) (go : Out State) : Out State :=
  if ps.all pairAllowed then go else .refused .forbiddenPair

/-! ### Effective addresses (44_load_store.md R421, R422, R426, R430) -/

/-- npc as a 64-bit address. -/
def npcWord (s : State) : Word := s.npc.setWidth 64
/-- The address part of GBR (10_state.md R33). -/
def gbrAddr (s : State) : Word := zext 48 s.gbr
/-- The base of a displacement form, and whether it forces the byte scale (R421, R422). -/
def dispBase (s : State) (m : Reg) : Word × Bool :=
  if m = 0#6 then (npcWord s, true) else if m = 1#6 then (gbrAddr s, true) else (getReg s m, false)
/-- The base, the index and whether the byte scale is forced, of an indexed form (R421). The form (R0, R1) names DLR as a
base, without an index; that base is none of PC, GBR and TBR, so a displacement beside it is scaled (R422, R426). -/
def indexParts (s : State) (m o : Reg) : Word × Word × Bool :=
  if m = 0#6 then
    if o = 1#6 then (getReg s dlr, 0#64, false) else (npcWord s, getReg s o, true)
  else if m = 1#6 then
    if o = 1#6 then (s.tbr, getReg s dlr, true) else (gbrAddr s, getReg s o, true)
  else if o = 1#6 then (getReg s m, getReg s dlr, true)
  else (getReg s m, getReg s o, false)

/-- `ea` for an access whose scale is S (R422, R426). DESIGN CHOICE (log 40): the explicit scale Sc of R426 does not apply to
the index R1, which names DLR, and applies to the others whatever the base is. -/
def effAddr (s : State) (scale : Nat) : Addr → Word
  | .ind m => getReg s m
  | .disp m d =>
    let (b, byte) := dispBase s m
    b + (if byte then d else BitVec.ofNat 64 scale * d)
  | .dispByte m d => (dispBase s m).1 + d
  | .index m o =>
    let (b, i, byte) := indexParts s m o
    b + (if byte then i else BitVec.ofNat 64 scale * i)
  | .indexDisp m o d =>
    let (b, i, byte) := indexParts s m o
    if byte then b + i + d.setWidth 64
    else b + BitVec.ofNat 64 scale * i + BitVec.ofNat 64 scale * d.setWidth 64
  | .indexSc m o sc d =>
    let (b, i, byte) := indexParts s m o
    if byte then b + (if o = 1#6 then i else i <<< sc.toNat) + d.setWidth 64
    else b + (i <<< sc.toNat) + BitVec.ofNat 64 scale * d.setWidth 64
  | .gbr d => gbrAddr s + BitVec.ofNat 64 scale * d

/-- The 96-bit XMOV address: the displacement is sign-extended, the index register is the 64-bit value it holds
(45_load_store_ext.md R520, 00_scope.md R15). DESIGN CHOICE (log 31): every displacement is scaled, a Jumbo Disp33s too, as
R520 writes S * offset, although an ordinary Disp33s counts bytes (44_load_store.md R422, R430). -/
def xmovAddr (s : State) (scale : Nat) (a : XAddr) : Nat :=
  let base (m : Pair) : BitVec 96 := slice (getReg s (pairHi m)) 0 48 ++ slice (getReg s (pairLo m)) 0 48
  match a with
  | .disp m d => (base m + BitVec.ofNat 96 scale * d.signExtend 96).toNat
  | .index m o => (base m + BitVec.ofNat 96 scale * (getReg s o).setWidth 96).toNat
/-- The base pair of an XMOV address. -/
def xmovBase : XAddr → Pair
  | .disp m _ => m
  | .index m _ => m

/-! ### Branch targets (46_branch.md R541) -/

/-- The target of a PC-relative branch: npc + 2 * displacement, or npc + 2 * Rn. -/
def branchTarget (s : State) : Target → VAddr
  | .disp d => s.npc + 2#48 * d.setWidth 48
  | .reg r => s.npc + 2#48 * (getReg s r).setWidth 48

end Sys2Proof.Machine
end

