-- ==== Sys2Proof/Machine/Alu.lean ====
section
/-! DEFINITION. Integer arithmetic, logic, moves and bit operations (40_alu.md). -/

namespace Sys2Proof.Machine

open Sys2Proof

/-- Rn <- f(Rm, source). -/
def alu2 (f : Word → Word → Word) (m : Reg) (src : Src) (n : Reg) (s : State) : Out State :=
  retire (setReg s n (f (getReg s m) (srcVal s src)))
/-- Rn <- f(Rm). -/
def alu1 (f : Word → Word) (m n : Reg) (s : State) : Out State := retire (setReg s n (f (getReg s m)))
/-- Xn <- f(Xm, Xo). -/
def aluX (f : Quad → Quad → Quad) (m o n : Pair) (s : State) : Out State :=
  withPairs [m, o, n] (retire (setPair s n (f (getPair s m) (getPair s o))))
/-- Rn and T from f(Rn, Rm, T). -/
def aluT (f : Word → Word → Bool → Word × Bool) (m n : Reg) (s : State) : Out State :=
  let r := f (getReg s n) (getReg s m) (srT s)
  retire (setT (setReg s n r.1) r.2)

/-- R200. -/
def execAdd (m : Reg) (src : Src) (n : Reg) (s : State) : Out State := alu2 (· + ·) m src n s
/-- R201. -/
def execAdc (m n : Reg) (s : State) : Out State := aluT addCarry m n s
/-- R202. -/
def execAddsL (m : Reg) (src : Src) (n : Reg) (s : State) : Out State := alu2 (fun a b => sext 32 (a + b)) m src n s
/-- R203. -/
def execAdduL (m : Reg) (src : Src) (n : Reg) (s : State) : Out State := alu2 (fun a b => zext 32 (a + b)) m src n s
/-- R204. -/
def execSub (m o n : Reg) (s : State) : Out State := alu2 (· - ·) m (.reg o) n s
/-- R205. -/
def execSubsL (m o n : Reg) (s : State) : Out State := alu2 (fun a b => sext 32 (a - b)) m (.reg o) n s
/-- R206. -/
def execSubuL (m o n : Reg) (s : State) : Out State := alu2 (fun a b => zext 32 (a - b)) m (.reg o) n s
/-- R207. -/
def execSbb (m n : Reg) (s : State) : Out State := aluT subBorrow m n s
/-- R208. -/
def execSubP (m o n : Reg) (s : State) : Out State := alu2 (fun a b => sext 48 (a - b)) m (.reg o) n s
/-- R209: the flat 128-bit difference of the two 96-bit addresses. -/
def execSubxP (m o n : Pair) (s : State) : Out State :=
  aluX (fun a b => (ptr96 a).setWidth 128 - (ptr96 b).setWidth 128) m o n s
/-- R210. -/
def execAnd (m : Reg) (src : Src) (n : Reg) (s : State) : Out State := alu2 (· &&& ·) m src n s
/-- R211. -/
def execOr (m : Reg) (src : Src) (n : Reg) (s : State) : Out State := alu2 (· ||| ·) m src n s
/-- R212. -/
def execXor (m : Reg) (src : Src) (n : Reg) (s : State) : Out State := alu2 (· ^^^ ·) m src n s
/-- R213. -/
def execBswapuL (m n : Reg) (s : State) : Out State := alu1 (reverseBytes 4) m n s
/-- R214. -/
def execBswapQ (m n : Reg) (s : State) : Out State := alu1 (reverseBytes 8) m n s
/-- R215. -/
def execNot (m n : Reg) (s : State) : Out State := alu1 (~~~ ·) m n s
/-- R216. -/
def execNeg (m n : Reg) (s : State) : Out State := alu1 (fun v => ~~~v + 1#64) m n s
/-- R217: the borrow of 0 - Rn - T. -/
def execNegc (n : Reg) (s : State) : Out State :=
  let r := subBorrow 0#64 (getReg s n) (srT s)
  retire (setT (setReg s n r.1) r.2)
/-- R218. -/
def execNop (s : State) : Out State := retire s
/-- R218, NOP3 Rn: no effect. -/
def execNop3r (_n : Reg) (s : State) : Out State := retire s
/-- R218, NOP3 Rm, Ro, Rn: no effect. -/
def execNop3rrr (_m _o _n : Reg) (s : State) : Out State := retire s
/-- R219. -/
def execMov (m n : Reg) (s : State) : Out State := alu1 id m n s
/-- R220. -/
def execMovx (m n : Pair) (s : State) : Out State := withPairs [m, n] (retire (setPair s n (getPair s m)))
/-- R221: an alias of EXTU.L. -/
def execMovd (m n : Reg) (s : State) : Out State := alu1 (zext 32) m n s
/-- R222. -/
def execExtsB (m n : Reg) (s : State) : Out State := alu1 (sext 8) m n s
/-- R223. -/
def execExtsW (m n : Reg) (s : State) : Out State := alu1 (sext 16) m n s
/-- R224. -/
def execExtsL (m n : Reg) (s : State) : Out State := alu1 (sext 32) m n s
/-- R225. -/
def execExtuB (m n : Reg) (s : State) : Out State := alu1 (zext 8) m n s
/-- R226. -/
def execExtuW (m n : Reg) (s : State) : Out State := alu1 (zext 16) m n s
/-- R227. -/
def execExtuL (m n : Reg) (s : State) : Out State := alu1 (zext 32) m n s
/-- R228. -/
def execCselt (m o n : Reg) (s : State) : Out State :=
  retire (setReg s n (if srT s then getReg s m else getReg s o))
/-- R229. -/
def execMin (m o n : Reg) (s : State) : Out State := alu2 (fun a b => if a.toInt ≤ b.toInt then a else b) m (.reg o) n s
/-- R230. -/
def execMax (m o n : Reg) (s : State) : Out State := alu2 (fun a b => if b.toInt ≤ a.toInt then a else b) m (.reg o) n s

/-- Leading zeros of the low w bits (R231, R232). -/
def leadingZeros (w : Nat) (v : Word) : Word :=
  match highestBit v w with
  | none => BitVec.ofNat 64 w
  | some k => BitVec.ofNat 64 (w - 1 - k)
/-- Trailing zeros of the low w bits (R233, R234). -/
def trailingZeros (w : Nat) (v : Word) : Word :=
  match lowestBit v 0 w with
  | none => BitVec.ofNat 64 w
  | some k => BitVec.ofNat 64 k
/-- R231. -/
def execClz (m n : Reg) (s : State) : Out State := alu1 (leadingZeros 32) m n s
/-- R232. -/
def execClzq (m n : Reg) (s : State) : Out State := alu1 (leadingZeros 64) m n s
/-- R233. -/
def execCtz (m n : Reg) (s : State) : Out State := alu1 (trailingZeros 32) m n s
/-- R234. -/
def execCtzq (m n : Reg) (s : State) : Out State := alu1 (trailingZeros 64) m n s
/-- R235. -/
def execBtrns (m n : Reg) (s : State) : Out State := alu1 (fun v => (reverseBits (low32 v)).setWidth 64) m n s
/-- R236. -/
def execBtrnsq (m n : Reg) (s : State) : Out State := alu1 (fun v => reverseBits v) m n s

/-- R237, R238 with digits 0 to 9; another digit leaves the result and T free (U-40-1, log 3). -/
def bcdOp (f : Word → Word → Bool → Word × Bool) (m n : Reg) (s : State) : Out State :=
  if bcdValid (getReg s m) && bcdValid (getReg s n) then aluT f m n s
  else retire (setT (setReg (drawn2 s) n (freeWord s)) (freeBit (drawn s)))
/-- R237. -/
def execBcdadc (m n : Reg) (s : State) : Out State := bcdOp bcdAdd m n s
/-- R238. -/
def execBcdsbb (m n : Reg) (s : State) : Out State := bcdOp bcdSub m n s

/-! ### BITNN (R239) -/

/-- The weight of a 3-bit code. -/
def nnWeight (c : BitVec 3) : Int :=
  match c with
  | 1#3 => 1 | 2#3 => 3 | 3#3 => 7 | 5#3 => -1 | 6#3 => -3 | 7#3 => -7 | _ => 0
/-- Input i: one bit, or two bits. -/
def nnInput (two : Bool) (v : Word) (i : Nat) : Int :=
  if two then
    match (v.extractLsb' (2 * i) 2 : BitVec 2) with
    | 1#2 => 1 | 3#2 => -1 | _ => 0
  else if bitAt v i then 1 else -1
/-- The sum of the 16 weighted inputs and the bias. -/
def nnSum (two : Bool) (v c : Word) : Int :=
  (List.range 16).foldl (fun acc i => acc + nnInput two v i * nnWeight (slice c (3 * i) 3)) (slice c 48 8).toInt
/-- The result register: the old one shifted, the new output entering (one or two bits). -/
def nnShift (twoOut : Bool) (r : Word) (res : Int) : Word :=
  if twoOut then (r <<< 2) ||| (if res < 0 then 3#64 else 1#64) else (r <<< 1) ||| (if 0 ≤ res then 1#64 else 0#64)
/-- R239: mode bit 0 selects 2-bit inputs, bit 1 a 2-bit output; out of the 8-bit range the sum is a free
8-bit value. -/
def execBitnn (m o n : Reg) (s : State) : Out State :=
  let c := getReg s o
  let sum := nnSum (bitAt c 56) (getReg s m) c
  if slice c 59 5 != 0#5 then .refused .bitnnReserved
  else if bitAt c 58 || (decide (-128 ≤ sum) && decide (sum ≤ 127)) then
    retire (setReg s n (nnShift (bitAt c 57) (getReg s n) sum))
  else retire (setReg (drawn s) n (nnShift (bitAt c 57) (getReg s n) (slice (freeWord s) 0 8).toInt))

/-! ### Morton order (R240, R241) -/

/-- M[2k+1] = u[k], M[2k] = v[k]. -/
def morton (u v : BitVec 32) : Word :=
  (List.range 32).foldl
    (fun acc i => (acc <<< 2) ||| boolWord (bitAt v (31 - i)) ||| (boolWord (bitAt u (31 - i)) <<< 1)) 0#64
/-- M of a register; which half is u is Config's. -/
def mortonOf (v : Word) : Word :=
  if Config.pmortUIsHigh then morton (lane32 v 1) (lane32 v 0) else morton (lane32 v 0) (lane32 v 1)
/-- R240. -/
def execPmortL (m n : Reg) (s : State) : Out State := alu1 (fun v => mortonOf v >>> 32) m n s
/-- R241. -/
def execPmortQ (m n : Reg) (s : State) : Out State := alu1 mortonOf m n s

/-! ### Bit selection and bit-field moves (R242 to R253) -/

/-- (a & mask) | (b & ~mask). -/
def bitSelect {w : Nat} (a mask b : BitVec w) : BitVec w := (a &&& mask) ||| (b &&& ~~~mask)
/-- R242. -/
def execBitsel (m o n : Reg) (s : State) : Out State :=
  retire (setReg s n (bitSelect (getReg s m) (getReg s o) (getReg s n)))
/-- R243. -/
def execBitselx (m o n : Pair) (s : State) : Out State :=
  withPairs [m, o, n] (retire (setPair s n (bitSelect (getPair s m) (getPair s o) (getPair s n))))

/-- Shift left by a signed count, right (logical) when negative. -/
def shiftSigned {w : Nat} (v : BitVec w) (k : Int) : BitVec w := if 0 ≤ k then v <<< k.toNat else v >>> (-k).toNat
/-- The mask of R250: ones from L up and below H, joined by AND when H > L and by OR otherwise. -/
def fieldMask (w l h : Nat) : BitVec w :=
  let ml : BitVec w := BitVec.allOnes w <<< l
  let mh : BitVec w := ~~~(BitVec.allOnes w <<< h)
  if l < h then ml &&& mh else ml ||| mh
/-- Whether a control word is in the stated range (R250, R251). -/
def fieldCtlOk (w : Nat) (c : BitVec 24) : Bool :=
  decide (-(w : Int) < (slice c 0 8).toInt) && decide ((slice c 0 8).toInt < (w : Int)) &&
    decide ((slice c 8 8).toNat ≤ w) && decide ((slice c 16 8).toNat ≤ w)
/-- R250: the shifted source inside the mask, the background outside. -/
def fieldMove {w : Nat} (v bg : BitVec w) (c : BitVec 24) : BitVec w :=
  bitSelect (shiftSigned v (slice c 0 8).toInt) (fieldMask w (slice c 8 8).toNat (slice c 16 8).toNat) bg
/-- R252: outside the mask the background, inverted when bit H - 1 of the shifted source is set. -/
def fieldMoveS {w : Nat} (v bg : BitVec w) (c : BitVec 24) : BitVec w :=
  let h := (slice c 16 8).toNat
  let x := shiftSigned v (slice c 0 8).toInt
  bitSelect x (fieldMask w (slice c 8 8).toNat h) (if bitAt x (h - 1) then ~~~bg else bg)
/-- Whether a control word has H > L (R252). -/
def fieldHighAbove (c : BitVec 24) : Bool := decide ((slice c 8 8).toNat < (slice c 16 8).toNat)

/-- R250 with the control word c and the background bg. -/
def bitmov64 (m : Reg) (bg : Word) (c : BitVec 24) (n : Reg) (s : State) : Out State :=
  if fieldCtlOk 64 c then retire (setReg s n (fieldMove (getReg s m) bg c)) else .refused .bitmovControl
def bitmovs64 (m : Reg) (bg : Word) (c : BitVec 24) (n : Reg) (s : State) : Out State :=
  if fieldCtlOk 64 c && fieldHighAbove c then retire (setReg s n (fieldMoveS (getReg s m) bg c))
  else .refused .bitmovControl
def bitmov128 (ps : List Pair) (m : Pair) (bg : Quad) (c : BitVec 24) (n : Pair) (s : State) : Out State :=
  withPairs ps (if fieldCtlOk 128 c then retire (setPair s n (fieldMove (getPair s m) bg c)) else .refused .bitmovControl)
def bitmovs128 (ps : List Pair) (m : Pair) (bg : Quad) (c : BitVec 24) (n : Pair) (s : State) : Out State :=
  withPairs ps (if fieldCtlOk 128 c && fieldHighAbove c then retire (setPair s n (fieldMoveS (getPair s m) bg c))
    else .refused .bitmovControl)
/-- The control word a register holds (R250). -/
def regCtl (s : State) (o : Reg) : BitVec 24 := slice (getReg s o) 0 24

/-- R250. -/
def execBitmovImm (m o n : Reg) (c : BitVec 24) (s : State) : Out State := bitmov64 m (getReg s o) c n s
def execBitmovReg (m o p n : Reg) (s : State) : Out State := bitmov64 m (getReg s p) (regCtl s o) n s
/-- R251: how the 64-bit background fills 128 bits is Config's (log 42). -/
def execBitmovxImm (m : Pair) (o : Reg) (n : Pair) (c : BitVec 24) (s : State) : Out State :=
  bitmov128 [m, n] m (Config.bitmovxBackground (getReg s o)) c n s
def execBitmovxReg (m : Pair) (o : Reg) (p n : Pair) (s : State) : Out State :=
  bitmov128 [m, p, n] m (getPair s p) (regCtl s o) n s
/-- R252. -/
def execBitmovsImm (m o n : Reg) (c : BitVec 24) (s : State) : Out State := bitmovs64 m (getReg s o) c n s
def execBitmovsReg (m o p n : Reg) (s : State) : Out State := bitmovs64 m (getReg s p) (regCtl s o) n s
/-- R253. -/
def execBitmovsxImm (m : Pair) (o : Reg) (n : Pair) (c : BitVec 24) (s : State) : Out State :=
  bitmovs128 [m, n] m (Config.bitmovxBackground (getReg s o)) c n s
def execBitmovsxReg (m : Pair) (o : Reg) (p n : Pair) (s : State) : Out State :=
  bitmovs128 [m, p, n] m (getPair s p) (regCtl s o) n s

/-- R254. -/
def execAdcL (m n : Reg) (s : State) : Out State := aluT addCarry32 m n s
/-- R254. -/
def execSbbL (m n : Reg) (s : State) : Out State := aluT subBorrow32 m n s

end Sys2Proof.Machine
end

