-- ==== Sys2Proof/Machine/Float.lean ====
section
/-! DEFINITION. The floating-point relation of 49_gfp.md R781 and the exact conversions of R783, R786, R787, on bit
patterns as numbers. The result of an operation is the oracle's where R781 (c) allows it, and the nearest value
otherwise, so every statement holds for every allowed implementation (log 22). -/

namespace Sys2Proof.Machine

open Sys2Proof Sys2Proof.Config

/-! ### Formats (49_gfp.md introduction, R785) -/

/-- Exponent bits, fraction bits, and how many of these are significant. -/
structure Fmt where
  exp  : Nat
  frac : Nat
  keep : Nat
deriving DecidableEq, Repr

def fmtOf : FpFmt → Fmt
  | .half => { exp := 5, frac := 10, keep := 10 }
  | .single => { exp := 8, frac := 23, keep := 23 }
  | .double => { exp := 11, frac := 52, keep := 52 }
  | .long => { exp := 15, frac := 112, keep := ldMantBits }

def fpWidth (f : Fmt) : Nat := 1 + f.exp + f.frac
def fpBias (f : Fmt) : Nat := 2 ^ (f.exp - 1) - 1
def fpSign (f : Fmt) (v : Nat) : Bool := v / 2 ^ (f.exp + f.frac) % 2 == 1
def fpExp (f : Fmt) (v : Nat) : Nat := v / 2 ^ f.frac % 2 ^ f.exp
/-- The fraction with its insignificant bits dropped. -/
def fpFrac (f : Fmt) (v : Nat) : Nat := v % 2 ^ f.frac / 2 ^ (f.frac - f.keep) * 2 ^ (f.frac - f.keep)
def fpPack (f : Fmt) (neg : Bool) (e m : Nat) : Nat := neg.toNat * 2 ^ (f.exp + f.frac) + e * 2 ^ f.frac + m
def fpSpecial (f : Fmt) (v : Nat) : Bool := fpExp f v == 2 ^ f.exp - 1
def fpDenormal (f : Fmt) (v : Nat) : Bool := fpExp f v == 0 && fpFrac f v != 0
def fpZero (f : Fmt) (v : Nat) : Bool := fpExp f v == 0 && fpFrac f v == 0
def fpNormal (f : Fmt) (v : Nat) : Bool := !fpSpecial f v && fpExp f v != 0
def fpInf (f : Fmt) (neg : Bool) : Nat := fpPack f neg (2 ^ f.exp - 1) 0
/-- The value with the bits no LongDouble operation reads or writes cleared (R785). -/
def fpCut (f : Fmt) (v : Nat) : Nat := fpPack f (fpSign f v) (fpExp f v) (fpFrac f v)

/-! ### Exact values -/

/-- The value of a normal number or a zero: (-1)^neg * m * 2^e. -/
structure Dyadic where
  neg : Bool
  m   : Nat
  e   : Int
deriving DecidableEq, Repr

/-- n * 2^k for k of either sign, rounded down. -/
def scale2 (n : Nat) (k : Int) : Nat := if 0 ≤ k then n * 2 ^ k.toNat else n / 2 ^ (-k).toNat
def dyadicOf (f : Fmt) (v : Nat) : Dyadic :=
  { neg := fpSign f v
    m := if fpExp f v = 0 then 0 else 2 ^ f.frac + fpFrac f v
    e := (fpExp f v : Int) - fpBias f - f.frac }
/-- The value the bits of a finite number stand for, a denormal's too. -/
def dyadicBits (f : Fmt) (v : Nat) : Dyadic :=
  if fpExp f v = 0 then { neg := fpSign f v, m := fpFrac f v, e := 1 - (fpBias f : Int) - f.frac } else dyadicOf f v
def dyadicNeg (a : Dyadic) : Dyadic := { a with neg := !a.neg }
def dyadicInt (z : Int) (e : Int) : Dyadic := { neg := decide (z < 0), m := z.natAbs, e := e }
def dyadicAdd (a b : Dyadic) : Dyadic :=
  let g := min a.e b.e
  let at' (d : Dyadic) : Int := (if d.neg then -1 else 1) * (scale2 d.m (d.e - g) : Int)
  dyadicInt (at' a + at' b) g
def dyadicMul (a b : Dyadic) : Dyadic := { neg := xor a.neg b.neg, m := a.m * b.m, e := a.e + b.e }

/-- An exact result: (-1)^neg * (num / den * 2^e), or its square root. -/
structure Exact where
  neg  : Bool
  num  : Nat
  den  : Nat
  e    : Int
  root : Bool
deriving DecidableEq, Repr

def exactOf (d : Dyadic) : Exact := { neg := d.neg, num := d.m, den := 1, e := d.e, root := false }
/-- The exact result of an operation; none for a division by zero (R846). -/
def exactOp (op : FpOp) (ins : List Dyadic) : Option Exact :=
  match op, ins with
  | .add, [a, b] => some (exactOf (dyadicAdd a b))
  | .sub, [a, b] => some (exactOf (dyadicAdd a (dyadicNeg b)))
  | .mul, [a, b] => some (exactOf (dyadicMul a b))
  | .div, [a, b] =>
    if b.m = 0 then none
    else some { neg := xor a.neg b.neg, num := a.m, den := b.m, e := a.e - b.e, root := false }
  | .sqrt, [a] => some { neg := false, num := a.m, den := 1, e := a.e, root := true }
  | .mac, [a, b, c] => some (exactOf (dyadicAdd (dyadicMul a b) c))
  | .mas, [a, b, c] => some (exactOf (dyadicAdd (dyadicMul a b) (dyadicNeg c)))
  | .mrs, [a, b, c] => some (exactOf (dyadicAdd c (dyadicNeg (dyadicMul a b))))
  | .mra, [a, b, c] => some (exactOf (dyadicAdd (dyadicNeg (dyadicMul a b)) (dyadicNeg c)))
  | .fromInt, [a] => some (exactOf a)
  | .fromUInt, [a] => some (exactOf a)
  | .convert, [a] => some (exactOf a)
  | _, _ => none

/-- a * 2^k <= b for k of either sign. -/
def scaledLe (a : Nat) (k : Int) (b : Nat) : Bool :=
  if 0 ≤ k then decide (a * 2 ^ k.toNat ≤ b) else decide (a ≤ b * 2 ^ (-k).toNat)
/-- |x| <= y * 2^g. -/
def exactLe (x : Exact) (y : Nat) (g : Int) : Bool :=
  if x.root then scaledLe x.num (x.e - 2 * g) (y * y * x.den) else scaledLe x.num (x.e - g) (y * x.den)
/-- y * 2^g <= |x|. -/
def exactGe (x : Exact) (y : Nat) (g : Int) : Bool :=
  if x.root then scaledLe (y * y * x.den) (2 * g - x.e) x.num else scaledLe (y * x.den) (g - x.e) x.num
/-- The exponent of the highest bit of a nonzero |x|. -/
def exactLog (x : Exact) : Int :=
  let l : Int := (Nat.log2 x.num : Int) - Nat.log2 x.den + x.e
  let h : Int := if x.root then l / 2 else l
  if exactGe x 1 h then h else h - 1

/-- The largest r below 2^k with r * r <= n, searching from bit k - 1 down. -/
def isqrtFrom (n : Nat) : Nat → Nat → Nat
  | 0, r => r
  | k + 1, r => if (r + 2 ^ k) * (r + 2 ^ k) ≤ n then isqrtFrom n k (r + 2 ^ k) else isqrtFrom n k r
/-- |x| * 2^k rounded down. -/
def exactFloor (x : Exact) (k : Int) : Nat :=
  if x.root then
    let n := scale2 x.num (x.e + 2 * k) / x.den
    isqrtFrom n (Nat.log2 n / 2 + 1) 0
  else
    let d := x.e + k
    if 0 ≤ d then x.num * 2 ^ d.toNat / x.den else x.num / (x.den * 2 ^ (-d).toNat)

/-! ### Rounding and tolerance (R781) -/

/-- The value n * 2^(l - keep), where 2^keep <= n <= 2^(keep+1), as a pattern. -/
def fpEncode (f : Fmt) (neg : Bool) (n : Nat) (l : Int) : Nat :=
  if n = 2 ^ (f.keep + 1) then fpPack f neg (l + 1 + fpBias f).toNat 0
  else fpPack f neg (l + fpBias f).toNat ((n - 2 ^ f.keep) * 2 ^ (f.frac - f.keep))
/-- The nearest value to an x whose size the format holds, ties away from zero. -/
def fpNearest (f : Fmt) (x : Exact) : Nat :=
  let l := exactLog x
  fpEncode f x.neg ((exactFloor x (f.keep + 1 - l) + 1) / 2) l
/-- The value of x with the fraction cut off. -/
def fpTruncate (f : Fmt) (x : Exact) : Nat :=
  let l := exactLog x
  fpEncode f x.neg (exactFloor x (f.keep - l)) l
/-- |x| is larger than the largest finite value. -/
def fpOverflow (f : Fmt) (x : Exact) : Bool :=
  !exactLe x (2 ^ (f.keep + 1) - 1) ((2 ^ f.exp - 2 : Int) - fpBias f - f.keep)
/-- |x| is below the smallest normal value. -/
def fpUnderflow (f : Fmt) (x : Exact) : Bool := !exactGe x 1 (1 - (fpBias f : Int))

/-- |c - x| <= h/100 * 2^t. -/
def fpWithin (c : Dyadic) (x : Exact) (h : Nat) (t : Int) : Bool :=
  let g := min c.e t
  let cc := 100 * scale2 c.m (c.e - g)
  let tt := h * scale2 1 (t - g)
  let y : Exact := { x with num := if x.root then 10000 * x.num else 100 * x.num }
  if c.neg = x.neg then exactLe y (cc + tt) g && (decide (cc ≤ tt) || exactGe y (cc - tt) g)
  else decide (cc ≤ tt) && exactLe y (tt - cc) g

/-- The modes of R782 that are listed. -/
def roundingListed (rm : Byte) : Bool := decide (rm.toNat ≤ 4) || (decide (8 ≤ rm.toNat) && decide (rm.toNat ≤ 11))
/-- The single-precision modes 08 to 0B (R782). -/
def roundingSingle (rm : Byte) : Bool := decide (8 ≤ rm.toNat)
/-- The tolerance in hundredths of a last place (R781, R785); 2 of Binary32 in its modes (R782). DESIGN CHOICE (log 22): no
rule says which LongDouble operations are the "GFPX base ops", and all of them are held to 0.51, FDIVX, FSQRTX, the
multiply-accumulates and the conversions as FADDX, FSUBX and FMULX. -/
def fpTolerance (n : FpFmt) (rm : Byte) : Nat := if n = .long && !roundingSingle rm then 51 else 200
/-- How many fraction bits the last place stands for (R782). -/
def fpPlaces (f : Fmt) (rm : Byte) : Nat := if roundingSingle rm then min f.keep 23 else f.keep
def isMac (op : FpOp) : Bool := op == .mac || op == .mas || op == .mrs || op == .mra
/-- The exponent the tolerance is measured from: the result's, or for a multiply-accumulate that of the larger of
the product and the addend (R1024). -/
def fpTolExp (op : FpOp) (ins : List Dyadic) (x : Exact) : Int :=
  match ins with
  | [a, b, c] =>
    if isMac op then
      let p := dyadicMul a b
      if p.m = 0 then exactLog (exactOf c) else if c.m = 0 then exactLog (exactOf p)
      else max (exactLog (exactOf p)) (exactLog (exactOf c))
    else exactLog x
  | _ => exactLog x

/-- A zero whose sign is free. -/
def fpFreeZero (f : Fmt) (free : Nat) : Nat := fpPack f (free % 2 == 1) 0 0

/-- The value of R781 (b), (c) for an exact x, before mode 04. -/
def fpResult (n : FpFmt) (f : Fmt) (op : FpOp) (raw : List Nat) (ins : List Dyadic) (rm : Byte) (x : Exact)
    (free : Nat) : Nat :=
  if x.num = 0 && !isMac op then fpFreeZero f free
  else if fpOverflow f x then fpInf f x.neg
  else if fpUnderflow f x && !isMac op then fpFreeZero f free
  else if x.num = 0 && (ins.getLast?.map fun d => d.m == 0).getD true then fpFreeZero f free
  else
    let c := Config.fpu n op raw rm % 2 ^ fpWidth f
    let ok := (fpNormal f c || (isMac op && fpZero f c)) && c == fpPack f (fpSign f c) (fpExp f c) (fpFrac f c) &&
      fpWithin (dyadicOf f c) x (fpTolerance n rm) (fpTolExp op ins x - fpPlaces f rm)
    if ok then c else if fpUnderflow f x then fpFreeZero f free else fpNearest f x

/-- Mode 04: two fewer fraction bits, and an inexact status in the low two (R782). DESIGN CHOICE: a zero or an Inf that
is inexact carries the status too, beside the zero fraction of R781 (b) (log 23). DESIGN CHOICE (log 55): R782 gives the place
for Double, result[1:0] under 50 kept bits; for LongDouble, whose lowest fraction bits R785 clears, 78 bits are kept and the
status stands in the two lowest of the 80 significant ones, fraction bits 33:32, in the inputs as in the result. -/
def fpStatusBits (f : Fmt) (raw : List Nat) (x : Exact) (r : Nat) (free : Nat) : Nat :=
  let unit := 2 ^ (f.frac - f.keep)
  if !fpSpecial f r && fpWithin (dyadicOf f r) x 0 0 && raw.all (fun v => v / (unit / 4) % 4 == 0) then r
  else r + (1 + free % 3) * (unit / 4)

/-- A result nothing fixes, with the bits R785 has zero in every LongDouble result cleared. -/
def fpFree (n : FpFmt) (free : Nat) : Nat := fpCut (fmtOf n) free
/-- fpElem (R781): `src` is the format of the inputs, `free` the free bits of this element. -/
def fpElemFrom (src n : FpFmt) (op : FpOp) (rm : Byte) (raw : List Nat) (free : Nat) : Nat :=
  let cut (f : Fmt) : Fmt := if rm = 4#8 then { f with keep := f.keep - 2 } else f
  let fs := cut (fmtOf src)
  let f := cut (fmtOf n)
  let raw := raw.map (fpCut (fmtOf src))
  if raw.any fun v => fpSpecial fs v || fpDenormal fs v then fpFree n free
  else
    let ins := raw.map (dyadicOf fs)
    match exactOp op ins with
    | none => fpFree n free
    | some x =>
      let r := fpResult n f op raw ins rm x free
      if rm = 4#8 then fpStatusBits f raw x r free else r
/-- fpElem with inputs of the result's format. -/
def fpElem (n : FpFmt) (op : FpOp) (rm : Byte) (raw : List Nat) (free : Nat) : Nat := fpElemFrom n n op rm raw free
/-- The status bits of an operation on inputs of a format (R788). -/
def fpStatusOf (src : FpFmt) (op : FpOp) (raw : List Nat) (r : Nat) : BitVec 4 :=
  Config.fpStatus op (raw.map (fpCut (fmtOf src))) r
/-- fpElem of the integer z, whose pattern is `raw` (R1013, R1015). Zero gives +0. -/
def fpFromInt (n : FpFmt) (op : FpOp) (raw : Nat) (z : Int) (free : Nat) : Nat :=
  if z = 0 then 0 else fpResult n (fmtOf n) op [raw] [dyadicInt z 0] 0#8 (exactOf (dyadicInt z 0)) free
/-- An integer the format holds exactly (R1016, R1017). -/
def fpExactInt (n : FpFmt) (z : Int) : Nat := if z = 0 then 0 else fpNearest (fmtOf n) (exactOf (dyadicInt z 0))

/-! ### Conversions -/

/-- Widening (R786): exact and total. -/
def fpWiden (src dst : FpFmt) (v : Nat) : Nat :=
  let a := fmtOf src
  let b := fmtOf dst
  let e := fpExp a v
  let e' := if e = 0 then 0 else if e = 2 ^ a.exp - 1 then 2 ^ b.exp - 1 else e + (2 ^ (b.exp - 1) - 2 ^ (a.exp - 1))
  fpPack b (fpSign a v) e' ((v % 2 ^ a.frac) * 2 ^ (b.frac - a.frac))
/-- Narrowing that truncates (R787; 48_gsv_media.md R711). -/
def fpNarrowTrunc (src dst : FpFmt) (v : Nat) (free : Nat) : Nat :=
  let a := fmtOf src
  let b := fmtOf dst
  let x := exactOf (dyadicOf a v)
  if fpSpecial a v || fpDenormal a v then free % 2 ^ fpWidth b
  else if x.num = 0 then fpFreeZero b free
  else if fpOverflow b x then fpInf b x.neg
  else if fpUnderflow b x then fpFreeZero b free
  else fpTruncate b x
/-- The integer part of a value, toward zero. -/
def dyadicTrunc (d : Dyadic) : Int := (if d.neg then -1 else 1) * (scale2 d.m d.e : Int)
/-- Sign-magnitude order key (48_gsv_media.md R690; R800). -/
def fpKey (f : Fmt) (v : Nat) : Int :=
  (if fpSign f v then -1 else 1) * ((fpExp f v * 2 ^ f.frac + fpFrac f v : Nat) : Int)

/-! ### Microfloats (48_gsv_media.md R705, R713, R714) -/

/-- S.E4.F3 with bias 7 to Half. -/
def fp8ToHalf (b : Byte) : Half :=
  if b == 0#8 then 0#16 else slice b 7 1 ++ ((slice b 3 4).setWidth 5 + 8#5) ++ slice b 0 3 ++ 0#7
/-- Half to S.E4.F3: saturates above, zero below. -/
def halfToFp8 (h : Half) : Byte :=
  let e := (slice h 10 5).toNat
  if e < 8 then 0#8
  else if 23 < e then slice h 15 1 ++ 0x7F#7
  else slice h 15 1 ++ BitVec.ofNat 4 (e - 8) ++ slice h 7 3
/-- E4.F<k> bits with a sign, to Half: zero if they are all zero. -/
def microToHalf (k : Nat) (neg : Bool) (v : Nat) : Half :=
  if v = 0 then 0#16 else BitVec.ofNat 16 (neg.toNat * 0x8000 + (v / 2 ^ k + 8) * 1024 + v % 2 ^ k * 2 ^ (10 - k))
/-- FP8S: E4.F3.S. -/
def fp8sToHalf (b : Byte) : Half := microToHalf 3 (bitAt b 0) (b.toNat / 2)
/-- FP8U: E4.F4. -/
def fp8uToHalf (b : Byte) : Half := microToHalf 4 false b.toNat
/-- Half magnitude to E4.F<k>: zero below the range, the largest above. -/
def halfToMicro (k : Nat) (h : Half) : Nat :=
  let e := (slice h 10 5).toNat
  if e < 8 then 0 else if 23 < e then 2 ^ (4 + k) - 1 else (e - 8) * 2 ^ k + (slice h 0 10).toNat / 2 ^ (10 - k)
/-- Half to FP8S (48_gsv_media.md R715). DESIGN CHOICE (log 24): a negative Half of exponent 8 whose fraction bits 9:7 are zero
gives the exponent, fraction and sign as in the rest of the range, the byte 01, which FP8S reads back as zero. -/
def halfToFp8s (h : Half) : Byte :=
  if (slice h 10 5).toNat < 8 then 0#8 else BitVec.ofNat 8 (2 * halfToMicro 3 h + (bitAt h 15).toNat)
/-- Half to FP8U: a negative input gives zero. -/
def halfToFp8u (h : Half) : Byte := if bitAt h 15 then 0#8 else BitVec.ofNat 8 (halfToMicro 4 h)

end Sys2Proof.Machine
end

