-- ==== Sys2Proof/Machine/Media.lean ====
section
/-! DEFINITION. Packed SIMD and neural-net instructions (48_gsv_media.md). Element 0 is the low-order one. -/

namespace Sys2Proof.Machine

open Sys2Proof Sys2Proof.Config

/-! ### Shared forms -/

/-- The state after k free values have been read. -/
def drawnN (k : Nat) (s : State) : State := { s with draws := s.draws + k }
/-- The i-th next free value, as a number. -/
def freeNat (s : State) (i : Nat) : Nat := (Config.draw (s.draws + i)).toNat

/-- Rn <- f(Rm). -/
def vec1 (f : Word → Word) (m n : Reg) (s : State) : Out State := retire (setReg s n (f (getReg s m)))
/-- Rn <- f(Rm, Ro). -/
def vec2 (f : Word → Word → Word) (m o n : Reg) (s : State) : Out State :=
  retire (setReg s n (f (getReg s m) (getReg s o)))
/-- One 32-bit lane of a pair value. -/
def lane32x (q : Quad) (i : Nat) : BitVec 32 := slice q (32 * i) 32
/-- Four 32-bit lanes, lane 0 lowest. -/
def dwords4 (f : Nat → BitVec 32) : Quad := f 3 ++ f 2 ++ f 1 ++ f 0
/-- Four byte lanes in the low half, zeros above. -/
def bytes4 (f : Nat → Byte) : Word := 0#32 ++ f 3 ++ f 2 ++ f 1 ++ f 0

/-- Sticky bits FPSCR[11:8] = GBR[59:56] gathered from an operation (49_gfp.md R788). -/
def fpSticky (v : BitVec 4) (s : State) : State := { s with gbr := s.gbr ||| (v.setWidth 64 <<< 56) }
/-- The status bits of the first c lanes together. -/
def laneStatus (n : FpFmt) (op : FpOp) (ins : Nat → List Nat) (r : Nat → Nat) (c : Nat) : BitVec 4 :=
  (List.range c).foldl (fun v k => v ||| fpStatusOf n op (ins k) (r k)) 0#4
/-- The inputs of each lane as numbers. -/
def laneIns {w : Nat} (ins : Nat → List (BitVec w)) (k : Nat) : List Nat := (ins k).map BitVec.toNat
/-- Lane k of an operation, over its own free value. -/
def laneOf (n : FpFmt) (op : FpOp) (rm : Byte) (ins : Nat → List Nat) (s : State) (k : Nat) : Nat :=
  fpElem n op rm (ins k) (freeNat s k)
/-- An operation on c lanes: their free values are read, their status bits gathered, and `place` puts them away. -/
def packed (n : FpFmt) (op : FpOp) (rm : Byte) (ins : Nat → List Nat) (c : Nat) (place : State → (Nat → Nat) → State)
    (s : State) : Out State :=
  let r := laneOf n op rm ins s
  retire (fpSticky (laneStatus n op ins r c) (place (drawnN c s) r))
/-- Rn <- four Half lanes (R672: truncation is the nominal mode). -/
def setHalf (op : FpOp) (ins : Nat → List Half) (n : Reg) (s : State) : Out State :=
  packed .half op 1#8 (laneIns ins) 4 (fun t r => setReg t n (words4 fun k => BitVec.ofNat 16 (r k))) s
/-- Go on in a listed rounding mode (49_gfp.md R782). -/
def withRounding (rm : Byte) (go : Out State) : Out State := if roundingListed rm then go else .refused .roundingMode
/-- Rn <- two Single lanes in a rounding mode. -/
def setSingle (op : FpOp) (rm : Byte) (ins : Nat → List (BitVec 32)) (n : Reg) (s : State) : Out State :=
  packed .single op rm (laneIns ins) 2 (fun t r => setReg t n (words2 fun k => BitVec.ofNat 32 (r k))) s
/-- Xn <- four Single lanes in a rounding mode. -/
def setSingleX (op : FpOp) (rm : Byte) (ins : Nat → List (BitVec 32)) (n : Pair) (s : State) : Out State :=
  packed .single op rm (laneIns ins) 4 (fun t r => setPair t n (dwords4 fun k => BitVec.ofNat 32 (r k))) s
/-- Xn <- two Double lanes. -/
def setDoubleX (op : FpOp) (ins : Nat → List Word) (n : Pair) (s : State) : Out State :=
  packed .double op 1#8 (laneIns ins) 2
    (fun t r => setPair t n (quad (BitVec.ofNat 64 (r 1)) (BitVec.ofNat 64 (r 0)))) s
def packH (op : FpOp) (m o n : Reg) (s : State) : Out State :=
  setHalf op (fun k => [lane16 (getReg s m) k, lane16 (getReg s o) k]) n s
def packF (op : FpOp) (rm : Byte) (m o n : Reg) (s : State) : Out State :=
  setSingle op rm (fun k => [lane32 (getReg s m) k, lane32 (getReg s o) k]) n s
def packXF (op : FpOp) (rm : Byte) (m o n : Pair) (s : State) : Out State :=
  withPairs [m, o, n] (setSingleX op rm (fun k => [lane32x (getPair s m) k, lane32x (getPair s o) k]) n s)
def packXD (op : FpOp) (m o n : Pair) (s : State) : Out State :=
  withPairs [m, o, n]
    (setDoubleX op (fun k => if k = 0 then [loWord (getPair s m), loWord (getPair s o)]
      else [hiWord (getPair s m), hiWord (getPair s o)]) n s)

/-! ### Partial moves (R674 to R683) -/

/-- R674. -/
def execMovHD2 (m n : Reg) (s : State) : Out State := vec2 (fun a b => lane32 a 1 ++ lane32 b 0) m n n s
/-- R675. -/
def execMovLD2 (m n : Reg) (s : State) : Out State := vec2 (fun a b => lane32 b 1 ++ lane32 a 0) m n n s
/-- R676. -/
def execMovHLD2 (m n : Reg) (s : State) : Out State := vec2 (fun a b => lane32 b 1 ++ lane32 a 1) m n n s
/-- R677. -/
def execMovLHD2 (m n : Reg) (s : State) : Out State := vec2 (fun a b => lane32 a 0 ++ lane32 b 0) m n n s
/-- R678. -/
def execMovHD (m o n : Reg) (s : State) : Out State := vec2 (fun a b => lane32 a 1 ++ lane32 b 1) m o n s
/-- R679. -/
def execMovLD (m o n : Reg) (s : State) : Out State := vec2 (fun a b => lane32 a 0 ++ lane32 b 0) m o n s
/-- R680. -/
def execMovHLD (m o n : Reg) (s : State) : Out State := vec2 (fun a b => lane32 a 1 ++ lane32 b 0) m o n s
/-- R681. -/
def execMovLHD (m o n : Reg) (s : State) : Out State := vec2 (fun a b => lane32 a 0 ++ lane32 b 1) m o n s
/-- R682. -/
def execMovHW (m o n : Reg) (s : State) : Out State := vec2 (fun a b => 0#32 ++ lane16 a 1 ++ lane16 b 1) m o n s
/-- R683. -/
def execMovLW (m o n : Reg) (s : State) : Out State := vec2 (fun a b => 0#32 ++ lane16 a 0 ++ lane16 b 0) m o n s

/-! ### Packed add, subtract, multiply (R684 to R689, R750 to R762, R775 to R779, R950 to R952) -/

def mapWords (f : Half → Half → Half) (a b : Word) : Word := words4 fun k => f (lane16 a k) (lane16 b k)
def mapDwords (f : BitVec 32 → BitVec 32 → BitVec 32) (a b : Word) : Word := words2 fun k => f (lane32 a k) (lane32 b k)

/-- R684. -/
def execPaddW (m o n : Reg) (s : State) : Out State := vec2 (mapWords (· + ·)) m o n s
/-- R685. -/
def execPaddL (m o n : Reg) (s : State) : Out State := vec2 (mapDwords (· + ·)) m o n s
/-- R686. -/
def execPaddF (m o n : Reg) (s : State) : Out State := packF .add 1#8 m o n s
/-- R687. -/
def execPaddxF (m o n : Pair) (s : State) : Out State := packXF .add 1#8 m o n s
/-- R688. -/
def execPaddH (m o n : Reg) (s : State) : Out State := packH .add m o n s
/-- R689. -/
def execPaddxD (m o n : Pair) (s : State) : Out State := packXD .add m o n s
/-- R775. -/
def execPsubW (m o n : Reg) (s : State) : Out State := vec2 (mapWords (· - ·)) m o n s
/-- R776. -/
def execPsubL (m o n : Reg) (s : State) : Out State := vec2 (mapDwords (· - ·)) m o n s
/-- R777. -/
def execPsubF (m o n : Reg) (s : State) : Out State := packF .sub 1#8 m o n s
/-- R778. -/
def execPsubxF (m o n : Pair) (s : State) : Out State := packXF .sub 1#8 m o n s
/-- R779. -/
def execPsubH (m o n : Reg) (s : State) : Out State := packH .sub m o n s
/-- R952. -/
def execPsubxD (m o n : Pair) (s : State) : Out State := packXD .sub m o n s
/-- R750. -/
def execPmulF (m o n : Reg) (s : State) : Out State := packF .mul 1#8 m o n s
/-- R751. -/
def execPmulxF (m o n : Pair) (s : State) : Out State := packXF .mul 1#8 m o n s
/-- R752. -/
def execPmulH (m o n : Reg) (s : State) : Out State := packH .mul m o n s
/-- R753. -/
def execPmulxD (m o n : Pair) (s : State) : Out State := packXD .mul m o n s
/-- R950. -/
def execPaddXrm (m o n : Reg) (i : Byte) (s : State) : Out State := withRounding i (packF .add i m o n s)
/-- R951. -/
def execPaddxXrm (m o n : Pair) (i : Byte) (s : State) : Out State := withRounding i (packXF .add i m o n s)
/-- R754. -/
def execPmulXrm (m o n : Reg) (i : Byte) (s : State) : Out State := withRounding i (packF .mul i m o n s)
/-- R755. -/
def execPmulxXrm (m o n : Pair) (i : Byte) (s : State) : Out State := withRounding i (packXF .mul i m o n s)

/-- The exact 32-bit product of two Words. -/
def mulSW (a b : Half) : BitVec 32 := BitVec.ofInt 32 (a.toInt * b.toInt)
def mulUW (a b : Half) : BitVec 32 := BitVec.ofNat 32 (a.toNat * b.toNat)
/-- R756: the low two Words (log 24). -/
def execPmulsW (m o n : Reg) (s : State) : Out State :=
  vec2 (fun a b => words2 fun k => mulSW (lane16 a k) (lane16 b k)) m o n s
/-- R757. -/
def execPmuluW (m o n : Reg) (s : State) : Out State :=
  vec2 (fun a b => words2 fun k => mulUW (lane16 a k) (lane16 b k)) m o n s
/-- R758. -/
def execPmulsLW (m o n : Reg) (s : State) : Out State := vec2 (mapWords fun a b => slice (mulSW a b) 0 16) m o n s
/-- R759. -/
def execPmuluLW (m o n : Reg) (s : State) : Out State := vec2 (mapWords fun a b => slice (mulUW a b) 0 16) m o n s
/-- R761. -/
def execPmulsHW (m o n : Reg) (s : State) : Out State := vec2 (mapWords fun a b => slice (mulSW a b) 16 16) m o n s
/-- R762. -/
def execPmuluHW (m o n : Reg) (s : State) : Out State := vec2 (mapWords fun a b => slice (mulUW a b) 16 16) m o n s

/-! ### Packed compare and select (R690 to R704, R953 to R956) -/

/-- P, Q, R, O as bits 0 to 3: SR[7:4]. -/
def srPQRO (s : State) : BitVec 4 := slice s.sr 4 4
def setPQRO (s : State) (v : BitVec 4) : State := { s with sr := setSlice s.sr 4 4 v }
/-- Word and Half compares: P..O from the relation Rn REL Rm, S and T free (R690). -/
def pcmpW (f : Half → Half → Bool) (m n : Reg) (s : State) : Out State :=
  let b (k : Nat) : BitVec 1 := BitVec.ofBool (f (lane16 (getReg s n) k) (lane16 (getReg s m) k))
  let s' := setPQRO (drawn s) (b 3 ++ b 2 ++ b 1 ++ b 0)
  retire (setS (setT s' (bitAt (freeWord s) 0)) (bitAt (freeWord s) 1))
/-- DWord and Single compares: T and S from the relation, P..O free (R690). -/
def pcmpL (f : BitVec 32 → BitVec 32 → Bool) (m n : Reg) (s : State) : Out State :=
  let b (k : Nat) : Bool := f (lane32 (getReg s n) k) (lane32 (getReg s m) k)
  retire (setS (setT (setPQRO (drawn s) (slice (freeWord s) 0 4)) (b 0)) (b 1))
/-- Equality of patterns; zeros of either sign as Config says (R691). -/
def packEq {w : Nat} (a b : BitVec w) : Bool := a == b || ((a <<< 1 == 0#w && b <<< 1 == 0#w) && Config.pcmpZeroEq)

/-- R691. -/
def execPcmpEQH (m n : Reg) (s : State) : Out State := pcmpW packEq m n s
/-- R692. -/
def execPcmpEQF (m n : Reg) (s : State) : Out State := pcmpL packEq m n s
/-- R693. -/
def execPcmpGTH (m n : Reg) (s : State) : Out State :=
  pcmpW (fun a b => decide (fpKey (fmtOf .half) b.toNat < fpKey (fmtOf .half) a.toNat)) m n s
/-- R694. -/
def execPcmpGTF (m n : Reg) (s : State) : Out State :=
  pcmpL (fun a b => decide (fpKey (fmtOf .single) b.toNat < fpKey (fmtOf .single) a.toNat)) m n s
/-- R695. -/
def execPcmpEQW (m n : Reg) (s : State) : Out State := pcmpW (fun a b => a == b) m n s
/-- R696. -/
def execPcmpEQL (m n : Reg) (s : State) : Out State := pcmpL (fun a b => a == b) m n s
/-- R697. -/
def execPcmpHIW (m n : Reg) (s : State) : Out State := pcmpW (fun a b => decide (b.toNat < a.toNat)) m n s
/-- R698. -/
def execPcmpHIL (m n : Reg) (s : State) : Out State := pcmpL (fun a b => decide (b.toNat < a.toNat)) m n s
/-- R699. -/
def execPcmpGTW (m n : Reg) (s : State) : Out State := pcmpW (fun a b => decide (b.toInt < a.toInt)) m n s
/-- R700. -/
def execPcmpGTL (m n : Reg) (s : State) : Out State := pcmpL (fun a b => decide (b.toInt < a.toInt)) m n s

/-- Words of a where the mask bit is set, of b elsewhere. -/
def selectW (mask : BitVec 4) (a b : Word) : Word := words4 fun k => if bitAt mask k then lane16 a k else lane16 b k
/-- DWords of a where T (low) or S (high) is set, of b elsewhere. -/
def selectL (t h : Bool) (a b : Word) : Word :=
  (if h then lane32 a 1 else lane32 b 1) ++ (if t then lane32 a 0 else lane32 b 0)
/-- R701. -/
def execPcseltW (m o n : Reg) (s : State) : Out State := vec2 (selectW (srPQRO s)) m o n s
/-- R702. -/
def execPcseltL (m o n : Reg) (s : State) : Out State := vec2 (selectL (srT s) (srS s)) m o n s
/-- R953. -/
def execPselTW (m n : Reg) (s : State) : Out State := vec2 (selectW (srPQRO s)) m n n s
/-- R954. -/
def execPselFW (m n : Reg) (s : State) : Out State := vec2 (selectW (srPQRO s)) n m n s
/-- R955. -/
def execPselTL (m n : Reg) (s : State) : Out State := vec2 (selectL (srT s) (srS s)) m n n s
/-- R956. -/
def execPselFL (m n : Reg) (s : State) : Out State := vec2 (selectL (srT s) (srS s)) n m n s

/-- The exact predicate of R703, R704 on a sum. -/
def dotHolds (i : BitVec 2) (x : Dyadic) : Bool :=
  let less1 := dyadicAdd x { neg := true, m := 1, e := 0 }
  match i with
  | 0#2 => !x.neg
  | 1#2 => x.neg || x.m == 0
  | 2#2 => !less1.neg
  | _ => less1.neg || less1.m == 0
/-- Whether the predicate holds exactly of a sum of elements: of finite ones by their values, with infinities of one sign by that
sign (predicates 1 and 3 ask for a small sum). DESIGN CHOICE (log 43): a denormal counts with the value its bits stand for
(49_gfp.md R780); NaNs and opposite infinities have no sum. -/
def dotExact (n : FpFmt) (i : BitVec 2) (es : List Nat) : Bool :=
  let f := fmtOf n
  match es.filter (fpSpecial f) with
  | [] => dotHolds i ((es.map (dyadicBits f)).foldl dyadicAdd { neg := false, m := 0, e := 0 })
  | v :: vs => (v :: vs).all (fun w => w == fpInf f (bitAt i 0))
/-- The prediction: true whenever the predicate holds exactly, Config's otherwise (R703, R704). -/
def predictDot (n : FpFmt) (i : BitVec 2) (es : List Nat) (guess : Bool) : Bool := dotExact n i es || guess
/-- R703. -/
def execPdottH (i : BitVec 2) (n : Reg) (s : State) : Out State :=
  let v := getReg s n
  retire (setT s (predictDot .half i ((List.range 4).map fun k => (lane16 v k).toNat) (Config.pdott false i v)))
/-- R704. -/
def execPdottF (i : BitVec 2) (n : Reg) (s : State) : Out State :=
  let v := getReg s n
  retire (setT s (predictDot .single i ((List.range 2).map fun k => (lane32 v k).toNat) (Config.pdott true i v)))

/-! ### Packed format conversion (R705 to R718) -/

/-- Half to Single (R707). -/
def halfToSingle (h : Half) : BitVec 32 := BitVec.ofNat 32 (fpWiden .half .single h.toNat)
/-- A Half with five more fraction bits (R709). -/
def extHalf (h : Half) (x : BitVec 5) : BitVec 32 := halfToSingle h ||| (x.setWidth 32 <<< 8)

/-- R705. -/
def execPstcF8H (m n : Reg) (s : State) : Out State := vec1 (fun v => bytes4 fun k => halfToFp8 (lane16 v k)) m n s
/-- R706. -/
def execPldcF8H (m n : Reg) (s : State) : Out State := vec1 (fun v => words4 fun k => fp8ToHalf (lane8 v k)) m n s
/-- R707. -/
def execPldcH (m n : Reg) (s : State) : Out State := vec1 (fun v => words2 fun k => halfToSingle (lane16 v k)) m n s
/-- R708. -/
def execPldcHH (m n : Reg) (s : State) : Out State :=
  vec1 (fun v => words2 fun k => halfToSingle (lane16 v (k + 2))) m n s
/-- R709. -/
def execPldcEHL (m n : Reg) (s : State) : Out State :=
  vec1 (fun v => extHalf (lane16 v 1) (slice v 53 5) ++ extHalf (lane16 v 0) (slice v 48 5)) m n s
/-- R710. -/
def execPldcEHH (m n : Reg) (s : State) : Out State :=
  vec1 (fun v => 0#32 ++ extHalf (lane16 v 2) (slice v 58 5)) m n s
/-- R711: two conversions, whose status bits are gathered (49_gfp.md R787, R788; log 23). -/
def execPstcH (m n : Reg) (s : State) : Out State :=
  let v (k : Nat) : Nat := (lane32 (getReg s m) k).toNat
  let h (k : Nat) : Nat := fpNarrowTrunc .single .half (v k) (freeNat s k)
  let status := fpStatusOf .single .convert [v 0] (h 0) ||| fpStatusOf .single .convert [v 1] (h 1)
  retire (fpSticky status (setReg (drawnN 2 s) n (0#32 ++ BitVec.ofNat 16 (h 1) ++ BitVec.ofNat 16 (h 0))))
/-- R712. -/
def execPldcHImm (i : BitVec 32) (n : Reg) (s : State) : Out State :=
  retire (setReg s n (words2 fun k => halfToSingle (slice i (16 * k) 16)))
/-- R713. -/
def execPldcM8SH (m n : Reg) (s : State) : Out State := vec1 (fun v => words4 fun k => fp8sToHalf (lane8 v k)) m n s
/-- R714. -/
def execPldcM8UH (m n : Reg) (s : State) : Out State := vec1 (fun v => words4 fun k => fp8uToHalf (lane8 v k)) m n s
/-- R715. -/
def execPstcM8SH (m n : Reg) (s : State) : Out State := vec1 (fun v => bytes4 fun k => halfToFp8s (lane16 v k)) m n s
/-- R716. -/
def execPstcM8UH (m n : Reg) (s : State) : Out State := vec1 (fun v => bytes4 fun k => halfToFp8u (lane16 v k)) m n s
/-- R717. -/
def execPldcM8SHImm (i : BitVec 32) (n : Reg) (s : State) : Out State :=
  retire (setReg s n (words4 fun k => fp8sToHalf (slice i (8 * k) 8)))
/-- R718. -/
def execPldcM8UHImm (i : BitVec 32) (n : Reg) (s : State) : Out State :=
  retire (setReg s n (words4 fun k => fp8uToHalf (slice i (8 * k) 8)))

/-! ### Approximations, RELU, one-bit shifts (R763 to R774) -/

def map16 (f : Half → Half) (v : Word) : Word := words4 fun k => f (lane16 v k)
def map32 (f : BitVec 32 → BitVec 32) (v : Word) : Word := words2 fun k => f (lane32 v k)
/-- The square-root formula of R771, and of R773 by its construction. -/
def sqrtHalf (h : Half) : Half := (h &&& 0x8000#16) ||| (((h &&& 0x7FFF#16) >>> 1) + 0x1E00#16)
def sqrtSingle (v : BitVec 32) : BitVec 32 := (v &&& 0x80000000#32) ||| (((v &&& 0x7FFFFFFF#32) >>> 1) + 0x1FC00000#32)

/-- R763. -/
def execPrcpaH (m n : Reg) (s : State) : Out State := vec1 (map16 fun h => ~~~h + 0x7800#16) m n s
/-- R764. -/
def execPrcpaF (m n : Reg) (s : State) : Out State := vec1 (map32 fun v => ~~~v + 0x7F000000#32) m n s
/-- R765. -/
def execPreluH (m n : Reg) (s : State) : Out State := vec1 (map16 fun h => if bitAt h 15 then 0#16 else h) m n s
/-- R766. -/
def execPreluF (m n : Reg) (s : State) : Out State := vec1 (map32 fun v => if bitAt v 31 then 0#32 else v) m n s
/-- R767: saturating. -/
def execPshalW (m n : Reg) (s : State) : Out State :=
  vec1 (map16 fun h => if 32767 < 2 * h.toInt then 0x7FFF#16 else if 2 * h.toInt < -32768 then 0x8000#16 else h <<< 1) m n s
/-- R768: saturating. -/
def execPshllW (m n : Reg) (s : State) : Out State := vec1 (map16 fun h => if bitAt h 15 then 0xFFFF#16 else h <<< 1) m n s
/-- R769. -/
def execPsharW (m n : Reg) (s : State) : Out State := vec1 (map16 fun h => h.sshiftRight 1) m n s
/-- R770. -/
def execPshlrW (m n : Reg) (s : State) : Out State := vec1 (map16 fun h => h >>> 1) m n s
/-- R771. -/
def execPsqrtaH (m n : Reg) (s : State) : Out State := vec1 (map16 sqrtHalf) m n s
/-- R772. -/
def execPsqrtuaH (m n : Reg) (s : State) : Out State := vec1 (map16 fun h => if bitAt h 15 then 0#16 else sqrtHalf h) m n s
/-- R773. -/
def execPsqrtaF (m n : Reg) (s : State) : Out State := vec1 (map32 sqrtSingle) m n s
/-- R774. -/
def execPsqrtuaF (m n : Reg) (s : State) : Out State := vec1 (map32 fun v => if bitAt v 31 then 0#32 else sqrtSingle v) m n s

/-! ### Shuffles, swaps, search (R957 to R981) -/

/-- The k-th 2-bit field of a mask. -/
def sel2 {w : Nat} (i : BitVec w) (k : Nat) : Nat := (slice i (2 * k) 2).toNat
def shuffleWords (i : Byte) (v : Word) : Word := words4 fun k => lane16 v (sel2 i k)
/-- The tristate multiply of R1001: 0, keep, invert all bits, invert the sign. -/
def tristate {w : Nat} (c : Nat) (v : BitVec w) : BitVec w :=
  match c with
  | 0 => 0#w | 1 => v | 2 => ~~~v | _ => v ^^^ BitVec.intMin w
def tristateWords (i : Byte) (v : Word) : Word := words4 fun k => tristate (sel2 i k) (lane16 v k)

/-- R957. -/
def execPshufB (m : Reg) (i : Byte) (n : Reg) (s : State) : Out State :=
  vec1 (fun v => lane32 v 1 ++ lane8 v (sel2 i 3) ++ lane8 v (sel2 i 2) ++ lane8 v (sel2 i 1) ++ lane8 v (sel2 i 0)) m n s
/-- R958. -/
def execPshufW (m : Reg) (i : Byte) (n : Reg) (s : State) : Out State := vec1 (shuffleWords i) m n s
/-- R959: shuffle, then tristate multiply; bits 32:16 must be ones. -/
def execPshufW33 (m : Reg) (i : BitVec 33) (n : Reg) (s : State) : Out State :=
  if slice i 16 17 == BitVec.allOnes 17 then
    vec1 (fun v => tristateWords (slice i 8 8) (shuffleWords (slice i 0 8) v)) m n s
  else .refused .pshufReserved
/-- R960: Imm17s holds the fields of R959 in bits 15:0. DESIGN CHOICE: bit 16 (P1[7]) is ignored (log 24). -/
def execPshufW17 (m : Reg) (i : BitVec 17) (n : Reg) (s : State) : Out State :=
  vec1 (fun v => tristateWords (slice i 8 8) (shuffleWords (slice i 0 8) v)) m n s

/-- The least k from i on, among c, with f k. -/
def firstIdx (f : Nat → Bool) (i : Nat) : Nat → Option Nat
  | 0 => none
  | c + 1 => if f i then some i else firstIdx f (i + 1) c
/-- R962: Rn and T from the first element found among c. -/
def search (c : Nat) (f : Word → Word → Nat → Bool) (m o n : Reg) (s : State) : Out State :=
  match firstIdx (f (getReg s m) (getReg s o)) 0 c with
  | some k => retire (setT (setReg s n (BitVec.ofNat 64 k)) true)
  | none => retire (setT (setReg s n (Config.pschNone c)) false)
/-- R962. -/
def execPscheqW (m o n : Reg) (s : State) : Out State := search 4 (fun a b k => lane16 a k == lane16 b k) m o n s
/-- R963. -/
def execPscheqB (m o n : Reg) (s : State) : Out State := search 8 (fun a b k => lane8 a k == lane8 b k) m o n s
/-- R964. -/
def execPschneW (m o n : Reg) (s : State) : Out State := search 4 (fun a b k => lane16 a k != lane16 b k) m o n s
/-- R965. -/
def execPschneB (m o n : Reg) (s : State) : Out State := search 8 (fun a b k => lane8 a k != lane8 b k) m o n s

/-- The low four bytes by source number, element 3 first; the high half is copied. -/
def byteOrder (a b c d : Nat) (v : Word) : Word := lane32 v 1 ++ lane8 v a ++ lane8 v b ++ lane8 v c ++ lane8 v d
/-- The four Words by source number, element 3 first. -/
def wordOrder (a b c d : Nat) (v : Word) : Word := lane16 v a ++ lane16 v b ++ lane16 v c ++ lane16 v d
/-- R966. -/
def execSwapB (m n : Reg) (s : State) : Out State := vec1 (byteOrder 2 3 0 1) m n s
/-- R967. -/
def execSwapW (m n : Reg) (s : State) : Out State := vec1 (wordOrder 2 3 0 1) m n s
/-- R968. -/
def execSwap8B (m n : Reg) (s : State) : Out State :=
  vec1 (fun v => bytes8 fun k => lane8 v (if k % 2 = 0 then k + 1 else k - 1)) m n s
/-- R969. -/
def execSwapL (m n : Reg) (s : State) : Out State := vec1 (wordOrder 1 0 3 2) m n s
/-- R970. -/
def execSwapLB (m n : Reg) (s : State) : Out State := vec1 (byteOrder 3 2 0 1) m n s
/-- R971. -/
def execSwapLW (m n : Reg) (s : State) : Out State := vec1 (wordOrder 3 2 0 1) m n s
/-- R972. -/
def execSwcpLB (m n : Reg) (s : State) : Out State := vec1 (byteOrder 3 2 0 0) m n s
/-- R973. -/
def execSwcpLW (m n : Reg) (s : State) : Out State := vec1 (wordOrder 3 2 0 0) m n s
/-- R974. -/
def execSwapMB (m n : Reg) (s : State) : Out State := vec1 (byteOrder 3 0 1 2) m n s
/-- R975. -/
def execSwapMW (m n : Reg) (s : State) : Out State := vec1 (wordOrder 3 0 1 2) m n s
/-- R976. -/
def execSwcpMB (m n : Reg) (s : State) : Out State := vec1 (byteOrder 3 0 1 0) m n s
/-- R977. -/
def execSwcpMW (m n : Reg) (s : State) : Out State := vec1 (wordOrder 3 0 1 0) m n s
/-- R978. -/
def execSwapHB (m n : Reg) (s : State) : Out State := vec1 (byteOrder 0 2 1 3) m n s
/-- R979. -/
def execSwapHW (m n : Reg) (s : State) : Out State := vec1 (wordOrder 0 2 1 3) m n s
/-- R980. -/
def execSwcpHB (m n : Reg) (s : State) : Out State := vec1 (byteOrder 0 2 1 0) m n s
/-- R981. -/
def execSwcpHW (m n : Reg) (s : State) : Out State := vec1 (wordOrder 0 2 1 0) m n s

/-! ### Neural-net extension (R982 to R1001) -/

/-- A source lane under the shuffle mode bits 10:9: bit 9 shuffles Rm, bit 10 Ro (R982). -/
def shufLane (i : BitVec 11) (bit k : Nat) : Nat := if bitAt i bit then sel2 i k else k
/-- R982 on Half lanes. -/
def packShH (op : FpOp) (m o : Reg) (i : BitVec 11) (n : Reg) (s : State) : Out State :=
  setHalf op (fun k => [lane16 (getReg s m) (shufLane i 9 k), lane16 (getReg s o) (shufLane i 10 k)]) n s
/-- R982 on Single lanes of pairs. -/
def packShX (op : FpOp) (m o : Pair) (i : BitVec 11) (n : Pair) (s : State) : Out State :=
  withPairs [m, o, n]
    (setSingleX op 1#8 (fun k => [lane32x (getPair s m) (shufLane i 9 k), lane32x (getPair s o) (shufLane i 10 k)]) n s)
/-- R983. -/
def execPaddshxX (m o : Pair) (i : BitVec 11) (n : Pair) (s : State) : Out State := packShX .add m o i n s
/-- R984. -/
def execPsubshxX (m o : Pair) (i : BitVec 11) (n : Pair) (s : State) : Out State := packShX .sub m o i n s
/-- R985. -/
def execPmulshxX (m o : Pair) (i : BitVec 11) (n : Pair) (s : State) : Out State := packShX .mul m o i n s
/-- R986. -/
def execPaddshH (m o : Reg) (i : BitVec 11) (n : Reg) (s : State) : Out State := packShH .add m o i n s
/-- R987. -/
def execPsubshH (m o : Reg) (i : BitVec 11) (n : Reg) (s : State) : Out State := packShH .sub m o i n s
/-- R988. -/
def execPmulshH (m o : Reg) (i : BitVec 11) (n : Reg) (s : State) : Out State := packShH .mul m o i n s

/-- Element k of Imm56fv: S.E5.F8 as a Half (R760). -/
def immHalf (i : BitVec 56) (k : Nat) : Half := slice i (14 * k) 14 ++ 0#2
/-- Element k of Imm48fv8sh: S.E5.F6 as a Half, and its selector (R760). -/
def immHalfSh (i : BitVec 56) (k : Nat) : Half := slice i (14 * k + 2) 12 ++ 0#4
def immSel (i : BitVec 56) (k : Nat) : Nat := (slice i (14 * k) 2).toNat

/-- R989. -/
def execPmacshHV (m : Reg) (i : BitVec 56) (n : Reg) (s : State) : Out State :=
  setHalf .mac (fun k => [lane16 (getReg s m) (immSel i k), immHalfSh i k, lane16 (getReg s n) k]) n s
/-- R990. -/
def execPmacshFV (m : Pair) (i : BitVec 56) (n : Pair) (s : State) : Out State :=
  withPairs [m, n] (setSingleX .mac 1#8
    (fun k => [lane32x (getPair s m) (immSel i k), halfToSingle (immHalfSh i k), lane32x (getPair s n) k]) n s)
/-- R991. -/
def execPaddHV (m : Reg) (i : BitVec 56) (n : Reg) (s : State) : Out State :=
  setHalf .add (fun k => [lane16 (getReg s m) k, immHalf i k]) n s
/-- R992. -/
def execPaddFV (m : Pair) (i : BitVec 56) (n : Pair) (s : State) : Out State :=
  withPairs [m, n] (setSingleX .add 1#8 (fun k => [lane32x (getPair s m) k, halfToSingle (immHalf i k)]) n s)
/-- R993. -/
def execPmulHV (m : Reg) (i : BitVec 56) (n : Reg) (s : State) : Out State :=
  setHalf .mul (fun k => [lane16 (getReg s m) k, immHalf i k]) n s
/-- R994. -/
def execPmulFV (m : Pair) (i : BitVec 56) (n : Pair) (s : State) : Out State :=
  withPairs [m, n] (setSingleX .mul 1#8 (fun k => [lane32x (getPair s m) k, halfToSingle (immHalf i k)]) n s)
/-- R995. -/
def execPaddshHV (m : Reg) (i : BitVec 56) (n : Reg) (s : State) : Out State :=
  setHalf .add (fun k => [lane16 (getReg s m) (immSel i k), immHalfSh i k]) n s
/-- R996. -/
def execPaddshFV (m : Pair) (i : BitVec 56) (n : Pair) (s : State) : Out State :=
  withPairs [m, n] (setSingleX .add 1#8
    (fun k => [lane32x (getPair s m) (immSel i k), halfToSingle (immHalfSh i k)]) n s)
/-- R997. -/
def execPmulshHV (m : Reg) (i : BitVec 56) (n : Reg) (s : State) : Out State :=
  setHalf .mul (fun k => [lane16 (getReg s m) (immSel i k), immHalfSh i k]) n s
/-- R998. -/
def execPmulshFV (m : Pair) (i : BitVec 56) (n : Pair) (s : State) : Out State :=
  withPairs [m, n] (setSingleX .mul 1#8
    (fun k => [lane32x (getPair s m) (immSel i k), halfToSingle (immHalfSh i k)]) n s)
/-- R999. -/
def execPmulF8H (m o n : Reg) (s : State) : Out State :=
  setHalf .mul (fun k => [fp8ToHalf (lane8 (getReg s m) k), fp8ToHalf (lane8 (getReg s o) k)]) n s
/-- R1000. -/
def execPmultxL (m : Pair) (i : Byte) (n : Pair) (s : State) : Out State :=
  withPairs [m, n] (retire (setPair s n (dwords4 fun k => tristate (sel2 i k) (lane32x (getPair s m) k))))
/-- R1001. -/
def execPmultW (m : Reg) (i : Byte) (n : Reg) (s : State) : Out State := vec1 (tristateWords i) m n s

end Sys2Proof.Machine
end

