-- ==== Sys2Proof/Machine/Blocks.lean ====
section
/-! DEFINITION. Pixel, texture-block and audio-block helpers (48_rgb_blocks.md; log 25). -/

namespace Sys2Proof.Machine

open Sys2Proof Sys2Proof.Config

/-! ### Pixel formats (R720 to R722): four components, blue 0, green 1, red 2, alpha 3 -/

/-- A 5-bit colour field expanded to 8 bits: 43210432. -/
def expand5 (c : BitVec 5) : Byte := c ++ slice c 2 3
/-- The 3-bit alpha of a translucent pixel, filled with zeroes. -/
def alpha3 (p : Half) : Byte := slice p 10 1 ++ slice p 5 1 ++ slice p 0 1 ++ 0#5
/-- Component k of an RGB555A pixel in 8 bits, read as opaque or as translucent. -/
def unpackAs (opaquePixel : Bool) (p : Half) (k : Nat) : Byte :=
  if k = 3 then (if opaquePixel then 0xFF#8 else alpha3 p) else expand5 (slice p (5 * k) 5)
/-- R721. -/
def unpack5 (p : Half) (k : Nat) : Byte := unpackAs (!bitAt p 15) p k
/-- R722, from 8-bit components. -/
def pack5 (c : Nat → Byte) : Half :=
  if slice (c 3) 4 4 == 0xF#4 then 0#1 ++ slice (c 2) 3 5 ++ slice (c 1) 3 5 ++ slice (c 0) 3 5
  else 1#1 ++ slice (c 2) 4 4 ++ slice (c 3) 7 1 ++ slice (c 1) 4 4 ++ slice (c 3) 6 1 ++ slice (c 0) 4 4 ++ slice (c 3) 5 1
/-- An 8-bit component doubled to 16 bits. -/
def twice8 (b : Byte) : Half := b ++ b

/-- R723: two pixels. -/
def execRgb5pck32 (m n : Reg) (s : State) : Out State :=
  vec1 (fun v => 0#32 ++ pack5 (fun k => lane8 v (4 + k)) ++ pack5 (fun k => lane8 v k)) m n s
/-- R724. -/
def execRgb5pck64 (m n : Reg) (s : State) : Out State :=
  vec1 (fun v => 0#48 ++ pack5 (fun k => slice (lane16 v k) 8 8)) m n s
/-- R725: two pixels. -/
def execRgb5upck32 (m n : Reg) (s : State) : Out State :=
  vec1 (fun v => bytes8 fun j => unpack5 (lane16 v (j / 4)) (j % 4)) m n s
/-- R726. -/
def execRgb5upck64 (m n : Reg) (s : State) : Out State :=
  vec1 (fun v => words4 fun k => twice8 (unpack5 (lane16 v 0) k)) m n s
/-- R727. -/
def execRgb32pck64 (m n : Reg) (s : State) : Out State := vec1 (fun v => bytes4 fun k => slice (lane16 v k) 8 8) m n s
/-- R728. -/
def execRgb32upck64 (m n : Reg) (s : State) : Out State := vec1 (fun v => words4 fun k => twice8 (lane8 v k)) m n s

/-! ### RGB555 vector helpers (R729 to R735) -/

/-- R729. -/
def execRgb5shr1 (m n : Reg) (s : State) : Out State := vec1 (fun v => (v >>> 1) &&& 0x3DEF3DEF3DEF3DEF#64) m n s

/-- Whether lane i is a darkest (or brightest) of the four (R730). -/
def lumaBest (bright : Bool) (v : Word) (i : Nat) : Bool :=
  (List.range 4).all fun j =>
    if bright then decide (rgb5Luma (lane16 v j) ≤ rgb5Luma (lane16 v i))
    else decide (rgb5Luma (lane16 v i) ≤ rgb5Luma (lane16 v j))
/-- The lane selected: Config's choice if it is one of the best, the first best otherwise (R730). -/
def lumaPick (bright : Bool) (v : Word) : Half :=
  let i := rgb5Tie bright v % 4
  if lumaBest bright v i then lane16 v i else lane16 v ((firstIdx (lumaBest bright v) 0 4).getD 0)
/-- R730: minimum in bits 31:16, maximum in 15:0. -/
def execRgb5minmax (m n : Reg) (s : State) : Out State := vec1 (fun v => 0#32 ++ lumaPick false v ++ lumaPick true v) m n s
/-- R731: four selectors enter at the bottom of Rn. -/
def execRgb5ccenc (m o n : Reg) (s : State) : Out State :=
  let px := getReg s m
  let ends := getReg s o
  let sel (k : Nat) : BitVec 2 := rgb5Classify (lane16 px k) (lane16 ends 1) (lane16 ends 0)
  retire (setReg s n (0#32 ++ slice (getReg s n) 0 24 ++ sel 3 ++ sel 2 ++ sel 1 ++ sel 0))
/-- The palette index, never of the form yyyy001x (R732). -/
def paletteIndex (p : Half) : Byte :=
  let b := rgb5ToIndex8 p
  if slice b 1 3 == 1#3 then b &&& 0xF1#8 else b
/-- R732. -/
def execRgb5pcki8 (m n : Reg) (s : State) : Out State := vec1 (fun v => bytes4 fun k => paletteIndex (lane16 v k)) m n s

/-- R734 on one pixel: TGRBGRBGRBGRBGRB. -/
def shuffle3 (w : Half) : Half :=
  let t (i : Nat) : BitVec 3 := slice w (5 + i) 1 ++ slice w (10 + i) 1 ++ slice w i 1
  slice w 15 1 ++ t 4 ++ t 3 ++ t 2 ++ t 1 ++ t 0
/-- R735: the inverse permutation. -/
def unshuffle3 (w : Half) : Half :=
  let f (j : Nat) : BitVec 5 := slice w (12 + j) 1 ++ slice w (9 + j) 1 ++ slice w (6 + j) 1 ++ slice w (3 + j) 1 ++ slice w j 1
  slice w 15 1 ++ f 1 ++ f 2 ++ f 0
/-- R734. -/
def execRgb5sh3 (m n : Reg) (s : State) : Out State := vec1 (map16 shuffle3) m n s
/-- R735. -/
def execRgb5ush3 (m n : Reg) (s : State) : Out State := vec1 (map16 unshuffle3) m n s

/-! ### RGB30A (R736 to R738) -/

/-- Component k (blue 0 to alpha 3) of an RGB30A value as a Half (R736, R737). -/
def rgb30Half (v : Word) (k : Nat) : Half :=
  let signed := bitAt v 30
  if bitAt v 31 then
    let lo := if k = 0 then 0 else if k = 1 then 7 else if k = 2 then 15 else 22
    let w := if k = 0 || k = 2 then 7 else 8
    let f := (slice v lo 8).toNat % 2 ^ w
    if signed then microToHalf (w - 5) (f % 2 == 1) (f / 2) else microToHalf (w - 4) false f
  else if k = 3 then 0x3C00#16
  else
    let f : BitVec 10 := slice v (10 * k) 10
    if signed then slice f 0 1 ++ slice f 1 9 ++ 0#6 else 0#1 ++ f ++ 0#5
/-- R737. -/
def execPldcm30ah (m n : Reg) (s : State) : Out State := vec1 (fun v => words4 (rgb30Half v)) m n s

/-- A Half in w bits of an E4 layout; free bits where the spec does not describe it (R738). -/
def halfToE4 (signed : Bool) (w : Nat) (h : Half) (free : Nat) : Nat :=
  let e := (slice h 10 5).toNat
  let k := if signed then w - 5 else w - 4
  if (bitAt h 15 && !signed) || ((e < 8 || 23 < e) && slice h 0 15 != 0#15) then free % 2 ^ w
  else if signed then 2 * halfToMicro k h + (bitAt h 15).toNat else halfToMicro k h
/-- A Half in a 10-bit field of the E5 layouts; free bits for a negative value in an unsigned one (R738). -/
def halfToE5 (signed : Bool) (h : Half) (free : Nat) : BitVec 10 :=
  if signed then slice h 6 9 ++ slice h 15 1 else if bitAt h 15 then BitVec.ofNat 10 free else slice h 5 10
/-- R738 in the layout of bits 31:30, `free` giving free bits for each component. -/
def packRgb30 (mode : BitVec 2) (v : Word) (free : Nat → Nat) : BitVec 32 :=
  let sg := bitAt mode 0
  if bitAt mode 1 then
    mode ++ BitVec.ofNat 8 (halfToE4 sg 8 (lane16 v 3) (free 3)) ++ BitVec.ofNat 7 (halfToE4 sg 7 (lane16 v 2) (free 2)) ++
      BitVec.ofNat 8 (halfToE4 sg 8 (lane16 v 1) (free 1)) ++ BitVec.ofNat 7 (halfToE4 sg 7 (lane16 v 0) (free 0))
  else
    mode ++ halfToE5 sg (lane16 v 2) (free 2) ++ halfToE5 sg (lane16 v 1) (free 1) ++ halfToE5 sg (lane16 v 0) (free 0)
/-- R738. -/
def execPstcm30ah (m n : Reg) (s : State) : Out State :=
  retire (setReg (drawnN 4 s) n (0#32 ++ packRgb30 rgb30aPackMode (getReg s m) (freeNat s)))

/-! ### Interpolation (R739, R741) -/

/-- One component of R739. -/
def blerp1 (a b t : Half) : Half := BitVec.ofNat 16 ((a.toNat * (0xFFFF - t.toNat) + b.toNat * t.toNat) / 2 ^ 16)
/-- R739: the interpolator is the old Rn[15:0]. -/
def execBlerp (m o n : Reg) (s : State) : Out State :=
  vec2 (mapWords fun a b => blerp1 a b (lane16 (getReg s n) 0)) m o n s
/-- R741: the interpolator is Word k of Rp. -/
def execBlerp4 (m o p : Reg) (k : BitVec 2) (n : Reg) (s : State) : Out State :=
  vec2 (mapWords fun a b => blerp1 a b (lane16 (getReg s p) k.toNat)) m o n s

/-! ### Block extraction (R740 to R748) -/

/-- 2/3 of the first and 1/3 of the second, between the two (R740). -/
def thirds (a b : Nat) : Nat := max (min a b) (min (max a b) (third a b))
/-- The 2-bit selector's blend of colours A and B. -/
def blend (sel : BitVec 2) (a b : Nat) : Nat :=
  match sel with
  | 0#2 => b | 1#2 => thirds b a | 2#2 => thirds a b | _ => a
/-- R740 with mode, index and selector taken out; the reserved mode is free. -/
def utx2 (v : Word) (i : Nat) (free : Word) : Word :=
  let a := lane16 v 0
  let b := lane16 v 1
  let sel : BitVec 2 := slice v (32 + 2 * i) 2
  let full (opq : Bool) (p : Half) (k : Nat) : Half := twice8 (unpackAs opq p k)
  let lin (opq : Bool) : Word := words4 fun k => BitVec.ofNat 16 (blend sel (full opq a k).toNat (full opq b k).toNat)
  match bitAt a 15, bitAt b 15 with
  | false, false => lin true
  | false, true =>
    words4 fun k => if k = 3 then full false (if bitAt sel 0 then a else b) 3 else full false (if bitAt sel 1 then a else b) k
  | true, false => free
  | true, true => lin false
/-- The pixel index of a block instruction. -/
def pixelIndex (s : State) (o : Reg) : Nat := (slice (getReg s o) 0 4).toNat
/-- R740. -/
def execBlkutx2 (m o n : Reg) (s : State) : Out State :=
  retire (setReg (drawn s) n (utx2 (getReg s m) (pixelIndex s o) (freeWord s)))

/-- A colour component of UTX1 from its centre and delta; free where an end point leaves 0 to 255 (R742). -/
def utx1Component (v : Word) (hi : Bool) (k : Nat) (free : Nat) : Half :=
  let d : Nat := 17 * (slice v 12 4).toNat
  let c : Nat := 17 * (slice v (4 * k) 4).toNat
  let cm : Int := (c : Int) - (d / 2 : Nat)
  if 0 ≤ cm ∧ cm + d ≤ 255 then twice8 (BitVec.ofInt 8 (if hi then cm + d else cm)) else BitVec.ofNat 16 free
/-- R742. -/
def execBlkutx1 (m o n : Reg) (s : State) : Out State :=
  let v := getReg s m
  let hi := bitAt v (16 + pixelIndex s o)
  retire (setReg (drawnN 3 s) n
    (0xFFFF#16 ++ utx1Component v hi 2 (freeNat s 2) ++ utx1Component v hi 1 (freeNat s 1) ++
      utx1Component v hi 0 (freeNat s 0)))

/-- Component k of a UTX3 pixel: colour selectors for 0 to 2, alpha's for 3 (R743). -/
def utx3 (f : BitVec 2 → Byte → Byte → Half) (x : Quad) (i : Nat) : Word :=
  words4 fun k => f (if k = 3 then slice x (96 + 2 * i) 2 else slice x (64 + 2 * i) 2) (slice x (8 * k) 8) (slice x (32 + 8 * k) 8)
/-- 2/3 of the first and 1/3 of the second of two FP8U end points, as a Half between the two end points widened: whether
the thirds are taken before or after the widening, and their rounding, are open, and the between-law is the one R740 states for
thirds (R743; log 25). No FP8U value is negative, so the Halves are ordered as their bits are. -/
def thirdsHdr (a b : Byte) : Half :=
  let x := (fp8uToHalf a).toNat
  let y := (fp8uToHalf b).toNat
  BitVec.ofNat 16 (max (min x y) (min (max x y) (utx3hInterp a b).toNat))
/-- HDR: FP8U end points (R743). -/
def blendHdr (sel : BitVec 2) (a b : Byte) : Half :=
  match sel with
  | 0#2 => fp8uToHalf b | 1#2 => thirdsHdr b a | 2#2 => thirdsHdr a b | _ => fp8uToHalf a
/-- LDR: 8-bit end points (R744). -/
def blendLdr (sel : BitVec 2) (a b : Byte) : Half := twice8 (BitVec.ofNat 8 (blend sel a.toNat b.toNat))
/-- R743. -/
def execBlkutx3h (m : Pair) (o n : Reg) (s : State) : Out State :=
  withPairs [m] (retire (setReg s n (utx3 blendHdr (getPair s m) (pixelIndex s o))))
/-- R744. -/
def execBlkutx3l (m : Pair) (o n : Reg) (s : State) : Out State :=
  withPairs [m] (retire (setReg s n (utx3 blendLdr (getPair s m) (pixelIndex s o))))
/-- R745. -/
def execBlkuvf1VL (m o n : Reg) (s : State) : Out State := vec2 (blkuvf1 0#2) m o n s
/-- R746. -/
def execBlkuvf1VH (m o n : Reg) (s : State) : Out State := vec2 (blkuvf1 1#2) m o n s
/-- R747. -/
def execBlkuvf1SL (m o n : Reg) (s : State) : Out State := vec2 (blkuvf1 2#2) m o n s
/-- R748. -/
def execBlkuvf1SH (m o n : Reg) (s : State) : Out State := vec2 (blkuvf1 3#2) m o n s

/-! ### Audio blocks (R749, R1002, R1003) -/

/-- R1002: the sample twice; bits 63:32 of Rm take no part. -/
def execBlkuab1 (m o n : Reg) (s : State) : Out State :=
  let v := uabDecode false (zext 32 (getReg s m)) (slice (getReg s o) 0 4)
  retire (setReg s n (0#32 ++ v ++ v))
/-- The left and right bias of a UAB2 block: zero for mono, what else the byte stands for is free (R1003; log 25). -/
def uab2Bias (b : Byte) : BitVec 16 := if b == 0#8 then 0#16 else uabBias b
/-- R1003: the sample of the block without its bias, less the bias on the right above, plus the bias on the left; a negative
sigma is reserved and leaves a free result. -/
def execBlkuab2 (m o n : Reg) (s : State) : Out State :=
  let b := getReg s m
  let v := uabDecode true (setSlice b 24 8 0#8) (slice (getReg s o) 0 4)
  let bias := uab2Bias (slice b 24 8)
  retire (setReg (drawn s) n (if bitAt b 23 then zext 32 (freeWord s) else 0#32 ++ (v - bias) ++ (v + bias)))

end Sys2Proof.Machine
end

