-- ==== Sys2Proof/Machine/Branch.lean ====
section
/-! DEFINITION. Branches, calls, returns and compare-and-branch (46_branch.md). -/

namespace Sys2Proof.Machine

open Sys2Proof

/-- The value a call stores in LR: {SR[15:4], SR[27:26], SR[1:0], npc} (R545). -/
def linkValue (s : State) : Word := slice s.sr 4 12 ++ slice s.sr 26 2 ++ slice s.sr 0 2 ++ s.npc
/-- SR with the user flags a link value holds (R550). -/
def restoreFlags (v : Word) (sr : Word) : Word :=
  setSlice (setSlice (setSlice sr 4 12 (slice v 52 12)) 26 2 (slice v 50 2)) 0 2 (slice v 48 2)
/-- The absolute target in a register (R544). -/
def absTarget (s : State) (n : Reg) : VAddr := slice (getReg s n) 0 48
/-- npc + 4 * Rn (R543). -/
def longTarget (s : State) (n : Reg) : VAddr := s.npc + 4#48 * slice (getReg s n) 0 48
/-- Write LR, then go to the target (R545). -/
def callTo (t : VAddr) (s : State) : Out State := jumpTo t (setLR s (linkValue s))
/-- PC <- target if the condition holds, npc otherwise. -/
def branchIf (b : Bool) (t : VAddr) (s : State) : Out State := if b then jumpTo t s else retire s
/-- PC and the user flags from a link value (R550). -/
def returnTo (v : Word) (s : State) : Out State := jumpTo (slice v 0 48) { s with sr := restoreFlags v s.sr }

/-- R546. -/
def execBra (t : Target) (s : State) : Out State := jumpTo (branchTarget s t) s
/-- R547: JMP DHR also restores the user flags, as RTS does. -/
def execJmp (n : Reg) (s : State) : Out State :=
  if n = dhr then returnTo (getReg s dhr) s else jumpTo (absTarget s n) s
/-- R563. -/
def execJmpAbs (a : BitVec 48) (s : State) : Out State := jumpTo a s
/-- R548. -/
def execBsr (t : Target) (s : State) : Out State := callTo (branchTarget s t) s
/-- R549. -/
def execJsr (n : Reg) (s : State) : Out State := callTo (absTarget s n) s
/-- R565. -/
def execJsrAbs (a : BitVec 48) (s : State) : Out State := callTo a s
/-- R550. -/
def execRts (s : State) : Out State := returnTo s.lr s
/-- R551: as RTS when LR is older than the window, refused inside it (70_reset_and_hazards.md R911). -/
def execRtsu (s : State) : Out State :=
  if Config.rtsuWindow < s.lrAge then returnTo s.lr s else .refused .rtsuWindow
/-- R552. -/
def execBt (t : Target) (s : State) : Out State := branchIf (srT s) (branchTarget s t) s
/-- R553. -/
def execBf (t : Target) (s : State) : Out State := branchIf (!srT s) (branchTarget s t) s
/-- R554. -/
def execJt (n : Reg) (s : State) : Out State := branchIf (srT s) (absTarget s n) s
/-- R555. -/
def execJf (n : Reg) (s : State) : Out State := branchIf (!srT s) (absTarget s n) s
/-- R556. -/
def execBraL (n : Reg) (s : State) : Out State := jumpTo (longTarget s n) s
/-- R557. -/
def execBsrL (n : Reg) (s : State) : Out State := callTo (longTarget s n) s
/-- R558. -/
def execBtL (n : Reg) (s : State) : Out State := branchIf (srT s) (longTarget s n) s
/-- R559. -/
def execBfL (n : Reg) (s : State) : Out State := branchIf (!srT s) (longTarget s n) s
/-- R561: the mode bits take effect with the jump; an undescribed mode is refused at the next fetch. -/
def execJmpmd (i : BitVec 4) (n : Reg) (s : State) : Out State :=
  jumpTo (absTarget s n) { s with sr := setModeSR s.sr i }
/-- R562. -/
def execJsrmd (i : BitVec 4) (n : Reg) (s : State) : Out State :=
  jumpTo (absTarget s n) { setLR s (linkValue s) with sr := setModeSR s.sr i }

/-! ### Compare with zero and branch (R564 to R569, R587 to R589) -/

/-- Taken iff cond(Rn). -/
def branchZ (cond : Word → Bool) (n : Reg) (d : Word) (s : State) : Out State :=
  branchIf (cond (getReg s n)) (branchTarget s (.disp d)) s
/-- R566. -/
def execBrEQL (n : Reg) (d : Word) (s : State) : Out State := branchZ (fun v => eq32 v 0#64) n d s
/-- R566. -/
def execBrEQQ (n : Reg) (d : Word) (s : State) : Out State := branchZ (fun v => eq64 v 0#64) n d s
/-- R567. -/
def execBrNEL (n : Reg) (d : Word) (s : State) : Out State := branchZ (fun v => !eq32 v 0#64) n d s
/-- R567. -/
def execBrNEQ (n : Reg) (d : Word) (s : State) : Out State := branchZ (fun v => !eq64 v 0#64) n d s
/-- R568. -/
def execBrLTL (n : Reg) (d : Word) (s : State) : Out State := branchZ (fun v => gt32 0#64 v) n d s
/-- R568. -/
def execBrLTQ (n : Reg) (d : Word) (s : State) : Out State := branchZ (fun v => gt64 0#64 v) n d s
/-- R569. -/
def execBrGEL (n : Reg) (d : Word) (s : State) : Out State := branchZ (fun v => ge32 v 0#64) n d s
/-- R569. -/
def execBrGEQ (n : Reg) (d : Word) (s : State) : Out State := branchZ (fun v => ge64 v 0#64) n d s
/-- R588. -/
def execBrLEL (n : Reg) (d : Word) (s : State) : Out State := branchZ (fun v => ge32 0#64 v) n d s
/-- R588. -/
def execBrLEQ (n : Reg) (d : Word) (s : State) : Out State := branchZ (fun v => ge64 0#64 v) n d s
/-- R589. -/
def execBrGTL (n : Reg) (d : Word) (s : State) : Out State := branchZ (fun v => gt32 v 0#64) n d s
/-- R589. -/
def execBrGTQ (n : Reg) (d : Word) (s : State) : Out State := branchZ (fun v => gt64 v 0#64) n d s

/-! ### Compare and branch (R570 to R586): cond(Rn, Rm) -/

/-- Taken iff cond(Rn, Rm). -/
def branchCmp (cond : Word → Word → Bool) (m n : Reg) (d : Word) (s : State) : Out State :=
  branchIf (cond (getReg s n) (getReg s m)) (branchTarget s (.disp d)) s
/-- R571. -/
def execJtstT (m n : Reg) (d : Word) (s : State) : Out State := branchCmp tst32 m n d s
/-- R572. -/
def execJtstQT (m n : Reg) (d : Word) (s : State) : Out State := branchCmp tst64 m n d s
/-- R573. -/
def execJtstF (m n : Reg) (d : Word) (s : State) : Out State := branchCmp (fun a b => !tst32 a b) m n d s
/-- R574. -/
def execJtstQF (m n : Reg) (d : Word) (s : State) : Out State := branchCmp (fun a b => !tst64 a b) m n d s
/-- R575. -/
def execJcmpGT (m n : Reg) (d : Word) (s : State) : Out State := branchCmp gt32 m n d s
/-- R576. -/
def execJcmpQGT (m n : Reg) (d : Word) (s : State) : Out State := branchCmp gt64 m n d s
/-- R577. -/
def execJcmpLE (m n : Reg) (d : Word) (s : State) : Out State := branchCmp (fun a b => !gt32 a b) m n d s
/-- R578. -/
def execJcmpQLE (m n : Reg) (d : Word) (s : State) : Out State := branchCmp (fun a b => !gt64 a b) m n d s
/-- R579. -/
def execJcmpHI (m n : Reg) (d : Word) (s : State) : Out State := branchCmp hi32 m n d s
/-- R580. -/
def execJcmpQHI (m n : Reg) (d : Word) (s : State) : Out State := branchCmp hi64 m n d s
/-- R581. -/
def execJcmpLS (m n : Reg) (d : Word) (s : State) : Out State := branchCmp (fun a b => !hi32 a b) m n d s
/-- R582. -/
def execJcmpQLS (m n : Reg) (d : Word) (s : State) : Out State := branchCmp (fun a b => !hi64 a b) m n d s
/-- R583. -/
def execJcmpEQ (m n : Reg) (d : Word) (s : State) : Out State := branchCmp eq32 m n d s
/-- R584. -/
def execJcmpQEQ (m n : Reg) (d : Word) (s : State) : Out State := branchCmp eq64 m n d s
/-- R585. -/
def execJcmpNE (m n : Reg) (d : Word) (s : State) : Out State := branchCmp (fun a b => !eq32 a b) m n d s
/-- R586. -/
def execJcmpQNE (m n : Reg) (d : Word) (s : State) : Out State := branchCmp (fun a b => !eq64 a b) m n d s

/-- The operators of R587, on 64 bits when q, on the low 32 otherwise. -/
def zCond (q : Bool) (c : ZCond) (v : Word) : Bool :=
  let w := if q then v else sext 32 v
  match c with
  | .eq => eq64 w 0#64
  | .ne => !eq64 w 0#64
  | .le => ge64 0#64 w
  | .gt => gt64 w 0#64
  | .lt => gt64 0#64 w
  | .ge => ge64 w 0#64
/-- R587. -/
def execJcmpz (q : Bool) (c : ZCond) (n : Reg) (d : Word) (s : State) : Out State := branchZ (zCond q c) n d s

end Sys2Proof.Machine
end

