-- ==== Sys2Proof/Machine/Compare.lean ====
section
/-! DEFINITION. Compares, tests and status-flag instructions (41_compare_flags.md). -/

namespace Sys2Proof.Machine

open Sys2Proof

/-- The one SR bit a compare writes (R260). -/
def setFlag (f : Flag) (b : Bool) (s : State) : State :=
  match f with
  | .t => setT s b
  | .s => setS s b
/-- flag <- op(Rn, source): the destination-position register is the left operand (R263). -/
def compare (op : Word → Word → Bool) (src : Src) (n : Reg) (f : Flag) (s : State) : Out State :=
  retire (setFlag f (op (getReg s n) (srcVal s src)) s)
/-- T <- op(Xn, Xm). -/
def comparePair (op : Quad → Quad → Bool) (m n : Pair) (s : State) : Out State :=
  withPairs [m, n] (retire (setT s (op (getPair s n) (getPair s m))))
/-- Rn <- op(Rm, source) ? 1 : 0 (R280). -/
def compareTo (op : Word → Word → Bool) (m : Reg) (src : Src) (n : Reg) (s : State) : Out State :=
  retire (setReg s n (boolWord (op (getReg s m) (srcVal s src))))

/-- R264. -/
def execCmpEQ (src : Src) (n : Reg) (f : Flag) (s : State) : Out State := compare eq32 src n f s
/-- R264 with E.i = 1: writes S. -/
def execCmpEQS (m n : Reg) (s : State) : Out State := compare eq32 (.reg m) n .s s
/-- R265. -/
def execCmpGT (src : Src) (n : Reg) (f : Flag) (s : State) : Out State := compare gt32 src n f s
/-- R265 with E.i = 1: writes S. -/
def execCmpGTS (m n : Reg) (s : State) : Out State := compare gt32 (.reg m) n .s s
/-- R266. -/
def execCmpHI (src : Src) (n : Reg) (f : Flag) (s : State) : Out State := compare hi32 src n f s
/-- R266 with E.i = 1: writes S. -/
def execCmpHIS (m n : Reg) (s : State) : Out State := compare hi32 (.reg m) n .s s
/-- R267. -/
def execCmpGE (src : Src) (n : Reg) (f : Flag) (s : State) : Out State := compare ge32 src n f s
/-- R267 with E.i = 1: writes S. -/
def execCmpGES (m n : Reg) (s : State) : Out State := compare ge32 (.reg m) n .s s
/-- R268. -/
def execCmpHS (src : Src) (n : Reg) (f : Flag) (s : State) : Out State := compare hs32 src n f s
/-- R268 with E.i = 1: writes S. -/
def execCmpHSS (m n : Reg) (s : State) : Out State := compare hs32 (.reg m) n .s s
/-- R269. -/
def execCmpQEQ (src : Src) (n : Reg) (f : Flag) (s : State) : Out State := compare eq64 src n f s
/-- R269 with E.i = 1: writes S. -/
def execCmpQEQS (m n : Reg) (s : State) : Out State := compare eq64 (.reg m) n .s s
/-- R270. -/
def execCmpQGT (src : Src) (n : Reg) (f : Flag) (s : State) : Out State := compare gt64 src n f s
/-- R270 with E.i = 1: writes S. -/
def execCmpQGTS (m n : Reg) (s : State) : Out State := compare gt64 (.reg m) n .s s
/-- R271. -/
def execCmpQHI (src : Src) (n : Reg) (f : Flag) (s : State) : Out State := compare hi64 src n f s
/-- R271 with E.i = 1: writes S. -/
def execCmpQHIS (m n : Reg) (s : State) : Out State := compare hi64 (.reg m) n .s s
/-- R272. -/
def execCmpQGE (src : Src) (n : Reg) (f : Flag) (s : State) : Out State := compare ge64 src n f s
/-- R272 with E.i = 1: writes S. -/
def execCmpQGES (m n : Reg) (s : State) : Out State := compare ge64 (.reg m) n .s s
/-- R275. -/
def execCmpQHS (src : Src) (n : Reg) (f : Flag) (s : State) : Out State := compare hs64 src n f s
/-- R275 with E.i = 1: writes S. -/
def execCmpQHSS (m n : Reg) (s : State) : Out State := compare hs64 (.reg m) n .s s
/-- R273. -/
def execTst (src : Src) (n : Reg) (f : Flag) (s : State) : Out State := compare tst32 src n f s
/-- R273 with E.i = 1: writes S. -/
def execTstS (m n : Reg) (s : State) : Out State := compare tst32 (.reg m) n .s s
/-- R274. -/
def execTstQ (src : Src) (n : Reg) (f : Flag) (s : State) : Out State := compare tst64 src n f s
/-- R274 with E.i = 1: writes S. -/
def execTstQS (m n : Reg) (s : State) : Out State := compare tst64 (.reg m) n .s s
/-- R276: equality of the 48-bit addresses. -/
def execCmpPEQ (m n : Reg) (s : State) : Out State := compare (fun a b => ptr48 a == ptr48 b) (.reg m) n .t s
/-- R277. -/
def execCmpPEQX (m n : Pair) (s : State) : Out State := comparePair (fun a b => ptr96 a == ptr96 b) m n s
/-- R278. -/
def execCmpPGT (m n : Reg) (s : State) : Out State :=
  compare (fun a b => decide ((ptr48 b).toNat < (ptr48 a).toNat)) (.reg m) n .t s
/-- R279. -/
def execCmpPGTX (m n : Pair) (s : State) : Out State :=
  comparePair (fun a b => decide ((ptr96 b).toNat < (ptr96 a).toNat)) m n s
/-- R280. -/
def execCmp3EQ (m : Reg) (src : Src) (n : Reg) (s : State) : Out State := compareTo eq64 m src n s
/-- R281. -/
def execCmp3GT (m : Reg) (src : Src) (n : Reg) (s : State) : Out State := compareTo gt64 m src n s
/-- R282. -/
def execCmp3NE (m : Reg) (src : Src) (n : Reg) (s : State) : Out State := compareTo (fun a b => !eq64 a b) m src n s
/-- R283. -/
def execCmp3LT (m : Reg) (v : Word) (n : Reg) (s : State) : Out State := compareTo (fun a b => gt64 b a) m (.imm v) n s
/-- R284. -/
def execCmp3GE (m o n : Reg) (s : State) : Out State := compareTo ge64 m (.reg o) n s
/-- R285. -/
def execCmp3HI (m : Reg) (v : Word) (n : Reg) (s : State) : Out State := compareTo hi64 m (.imm v) n s
/-- R286: unsigned below. -/
def execCmp3BI (m : Reg) (v : Word) (n : Reg) (s : State) : Out State := compareTo (fun a b => hi64 b a) m (.imm v) n s

/-! ### Flag set, clear, invert (R290 to R295) -/

/-- R290. -/
def execClrT (s : State) : Out State := retire (setT s false)
/-- R291. -/
def execSetT (s : State) : Out State := retire (setT s true)
/-- R292. -/
def execClrS (s : State) : Out State := retire (setS s false)
/-- R293. -/
def execSetS (s : State) : Out State := retire (setS s true)
/-- R294. -/
def execNotT (s : State) : Out State := retire (setT s (!srT s))
/-- R295. -/
def execNotS (s : State) : Out State := retire (setS s (!srS s))

/-! ### Predicate stack (R296 to R298) -/

/-- R296. -/
def execSrtprop (i : BitVec 5) (s : State) : Out State :=
  let r := srtpropFlags i (srT s) (srU s)
  retire (setU (setT s r.1) r.2)
/-- R297; the IF/ELSE commands 0E to 17 are refused (R298), the others undefined encodings. -/
def execSrttwid (i : BitVec 5) (s : State) : Out State :=
  match srttwidFlags i (srT s) (srU s) with
  | some r => retire (setU (setT s r.1) r.2)
  | none => if decide (0xE ≤ i.toNat) && decide (i.toNat ≤ 0x17) then .refused .srttwid else raise .undefinedInstruction s

/-- R300. -/
def execMovT (n : Reg) (s : State) : Out State := retire (setReg s n (boolWord (srT s)))
/-- R300. -/
def execMovNT (n : Reg) (s : State) : Out State := retire (setReg s n (boolWord (!srT s)))

end Sys2Proof.Machine
end

