-- ==== Sys2Proof/Machine/Fpu.lean ====
section
/-! DEFINITION. Scalar floating point, multiply-accumulate and packed conversions (49_gfp.md). -/

namespace Sys2Proof.Machine

open Sys2Proof Sys2Proof.Config

/-! ### Shared forms -/

/-- The value of a floating-point second operand. -/
def fsrcVal (s : State) : FSrc → Word
  | .reg r => getReg s r
  | .imm v => v
/-- FPSCR[3:0] as a rounding mode (R782; 10_state.md R34). -/
def fpscrMode (s : State) : Byte := (slice s.gbr 48 4 : BitVec 4).setWidth 8
/-- Rn <- fpElem in a listed mode; one free value is read. -/
def fpTo (dst src : FpFmt) (op : FpOp) (rm : Byte) (ins : List Nat) (place : Nat → Word) (n : Reg) (s : State) :
    Out State :=
  withRounding rm <|
    let r := fpElemFrom src dst op rm ins (freeNat s 0)
    retire (fpSticky (fpStatusOf src op ins r) (setReg (drawn s) n (place r)))
/-- A Binary64 operation. -/
def fpD (op : FpOp) (rm : Byte) (ins : List Word) (n : Reg) (s : State) : Out State :=
  fpTo .double .double op rm (ins.map BitVec.toNat) (BitVec.ofNat 64) n s
/-- A LongDouble operation (R785); two free values are read. -/
def fpX (op : FpOp) (rm : Byte) (ins : List Quad) (n : Pair) (s : State) : Out State :=
  withRounding rm <|
    let raw := ins.map BitVec.toNat
    let r := fpElem .long op rm raw (freeQuad s).toNat
    retire (fpSticky (fpStatusOf .long op raw r) (setPair (drawn2 s) n (BitVec.ofNat 128 r)))
def fp2 (op : FpOp) (rm : Byte) (m : Reg) (b : FSrc) (n : Reg) (s : State) : Out State :=
  fpD op rm [getReg s m, fsrcVal s b] n s
def fp2x (op : FpOp) (rm : Byte) (m o n : Pair) (s : State) : Out State :=
  withPairs [m, o, n] (fpX op rm [getPair s m, getPair s o] n s)

/-! ### Sign, minimum, maximum (R790 to R801) -/

/-- R790. -/
def execFabs (m n : Reg) (s : State) : Out State := vec1 (fun v => v &&& 0x7FFFFFFFFFFFFFFF#64) m n s
/-- R791. -/
def execFneg (m n : Reg) (s : State) : Out State := vec1 (fun v => v ^^^ 0x8000000000000000#64) m n s
/-- NaN: exponent all ones, significant fraction bits not all zero (R785, R831). -/
def isNaN (f : Fmt) (v : Nat) : Bool := fpSpecial f v && fpFrac f v != 0
/-- R800: which operand is the smaller; free with a NaN and between zeros. DESIGN CHOICE (log 22): an infinity, of which
R800 does not speak, stands beyond every finite value of its sign. -/
def fpLess (a b : Word) (free : Bool) : Bool :=
  let f := fmtOf .double
  if isNaN f a.toNat || isNaN f b.toNat || (fpZero f a.toNat && fpZero f b.toNat) then free
  else decide (fpKey f a.toNat < fpKey f b.toNat)
/-- R800. -/
def execFmin (m o n : Reg) (s : State) : Out State :=
  let a := getReg s m
  let b := getReg s o
  retire (setReg (drawn s) n (if fpLess a b (freeBit s) then a else b))
/-- R801. -/
def execFmax (m o n : Reg) (s : State) : Out State :=
  let a := getReg s m
  let b := getReg s o
  retire (setReg (drawn s) n (if fpLess a b (freeBit s) then b else a))

/-! ### Add, subtract, multiply (R792 to R828) -/

/-- R793; Op64 R803. -/
def execFadd (m : Reg) (b : FSrc) (n : Reg) (r : Byte) (s : State) : Out State := fp2 .add r m b n s
/-- R794. -/
def execFaddx (m o n : Pair) (r : Byte) (s : State) : Out State := fp2x .add r m o n s
/-- R795. -/
def execFaddg (m o n : Reg) (s : State) : Out State := fp2 .add (fpscrMode s) m (.reg o) n s
/-- R796. -/
def execFadda (m : Reg) (b : FSrc) (n : Reg) (s : State) : Out State := fp2 .add faddaMode m b n s
/-- R808. -/
def execFsub (m : Reg) (b : FSrc) (n : Reg) (r : Byte) (s : State) : Out State := fp2 .sub r m b n s
/-- R809. -/
def execFsubx (m o n : Pair) (r : Byte) (s : State) : Out State := fp2x .sub r m o n s
/-- R810. -/
def execFsubg (m o n : Reg) (s : State) : Out State := fp2 .sub (fpscrMode s) m (.reg o) n s
/-- R811. -/
def execFsuba (m o n : Reg) (s : State) : Out State := fp2 .sub faddaMode m (.reg o) n s
/-- R816. -/
def execFmul (m : Reg) (b : FSrc) (n : Reg) (r : Byte) (s : State) : Out State := fp2 .mul r m b n s
/-- R817. -/
def execFmulx (m o n : Pair) (r : Byte) (s : State) : Out State := fp2x .mul r m o n s
/-- R818. -/
def execFmulg (m o n : Reg) (s : State) : Out State := fp2 .mul (fpscrMode s) m (.reg o) n s
/-- R819. -/
def execFmula (m : Reg) (b : FSrc) (n : Reg) (s : State) : Out State := fp2 .mul faddaMode m b n s

/-! ### Compares (R829 to R845) -/

/-- A NaN for certain: the top four fraction bits are not all zero (R780, R830). -/
def sureNaN (f : Fmt) (v : Nat) : Bool := fpSpecial f v && v % 2 ^ f.frac / 2 ^ (f.frac - 4) != 0
/-- T of FCMPEQ: cleared by a NaN, free where only low fraction bits say so (R830); denormals as in `fpGreater`. -/
def fpEqual (n : FpFmt) (a b : Nat) (free : Bool) : Bool :=
  let f := fmtOf n
  if sureNaN f a || sureNaN f b then false
  else if isNaN f a || isNaN f b then free
  else fpCut f a == fpCut f b || (Config.fcmpZeroEq && fpZero f a && fpZero f b)
/-- T of FCMPGT and FCMPGE: free with a NaN (R837, R841). DESIGN CHOICE (log 22): of the two behaviours R780 allows a non-zero
denormal, a compare takes the tiny non-zero value, the one its bits stand for, which orders as such and never equals zero. -/
def fpGreater (n : FpFmt) (orEqual : Bool) (a b : Nat) (free : Bool) : Bool :=
  let f := fmtOf n
  if isNaN f a || isNaN f b then free
  else if orEqual then decide (fpKey f b ≤ fpKey f a) else decide (fpKey f b < fpKey f a)
/-- T <- a relation on Rn and a second operand. -/
def fcmp (rel : Nat → Nat → Bool → Bool) (v : Word) (n : Reg) (s : State) : Out State :=
  retire (setT (drawn s) (rel (getReg s n).toNat v.toNat (freeBit s)))
def fcmpX (rel : Nat → Nat → Bool → Bool) (m n : Pair) (s : State) : Out State :=
  withPairs [m, n] (retire (setT (drawn s) (rel (getPair s n).toNat (getPair s m).toNat (freeBit s))))
/-- R830. -/
def execFcmpEQ (b : FSrc) (n : Reg) (s : State) : Out State := fcmp (fpEqual .double) (fsrcVal s b) n s
/-- R831. -/
def execFcmpXEQ (m n : Pair) (s : State) : Out State := fcmpX (fpEqual .long) m n s
/-- R837. -/
def execFcmpGE (v : Word) (n : Reg) (s : State) : Out State := fcmp (fpGreater .double true) v n s
/-- R841. -/
def execFcmpGT (b : FSrc) (n : Reg) (s : State) : Out State := fcmp (fpGreater .double false) (fsrcVal s b) n s
/-- R842. -/
def execFcmpXGT (m n : Pair) (s : State) : Out State := fcmpX (fpGreater .long false) m n s

/-! ### Divide and square root (R846 to R849, R1042 to R1045) -/

/-- R846. -/
def execFdiv (m o n : Reg) (s : State) : Out State := fp2 .div 0#8 m (.reg o) n s
/-- R847. -/
def execFdivx (m o n : Pair) (s : State) : Out State := fp2x .div 0#8 m o n s
/-- R848. -/
def execFdiva (m o n : Reg) (s : State) : Out State := vec2 fdivApprox m o n s
/-- A LongDouble with the bits no operation reads or writes cleared (R785). -/
def cutX (q : Quad) : Quad := BitVec.ofNat 128 (fpCut (fmtOf .long) q.toNat)
/-- R849. -/
def execFdivxa (m o n : Pair) (s : State) : Out State :=
  withPairs [m, o, n] (retire (setPair s n (cutX (fdivApproxX (cutX (getPair s m)) (cutX (getPair s o))))))
/-- The sign of the input over the magnitude of a result (R1042). -/
def signed64 (v r : Word) : Word := slice v 63 1 ++ slice r 0 63
def signed128 (v r : Quad) : Quad := slice v 127 1 ++ slice r 0 127
/-- R1042. -/
def execFsqrt (m n : Reg) (s : State) : Out State :=
  let v := getReg s m
  fpTo .double .double .sqrt 0#8 [(v &&& 0x7FFFFFFFFFFFFFFF#64).toNat] (fun r => signed64 v (BitVec.ofNat 64 r)) n s
/-- R1043. -/
def execFsqrtx (m n : Pair) (s : State) : Out State :=
  let v := getPair s m
  withPairs [m, n] <|
    let raw := [(signed128 0#128 v).toNat]
    let r := fpElem .long .sqrt 0#8 raw (freeQuad s).toNat
    retire (fpSticky (fpStatusOf .long .sqrt raw r) (setPair (drawn2 s) n (signed128 v (BitVec.ofNat 128 r))))
/-- R1044. -/
def execFsqrta (m n : Reg) (s : State) : Out State := vec1 (fun v => signed64 v (fsqrtApprox v)) m n s
/-- R1045. -/
def execFsqrtxa (m n : Pair) (s : State) : Out State :=
  withPairs [m, n] (retire (setPair s n (signed128 (getPair s m) (cutX (fsqrtApproxX (cutX (getPair s m)))))))

/-! ### Load and store conversions (R1010 to R1023, R1046 to R1050) -/

/-- Widen to Binary64 (R786). -/
def singleToDouble (v : BitVec 32) : Word := BitVec.ofNat 64 (fpWiden .single .double v.toNat)
def halfToDouble (v : Half) : Word := BitVec.ofNat 64 (fpWiden .half .double v.toNat)
/-- A half with 24 more fraction bits below it, exactly (R783; log 17). -/
def longHalf (i : BitVec 40) : Word :=
  halfToDouble (slice i 24 16) ||| (if slice i 34 5 == 0#5 then 0#64 else (slice i 0 24).setWidth 64 <<< 18)
/-- R1011. -/
def execFldcf (m n : Reg) (s : State) : Out State := vec1 (fun v => singleToDouble (lane32 v 0)) m n s
/-- R1012. -/
def execFldchf (m n : Reg) (s : State) : Out State := vec1 (fun v => singleToDouble (lane32 v 1)) m n s
/-- Rn <- an integer as a double (R1013, R1015). -/
def intToDouble (op : FpOp) (raw : Word) (z : Int) (n : Reg) (s : State) : Out State :=
  let r := fpFromInt .double op raw.toNat z (freeNat s 0)
  retire (fpSticky (Config.fpStatus op [raw.toNat] r) (setReg (drawn s) n (BitVec.ofNat 64 r)))
/-- R1013. -/
def execFldci (m n : Reg) (s : State) : Out State := intToDouble .fromInt (getReg s m) (getReg s m).toInt n s
/-- R1014. -/
def execFldch (m n : Reg) (s : State) : Out State := vec1 (fun v => halfToDouble (lane16 v 0)) m n s
/-- R1015. -/
def execFldciu (m n : Reg) (s : State) : Out State := intToDouble .fromUInt (getReg s m) (getReg s m).toNat n s
/-- R1016: exact. -/
def execFldcisL (m n : Reg) (s : State) : Out State :=
  vec1 (fun v => BitVec.ofNat 64 (fpExactInt .double (lane32 v 0).toInt)) m n s
/-- R1017: exact. -/
def execFldciuL (m n : Reg) (s : State) : Out State :=
  vec1 (fun v => BitVec.ofNat 64 (fpExactInt .double (lane32 v 0).toNat)) m n s
/-- R1020: Imm16, with what a prefix or XG2 adds below it. -/
def execFldchImm (i : BitVec 40) (n : Reg) (s : State) : Out State := retire (setReg s n (longHalf i))
/-- R1022. -/
def execFldcfImm (i : BitVec 32) (n : Reg) (s : State) : Out State := retire (setReg s n (singleToDouble i))
/-- R1047. -/
def execFstcf (m n : Reg) (s : State) : Out State :=
  fpTo .single .double .convert 0#8 [(getReg s m).toNat] (fun r => 0#32 ++ BitVec.ofNat 32 r) n s
/-- R1048. -/
def execFstchf (m n : Reg) (s : State) : Out State :=
  fpTo .single .double .convert 0#8 [(getReg s m).toNat] (fun r => BitVec.ofNat 32 r ++ lane32 (getReg s n) 0) n s
/-- R1049: truncation; out of range, a denormal, NaN and Inf give a free value. -/
def execFstci (m n : Reg) (s : State) : Out State :=
  let f := fmtOf .double
  let v := (getReg s m).toNat
  let z := dyadicTrunc (dyadicOf f v)
  if fpSpecial f v || fpDenormal f v || decide (2 ^ 63 ≤ z.natAbs) then retire (setReg (drawn s) n (freeWord s))
  else retire (setReg s n (BitVec.ofInt 64 z))
/-- R1050. -/
def execFstch (m n : Reg) (s : State) : Out State :=
  fpTo .half .double .convert 0#8 [(getReg s m).toNat] (fun r => 0#48 ++ BitVec.ofNat 16 r) n s

/-! ### Multiply-accumulate (R1024 to R1041) -/

def fp3 (op : FpOp) (m o p n : Reg) (s : State) : Out State := fpD op 0#8 [getReg s m, getReg s o, getReg s p] n s
def fp3x (op : FpOp) (m o p n : Pair) (s : State) : Out State :=
  withPairs [m, o, p, n] (fpX op 0#8 [getPair s m, getPair s o, getPair s p] n s)
def pmacH (op : FpOp) (m o p n : Reg) (s : State) : Out State :=
  setHalf op (fun k => [lane16 (getReg s m) k, lane16 (getReg s o) k, lane16 (getReg s p) k]) n s
def pmacF (op : FpOp) (m o p n : Pair) (s : State) : Out State :=
  withPairs [m, o, p, n]
    (setSingleX op 1#8 (fun k => [lane32x (getPair s m) k, lane32x (getPair s o) k, lane32x (getPair s p) k]) n s)
/-- R1024, R1026. -/
def execFmac (m o p n : Reg) (s : State) : Out State := fp3 .mac m o p n s
/-- R1025, R1027. -/
def execFmacx (m o p n : Pair) (s : State) : Out State := fp3x .mac m o p n s
/-- R1028. -/
def execFmas (m o p n : Reg) (s : State) : Out State := fp3 .mas m o p n s
/-- R1029. -/
def execFmasx (m o p n : Pair) (s : State) : Out State := fp3x .mas m o p n s
/-- R1030. -/
def execFmrs (m o p n : Reg) (s : State) : Out State := fp3 .mrs m o p n s
/-- R1031. -/
def execFmrsx (m o p n : Pair) (s : State) : Out State := fp3x .mrs m o p n s
/-- R1032. -/
def execFmra (m o p n : Reg) (s : State) : Out State := fp3 .mra m o p n s
/-- R1033. -/
def execFmrax (m o p n : Pair) (s : State) : Out State := fp3x .mra m o p n s
/-- R1034. -/
def execPmacH (m o p n : Reg) (s : State) : Out State := pmacH .mac m o p n s
/-- R1035. -/
def execPmacF (m o p n : Pair) (s : State) : Out State := pmacF .mac m o p n s
/-- R1036. -/
def execPmasH (m o p n : Reg) (s : State) : Out State := pmacH .mas m o p n s
/-- R1037. -/
def execPmasF (m o p n : Pair) (s : State) : Out State := pmacF .mas m o p n s
/-- R1038. -/
def execPmrsH (m o p n : Reg) (s : State) : Out State := pmacH .mrs m o p n s
/-- R1039. -/
def execPmrsF (m o p n : Pair) (s : State) : Out State := pmacF .mrs m o p n s
/-- R1040. -/
def execPmraH (m o p n : Reg) (s : State) : Out State := pmacH .mra m o p n s
/-- R1041. -/
def execPmraF (m o p n : Pair) (s : State) : Out State := pmacF .mra m o p n s

/-! ### PCONV (R833, R834; log 44) -/

/-- The kinds of element a type code names. -/
inductive ElemKind where
  | float (f : FpFmt)
  | sint
  | uint
  | unit
deriving DecidableEq, Repr
/-- The kind and width of a type code; none for the codes marked '-'. -/
def elemKind (c : BitVec 4) : Option (ElemKind × Nat) :=
  match c with
  | 0#4 => some (.float .half, 16) | 1#4 => some (.float .single, 32) | 2#4 => some (.float .double, 64)
  | 3#4 => some (.float .long, 128) | 4#4 => some (.sint, 16) | 5#4 => some (.sint, 32) | 6#4 => some (.sint, 64)
  | 8#4 => some (.unit, 16) | 9#4 => some (.unit, 32) | 10#4 => some (.unit, 64) | 12#4 => some (.uint, 16)
  | 13#4 => some (.uint, 32) | 14#4 => some (.uint, 64) | _ => none
/-- The integer value of an element. -/
def elemInt (signed : Bool) (w v : Nat) : Int := if signed && 2 ^ (w - 1) ≤ v then (v : Int) - 2 ^ w else v
/-- The operation of R781 a conversion of an element makes. -/
def convOp (sk : ElemKind) : FpOp := match sk with | .float _ => .convert | .sint => .fromInt | _ => .fromUInt
/-- One element converted: floats widen or narrow, a float becomes the integer on one of its two sides modulo the
width, unit types are Config's. -/
def convElem (src dst : BitVec 4) (sk : ElemKind) (sw : Nat) (dk : ElemKind) (dw : Nat) (v free : Nat) : Nat :=
  match sk, dk with
  | .unit, _ => Config.pconvUnit src dst v
  | _, .unit => Config.pconvUnit src dst v
  | .float a, .float b => if sw ≤ dw then fpWiden a b v else fpElemFrom a b .convert 0#8 [v] free
  | .float a, _ =>
    let d := dyadicOf (fmtOf a) v
    let z := dyadicTrunc d
    let away := if (dyadicAdd (dyadicInt z 0) (dyadicNeg d)).m == 0 then 0 else free % 2
    if fpSpecial (fmtOf a) v || fpDenormal (fmtOf a) v then free
    else ((z + (if d.neg then -1 else 1) * (away : Int)) % 2 ^ dw).toNat
  | k, .float b => fpFromInt b (convOp k) v (elemInt (k == .sint) sw v) free
  | k, _ => (elemInt (k == .sint) sw v % 2 ^ dw).toNat
/-- The elements of a vector of some width, over the free bits of the rest. -/
def convLanes (src dst : BitVec 4) (bits : Nat) (v free : Nat) : Option Nat :=
  match elemKind src, elemKind dst with
  | some (sk, sw), some (dk, dw) =>
    let c := min (bits / sw) (bits / dw)
    if c = 0 || 4 < c then none
    else
      some ((List.range c).foldl
        (fun acc k => acc + convElem src dst sk sw dk dw (v / 2 ^ (sw * k) % 2 ^ sw) (free / 2 ^ (dw * k)) % 2 ^ dw * 2 ^ (dw * k))
        (free % 2 ^ bits / 2 ^ (dw * c) * 2 ^ (dw * c)))
  | _, _ => none
/-- R833. -/
def execPconv (m : Reg) (i : Byte) (n : Reg) (s : State) : Out State :=
  match convLanes (slice i 0 4) (slice i 4 4) 64 (getReg s m).toNat (freeNat s 0) with
  | some r => retire (setReg (drawn s) n (BitVec.ofNat 64 r))
  | none => raise .undefinedInstruction s
/-- R834. -/
def execPconvx (m : Pair) (i : Byte) (n : Pair) (s : State) : Out State :=
  withPairs [m, n] <|
    match convLanes (slice i 0 4) (slice i 4 4) 128 (getPair s m).toNat (freeQuad s).toNat with
    | some r => retire (setPair (drawn2 s) n (BitVec.ofNat 128 r))
    | none => raise .undefinedInstruction s

/-! ### PCVT (R1051 to R1069) -/

/-- Half lanes from bytes starting at byte b: exponent pattern e, the byte under a mask in the fraction. -/
def byteToHalf (e : Half) (x : Byte) (b : Nat) (v : Word) : Word :=
  words4 fun k => e ||| ((lane8 v (b + k) ^^^ x).setWidth 16 <<< 2)
/-- Single lanes from Words starting at Word b. -/
def wordToSingle (e : BitVec 32) (x : Half) (b : Nat) (v : Word) : Word :=
  words2 fun k => e ||| ((lane16 v (b + k) ^^^ x).setWidth 32 <<< 7)
/-- R1052. -/
def execPcvtSB2HL (m n : Reg) (s : State) : Out State := vec1 (byteToHalf 0x4000#16 0x80#8 0) m n s
/-- R1053. -/
def execPcvtUB2HL (m n : Reg) (s : State) : Out State := vec1 (byteToHalf 0x3C00#16 0#8 0) m n s
/-- R1054. -/
def execPcvtSB2HH (m n : Reg) (s : State) : Out State := vec1 (byteToHalf 0x4000#16 0x80#8 4) m n s
/-- R1055. -/
def execPcvtUB2HH (m n : Reg) (s : State) : Out State := vec1 (byteToHalf 0x3C00#16 0#8 4) m n s
/-- R1056. -/
def execPcvtSW2FL (m n : Reg) (s : State) : Out State := vec1 (wordToSingle 0x40000000#32 0x8000#16 0) m n s
/-- R1057. -/
def execPcvtUW2FL (m n : Reg) (s : State) : Out State := vec1 (wordToSingle 0x3F800000#32 0#16 0) m n s
/-- R1058. -/
def execPcvtSW2FH (m n : Reg) (s : State) : Out State := vec1 (wordToSingle 0x40000000#32 0x8000#16 2) m n s
/-- R1059. -/
def execPcvtUW2FH (m n : Reg) (s : State) : Out State := vec1 (wordToSingle 0x3F800000#32 0#16 2) m n s
/-- R1060. -/
def execPcvtH2SB (m n : Reg) (s : State) : Out State :=
  vec1 (fun v => bytes4 fun k => slice (lane16 v k) 2 8 ^^^ 0x80#8) m n s
/-- R1061. -/
def execPcvtH2UB (m n : Reg) (s : State) : Out State := vec1 (fun v => bytes4 fun k => slice (lane16 v k) 2 8) m n s
/-- R1062. -/
def execPcvtSW2H (m n : Reg) (s : State) : Out State :=
  vec1 (map16 fun w => 0x4000#16 ||| ((w ^^^ 0x8000#16) >>> 6)) m n s
/-- R1063. -/
def execPcvtUW2H (m n : Reg) (s : State) : Out State := vec1 (map16 fun w => 0x3C00#16 ||| (w >>> 6)) m n s
/-- R1064. -/
def execPcvtF2SW (m n : Reg) (s : State) : Out State :=
  vec1 (fun v => 0#32 ++ (slice (lane32 v 1) 7 16 ^^^ 0x8000#16) ++ (slice (lane32 v 0) 7 16 ^^^ 0x8000#16)) m n s
/-- R1065. -/
def execPcvtF2UW (m n : Reg) (s : State) : Out State :=
  vec1 (fun v => 0#32 ++ slice (lane32 v 1) 7 16 ++ slice (lane32 v 0) 7 16) m n s
/-- R1066. -/
def execPcvtH2SW (m n : Reg) (s : State) : Out State := vec1 (map16 fun w => (w <<< 6) ^^^ 0x8000#16) m n s
/-- R1067. -/
def execPcvtH2UW (m n : Reg) (s : State) : Out State := vec1 (map16 fun w => w <<< 6) m n s
/-- R1068: S.E3.F4; the lowest binade is Config's. -/
def halfToALaw (h : Half) : Byte :=
  let e := (slice h 10 5).toNat
  if 15 ≤ e then slice h 15 1 ++ 0x7F#7
  else if e < 7 then (if Config.alawTinySigned then slice h 15 1 ++ 0#7 else 0#8)
  else if e = 7 then Config.alawEncodeLow h
  else slice h 15 1 ++ BitVec.ofNat 3 (e - 7) ++ slice h 6 4
/-- R1068. -/
def execPcvtH2AL (m n : Reg) (s : State) : Out State := vec1 (fun v => bytes4 fun k => halfToALaw (lane16 v k)) m n s
/-- R1069. -/
def aLawToHalf (b : Byte) : Half :=
  let e := (slice b 4 3).toNat
  if e = 0 then Config.alawDecodeLow b else slice b 7 1 ++ BitVec.ofNat 5 (e + 7) ++ slice b 0 4 ++ 0#6
/-- R1069. -/
def execPcvtAL2H (m n : Reg) (s : State) : Out State := vec1 (fun v => words4 fun k => aLawToHalf (lane8 v k)) m n s

end Sys2Proof.Machine
end

