-- ==== Sys2Proof/Machine/LoadImm.lean ====
section
/-! DEFINITION. Load-immediate instructions (43_load_immediate.md). The immediates of LDIZ, LDIN and LDI are held
already extended (R390). -/

namespace Sys2Proof.Machine

open Sys2Proof

/-- Rn <- v. -/
def loadImm (n : Reg) (v : Word) (s : State) : Out State := retire (setReg s n v)

/-- R391, R394. -/
def execLdiz (v : Word) (n : Reg) (s : State) : Out State := loadImm n v s
/-- R392, R395. -/
def execLdin (v : Word) (n : Reg) (s : State) : Out State := loadImm n v s
/-- R393. -/
def execLdi8 (v : Word) (n : Reg) (s : State) : Out State := loadImm n v s
/-- R396. -/
def execLdi64 (v : Word) (n : Reg) (s : State) : Out State := loadImm n v s
/-- R397: the immediate as the decoder zero-extends it. -/
def execLdimiz (v : Word) (n : Reg) (s : State) : Out State := loadImm n (v <<< 16) s
/-- R398: the immediate as the decoder one-extends it. -/
def execLdimin (v : Word) (n : Reg) (s : State) : Out State := loadImm n (v <<< 16) s
/-- R399. -/
def execLdish (v : Word) (n : Reg) (s : State) : Out State := loadImm n ((getReg s n <<< 8) ||| v) s
/-- R400. -/
def execLdihi (v : Word) (n : Reg) (s : State) : Out State := loadImm n (v <<< 22) s
/-- R400, Jumbo. -/
def execLdihiL (i : BitVec 32) (n : Reg) (s : State) : Out State := loadImm n (i.setWidth 64 <<< 16) s
/-- R401. -/
def execLdihiq (v : Word) (n : Reg) (s : State) : Out State := loadImm n (v <<< 54) s
/-- R401, Jumbo. -/
def execLdihiQ (i : BitVec 32) (n : Reg) (s : State) : Out State := loadImm n (i.setWidth 64 <<< 32) s
/-- R402. -/
def execLdish16 (v : Word) (n : Reg) (s : State) : Out State := loadImm n ((getReg s n <<< 16) ||| v) s

/-- Value and rotation of a rotated immediate on w bits: the step is 2 or 4 bits, ones above when `ones` (R412).
DESIGN CHOICE (log 17): the 25 bits of the Jumbo form of LDIRON and LDIRONQ have ones above them, as the 6 bits of the base form
have by R414 and R415. -/
def rotImmValue (w step : Nat) (ones : Bool) : RotImm → BitVec w
  | .short i =>
    let v : BitVec w := (if ones then BitVec.allOnes w <<< 6 else 0#w) ||| (slice i 4 6).setWidth w
    v.rotateLeft ((step * (slice i 0 4).toNat) % w)
  | .jumbo i =>
    let v : BitVec w := (if ones then BitVec.allOnes w <<< 25 else 0#w) ||| (slice i 8 25).setWidth w
    v.rotateLeft ((slice i 0 8).toNat % w)
/-- R412. -/
def execLdiroz (i : RotImm) (n : Reg) (s : State) : Out State := loadImm n ((rotImmValue 32 2 false i).setWidth 64) s
/-- R413. -/
def execLdirozq (i : RotImm) (n : Reg) (s : State) : Out State := loadImm n (rotImmValue 64 4 false i) s
/-- R414: bits 63:32 are ones. -/
def execLdiron (i : RotImm) (n : Reg) (s : State) : Out State :=
  loadImm n (BitVec.allOnes 32 ++ rotImmValue 32 2 true i) s
/-- R415. -/
def execLdironq (i : RotImm) (n : Reg) (s : State) : Out State := loadImm n (rotImmValue 64 4 true i) s

end Sys2Proof.Machine
end

