-- ==== Sys2Proof/Machine/LoadStore.lean ====
section
/-! DEFINITION. Loads, stores and effective addresses, byte to quadword (44_load_store.md). -/

namespace Sys2Proof.Machine

open Sys2Proof

/-- Rn <- ext(MemRead(ea, size)) (R425). -/
def load (size : Nat) (ext : Word → Word) (n : Reg) (a : Addr) (s : State) : Out State :=
  readMem (effAddr s size a) size s fun v s' => retire (setReg s' n (ext (BitVec.ofNat 64 v)))
/-- MemWrite(ea, size, Rn) (R425). -/
def store (size : Nat) (n : Reg) (a : Addr) (s : State) : Out State :=
  writeMem (effAddr s size a) size (getReg s n).toNat s retire
/-- A move in either direction. -/
def move (size : Nat) (ext : Word → Word) (d : Dir) (n : Reg) (a : Addr) (s : State) : Out State :=
  match d with
  | .load => load size ext n a s
  | .store => store size n a s
/-- The address as LEA writes it (20_memory.md R83). DESIGN CHOICE (log 5): with VA_BITS = 96, which R83 leaves out, the low
64 bits of the 96-bit address, so that GBH[15:0] stands in the tag bits. -/
def leaResult (s : State) (ea : Word) : Word := BitVec.ofNat 64 (vaOf s ea)
/-- R445: no memory access, no fault. -/
def lea (size : Nat) (n : Reg) (a : Addr) (s : State) : Out State :=
  retire (setReg s n (leaResult s (effAddr s size a)))

/-- R435. -/
def execMovB (d : Dir) (n : Reg) (a : Addr) (s : State) : Out State := move 1 (sext 8) d n a s
/-- R436. -/
def execMovW (d : Dir) (n : Reg) (a : Addr) (s : State) : Out State := move 2 (sext 16) d n a s
/-- R437. -/
def execMovL (d : Dir) (n : Reg) (a : Addr) (s : State) : Out State := move 4 (sext 32) d n a s
/-- R438. -/
def execMovQ (d : Dir) (n : Reg) (a : Addr) (s : State) : Out State := move 8 id d n a s
/-- R439. -/
def execMovuB (n : Reg) (a : Addr) (s : State) : Out State := load 1 (zext 8) n a s
/-- R440. -/
def execMovuW (n : Reg) (a : Addr) (s : State) : Out State := load 2 (zext 16) n a s
/-- R441. -/
def execMovuL (n : Reg) (a : Addr) (s : State) : Out State := load 4 (zext 32) n a s
/-- R442. -/
def execMovnL (n : Reg) (a : Addr) (s : State) : Out State := load 4 (oext 32) n a s
/-- R446. -/
def execLeaB (n : Reg) (a : Addr) (s : State) : Out State := lea 1 n a s
/-- R447. -/
def execLeaW (n : Reg) (a : Addr) (s : State) : Out State := lea 2 n a s
/-- R448. -/
def execLeaL (n : Reg) (a : Addr) (s : State) : Out State := lea 4 n a s
/-- R449. -/
def execLeaQ (n : Reg) (a : Addr) (s : State) : Out State := lea 8 n a s

end Sys2Proof.Machine
end

