-- ==== Sys2Proof/Machine/LoadStoreExt.lean ====
section
/-! DEFINITION. 128-bit, control-register, 48-bit, XMOV, LDOP, LDTEX and banked-register forms
(45_load_store_ext.md). -/

namespace Sys2Proof.Machine

open Sys2Proof

/-! ### MOV.X and MOV.C (R480, R485) -/

/-- Go on if the address meets an alignment (20_memory.md R73). -/
def aligned (k : Nat) (ea : Word) (go : Out State) : Out State :=
  if ea.toNat % k = 0 then go else .refused .misaligned

/-- R480: the even register at the lower address, scale 8. -/
def execMovX (d : Dir) (n : Pair) (a : Addr) (s : State) : Out State :=
  let ea := effAddr s 8 a
  withPairs [n] <| aligned 8 ea <|
    match d with
    | .load => readMem ea 16 s fun v s' => retire (setPair s' n (BitVec.ofNat 128 v))
    | .store => writeMem ea 16 (getPair s n).toNat s retire

/-- R485. -/
def execMovC (d : Dir) (c : CReg) (a : Addr) (s : State) : Out State :=
  let ea := effAddr s 8 a
  match d with
  | .load => mayWriteControl c s (readMem ea 8 s fun v s' => setControl c (BitVec.ofNat 64 v) s' retire)
  | .store => readControl c s fun v => writeMem ea 8 v.toNat s retire

/-! ### MOV.TW (R510 to R512) -/

/-- A 48-bit load, scale and alignment 2. -/
def loadTW (ext : Word → Word) (n : Reg) (a : Addr) (s : State) : Out State :=
  let ea := effAddr s 2 a
  aligned 2 ea (readMem ea 6 s fun v s' => retire (setReg s' n (ext (BitVec.ofNat 64 v))))
/-- A 48-bit store of a value's low bits. -/
def storeTW (v : Word) (a : Addr) (s : State) : Out State :=
  let ea := effAddr s 2 a
  aligned 2 ea (writeMem ea 6 v.toNat s retire)

/-- R510. -/
def execMovTW (d : Dir) (n : Reg) (a : Addr) (s : State) : Out State :=
  match d with
  | .load => loadTW (sext 48) n a s
  | .store => storeTW (getReg s n) a s
/-- R511. -/
def execMovuTW (n : Reg) (a : Addr) (s : State) : Out State := loadTW (zext 48) n a s
/-- R512: bits 63:16 of the register; a load clears bits 15:0 (log 40). -/
def execMovHTW (d : Dir) (n : Reg) (a : Addr) (s : State) : Out State :=
  match d with
  | .load => loadTW (fun v => v <<< 16) n a s
  | .store => storeTW (getReg s n >>> 16) a s

/-! ### XMOV (R516 to R522; log 31) -/

/-- Tag check of a 128-bit pointer before an access: 0000 passes, 0010 and 0011 by Config's bounds check, 0001 faults where
bounds checks are supported and enabled, the others always, with the address in TEA (R522). In User mode XMUE must be
set (60_exceptions.md R870 (e)). -/
def xmovChecked (s : State) (a : XAddr) (scale size : Nat) (go : Nat → Out State) : Out State :=
  let base := getPair s (xmovBase a)
  let va := xmovAddr s scale a
  if !(supervisor s) && !(srXMUE s) then raise .privilegeViolation s
  else match (slice base 60 4 : BitVec 4) with
  | 0#4 => go va
  | 1#4 => if boundsOn s then raiseAt .xmovTagFault va s else go va
  | 2#4 => if Config.xmovBoundsOk base va size then go va else raise .boundsCheck s
  | 3#4 => if Config.xmovBoundsOk base va size then go va else raise .boundsCheck s
  | _ => raiseAt .xmovTagFault va s
/-- A load or store through a 128-bit pointer; the extension of a loaded value is Config's (R516). -/
def xmov (size : Nat) (d : Dir) (n : Reg) (a : XAddr) (s : State) : Out State :=
  withPairs [xmovBase a] <| xmovChecked s a size size fun va =>
    match d with
    | .load => readVA (2 ^ 96) va size s fun v s' =>
        retire (setReg s' n (if Config.xmovSigned then sext (8 * size) (BitVec.ofNat 64 v) else BitVec.ofNat 64 v))
    | .store => writeVA (2 ^ 96) va size (getReg s n).toNat s retire
/-- R516. -/
def execXmovB (d : Dir) (n : Reg) (a : XAddr) (s : State) : Out State := xmov 1 d n a s
/-- R517. -/
def execXmovW (d : Dir) (n : Reg) (a : XAddr) (s : State) : Out State := xmov 2 d n a s
/-- R518. -/
def execXmovL (d : Dir) (n : Reg) (a : XAddr) (s : State) : Out State := xmov 4 d n a s
/-- R519. -/
def execXmovQ (d : Dir) (n : Reg) (a : XAddr) (s : State) : Out State := xmov 8 d n a s
/-- R521: a pair access as R480. -/
def execXmovX (d : Dir) (n : Pair) (a : XAddr) (s : State) : Out State :=
  withPairs [n, xmovBase a] <| xmovChecked s a 8 16 fun va =>
    if va % 8 = 0 then
      match d with
      | .load => readVA (2 ^ 96) va 16 s fun v s' => retire (setPair s' n (BitVec.ofNat 128 v))
      | .store => writeVA (2 ^ 96) va 16 (getPair s n).toNat s retire
    else .refused .misaligned

/-! ### LDOP (R525; log 41) -/

/-- Bytes of an LDOP access. -/
def ldopBytes : LdOpSize → Nat
  | .b => 1 | .w => 2 | .l => 4 | .q => 8 | .ub => 1 | .uw => 2 | .ul => 4
/-- The extension of the loaded value, as the base load's. -/
def ldopExt : LdOpSize → Word → Word
  | .b => sext 8 | .w => sext 16 | .l => sext 32 | .q => id | .ub => zext 8 | .uw => zext 16 | .ul => zext 32
/-- a op b for U mod 8: MOV, XCHG give b; ADD; SUB a - b; RSUB b - a; AND; OR; XOR. -/
def ldopAlu (u : BitVec 4) (a b : Word) : Word :=
  match (slice u 0 3 : BitVec 3) with
  | 2#3 => a + b
  | 3#3 => a - b
  | 4#3 => b - a
  | 5#3 => a &&& b
  | 6#3 => a ||| b
  | 7#3 => a ^^^ b
  | _ => b
/-- XCHG: U mod 8 = 1. -/
def ldopXchg (u : BitVec 4) : Bool := slice u 0 3 == 1#3
/-- Read a value, write one computed from it, go on with what was read: both translations come before either access, so
that an access to a device is the last thing that can stop the instruction (R525, 44_load_store.md R425; log 41). -/
def readModifyWrite (ea : Word) (n : Nat) (f : Nat → Nat) (s : State) (go : Nat → State → Out State) : Out State :=
  resolve .read (vaSpace s) (vaOf s ea) n s fun pas s1 =>
    resolve .write (vaSpace s) (vaOf s ea) n s1 fun pas' s2 =>
      readAt pas s2 fun v s3 => writeAt pas' (f v) s3 (go v)
/-- U = 8 to F flush the line: what was stored is on its way to L2 (20_memory.md R101). No architectural effect. -/
def execLdop (u : BitVec 4) (d : Dir) (k : LdOpSize) (n : Reg) (a : Addr) (s : State) : Out State :=
  let size := ldopBytes k
  let ea := effAddr s size a
  let rn := getReg s n
  let x (v : Nat) : Word := ldopExt k (BitVec.ofNat 64 v)
  match d, ldopXchg u with
  | .load, false => readMem ea size s fun v s' => retire (setReg s' n (ldopAlu u rn (x v)))
  | .load, true => readModifyWrite ea size (fun _ => rn.toNat) s fun v s' => retire (setReg s' n (x v))
  | .store, false => readModifyWrite ea size (fun v => (ldopAlu u (x v) rn).toNat) s fun _ s' => retire s'
  | .store, true => readModifyWrite ea size (fun v => (ldopAlu u (x v) rn).toNat) s fun v s' => retire (setReg s' n (x v))

/-! ### LDTEX (R528; log 26) -/

/-- The parameters a displacement gives. DESIGN CHOICE (log 26): no source says what the Sc field of (Rm, Ro*Sc, Disp9u)
does, and it is ignored. -/
def texParam : TexDisp → Word
  | .none => 0#64
  | .disp d => d.setWidth 64
  | .scaled _ d => d.setWidth 64
/-- R528: the texel address and the unpacked texel are Config's; the address is checked as a load's. -/
def execLdtex (m o : Reg) (d : TexDisp) (n : Reg) (s : State) : Out State :=
  let base := getReg s m
  let st := getReg s o
  aligned 8 (zext 48 base) <|
    readMem (Config.ldtexAddr base st (texParam d)) 1 s fun _ s' =>
      retire (setReg s' n (Config.ldtex s'.mem base st (texParam d)))

/-! ### Banked registers (R530 to R533; log 35) -/

/-- RBS[bank][id] for an 8-bit {bank, id}. -/
def getRbs (s : State) (i : BitVec 8) : Word := s.rbs[i.toNat]'(i.isLt)
/-- RBS[bank][id] <- v. -/
def setRbs (s : State) (i : BitVec 8) (v : Word) : State := { s with rbs := s.rbs.set i.toNat v i.isLt }

/-- R530. -/
def execRbsldQ (i : BitVec 8) (n : Reg) (s : State) : Out State :=
  supervisorOnly s (retire (setReg s n (getRbs s i)))
/-- R531; an odd id is refused. -/
def execRbsldX (i : BitVec 8) (n : Pair) (s : State) : Out State :=
  supervisorOnly s <| withPairs [n] <|
    if bitAt i 0 then .refused .rbsPair else retire (setPair s n (quad (getRbs s (i ||| 1#8)) (getRbs s i)))
/-- R532. -/
def execRbsstQ (i : BitVec 8) (n : Reg) (s : State) : Out State :=
  supervisorOnly s (retire (setRbs s i (getReg s n)))
/-- R533. -/
def execRbsstX (i : BitVec 8) (n : Pair) (s : State) : Out State :=
  supervisorOnly s <| withPairs [n] <|
    if bitAt i 0 then .refused .rbsPair
    else retire (setRbs (setRbs s i (loWord (getPair s n))) (i ||| 1#8) (hiWord (getPair s n)))

end Sys2Proof.Machine
end

