-- ==== Sys2Proof/Machine/Shift.lean ====
section
/-! DEFINITION. Shifts, rotates, multiply, multiply-accumulate and divide (42_shift_muldiv.md). -/

namespace Sys2Proof.Machine

open Sys2Proof

/-! ### Barrel shifts (R320 to R333) -/

/-- The shift value: a sign-extended byte (R320). -/
def shiftCount (v : Word) : Int := (slice v 0 8).toInt
/-- Left by s mod W for s >= 0, right by (-s) mod W below (R320); `ar` is an arithmetic right shift. -/
def barrel {w : Nat} (ar : Bool) (x : BitVec w) (s : Int) : BitVec w :=
  if 0 ≤ s then x <<< (s.toNat % w)
  else if ar then x.sshiftRight ((-s).toNat % w) else x >>> ((-s).toNat % w)
/-- Rn <- source shifted; a free value when the count is negative (R328 to R333; log 3). -/
def shiftRight (f : Word → Nat → Word) (m o n : Reg) (s : State) : Out State :=
  let v := shiftCount (getReg s o)
  if 0 ≤ v then retire (setReg s n (f (getReg s m) v.toNat)) else retire (setReg (drawn s) n (freeWord s))
/-- The same on pairs, modulus 128 (R330, R333). -/
def shiftRightX (ar : Bool) (m : Pair) (o : Reg) (n : Pair) (s : State) : Out State :=
  let v := shiftCount (getReg s o)
  withPairs [m, n]
    (if 0 ≤ v then retire (setPair s n (barrel ar (getPair s m) (-v)))
     else retire (setPair (drawn2 s) n (freeQuad s)))
/-- Xn <- Xm shifted by Ro (R324, R327). -/
def shiftX (ar : Bool) (m : Pair) (o : Reg) (n : Pair) (s : State) : Out State :=
  withPairs [m, n] (retire (setPair s n (barrel ar (getPair s m) (shiftCount (getReg s o)))))

/-- R322, result cut to 32 bits and sign-extended (R321). -/
def execShad (m : Reg) (src : Src) (n : Reg) (s : State) : Out State :=
  alu2 (fun a b => (barrel true (low32 a) (shiftCount b)).signExtend 64) m src n s
/-- R323. -/
def execShadq (m : Reg) (src : Src) (n : Reg) (s : State) : Out State :=
  alu2 (fun a b => barrel true a (shiftCount b)) m src n s
/-- R324. -/
def execShadx (m : Pair) (o : Reg) (n : Pair) (s : State) : Out State := shiftX true m o n s
/-- R325, result cut to 32 bits and zero-extended (R321). -/
def execShld (m : Reg) (src : Src) (n : Reg) (s : State) : Out State :=
  alu2 (fun a b => (barrel false (low32 a) (shiftCount b)).setWidth 64) m src n s
/-- R326. -/
def execShldq (m : Reg) (src : Src) (n : Reg) (s : State) : Out State :=
  alu2 (fun a b => barrel false a (shiftCount b)) m src n s
/-- R327. -/
def execShldx (m : Pair) (o : Reg) (n : Pair) (s : State) : Out State := shiftX false m o n s
/-- R328. -/
def execShar (m o n : Reg) (s : State) : Out State :=
  shiftRight (fun a v => ((low32 a).sshiftRight (v % 32)).signExtend 64) m o n s
/-- R329. -/
def execSharq (m o n : Reg) (s : State) : Out State := shiftRight (fun a v => a.sshiftRight (v % 64)) m o n s
/-- R330. -/
def execSharx (m : Pair) (o : Reg) (n : Pair) (s : State) : Out State := shiftRightX true m o n s
/-- R331. -/
def execShlr (m o n : Reg) (s : State) : Out State :=
  shiftRight (fun a v => ((low32 a) >>> (v % 32)).setWidth 64) m o n s
/-- R332. -/
def execShlrq (m o n : Reg) (s : State) : Out State := shiftRight (fun a v => a >>> (v % 64)) m o n s
/-- R333. -/
def execShlrx (m : Pair) (o : Reg) (n : Pair) (s : State) : Out State := shiftRightX false m o n s

/-! ### Rotates (R339 to R349); a 32-bit result is sign-extended (R339, log 20) -/

/-- Rn and T from f(Rn, T). -/
def rotateT (f : Word → Bool → Word × Bool) (n : Reg) (s : State) : Out State :=
  let r := f (getReg s n) (srT s)
  retire (setT (setReg s n r.1) r.2)
/-- R340. -/
def execRotclL (n : Reg) (s : State) : Out State :=
  rotateT (fun v t => (sext 32 ((v <<< 1) ||| boolWord t), bitAt v 31)) n s
/-- R341. -/
def execRotclQ (n : Reg) (s : State) : Out State := rotateT (fun v t => ((v <<< 1) ||| boolWord t, bitAt v 63)) n s
/-- R342. -/
def execRotcrL (n : Reg) (s : State) : Out State :=
  rotateT (fun v t => (sext 32 ((zext 32 v >>> 1) ||| (boolWord t <<< 31)), bitAt v 0)) n s
/-- R343. -/
def execRotcrQ (n : Reg) (s : State) : Out State :=
  rotateT (fun v t => ((v >>> 1) ||| (boolWord t <<< 63), bitAt v 0)) n s
/-- R344. -/
def execRotl (n : Reg) (s : State) : Out State := alu1 (fun v => ((low32 v).rotateLeft 1).signExtend 64) n n s
/-- R345. -/
def execRotr (n : Reg) (s : State) : Out State := alu1 (fun v => ((low32 v).rotateRight 1).signExtend 64) n n s
/-- R346. -/
def execRotlQ (m o n : Reg) (s : State) : Out State := alu2 (fun a b => a.rotateLeft (b.toNat % 64)) m (.reg o) n s
/-- R347. -/
def execRotlL (m o n : Reg) (s : State) : Out State :=
  alu2 (fun a b => ((low32 a).rotateLeft (b.toNat % 32)).signExtend 64) m (.reg o) n s
/-- R348. -/
def execRotlx (m : Pair) (o : Reg) (n : Pair) (s : State) : Out State :=
  withPairs [m, n] (retire (setPair s n ((getPair s m).rotateLeft ((getReg s o).toNat % 128))))
/-- R349. -/
def execRotrQ (m o n : Reg) (s : State) : Out State := alu2 (fun a b => a.rotateRight (b.toNat % 64)) m (.reg o) n s

/-! ### Multiply (R355 to R366) -/

/-- The signed value of bits 31:0. -/
def s32 (v : Word) : Int := (low32 v).toInt
/-- The unsigned value of bits 31:0. -/
def u32 (v : Word) : Nat := (low32 v).toNat
/-- The signed and unsigned value of bits 15:0. -/
def s16 (v : Word) : Int := (lane16 v 0).toInt
def u16 (v : Word) : Nat := (lane16 v 0).toNat

/-- R355. -/
def execMuls (m : Reg) (src : Src) (n : Reg) (s : State) : Out State := alu2 (fun a b => sext 32 (a * b)) m src n s
/-- R356. -/
def execMulu (m : Reg) (src : Src) (n : Reg) (s : State) : Out State := alu2 (fun a b => zext 32 (a * b)) m src n s
/-- R357. -/
def execMulsQ (m o n : Reg) (s : State) : Out State := alu2 (fun a b => BitVec.ofInt 64 (a.toInt * b.toInt)) m (.reg o) n s
/-- R358. -/
def execMuluQ (m o n : Reg) (s : State) : Out State := alu2 (fun a b => BitVec.ofNat 64 (a.toNat * b.toNat)) m (.reg o) n s
/-- R359. -/
def execMulhsQ (m o n : Reg) (s : State) : Out State :=
  alu2 (fun a b => hiWord (BitVec.ofInt 128 (a.toInt * b.toInt))) m (.reg o) n s
/-- R360. -/
def execMulhuQ (m o n : Reg) (s : State) : Out State :=
  alu2 (fun a b => hiWord (BitVec.ofNat 128 (a.toNat * b.toNat))) m (.reg o) n s
/-- R361. -/
def execDmulsL (m o n : Reg) (s : State) : Out State := alu2 (fun a b => BitVec.ofInt 64 (s32 a * s32 b)) m (.reg o) n s
/-- R362. -/
def execDmuluL (m o n : Reg) (s : State) : Out State := alu2 (fun a b => BitVec.ofNat 64 (u32 a * u32 b)) m (.reg o) n s
/-- R363. -/
def execMulsW (m : Reg) (src : Src) (n : Reg) (s : State) : Out State :=
  alu2 (fun a b => BitVec.ofInt 64 (s16 a * s16 b)) m src n s
/-- R364. -/
def execMuluW (m : Reg) (src : Src) (n : Reg) (s : State) : Out State :=
  alu2 (fun a b => BitVec.ofNat 64 (u16 a * u16 b)) m src n s
/-- R365. -/
def execMuluX (m n : Pair) (s : State) : Out State := aluX (fun a b => a * b) m n n s
/-- R366. -/
def execMulhuX (m n : Pair) (s : State) : Out State :=
  aluX (fun a b => BitVec.ofNat 128 (a.toNat * b.toNat / 2 ^ 128)) m n n s

/-! ### Multiply-accumulate (R370 to R373): `a` is the accumulator register -/

/-- Rn <- f(acc, Rm, b). -/
def mac (f : Word → Word → Word → Word) (m : Reg) (b : Src) (a n : Reg) (s : State) : Out State :=
  retire (setReg s n (f (getReg s a) (getReg s m) (srcVal s b)))
/-- R370. -/
def execMacsL (m : Reg) (b : Src) (a n : Reg) (s : State) : Out State := mac (fun c x y => sext 32 (c + x * y)) m b a n s
/-- R371. -/
def execMacuL (m : Reg) (b : Src) (a n : Reg) (s : State) : Out State := mac (fun c x y => zext 32 (c + x * y)) m b a n s
/-- R372. -/
def execDmacsL (m : Reg) (b : Src) (a n : Reg) (s : State) : Out State :=
  mac (fun c x y => c + BitVec.ofInt 64 (s32 x * s32 y)) m b a n s
/-- R373. -/
def execDmacuL (m : Reg) (b : Src) (a n : Reg) (s : State) : Out State :=
  mac (fun c x y => c + BitVec.ofNat 64 (u32 x * u32 y)) m b a n s

/-! ### Divide and modulo (R375 to R383; log 21) -/

/-- Rn <- f(Rm, Ro) where the operands are in range, a free value otherwise (R375). -/
def divide (ok : Word → Word → Bool) (f : Word → Word → Word) (m o n : Reg) (s : State) : Out State :=
  let a := getReg s m
  let b := getReg s o
  if ok a b then retire (setReg s n (f a b)) else retire (setReg (drawn s) n (freeWord s))
/-- 64-bit signed: a nonzero divisor, and not the overflow case. -/
def divOkS64 (a b : Word) : Bool := b != 0#64 && !(a == BitVec.intMin 64 && b == BitVec.allOnes 64)
def divOkU64 (_a b : Word) : Bool := b != 0#64
/-- 32-bit signed: both in range (R375), a nonzero divisor, and not the overflow case. -/
def divOkS32 (a b : Word) : Bool :=
  sext 32 a == a && sext 32 b == b && b != 0#64 && !(low32 a == BitVec.intMin 32 && low32 b == BitVec.allOnes 32)
def divOkU32 (a b : Word) : Bool := zext 32 a == a && zext 32 b == b && b != 0#64

/-- R376: truncation toward zero. -/
def execDivsQ (m o n : Reg) (s : State) : Out State :=
  divide divOkS64 (fun a b => BitVec.ofInt 64 (Int.tdiv a.toInt b.toInt)) m o n s
/-- R377. -/
def execDivuQ (m o n : Reg) (s : State) : Out State :=
  divide divOkU64 (fun a b => BitVec.ofNat 64 (a.toNat / b.toNat)) m o n s
/-- R378. -/
def execDivsL (m o n : Reg) (s : State) : Out State :=
  divide divOkS32 (fun a b => BitVec.ofInt 64 (Int.tdiv (s32 a) (s32 b))) m o n s
/-- R379. -/
def execDivuL (m o n : Reg) (s : State) : Out State :=
  divide divOkU32 (fun a b => BitVec.ofNat 64 (u32 a / u32 b)) m o n s
/-- R380: the sign of the dividend. -/
def execModsQ (m o n : Reg) (s : State) : Out State :=
  divide divOkS64 (fun a b => BitVec.ofInt 64 (Int.tmod a.toInt b.toInt)) m o n s
/-- R381. -/
def execModuQ (m o n : Reg) (s : State) : Out State :=
  divide divOkU64 (fun a b => BitVec.ofNat 64 (a.toNat % b.toNat)) m o n s
/-- R382. -/
def execModsL (m o n : Reg) (s : State) : Out State :=
  divide divOkS32 (fun a b => BitVec.ofInt 64 (Int.tmod (s32 a) (s32 b))) m o n s
/-- R383. -/
def execModuL (m o n : Reg) (s : State) : Out State :=
  divide divOkU32 (fun a b => BitVec.ofNat 64 (u32 a % u32 b)) m o n s

/-! ### Step divide (R385, R386) -/

/-- R385. -/
def execDiv0 (s : State) : Out State := retire (setS (setT s false) false)
/-- R386, in 64-bit wrapping arithmetic. -/
def execDiv1 (s : State) : Out State :=
  let dn1 := (getReg s dlr <<< 1) ||| boolWord (srT s)
  let dn2 := if srS s then dn1 + getReg s dhr else dn1 - getReg s dhr
  let q2 := xor (bitAt (getReg s dlr) 31) (bitAt dn2 32)
  retire (setT (setS (setReg s dlr dn2) q2) (!q2))

end Sys2Proof.Machine
end

