-- ==== Sys2Proof/Machine/System.lean ====
section
/-! DEFINITION. Control-register moves, break, sleep, return, CPUID, cache and TLB maintenance, keyring, mode
transitions, TRAP, tripwires, canaries, WEX profiles (47_system_ttag.md R590 to R650). -/

namespace Sys2Proof.Machine

open Sys2Proof

/-! ### Control-register moves (R590 to R593) -/

/-- R590. -/
def execMovToC (m : Reg) (c : CReg) (s : State) : Out State :=
  mayWriteControl c s (setControl c (getReg s m) s retire)
/-- R591. -/
def execMovFromC (c : CReg) (n : Reg) (s : State) : Out State := readControl c s fun v => retire (setReg s n v)
/-- R592: no source says what the S registers are. -/
def execMovToS (_m : Reg) (_k : CReg) (_s : State) : Out State := .refused .sRegister
/-- R593: as R592. -/
def execMovFromS (_k : CReg) (_n : Reg) (_s : State) : Out State := .refused .sRegister

/-! ### Break, sleep, return from exception (R596 to R598) -/

/-- R596. -/
def execBreakOp (s : State) : Out State := raise .breakpoint s
/-- R596, the 32-bit spelling. -/
def execBreak2 (s : State) : Out State := raise .breakpoint s
/-- No interrupt can be delivered (60_exceptions.md R855). -/
def interruptsOff (s : State) : Bool := srBL s || srIPL s == 0#2
/-- R597; where no interrupt can be delivered Config says whether it faults. -/
def execSleep (s : State) : Out State :=
  if interruptsOff s && Config.sleepFaults then raise .sleepFault s else retire { s with sleeping := true }
/-- R598. -/
def execRte (s : State) : Out State := supervisorOnly s (returnFromTrap s)

/-! ### CPUID (R600 to R604) -/

/-- Index 0: 'BJX2', the profile letter, then the version characters, 'B' lowest. -/
def cpuidName : Word := Config.cpuidVersion ++ Config.profileLetter ++ 0x32584A42#32
/-- Index 1. -/
def cpuidFeatures : Word :=
  Config.tlbAssocLog2 ++ Config.tlbRowsLog2 ++ 0#24 ++ Config.featureBits ++ Config.coreId
/-- R600: R0 receives the indexed word; index 31 is a fresh free value. -/
def execCpuid (i : BitVec 5) (s : State) : Out State :=
  match i with
  | 0#5 => retire (setReg s dlr cpuidName)
  | 1#5 => retire (setReg s dlr cpuidFeatures)
  | 28#5 => retire (setReg s dlr s.usec)
  | 30#5 => retire (setReg s dlr s.cycles)
  | 31#5 => retire (setReg (drawn s) dlr (freeWord s))
  | _ => retire (setReg s dlr (Config.cpuid i))

/-! ### Cache and TLB maintenance (R606 to R614; log 14) -/

/-- R606: the TLB is emptied; the ACL cache stays (20_memory.md R99). -/
def execInvtlb (s : State) : Out State := supervisorOnly s (retire { s with tlb := [] })

/-- The lines a cache instruction names. -/
inductive LineSel where
  | all
  | one (line : Nat)
  | nothing
  | mmio
deriving DecidableEq, Repr

/-- FFFFFFFF names every line; an address that does not translate names none (R607). DESIGN CHOICE (log 14): nor does one whose ACL
lookup matches a reserved mode, which 20_memory.md R89 refuses in an access. DESIGN CHOICE (log 14): INVIC too looks its address
up as a data read, so that an address whose page denies reads names no line, whatever the page allows fetch. -/
def lineSel (s : State) (v : Word) : LineSel :=
  if v == 0xFFFFFFFF#64 || v == BitVec.allOnes 64 then .all
  else
    match translateByte s .read (vaOf s v) with
    | .ok pa => if isMmio s pa then .mmio else .one (lineOf pa)
    | .bad _ => .nothing
/-- Whether a stored byte stands in a named line. -/
def inSel (sel : LineSel) (e : StaleByte) : Bool :=
  match sel with
  | .all => true
  | .one l => lineOf e.addr == l
  | .nothing => false
  | .mmio => false
/-- What INVDC does to a stored byte's way to L2 (20_memory.md R98). -/
def flushStep : FlushStage → FlushStage
  | .dirty => .flushed
  | .flushed => .flushed
  | .writtenBack => .inL2
  | .inL2 => .inL2
/-- R607: bytes that have reached L2 are fetched anew (20_memory.md R97). -/
def execInvic (n : Reg) (s : State) : Out State :=
  match lineSel s (getReg s n) with
  | .mmio => .refused .mmio
  | sel => retire { s with stale := s.stale.filter fun e => !(inSel sel e && e.stage == .inL2) }
/-- R608; -2 flushes L2, which no agent of this model sees. DESIGN CHOICE (log 14): -2 is the 64-bit value and also
0x00000000FFFFFFFE, as R607 has it for FFFFFFFF. -/
def execInvdc (n : Reg) (s : State) : Out State :=
  let v := getReg s n
  if v == 0xFFFFFFFE#64 || v == BitVec.ofInt 64 (-2) then retire s
  else
    match lineSel s v with
    | .mmio => .refused .mmio
    | sel => retire { s with stale := s.stale.map fun e => if inSel sel e then { e with stage := flushStep e.stage } else e }

/-- Drop the oldest entry of a row. -/
def dropOldest (row : Nat) : List TlbEntry → List TlbEntry
  | [] => []
  | e :: t => if e.row = row then t else e :: dropOldest row t
/-- Insertion, first in first out in each row of 2^TLB_ASSOC entries (10_state.md R50). DESIGN CHOICE (log 34): a row count of 0,
for which 47_system_ttag.md R602 has the size or algorithm unknown, is one such row. -/
def tlbInsert (tlb : List TlbEntry) (e : TlbEntry) : List TlbEntry :=
  if 2 ^ Config.tlbAssocLog2.toNat ≤ (tlb.filter fun x => x.row == e.row).length then dropOldest e.row tlb ++ [e]
  else tlb ++ [e]
/-- An entry in the row Config gives it, modulo the number of rows, with the registers it is loaded under (R912). -/
def tlbEntry (s : State) (ext : Bool) (bits : BitVec 256) : TlbEntry :=
  { row := Config.tlbRow ext bits % 2 ^ Config.tlbRowsLog2.toNat, ext := ext, bits := bits
    regs := { ttb := s.ttb, sttb := s.sttb, mmcr := s.mmcr } }
/-- Inside an interrupt handler; elsewhere as BREAK (R610). -/
def isrOnly (s : State) (go : Out State) : Out State := if inISR s then go else raise .breakpoint s
/-- DHR:DLR. -/
def dhrDlr (s : State) : Quad := quad (getReg s dhr) (getReg s dlr)
/-- DHR:DLR <- v. -/
def setDhrDlr (s : State) (v : Quad) : State := setReg (setReg s dlr (loWord v)) dhr (hiWord v)
/-- R610. -/
def execLdtlb (s : State) : Out State :=
  isrOnly s (retire { s with tlb := tlbInsert s.tlb (tlbEntry s false ((dhrDlr s).setWidth 256)) })
/-- R611. -/
def execLdxtlb (s : State) : Out State :=
  isrOnly s (retire { s with
    tlb := tlbInsert s.tlb (tlbEntry s true (getReg s 7#6 ++ getReg s 6#6 ++ getReg s 5#6 ++ getReg s 4#6)) })
/-- The sniper address of the line of an address, NULL where the address does not translate (R612; log 59), or where its
ACL lookup matches a reserved mode, which 20_memory.md R89 refuses in an access (DESIGN CHOICE, log 59). -/
def sniperFor (snipe : State → Nat → Word) (s : State) (v : Word) : Word :=
  match translateByte s .read (vaOf s v) with
  | .ok pa => snipe s pa
  | .bad _ => 0#64
/-- R612. -/
def execSnipedc (m n : Reg) (s : State) : Out State := retire (setReg s n (sniperFor snipeD s (getReg s m)))
/-- R613. -/
def execSnipeic (m n : Reg) (s : State) : Out State := retire (setReg s n (sniperFor snipeI s (getReg s m)))
/-- R614. -/
def execLdacl (s : State) : Out State :=
  supervisorOnly s (retire { s with acl := Config.aclInsert s.acl (getReg s dlr) })

/-! ### Keyring (R620 to R623) -/

/-- R620. -/
def execLdekrr (s : State) : Out State :=
  if s.ldekrrEnabled then
    match Config.keyDecode s.ekey (dhrDlr s) with
    | some k => retire { s with krr := k }
    | none => raise .keyFault s
  else raise .keyFault s
/-- R621. -/
def execSvekrr (s : State) : Out State := retire (setDhrDlr s (Config.keyEncode s.ekey s.krr))
/-- R622: LDEKRR is enabled iff the low-order bits are not all zero. -/
def execLdekey (s : State) : Out State :=
  supervisorOnly s (retire { s with ekey := dhrDlr s, ldekrrEnabled := dhrDlr s &&& Config.ekeyLowBits != 0#128 })
/-- R623. -/
def execLdeenc (s : State) : Out State :=
  supervisorOnly s (retire (setDhrDlr s (Config.keyEncode s.ekey (getReg s dlr))))

/-! ### Local mode transitions (R630 to R632) -/

/-- MD = 0, RB = 0 and MD = 0, RB = 1 (60_exceptions.md R870). -/
def userMode (s : State) : Bool := !srMD s && !srRB s
def superuserMode (s : State) : Bool := !srMD s && srRB s
/-- The instruction stands in a Secure-Execute page. -/
def securePage (s : State) : Bool := Config.secureExecutePage s.pc
/-- SR.MD and SR.RB replaced, or PrivilegeViolation. -/
def enterMode (ok md rb : Bool) (s : State) : Out State :=
  if ok then retire { s with sr := setBit (setBit s.sr 30 md) 29 rb } else raise .privilegeViolation s
/-- R630: from User mode in a secure page, or from Supervisor mode. -/
def execSxentr (s : State) : Out State := enterMode (supervisor s || (userMode s && securePage s)) false true s
/-- R631: from Superuser mode in a secure page, or from Supervisor mode. -/
def execSuentr (s : State) : Out State := enterMode (supervisor s || (superuserMode s && securePage s)) false false s
/-- R632: from Superuser mode in a secure page. -/
def execSventr (s : State) : Out State := enterMode (superuserMode s && securePage s) true false s

/-! ### TRAP (R640; 60_exceptions.md R852, R885; log 13, 36) -/

/-- Whether a pattern is an exception's own code (60_exceptions.md R852). -/
def isExcCode (c : Half) : Bool :=
  [Exc.breakpoint, .undefinedInstruction, .privilegeViolation, .boundsCheck, .canaryCheck, .keyFault, .xblessFault,
    .xmovTagFault, .tripwire, .sleepFault, .accessFault, .misalignedAccess, .setTrapFault, .tlbMiss, .aclCheck].any fun e => e.code == c
/-- Class 0xE in every mode; in Supervisor mode class 0xC and the exceptions' own codes too (R640, D30). -/
def trapAllowed (s : State) (c : Half) : Bool :=
  slice c 12 4 == 0xE#4 || (supervisor s && (slice c 12 4 == 0xC#4 || isExcCode c))
/-- Bits 11:8 not zero route the code to another core, and this one continues (60_exceptions.md R885). -/
def trapCode (c : Half) (tea : Option Word) (s : State) : Out State :=
  if trapAllowed s c then
    if slice c 8 4 == 0#4 then trapTo c tea s
    else if (slice c 8 4).toNat < Config.numCores then
      retire { s with remote := s.remote ++ [{ core := slice c 8 4, code := setSlice c 8 4 0#4, tea := tea }] }
    else .refused .trapPattern
  else .refused .trapPattern
/-- R640, 0xC08j. -/
def execTrapImm (i : BitVec 5) (s : State) : Out State := trapCode (0xC080#16 ||| i.setWidth 16) none s
/-- R640: the pattern in bits 15:0, an address for TEA in bits 63:16. -/
def execTrapReg (n : Reg) (s : State) : Out State :=
  trapCode (slice (getReg s n) 0 16) (some (getReg s n >>> 16)) s
/-- R640, Xn: the use of the second register is not described. -/
def execTrapPair (_n : Pair) (_s : State) : Out State := .refused .trapPair

/-! ### Tripwires, canaries, WEX profiles (R645 to R650) -/

/-- One tripwire entry with the selected flags (R, X, W in bits 3 to 1) set or cleared by bit 0. -/
def wireUpdate (mode : BitVec 4) (w : Tripwire) : Tripwire :=
  { w with
    noRead := if bitAt mode 3 then bitAt mode 0 else w.noRead
    noFetch := if bitAt mode 2 then bitAt mode 0 else w.noFetch
    noWrite := if bitAt mode 1 then bitAt mode 0 else w.noWrite }
/-- The tripwires with one line's entry updated. -/
def setWire (line : Nat) (mode : BitVec 4) : List Tripwire → List Tripwire
  | [] => [wireUpdate mode { line := line, noRead := false, noWrite := false, noFetch := false }]
  | w :: t => if w.line = line then wireUpdate mode w :: t else w :: setWire line mode t
/-- R645: the address in Rm, the mode in Rn. -/
def execSettrap (m n : Reg) (s : State) : Out State :=
  retire { s with tripwires := setWire (lineOf (vaOf s (getReg s m))) (slice (getReg s n) 0 4) s.tripwires }
/-- R646. -/
def execVskg (m n : Reg) (s : State) : Out State := retire (setReg s n (Config.canary s.canarySeed (getReg s m)))
/-- R647. -/
def execVskc (m n : Reg) (s : State) : Out State :=
  if getReg s n == Config.canary s.canarySeed (getReg s m) then retire s else raise .canaryCheck s
/-- R650: a NOP without WEX; profile 31 disables WEX and redraws the seed in Supervisor mode, and is the NOP the source
allows elsewhere (log 49). -/
def execWexmd (i : BitVec 5) (s : State) : Out State :=
  if !Config.features.wex then retire s
  else if i == 31#5 then
    if supervisor s then retire { drawn s with sr := setBit s.sr 27 false, canarySeed := freeWord s }
    else retire s
  else retire { s with sr := setBit s.sr 27 (Config.wexProfileSupported i) }

end Sys2Proof.Machine
end

