-- ==== Sys2Proof/Machine/Tags.lean ====
section
/-! DEFINITION. Capabilities, bounds checks, tagged addresses, tag compares and tag moves
(47_system_ttag.md R648, R652 to R669, R930 to R942). -/

namespace Sys2Proof.Machine

open Sys2Proof

/-! ### Capabilities (R648; log 30) -/

/-- User or Superuser mode with bounds enforced. -/
def enforcing (s : State) : Bool := !supervisor s && boundsOn s
/-- R648: where bounds are enforced, a MOVX of a blessed pair. -/
def execXbless (m n : Pair) (s : State) : Out State :=
  withPairs [m, n] <|
    if enforcing s then
      if Config.isBlessed (getPair s m) then retire (setPair s n (getPair s m)) else raise .xblessFault s
    else retire (setPair s n (Config.bless (getPair s m)))

/-! ### Bounds checks (R652 to R663; log 29) -/

/-- The bound an E5.F3 code stands for (R652). -/
def boundOf (code : BitVec 8) : Nat :=
  let e := (slice code 3 5).toNat
  let f := (slice code 0 3).toNat
  if e = 0 then f else (8 + f) <<< (e - 1)
/-- The bias, with the bound's exponent. -/
def biasOf (p : Word) : Nat := (slice p 56 4).toNat <<< ((slice p 51 5).toNat - 1)
/-- 0 <= off + bias < bound. -/
def inBounds (p : Word) (off : Int) : Bool :=
  decide (0 ≤ off + (biasOf p : Int)) && decide (off + (biasOf p : Int) < (boundOf (slice p 48 8) : Int))
/-- The tag of a pointer. -/
def ptrTag (p : Word) : BitVec 4 := slice p 60 4
/-- R653: tag 0000 passes, 0011 is checked, the others fault. -/
def bndchk (off : Int) (n : Reg) (s : State) : Out State :=
  let p := getReg s n
  if ptrTag p == 0#4 || (ptrTag p == 3#4 && inBounds p off) then retire s else raise .boundsCheck s
/-- R658: T is set for a raw pointer and an index in bounds. -/
def bndcmp (off : Int) (n : Reg) (s : State) : Out State :=
  let p := getReg s n
  retire (setT s ((ptrTag p == 0#4 && slice p 48 12 == 0#12) || (ptrTag p == 3#4 && inBounds p off)))
/-- The byte offset of an index. -/
def offOf (s : State) (m : Reg) (scale : Int) : Int := (getReg s m).toInt * scale

/-- R653. -/
def execBndchkB (m n : Reg) (s : State) : Out State := bndchk (offOf s m 1) n s
/-- R654. -/
def execBndchkW (m n : Reg) (s : State) : Out State := bndchk (offOf s m 2) n s
/-- R655: the immediate is a byte offset. -/
def execBndchkImm (i : Word) (n : Reg) (s : State) : Out State := bndchk i.toInt n s
/-- R656. -/
def execBndchkL (m n : Reg) (s : State) : Out State := bndchk (offOf s m 4) n s
/-- R657. -/
def execBndchkQ (m n : Reg) (s : State) : Out State := bndchk (offOf s m 8) n s
/-- R658. -/
def execBndcmpB (m n : Reg) (s : State) : Out State := bndcmp (offOf s m 1) n s
/-- R659. -/
def execBndcmpW (m n : Reg) (s : State) : Out State := bndcmp (offOf s m 2) n s
/-- R661. -/
def execBndcmpL (m n : Reg) (s : State) : Out State := bndcmp (offOf s m 4) n s
/-- R662. -/
def execBndcmpQ (m n : Reg) (s : State) : Out State := bndcmp (offOf s m 8) n s
/-- R663. -/
def execBndcmpImm (i : Word) (n : Reg) (s : State) : Out State := bndcmp i.toInt n s

/-! ### LEAT (R660 to R667; log 29) -/

/-- The base register of an address. -/
def addrBase : Addr → Reg
  | .ind m => m | .disp m _ => m | .dispByte m _ => m | .index m _ => m | .indexDisp m _ _ => m
  | .indexSc m _ _ _ => m | .gbr _ => 1#6
/-- The index of an address is DLR (44_load_store.md R421). -/
def indexIsDlr : Addr → Bool
  | .index _ o => o == 1#6 | .indexDisp _ o _ => o == 1#6 | .indexSc _ o _ _ => o == 1#6
  | .ind _ => false | .disp _ _ => false | .dispByte _ _ => false | .gbr _ => false
/-- The pointer an address moves: none for the pc, DLR for the form (DLR), untagged for GBR and TBR (log 29). -/
def leatPointer (s : State) (a : Addr) : Option Word :=
  if addrBase a = 0#6 then (if indexIsDlr a then some (getReg s dlr) else none)
  else if addrBase a = 1#6 then some 0#64 else some (getReg s (addrBase a))
/-- The tag of the address (R660): the pc gives a link register's tag; F passes; a bounded pointer keeps its bound under a
bias that is free, or loses its tag. -/
def leatTagOf (s : State) (a : Addr) (ea : Word) : BitVec 16 :=
  match leatPointer s a with
  | none => 0#8 ++ slice s.sr 4 4 ++ 0#1 ++ slice s.sr 26 1 ++ 0#2
  | some b =>
    if ptrTag b == 0xF#4 then slice b 48 16
    else if ptrTag b == 3#4 then
      match Config.leatBias b (ea - zext 48 b) with
      | some bias => 3#4 ++ bias ++ slice b 48 8
      | none => 0#16
    else 0#16
/-- R660. -/
def leat (size : Nat) (n : Reg) (a : Addr) (s : State) : Out State :=
  let ea := effAddr s size a
  retire (setReg s n (leatTagOf s a ea ++ slice (leaResult s ea) 0 48))
/-- R664. -/
def execLeatB (n : Reg) (a : Addr) (s : State) : Out State := leat 1 n a s
/-- R665. -/
def execLeatW (n : Reg) (a : Addr) (s : State) : Out State := leat 2 n a s
/-- R666. -/
def execLeatL (n : Reg) (a : Addr) (s : State) : Out State := leat 4 n a s
/-- R667. -/
def execLeatQ (n : Reg) (a : Addr) (s : State) : Out State := leat 8 n a s

/-! ### Tag compares (R668, R669, R930, R931) -/

/-- T from the object tag and a 32-bit reference. -/
def cmpTag (op : BitVec 32 → BitVec 32 → Bool) (m n : Reg) (s : State) : Out State :=
  retire (setT s (op ((slice (getReg s n) 48 12).setWidth 32) (low32 (getReg s m))))
/-- R668. -/
def execCmpTAEQ (m n : Reg) (s : State) : Out State := cmpTag (fun a b => a == b) m n s
/-- R669. -/
def execCmpTAHI (m n : Reg) (s : State) : Out State := cmpTag (fun a b => decide (b.toNat < a.toNat)) m n s
/-- R930. -/
def execCmpTAHS (m n : Reg) (s : State) : Out State := cmpTag (fun a b => decide (b.toNat ≤ a.toNat)) m n s

/-- How many tag bits a pattern names: zzzz0, zzz01, zz011, z0111 (R931, R939). -/
def ttLen (i : BitVec 5) : Option Nat :=
  if !bitAt i 0 then some 4 else if !bitAt i 1 then some 3 else if !bitAt i 2 then some 2
  else if !bitAt i 3 then some 1 else none
/-- R931: bit 5 selects the low tag bits. A pattern outside the table is an undefined encoding. -/
def execCmpTTEQ (i : BitVec 6) (n : Reg) (s : State) : Out State :=
  match ttLen (slice i 0 5) with
  | none => raise .undefinedInstruction s
  | some k =>
    let field := if bitAt i 5 then (slice (getReg s n) 0 4).toNat % 2 ^ k else (slice (getReg s n) 60 4).toNat / 2 ^ (4 - k)
    retire (setT s (field == (slice i 0 5).toNat / 2 ^ (5 - k)))

/-! ### Tag moves (R932 to R942) -/

/-- Rn <- f(Rm). -/
def tagMove (f : Word → Word) (m n : Reg) (s : State) : Out State := retire (setReg s n (f (getReg s m)))
/-- Both registers of a pair. -/
def tagMoveX (f : Word → Word) (m n : Pair) (s : State) : Out State :=
  withPairs [m, n] (retire (setPair s n (quad (f (hiWord (getPair s m))) (f (loWord (getPair s m))))))
/-- A word with its high 16 bits replaced. -/
def withTag (t : BitVec 16) (v : Word) : Word := t ++ slice v 0 48

/-- R932. -/
def execConvfxi (m n : Reg) (s : State) : Out State := tagMove (fun v => 1#2 ++ slice v 0 62) m n s
/-- R933. -/
def execConvfli (m n : Reg) (s : State) : Out State := tagMove (fun v => 2#2 ++ slice v 2 62) m n s
/-- R934. -/
def execMovST (m n : Reg) (s : State) : Out State := tagMove (sext 48) m n s
/-- R935. -/
def execXmovST (m n : Pair) (s : State) : Out State := tagMoveX (sext 48) m n s
/-- R936. -/
def execMovZT (m n : Reg) (s : State) : Out State := tagMove (zext 48) m n s
/-- R937. -/
def execXmovZT (m n : Pair) (s : State) : Out State := tagMoveX (zext 48) m n s
/-- R938. -/
def execMovTTReg (m o n : Reg) (s : State) : Out State :=
  tagMove (withTag (if Config.movttFromLow16 then slice (getReg s o) 0 16 else slice (getReg s o) 48 16)) m n s
/-- R939: the pattern's bits replace the top ones. A pattern outside the table is an undefined encoding. -/
def execMovTTTag (m : Reg) (i : BitVec 5) (n : Reg) (s : State) : Out State :=
  match ttLen i with
  | none => raise .undefinedInstruction s
  | some k =>
    tagMove (fun v => zext (64 - k) v ||| (BitVec.ofNat 64 (i.toNat / 2 ^ (5 - k)) <<< (64 - k))) m n s
/-- R940. -/
def execMovTTImm (m : Reg) (v : Word) (n : Reg) (s : State) : Out State := tagMove (withTag (slice v 0 16)) m n s

/-- The value with a tag in each half (R941). -/
def withTags (t : BitVec 32) (v : Quad) : Quad := quad (withTag (slice t 16 16) (hiWord v)) (withTag (slice t 0 16) (loWord v))
/-- R941: without the bounds-enforcing group a copy; with it the result is blessed where bounds are not enforced, and Config
decides where they are. -/
def xmovtt (v : Quad) (t : BitVec 32) (n : Pair) (s : State) : Out State :=
  if !Config.features.bce then retire (setPair s n (withTags t v))
  else if boundsOn s then
    match Config.bceSetBounds v t (!supervisor s) with
    | none => raise .xblessFault s
    | some true => retire (setPair s n (Config.bless (withTags t v)))
    | some false => retire (setPair s n (withTags t v))
  else retire (setPair s n (Config.bless (withTags t v)))
/-- R941. -/
def execXmovTTReg (m : Pair) (o : Reg) (n : Pair) (s : State) : Out State :=
  withPairs [m, n] (xmovtt (getPair s m) (low32 (getReg s o)) n s)
/-- R942. -/
def execXmovTTImm (i : BitVec 32) (n : Pair) (s : State) : Out State :=
  withPairs [n] (xmovtt (getPair s n) i n s)

end Sys2Proof.Machine
end

