-- ==== Sys2Proof/Machine/Dispatch.lean ====
section
/-! DEFINITION. One arm per instruction, each one call of its meaning. -/

namespace Sys2Proof.Machine

open Sys2Proof

/-- The meaning of an instruction (30_encoding.md R180, the operation of its rule). -/
def exec (i : Instr) (s : State) : Host.Outcome State Fault Refusal :=
  match i with
  | .add m s' n => Sys2Proof.Machine.execAdd m s' n s
  | .adc m n => Sys2Proof.Machine.execAdc m n s
  | .addsL m s' n => Sys2Proof.Machine.execAddsL m s' n s
  | .adduL m s' n => Sys2Proof.Machine.execAdduL m s' n s
  | .sub m o n => Sys2Proof.Machine.execSub m o n s
  | .subsL m o n => Sys2Proof.Machine.execSubsL m o n s
  | .subuL m o n => Sys2Proof.Machine.execSubuL m o n s
  | .sbb m n => Sys2Proof.Machine.execSbb m n s
  | .subP m o n => Sys2Proof.Machine.execSubP m o n s
  | .subxP m o n => Sys2Proof.Machine.execSubxP m o n s
  | .and m s' n => Sys2Proof.Machine.execAnd m s' n s
  | .or m s' n => Sys2Proof.Machine.execOr m s' n s
  | .xor m s' n => Sys2Proof.Machine.execXor m s' n s
  | .bswapuL m n => Sys2Proof.Machine.execBswapuL m n s
  | .bswapQ m n => Sys2Proof.Machine.execBswapQ m n s
  | .not m n => Sys2Proof.Machine.execNot m n s
  | .neg m n => Sys2Proof.Machine.execNeg m n s
  | .negc n => Sys2Proof.Machine.execNegc n s
  | .nop => Sys2Proof.Machine.execNop s
  | .nop3r n => Sys2Proof.Machine.execNop3r n s
  | .nop3rrr m o n => Sys2Proof.Machine.execNop3rrr m o n s
  | .mov m n => Sys2Proof.Machine.execMov m n s
  | .movx m n => Sys2Proof.Machine.execMovx m n s
  | .movd m n => Sys2Proof.Machine.execMovd m n s
  | .extsB m n => Sys2Proof.Machine.execExtsB m n s
  | .extsW m n => Sys2Proof.Machine.execExtsW m n s
  | .extsL m n => Sys2Proof.Machine.execExtsL m n s
  | .extuB m n => Sys2Proof.Machine.execExtuB m n s
  | .extuW m n => Sys2Proof.Machine.execExtuW m n s
  | .extuL m n => Sys2Proof.Machine.execExtuL m n s
  | .cselt m o n => Sys2Proof.Machine.execCselt m o n s
  | .min m o n => Sys2Proof.Machine.execMin m o n s
  | .max m o n => Sys2Proof.Machine.execMax m o n s
  | .clz m n => Sys2Proof.Machine.execClz m n s
  | .clzq m n => Sys2Proof.Machine.execClzq m n s
  | .ctz m n => Sys2Proof.Machine.execCtz m n s
  | .ctzq m n => Sys2Proof.Machine.execCtzq m n s
  | .btrns m n => Sys2Proof.Machine.execBtrns m n s
  | .btrnsq m n => Sys2Proof.Machine.execBtrnsq m n s
  | .bcdadc m n => Sys2Proof.Machine.execBcdadc m n s
  | .bcdsbb m n => Sys2Proof.Machine.execBcdsbb m n s
  | .bitnn m o n => Sys2Proof.Machine.execBitnn m o n s
  | .pmortL m n => Sys2Proof.Machine.execPmortL m n s
  | .pmortQ m n => Sys2Proof.Machine.execPmortQ m n s
  | .bitsel m o n => Sys2Proof.Machine.execBitsel m o n s
  | .bitselx m o n => Sys2Proof.Machine.execBitselx m o n s
  | .bitmovImm m o n c => Sys2Proof.Machine.execBitmovImm m o n c s
  | .bitmovReg m o p n => Sys2Proof.Machine.execBitmovReg m o p n s
  | .bitmovxImm m o n c => Sys2Proof.Machine.execBitmovxImm m o n c s
  | .bitmovxReg m o p n => Sys2Proof.Machine.execBitmovxReg m o p n s
  | .bitmovsImm m o n c => Sys2Proof.Machine.execBitmovsImm m o n c s
  | .bitmovsReg m o p n => Sys2Proof.Machine.execBitmovsReg m o p n s
  | .bitmovsxImm m o n c => Sys2Proof.Machine.execBitmovsxImm m o n c s
  | .bitmovsxReg m o p n => Sys2Proof.Machine.execBitmovsxReg m o p n s
  | .adcL m n => Sys2Proof.Machine.execAdcL m n s
  | .sbbL m n => Sys2Proof.Machine.execSbbL m n s
  | .cmpEQ s' n f => Sys2Proof.Machine.execCmpEQ s' n f s
  | .cmpEQS m n => Sys2Proof.Machine.execCmpEQS m n s
  | .cmpGT s' n f => Sys2Proof.Machine.execCmpGT s' n f s
  | .cmpGTS m n => Sys2Proof.Machine.execCmpGTS m n s
  | .cmpHI s' n f => Sys2Proof.Machine.execCmpHI s' n f s
  | .cmpHIS m n => Sys2Proof.Machine.execCmpHIS m n s
  | .cmpGE s' n f => Sys2Proof.Machine.execCmpGE s' n f s
  | .cmpGES m n => Sys2Proof.Machine.execCmpGES m n s
  | .cmpHS s' n f => Sys2Proof.Machine.execCmpHS s' n f s
  | .cmpHSS m n => Sys2Proof.Machine.execCmpHSS m n s
  | .cmpQEQ s' n f => Sys2Proof.Machine.execCmpQEQ s' n f s
  | .cmpQEQS m n => Sys2Proof.Machine.execCmpQEQS m n s
  | .cmpQGT s' n f => Sys2Proof.Machine.execCmpQGT s' n f s
  | .cmpQGTS m n => Sys2Proof.Machine.execCmpQGTS m n s
  | .cmpQHI s' n f => Sys2Proof.Machine.execCmpQHI s' n f s
  | .cmpQHIS m n => Sys2Proof.Machine.execCmpQHIS m n s
  | .cmpQGE s' n f => Sys2Proof.Machine.execCmpQGE s' n f s
  | .cmpQGES m n => Sys2Proof.Machine.execCmpQGES m n s
  | .cmpQHS s' n f => Sys2Proof.Machine.execCmpQHS s' n f s
  | .cmpQHSS m n => Sys2Proof.Machine.execCmpQHSS m n s
  | .tst s' n f => Sys2Proof.Machine.execTst s' n f s
  | .tstS m n => Sys2Proof.Machine.execTstS m n s
  | .tstQ s' n f => Sys2Proof.Machine.execTstQ s' n f s
  | .tstQS m n => Sys2Proof.Machine.execTstQS m n s
  | .cmpPEQ m n => Sys2Proof.Machine.execCmpPEQ m n s
  | .cmpPEQX m n => Sys2Proof.Machine.execCmpPEQX m n s
  | .cmpPGT m n => Sys2Proof.Machine.execCmpPGT m n s
  | .cmpPGTX m n => Sys2Proof.Machine.execCmpPGTX m n s
  | .cmp3EQ m s' n => Sys2Proof.Machine.execCmp3EQ m s' n s
  | .cmp3GT m s' n => Sys2Proof.Machine.execCmp3GT m s' n s
  | .cmp3NE m s' n => Sys2Proof.Machine.execCmp3NE m s' n s
  | .cmp3LT m v n => Sys2Proof.Machine.execCmp3LT m v n s
  | .cmp3GE m o n => Sys2Proof.Machine.execCmp3GE m o n s
  | .cmp3HI m v n => Sys2Proof.Machine.execCmp3HI m v n s
  | .cmp3BI m v n => Sys2Proof.Machine.execCmp3BI m v n s
  | .clrT => Sys2Proof.Machine.execClrT s
  | .setT => Sys2Proof.Machine.execSetT s
  | .clrS => Sys2Proof.Machine.execClrS s
  | .setS => Sys2Proof.Machine.execSetS s
  | .notT => Sys2Proof.Machine.execNotT s
  | .notS => Sys2Proof.Machine.execNotS s
  | .srtprop imm => Sys2Proof.Machine.execSrtprop imm s
  | .srttwid imm => Sys2Proof.Machine.execSrttwid imm s
  | .movT n => Sys2Proof.Machine.execMovT n s
  | .movNT n => Sys2Proof.Machine.execMovNT n s
  | .shad m s' n => Sys2Proof.Machine.execShad m s' n s
  | .shadq m s' n => Sys2Proof.Machine.execShadq m s' n s
  | .shadx m o n => Sys2Proof.Machine.execShadx m o n s
  | .shld m s' n => Sys2Proof.Machine.execShld m s' n s
  | .shldq m s' n => Sys2Proof.Machine.execShldq m s' n s
  | .shldx m o n => Sys2Proof.Machine.execShldx m o n s
  | .shar m o n => Sys2Proof.Machine.execShar m o n s
  | .sharq m o n => Sys2Proof.Machine.execSharq m o n s
  | .sharx m o n => Sys2Proof.Machine.execSharx m o n s
  | .shlr m o n => Sys2Proof.Machine.execShlr m o n s
  | .shlrq m o n => Sys2Proof.Machine.execShlrq m o n s
  | .shlrx m o n => Sys2Proof.Machine.execShlrx m o n s
  | .rotclL n => Sys2Proof.Machine.execRotclL n s
  | .rotclQ n => Sys2Proof.Machine.execRotclQ n s
  | .rotcrL n => Sys2Proof.Machine.execRotcrL n s
  | .rotcrQ n => Sys2Proof.Machine.execRotcrQ n s
  | .rotl n => Sys2Proof.Machine.execRotl n s
  | .rotr n => Sys2Proof.Machine.execRotr n s
  | .rotlQ m o n => Sys2Proof.Machine.execRotlQ m o n s
  | .rotlL m o n => Sys2Proof.Machine.execRotlL m o n s
  | .rotlx m o n => Sys2Proof.Machine.execRotlx m o n s
  | .rotrQ m o n => Sys2Proof.Machine.execRotrQ m o n s
  | .muls m s' n => Sys2Proof.Machine.execMuls m s' n s
  | .mulu m s' n => Sys2Proof.Machine.execMulu m s' n s
  | .mulsQ m o n => Sys2Proof.Machine.execMulsQ m o n s
  | .muluQ m o n => Sys2Proof.Machine.execMuluQ m o n s
  | .mulhsQ m o n => Sys2Proof.Machine.execMulhsQ m o n s
  | .mulhuQ m o n => Sys2Proof.Machine.execMulhuQ m o n s
  | .dmulsL m o n => Sys2Proof.Machine.execDmulsL m o n s
  | .dmuluL m o n => Sys2Proof.Machine.execDmuluL m o n s
  | .mulsW m s' n => Sys2Proof.Machine.execMulsW m s' n s
  | .muluW m s' n => Sys2Proof.Machine.execMuluW m s' n s
  | .muluX m n => Sys2Proof.Machine.execMuluX m n s
  | .mulhuX m n => Sys2Proof.Machine.execMulhuX m n s
  | .macsL m b a n => Sys2Proof.Machine.execMacsL m b a n s
  | .macuL m b a n => Sys2Proof.Machine.execMacuL m b a n s
  | .dmacsL m b a n => Sys2Proof.Machine.execDmacsL m b a n s
  | .dmacuL m b a n => Sys2Proof.Machine.execDmacuL m b a n s
  | .divsQ m o n => Sys2Proof.Machine.execDivsQ m o n s
  | .divuQ m o n => Sys2Proof.Machine.execDivuQ m o n s
  | .divsL m o n => Sys2Proof.Machine.execDivsL m o n s
  | .divuL m o n => Sys2Proof.Machine.execDivuL m o n s
  | .modsQ m o n => Sys2Proof.Machine.execModsQ m o n s
  | .moduQ m o n => Sys2Proof.Machine.execModuQ m o n s
  | .modsL m o n => Sys2Proof.Machine.execModsL m o n s
  | .moduL m o n => Sys2Proof.Machine.execModuL m o n s
  | .div0 => Sys2Proof.Machine.execDiv0 s
  | .div1 => Sys2Proof.Machine.execDiv1 s
  | .ldiz v n => Sys2Proof.Machine.execLdiz v n s
  | .ldin v n => Sys2Proof.Machine.execLdin v n s
  | .ldi8 v n => Sys2Proof.Machine.execLdi8 v n s
  | .ldi64 v n => Sys2Proof.Machine.execLdi64 v n s
  | .ldimiz v n => Sys2Proof.Machine.execLdimiz v n s
  | .ldimin v n => Sys2Proof.Machine.execLdimin v n s
  | .ldish v n => Sys2Proof.Machine.execLdish v n s
  | .ldihi v n => Sys2Proof.Machine.execLdihi v n s
  | .ldihiL imm n => Sys2Proof.Machine.execLdihiL imm n s
  | .ldihiq v n => Sys2Proof.Machine.execLdihiq v n s
  | .ldihiQ imm n => Sys2Proof.Machine.execLdihiQ imm n s
  | .ldish16 v n => Sys2Proof.Machine.execLdish16 v n s
  | .ldiroz imm n => Sys2Proof.Machine.execLdiroz imm n s
  | .ldirozq imm n => Sys2Proof.Machine.execLdirozq imm n s
  | .ldiron imm n => Sys2Proof.Machine.execLdiron imm n s
  | .ldironq imm n => Sys2Proof.Machine.execLdironq imm n s
  | .movB d n a => Sys2Proof.Machine.execMovB d n a s
  | .movW d n a => Sys2Proof.Machine.execMovW d n a s
  | .movL d n a => Sys2Proof.Machine.execMovL d n a s
  | .movQ d n a => Sys2Proof.Machine.execMovQ d n a s
  | .movuB n a => Sys2Proof.Machine.execMovuB n a s
  | .movuW n a => Sys2Proof.Machine.execMovuW n a s
  | .movuL n a => Sys2Proof.Machine.execMovuL n a s
  | .movnL n a => Sys2Proof.Machine.execMovnL n a s
  | .leaB n a => Sys2Proof.Machine.execLeaB n a s
  | .leaW n a => Sys2Proof.Machine.execLeaW n a s
  | .leaL n a => Sys2Proof.Machine.execLeaL n a s
  | .leaQ n a => Sys2Proof.Machine.execLeaQ n a s
  | .movX d n a => Sys2Proof.Machine.execMovX d n a s
  | .movC d c a => Sys2Proof.Machine.execMovC d c a s
  | .movTW d n a => Sys2Proof.Machine.execMovTW d n a s
  | .movuTW n a => Sys2Proof.Machine.execMovuTW n a s
  | .movHTW d n a => Sys2Proof.Machine.execMovHTW d n a s
  | .xmovB d n a => Sys2Proof.Machine.execXmovB d n a s
  | .xmovW d n a => Sys2Proof.Machine.execXmovW d n a s
  | .xmovL d n a => Sys2Proof.Machine.execXmovL d n a s
  | .xmovQ d n a => Sys2Proof.Machine.execXmovQ d n a s
  | .xmovX d n a => Sys2Proof.Machine.execXmovX d n a s
  | .ldop u d k n a => Sys2Proof.Machine.execLdop u d k n a s
  | .ldtex m o d n => Sys2Proof.Machine.execLdtex m o d n s
  | .rbsldQ imm n => Sys2Proof.Machine.execRbsldQ imm n s
  | .rbsldX imm n => Sys2Proof.Machine.execRbsldX imm n s
  | .rbsstQ imm n => Sys2Proof.Machine.execRbsstQ imm n s
  | .rbsstX imm n => Sys2Proof.Machine.execRbsstX imm n s
  | .bra t => Sys2Proof.Machine.execBra t s
  | .jmp n => Sys2Proof.Machine.execJmp n s
  | .jmpAbs a => Sys2Proof.Machine.execJmpAbs a s
  | .bsr t => Sys2Proof.Machine.execBsr t s
  | .jsr n => Sys2Proof.Machine.execJsr n s
  | .jsrAbs a => Sys2Proof.Machine.execJsrAbs a s
  | .rts => Sys2Proof.Machine.execRts s
  | .rtsu => Sys2Proof.Machine.execRtsu s
  | .bt t => Sys2Proof.Machine.execBt t s
  | .bf t => Sys2Proof.Machine.execBf t s
  | .jt n => Sys2Proof.Machine.execJt n s
  | .jf n => Sys2Proof.Machine.execJf n s
  | .braL n => Sys2Proof.Machine.execBraL n s
  | .bsrL n => Sys2Proof.Machine.execBsrL n s
  | .btL n => Sys2Proof.Machine.execBtL n s
  | .bfL n => Sys2Proof.Machine.execBfL n s
  | .jmpmd imm n => Sys2Proof.Machine.execJmpmd imm n s
  | .jsrmd imm n => Sys2Proof.Machine.execJsrmd imm n s
  | .brEQL n d => Sys2Proof.Machine.execBrEQL n d s
  | .brEQQ n d => Sys2Proof.Machine.execBrEQQ n d s
  | .brNEL n d => Sys2Proof.Machine.execBrNEL n d s
  | .brNEQ n d => Sys2Proof.Machine.execBrNEQ n d s
  | .brLTL n d => Sys2Proof.Machine.execBrLTL n d s
  | .brLTQ n d => Sys2Proof.Machine.execBrLTQ n d s
  | .brGEL n d => Sys2Proof.Machine.execBrGEL n d s
  | .brGEQ n d => Sys2Proof.Machine.execBrGEQ n d s
  | .brLEL n d => Sys2Proof.Machine.execBrLEL n d s
  | .brLEQ n d => Sys2Proof.Machine.execBrLEQ n d s
  | .brGTL n d => Sys2Proof.Machine.execBrGTL n d s
  | .brGTQ n d => Sys2Proof.Machine.execBrGTQ n d s
  | .jtstT m n d => Sys2Proof.Machine.execJtstT m n d s
  | .jtstQT m n d => Sys2Proof.Machine.execJtstQT m n d s
  | .jtstF m n d => Sys2Proof.Machine.execJtstF m n d s
  | .jtstQF m n d => Sys2Proof.Machine.execJtstQF m n d s
  | .jcmpGT m n d => Sys2Proof.Machine.execJcmpGT m n d s
  | .jcmpQGT m n d => Sys2Proof.Machine.execJcmpQGT m n d s
  | .jcmpLE m n d => Sys2Proof.Machine.execJcmpLE m n d s
  | .jcmpQLE m n d => Sys2Proof.Machine.execJcmpQLE m n d s
  | .jcmpHI m n d => Sys2Proof.Machine.execJcmpHI m n d s
  | .jcmpQHI m n d => Sys2Proof.Machine.execJcmpQHI m n d s
  | .jcmpLS m n d => Sys2Proof.Machine.execJcmpLS m n d s
  | .jcmpQLS m n d => Sys2Proof.Machine.execJcmpQLS m n d s
  | .jcmpEQ m n d => Sys2Proof.Machine.execJcmpEQ m n d s
  | .jcmpQEQ m n d => Sys2Proof.Machine.execJcmpQEQ m n d s
  | .jcmpNE m n d => Sys2Proof.Machine.execJcmpNE m n d s
  | .jcmpQNE m n d => Sys2Proof.Machine.execJcmpQNE m n d s
  | .jcmpz q c n d => Sys2Proof.Machine.execJcmpz q c n d s
  | .movToC m c => Sys2Proof.Machine.execMovToC m c s
  | .movFromC c n => Sys2Proof.Machine.execMovFromC c n s
  | .movToS m k => Sys2Proof.Machine.execMovToS m k s
  | .movFromS k n => Sys2Proof.Machine.execMovFromS k n s
  | .breakOp => Sys2Proof.Machine.execBreakOp s
  | .break2 => Sys2Proof.Machine.execBreak2 s
  | .sleep => Sys2Proof.Machine.execSleep s
  | .rte => Sys2Proof.Machine.execRte s
  | .cpuid imm => Sys2Proof.Machine.execCpuid imm s
  | .invtlb => Sys2Proof.Machine.execInvtlb s
  | .invic n => Sys2Proof.Machine.execInvic n s
  | .invdc n => Sys2Proof.Machine.execInvdc n s
  | .ldtlb => Sys2Proof.Machine.execLdtlb s
  | .ldxtlb => Sys2Proof.Machine.execLdxtlb s
  | .snipedc m n => Sys2Proof.Machine.execSnipedc m n s
  | .snipeic m n => Sys2Proof.Machine.execSnipeic m n s
  | .ldacl => Sys2Proof.Machine.execLdacl s
  | .ldekrr => Sys2Proof.Machine.execLdekrr s
  | .svekrr => Sys2Proof.Machine.execSvekrr s
  | .ldekey => Sys2Proof.Machine.execLdekey s
  | .ldeenc => Sys2Proof.Machine.execLdeenc s
  | .sxentr => Sys2Proof.Machine.execSxentr s
  | .suentr => Sys2Proof.Machine.execSuentr s
  | .sventr => Sys2Proof.Machine.execSventr s
  | .trapImm imm => Sys2Proof.Machine.execTrapImm imm s
  | .trapReg n => Sys2Proof.Machine.execTrapReg n s
  | .trapPair n => Sys2Proof.Machine.execTrapPair n s
  | .settrap m n => Sys2Proof.Machine.execSettrap m n s
  | .vskg m n => Sys2Proof.Machine.execVskg m n s
  | .vskc m n => Sys2Proof.Machine.execVskc m n s
  | .xbless m n => Sys2Proof.Machine.execXbless m n s
  | .wexmd imm => Sys2Proof.Machine.execWexmd imm s
  | .bndchkB m n => Sys2Proof.Machine.execBndchkB m n s
  | .bndchkW m n => Sys2Proof.Machine.execBndchkW m n s
  | .bndchkImm imm n => Sys2Proof.Machine.execBndchkImm imm n s
  | .bndchkL m n => Sys2Proof.Machine.execBndchkL m n s
  | .bndchkQ m n => Sys2Proof.Machine.execBndchkQ m n s
  | .bndcmpB m n => Sys2Proof.Machine.execBndcmpB m n s
  | .bndcmpW m n => Sys2Proof.Machine.execBndcmpW m n s
  | .bndcmpL m n => Sys2Proof.Machine.execBndcmpL m n s
  | .bndcmpQ m n => Sys2Proof.Machine.execBndcmpQ m n s
  | .bndcmpImm imm n => Sys2Proof.Machine.execBndcmpImm imm n s
  | .leatB n a => Sys2Proof.Machine.execLeatB n a s
  | .leatW n a => Sys2Proof.Machine.execLeatW n a s
  | .leatL n a => Sys2Proof.Machine.execLeatL n a s
  | .leatQ n a => Sys2Proof.Machine.execLeatQ n a s
  | .cmpTAEQ m n => Sys2Proof.Machine.execCmpTAEQ m n s
  | .cmpTAHI m n => Sys2Proof.Machine.execCmpTAHI m n s
  | .cmpTAHS m n => Sys2Proof.Machine.execCmpTAHS m n s
  | .cmpTTEQ imm n => Sys2Proof.Machine.execCmpTTEQ imm n s
  | .convfxi m n => Sys2Proof.Machine.execConvfxi m n s
  | .convfli m n => Sys2Proof.Machine.execConvfli m n s
  | .movST m n => Sys2Proof.Machine.execMovST m n s
  | .xmovST m n => Sys2Proof.Machine.execXmovST m n s
  | .movZT m n => Sys2Proof.Machine.execMovZT m n s
  | .xmovZT m n => Sys2Proof.Machine.execXmovZT m n s
  | .movTTReg m o n => Sys2Proof.Machine.execMovTTReg m o n s
  | .movTTTag m imm n => Sys2Proof.Machine.execMovTTTag m imm n s
  | .movTTImm m v n => Sys2Proof.Machine.execMovTTImm m v n s
  | .xmovTTReg m o n => Sys2Proof.Machine.execXmovTTReg m o n s
  | .xmovTTImm imm n => Sys2Proof.Machine.execXmovTTImm imm n s
  | .movHD2 m n => Sys2Proof.Machine.execMovHD2 m n s
  | .movLD2 m n => Sys2Proof.Machine.execMovLD2 m n s
  | .movHLD2 m n => Sys2Proof.Machine.execMovHLD2 m n s
  | .movLHD2 m n => Sys2Proof.Machine.execMovLHD2 m n s
  | .movHD m o n => Sys2Proof.Machine.execMovHD m o n s
  | .movLD m o n => Sys2Proof.Machine.execMovLD m o n s
  | .movHLD m o n => Sys2Proof.Machine.execMovHLD m o n s
  | .movLHD m o n => Sys2Proof.Machine.execMovLHD m o n s
  | .movHW m o n => Sys2Proof.Machine.execMovHW m o n s
  | .movLW m o n => Sys2Proof.Machine.execMovLW m o n s
  | .paddW m o n => Sys2Proof.Machine.execPaddW m o n s
  | .paddL m o n => Sys2Proof.Machine.execPaddL m o n s
  | .paddF m o n => Sys2Proof.Machine.execPaddF m o n s
  | .paddxF m o n => Sys2Proof.Machine.execPaddxF m o n s
  | .paddH m o n => Sys2Proof.Machine.execPaddH m o n s
  | .paddxD m o n => Sys2Proof.Machine.execPaddxD m o n s
  | .psubF m o n => Sys2Proof.Machine.execPsubF m o n s
  | .psubxF m o n => Sys2Proof.Machine.execPsubxF m o n s
  | .psubH m o n => Sys2Proof.Machine.execPsubH m o n s
  | .psubxD m o n => Sys2Proof.Machine.execPsubxD m o n s
  | .pmulF m o n => Sys2Proof.Machine.execPmulF m o n s
  | .pmulxF m o n => Sys2Proof.Machine.execPmulxF m o n s
  | .pmulH m o n => Sys2Proof.Machine.execPmulH m o n s
  | .pmulxD m o n => Sys2Proof.Machine.execPmulxD m o n s
  | .psubW m o n => Sys2Proof.Machine.execPsubW m o n s
  | .psubL m o n => Sys2Proof.Machine.execPsubL m o n s
  | .paddXrm m o n imm => Sys2Proof.Machine.execPaddXrm m o n imm s
  | .paddxXrm m o n imm => Sys2Proof.Machine.execPaddxXrm m o n imm s
  | .pmulXrm m o n imm => Sys2Proof.Machine.execPmulXrm m o n imm s
  | .pmulxXrm m o n imm => Sys2Proof.Machine.execPmulxXrm m o n imm s
  | .pmulsW m o n => Sys2Proof.Machine.execPmulsW m o n s
  | .pmuluW m o n => Sys2Proof.Machine.execPmuluW m o n s
  | .pmulsLW m o n => Sys2Proof.Machine.execPmulsLW m o n s
  | .pmuluLW m o n => Sys2Proof.Machine.execPmuluLW m o n s
  | .pmulsHW m o n => Sys2Proof.Machine.execPmulsHW m o n s
  | .pmuluHW m o n => Sys2Proof.Machine.execPmuluHW m o n s
  | .pcmpEQH m n => Sys2Proof.Machine.execPcmpEQH m n s
  | .pcmpEQF m n => Sys2Proof.Machine.execPcmpEQF m n s
  | .pcmpGTH m n => Sys2Proof.Machine.execPcmpGTH m n s
  | .pcmpGTF m n => Sys2Proof.Machine.execPcmpGTF m n s
  | .pcmpEQW m n => Sys2Proof.Machine.execPcmpEQW m n s
  | .pcmpEQL m n => Sys2Proof.Machine.execPcmpEQL m n s
  | .pcmpHIW m n => Sys2Proof.Machine.execPcmpHIW m n s
  | .pcmpHIL m n => Sys2Proof.Machine.execPcmpHIL m n s
  | .pcmpGTW m n => Sys2Proof.Machine.execPcmpGTW m n s
  | .pcmpGTL m n => Sys2Proof.Machine.execPcmpGTL m n s
  | .pcseltW m o n => Sys2Proof.Machine.execPcseltW m o n s
  | .pcseltL m o n => Sys2Proof.Machine.execPcseltL m o n s
  | .pselTW m n => Sys2Proof.Machine.execPselTW m n s
  | .pselFW m n => Sys2Proof.Machine.execPselFW m n s
  | .pselTL m n => Sys2Proof.Machine.execPselTL m n s
  | .pselFL m n => Sys2Proof.Machine.execPselFL m n s
  | .pdottH imm n => Sys2Proof.Machine.execPdottH imm n s
  | .pdottF imm n => Sys2Proof.Machine.execPdottF imm n s
  | .pstcF8H m n => Sys2Proof.Machine.execPstcF8H m n s
  | .pldcF8H m n => Sys2Proof.Machine.execPldcF8H m n s
  | .pldcH m n => Sys2Proof.Machine.execPldcH m n s
  | .pldcHH m n => Sys2Proof.Machine.execPldcHH m n s
  | .pldcEHL m n => Sys2Proof.Machine.execPldcEHL m n s
  | .pldcEHH m n => Sys2Proof.Machine.execPldcEHH m n s
  | .pstcH m n => Sys2Proof.Machine.execPstcH m n s
  | .pldcM8SH m n => Sys2Proof.Machine.execPldcM8SH m n s
  | .pldcM8UH m n => Sys2Proof.Machine.execPldcM8UH m n s
  | .pstcM8SH m n => Sys2Proof.Machine.execPstcM8SH m n s
  | .pstcM8UH m n => Sys2Proof.Machine.execPstcM8UH m n s
  | .prcpaH m n => Sys2Proof.Machine.execPrcpaH m n s
  | .prcpaF m n => Sys2Proof.Machine.execPrcpaF m n s
  | .preluH m n => Sys2Proof.Machine.execPreluH m n s
  | .preluF m n => Sys2Proof.Machine.execPreluF m n s
  | .pshalW m n => Sys2Proof.Machine.execPshalW m n s
  | .pshllW m n => Sys2Proof.Machine.execPshllW m n s
  | .psharW m n => Sys2Proof.Machine.execPsharW m n s
  | .pshlrW m n => Sys2Proof.Machine.execPshlrW m n s
  | .psqrtaH m n => Sys2Proof.Machine.execPsqrtaH m n s
  | .psqrtuaH m n => Sys2Proof.Machine.execPsqrtuaH m n s
  | .psqrtaF m n => Sys2Proof.Machine.execPsqrtaF m n s
  | .psqrtuaF m n => Sys2Proof.Machine.execPsqrtuaF m n s
  | .pldcHImm imm n => Sys2Proof.Machine.execPldcHImm imm n s
  | .pldcM8SHImm imm n => Sys2Proof.Machine.execPldcM8SHImm imm n s
  | .pldcM8UHImm imm n => Sys2Proof.Machine.execPldcM8UHImm imm n s
  | .pshufB m imm n => Sys2Proof.Machine.execPshufB m imm n s
  | .pshufW m imm n => Sys2Proof.Machine.execPshufW m imm n s
  | .pshufW33 m imm n => Sys2Proof.Machine.execPshufW33 m imm n s
  | .pshufW17 m imm n => Sys2Proof.Machine.execPshufW17 m imm n s
  | .pscheqW m o n => Sys2Proof.Machine.execPscheqW m o n s
  | .pscheqB m o n => Sys2Proof.Machine.execPscheqB m o n s
  | .pschneW m o n => Sys2Proof.Machine.execPschneW m o n s
  | .pschneB m o n => Sys2Proof.Machine.execPschneB m o n s
  | .swapB m n => Sys2Proof.Machine.execSwapB m n s
  | .swapW m n => Sys2Proof.Machine.execSwapW m n s
  | .swap8B m n => Sys2Proof.Machine.execSwap8B m n s
  | .swapL m n => Sys2Proof.Machine.execSwapL m n s
  | .swapLB m n => Sys2Proof.Machine.execSwapLB m n s
  | .swapLW m n => Sys2Proof.Machine.execSwapLW m n s
  | .swcpLB m n => Sys2Proof.Machine.execSwcpLB m n s
  | .swcpLW m n => Sys2Proof.Machine.execSwcpLW m n s
  | .swapMB m n => Sys2Proof.Machine.execSwapMB m n s
  | .swapMW m n => Sys2Proof.Machine.execSwapMW m n s
  | .swcpMB m n => Sys2Proof.Machine.execSwcpMB m n s
  | .swcpMW m n => Sys2Proof.Machine.execSwcpMW m n s
  | .swapHB m n => Sys2Proof.Machine.execSwapHB m n s
  | .swapHW m n => Sys2Proof.Machine.execSwapHW m n s
  | .swcpHB m n => Sys2Proof.Machine.execSwcpHB m n s
  | .swcpHW m n => Sys2Proof.Machine.execSwcpHW m n s
  | .paddshxX m o imm n => Sys2Proof.Machine.execPaddshxX m o imm n s
  | .psubshxX m o imm n => Sys2Proof.Machine.execPsubshxX m o imm n s
  | .pmulshxX m o imm n => Sys2Proof.Machine.execPmulshxX m o imm n s
  | .paddshH m o imm n => Sys2Proof.Machine.execPaddshH m o imm n s
  | .psubshH m o imm n => Sys2Proof.Machine.execPsubshH m o imm n s
  | .pmulshH m o imm n => Sys2Proof.Machine.execPmulshH m o imm n s
  | .pmacshHV m imm n => Sys2Proof.Machine.execPmacshHV m imm n s
  | .pmacshFV m imm n => Sys2Proof.Machine.execPmacshFV m imm n s
  | .paddHV m imm n => Sys2Proof.Machine.execPaddHV m imm n s
  | .paddFV m imm n => Sys2Proof.Machine.execPaddFV m imm n s
  | .pmulHV m imm n => Sys2Proof.Machine.execPmulHV m imm n s
  | .pmulFV m imm n => Sys2Proof.Machine.execPmulFV m imm n s
  | .paddshHV m imm n => Sys2Proof.Machine.execPaddshHV m imm n s
  | .paddshFV m imm n => Sys2Proof.Machine.execPaddshFV m imm n s
  | .pmulshHV m imm n => Sys2Proof.Machine.execPmulshHV m imm n s
  | .pmulshFV m imm n => Sys2Proof.Machine.execPmulshFV m imm n s
  | .pmulF8H m o n => Sys2Proof.Machine.execPmulF8H m o n s
  | .pmultxL m imm n => Sys2Proof.Machine.execPmultxL m imm n s
  | .pmultW m imm n => Sys2Proof.Machine.execPmultW m imm n s
  | .rgb5pck32 m n => Sys2Proof.Machine.execRgb5pck32 m n s
  | .rgb5pck64 m n => Sys2Proof.Machine.execRgb5pck64 m n s
  | .rgb5upck32 m n => Sys2Proof.Machine.execRgb5upck32 m n s
  | .rgb5upck64 m n => Sys2Proof.Machine.execRgb5upck64 m n s
  | .rgb32pck64 m n => Sys2Proof.Machine.execRgb32pck64 m n s
  | .rgb32upck64 m n => Sys2Proof.Machine.execRgb32upck64 m n s
  | .rgb5shr1 m n => Sys2Proof.Machine.execRgb5shr1 m n s
  | .rgb5minmax m n => Sys2Proof.Machine.execRgb5minmax m n s
  | .rgb5pcki8 m n => Sys2Proof.Machine.execRgb5pcki8 m n s
  | .rgb5sh3 m n => Sys2Proof.Machine.execRgb5sh3 m n s
  | .rgb5ush3 m n => Sys2Proof.Machine.execRgb5ush3 m n s
  | .pldcm30ah m n => Sys2Proof.Machine.execPldcm30ah m n s
  | .pstcm30ah m n => Sys2Proof.Machine.execPstcm30ah m n s
  | .rgb5ccenc m o n => Sys2Proof.Machine.execRgb5ccenc m o n s
  | .blerp m o n => Sys2Proof.Machine.execBlerp m o n s
  | .blerp4 m o p k n => Sys2Proof.Machine.execBlerp4 m o p k n s
  | .blkutx2 m o n => Sys2Proof.Machine.execBlkutx2 m o n s
  | .blkutx1 m o n => Sys2Proof.Machine.execBlkutx1 m o n s
  | .blkutx3h m o n => Sys2Proof.Machine.execBlkutx3h m o n s
  | .blkutx3l m o n => Sys2Proof.Machine.execBlkutx3l m o n s
  | .blkuvf1VL m o n => Sys2Proof.Machine.execBlkuvf1VL m o n s
  | .blkuvf1VH m o n => Sys2Proof.Machine.execBlkuvf1VH m o n s
  | .blkuvf1SL m o n => Sys2Proof.Machine.execBlkuvf1SL m o n s
  | .blkuvf1SH m o n => Sys2Proof.Machine.execBlkuvf1SH m o n s
  | .blkuab1 m o n => Sys2Proof.Machine.execBlkuab1 m o n s
  | .blkuab2 m o n => Sys2Proof.Machine.execBlkuab2 m o n s
  | .fabs m n => Sys2Proof.Machine.execFabs m n s
  | .fneg m n => Sys2Proof.Machine.execFneg m n s
  | .fmin m o n => Sys2Proof.Machine.execFmin m o n s
  | .fmax m o n => Sys2Proof.Machine.execFmax m o n s
  | .fadd m b n r => Sys2Proof.Machine.execFadd m b n r s
  | .faddx m o n r => Sys2Proof.Machine.execFaddx m o n r s
  | .faddg m o n => Sys2Proof.Machine.execFaddg m o n s
  | .fadda m b n => Sys2Proof.Machine.execFadda m b n s
  | .fsub m b n r => Sys2Proof.Machine.execFsub m b n r s
  | .fsubx m o n r => Sys2Proof.Machine.execFsubx m o n r s
  | .fsubg m o n => Sys2Proof.Machine.execFsubg m o n s
  | .fsuba m o n => Sys2Proof.Machine.execFsuba m o n s
  | .fmul m b n r => Sys2Proof.Machine.execFmul m b n r s
  | .fmulx m o n r => Sys2Proof.Machine.execFmulx m o n r s
  | .fmulg m o n => Sys2Proof.Machine.execFmulg m o n s
  | .fmula m b n => Sys2Proof.Machine.execFmula m b n s
  | .fcmpEQ b n => Sys2Proof.Machine.execFcmpEQ b n s
  | .fcmpXEQ m n => Sys2Proof.Machine.execFcmpXEQ m n s
  | .fcmpGE v n => Sys2Proof.Machine.execFcmpGE v n s
  | .fcmpGT b n => Sys2Proof.Machine.execFcmpGT b n s
  | .fcmpXGT m n => Sys2Proof.Machine.execFcmpXGT m n s
  | .fdiv m o n => Sys2Proof.Machine.execFdiv m o n s
  | .fdivx m o n => Sys2Proof.Machine.execFdivx m o n s
  | .fdiva m o n => Sys2Proof.Machine.execFdiva m o n s
  | .fdivxa m o n => Sys2Proof.Machine.execFdivxa m o n s
  | .fsqrt m n => Sys2Proof.Machine.execFsqrt m n s
  | .fsqrtx m n => Sys2Proof.Machine.execFsqrtx m n s
  | .fsqrta m n => Sys2Proof.Machine.execFsqrta m n s
  | .fsqrtxa m n => Sys2Proof.Machine.execFsqrtxa m n s
  | .fldcf m n => Sys2Proof.Machine.execFldcf m n s
  | .fldchf m n => Sys2Proof.Machine.execFldchf m n s
  | .fldci m n => Sys2Proof.Machine.execFldci m n s
  | .fldch m n => Sys2Proof.Machine.execFldch m n s
  | .fldciu m n => Sys2Proof.Machine.execFldciu m n s
  | .fldcisL m n => Sys2Proof.Machine.execFldcisL m n s
  | .fldciuL m n => Sys2Proof.Machine.execFldciuL m n s
  | .fldchImm imm n => Sys2Proof.Machine.execFldchImm imm n s
  | .fldcfImm imm n => Sys2Proof.Machine.execFldcfImm imm n s
  | .fstcf m n => Sys2Proof.Machine.execFstcf m n s
  | .fstchf m n => Sys2Proof.Machine.execFstchf m n s
  | .fstci m n => Sys2Proof.Machine.execFstci m n s
  | .fstch m n => Sys2Proof.Machine.execFstch m n s
  | .fmac m o p n => Sys2Proof.Machine.execFmac m o p n s
  | .fmacx m o p n => Sys2Proof.Machine.execFmacx m o p n s
  | .fmas m o p n => Sys2Proof.Machine.execFmas m o p n s
  | .fmasx m o p n => Sys2Proof.Machine.execFmasx m o p n s
  | .fmrs m o p n => Sys2Proof.Machine.execFmrs m o p n s
  | .fmrsx m o p n => Sys2Proof.Machine.execFmrsx m o p n s
  | .fmra m o p n => Sys2Proof.Machine.execFmra m o p n s
  | .fmrax m o p n => Sys2Proof.Machine.execFmrax m o p n s
  | .pmacH m o p n => Sys2Proof.Machine.execPmacH m o p n s
  | .pmacF m o p n => Sys2Proof.Machine.execPmacF m o p n s
  | .pmasH m o p n => Sys2Proof.Machine.execPmasH m o p n s
  | .pmasF m o p n => Sys2Proof.Machine.execPmasF m o p n s
  | .pmrsH m o p n => Sys2Proof.Machine.execPmrsH m o p n s
  | .pmrsF m o p n => Sys2Proof.Machine.execPmrsF m o p n s
  | .pmraH m o p n => Sys2Proof.Machine.execPmraH m o p n s
  | .pmraF m o p n => Sys2Proof.Machine.execPmraF m o p n s
  | .pconv m imm n => Sys2Proof.Machine.execPconv m imm n s
  | .pconvx m imm n => Sys2Proof.Machine.execPconvx m imm n s
  | .pcvtSB2HL m n => Sys2Proof.Machine.execPcvtSB2HL m n s
  | .pcvtUB2HL m n => Sys2Proof.Machine.execPcvtUB2HL m n s
  | .pcvtSB2HH m n => Sys2Proof.Machine.execPcvtSB2HH m n s
  | .pcvtUB2HH m n => Sys2Proof.Machine.execPcvtUB2HH m n s
  | .pcvtSW2FL m n => Sys2Proof.Machine.execPcvtSW2FL m n s
  | .pcvtUW2FL m n => Sys2Proof.Machine.execPcvtUW2FL m n s
  | .pcvtSW2FH m n => Sys2Proof.Machine.execPcvtSW2FH m n s
  | .pcvtUW2FH m n => Sys2Proof.Machine.execPcvtUW2FH m n s
  | .pcvtH2SB m n => Sys2Proof.Machine.execPcvtH2SB m n s
  | .pcvtH2UB m n => Sys2Proof.Machine.execPcvtH2UB m n s
  | .pcvtSW2H m n => Sys2Proof.Machine.execPcvtSW2H m n s
  | .pcvtUW2H m n => Sys2Proof.Machine.execPcvtUW2H m n s
  | .pcvtF2SW m n => Sys2Proof.Machine.execPcvtF2SW m n s
  | .pcvtF2UW m n => Sys2Proof.Machine.execPcvtF2UW m n s
  | .pcvtH2SW m n => Sys2Proof.Machine.execPcvtH2SW m n s
  | .pcvtH2UW m n => Sys2Proof.Machine.execPcvtH2UW m n s
  | .pcvtH2AL m n => Sys2Proof.Machine.execPcvtH2AL m n s
  | .pcvtAL2H m n => Sys2Proof.Machine.execPcvtAL2H m n s

end Sys2Proof.Machine
end

