-- ==== Sys2Proof/WellFormed.lean ====
section
/-! DEFINITION. Well-formed instructions: those whose operands an XG1 row the listings of 30_encoding.md print can hold.
The decoder also answers wider immediates, where R155, R160 or R170 extend a field beyond its printed rows. -/

namespace Sys2Proof

open Sys2Proof.Machine

/-- Registers a form with a Jumbo prefix can name, R0..R31 (30_encoding.md R155), and both at once. -/
def small2 (m n : Reg) : Bool := small m && small n
def small3 (m o n : Reg) : Bool := small m && small o && small n
/-- The second source of ADD: Imm9, Imm33s, Imm57s, or Imm64 where source and destination are one (40_alu.md R200). -/
def immAdd (s : Src) (m n : Reg) : Bool :=
  match s with
  | .reg _ => true
  | .imm v => fitsU v 9 || fitsN v 9 || (small2 m n && fitsS v 57) || m == n
/-- Of ADDS.L and ADDU.L. -/
def immAddL (s : Src) (m n : Reg) : Bool :=
  match s with
  | .reg _ => true
  | .imm v => fitsU v 9 || fitsN v 9 || (small2 m n && fitsS v 33)
/-- Of AND, OR, XOR. -/
def immLogic (s : Src) (m n : Reg) : Bool :=
  match s with
  | .reg _ => true
  | .imm v => fitsU v 9 || (small2 m n && fitsS v 57)
/-- Of the flag compares; the register form writes SR.T, its SR.S twin is an instruction of its own. -/
def immCmp (s : Src) (n : Reg) (f : Flag) : Bool :=
  match s with
  | .reg _ => f == .t
  | .imm v => fitsU v 9 || fitsN v 9 || (f == .t && small n && fitsS v 33)
def immTst (s : Src) (_ : Reg) (f : Flag) : Bool :=
  match s with
  | .reg _ => f == .t
  | .imm v => fitsU v 9 || fitsN v 9
/-- Of CMP3R. -/
def immCmp3 (s : Src) (m n : Reg) : Bool :=
  match s with
  | .reg _ => true
  | .imm v => fitsU v 5 || fitsS v 17 || (small2 m n && fitsS v 29)
/-- The count of a shift. -/
def immShift (s : Src) : Bool :=
  match s with
  | .reg _ => true
  | .imm v => fitsS v 8
def immU9 (s : Src) : Bool :=
  match s with
  | .reg _ => true
  | .imm v => fitsU v 9
/-- Of MULS.W and MULU.W. -/
def immMulW (s : Src) (m n : Reg) : Bool :=
  match s with
  | .reg _ => true
  | .imm v => fitsU v 5 || (m == n && (fitsU v 10 || fitsN v 10))
/-- Of the multiply-accumulates with accumulator a (42_shift_muldiv.md section 6). -/
def immMac (b : Src) (m a n : Reg) : Bool :=
  match b with
  | .reg _ => true
  | .imm v => fitsS v 11 || (a == n && (fitsS v 17 || (small2 m n && fitsS v 29)))
def fitsLdiz (v : Word) (n : Reg) : Bool := fitsU v 16 || (small n && fitsU v 32)
def fitsLdin (v : Word) (n : Reg) : Bool := fitsN v 16 || (small n && fitsN v 32)
/-- A displacement of a compare-with-zero branch (46_branch.md R564). -/
def fits10 (d : Word) : Bool := fitsU d 10 || fitsN d 10
/-- The memory instructions by the address forms their rows list. -/
inductive AddrKind where
  | b | w | lq | ul | d5 | lea | leaq | x | c | leat
deriving DecidableEq, Repr
/-- Whether an address form has a row for an instruction of this kind (44_load_store.md, 45_load_store_ext.md). -/
def addrOk (k : AddrKind) (a : Addr) (n : Reg) : Bool :=
  match a with
  | .ind m => (k == .b || k == .w || k == .lq || k == .ul) && nib m && nib n
  | .index _ o => k != .leat || !bitAt o 4
  | .indexDisp _ _ _ => k != .d5 && k != .lea && k != .leaq && k != .leat
  | .indexSc _ _ _ _ => k != .d5 && k != .lea && k != .leaq && k != .leat
  | .gbr d =>
    match k with
    | .lq | .ul | .x => fitsU d 10
    | .leaq => fitsU d 16
    | _ => false
  | .disp _ d =>
    match k with
    | .d5 | .leat => fitsU d 5
    | .lea | .leaq | .c => fitsU d 9
    | _ => fitsU d 9 || fitsS d 17
  | .dispByte m d =>
    match k with
    | .d5 => false
    | .leat => small2 m n && fitsS d 29
    | .w | .lq | .ul => fitsS d 17 || (small2 m n && fitsS d 33)
    | _ => small2 m n && fitsS d 33
/-- Whether LDOP has a row for the operation, size and address (45_load_store_ext.md R525). -/
def ldopOk (u : BitVec 4) (d : Dir) (k : LdOpSize) (a : Addr) (_ : Reg) : Bool :=
  u != 0#4 && (d == .load || k == .b || k == .w || k == .l || k == .q) &&
    match a with
    | .disp _ v => fitsS v 17
    | .indexDisp _ _ _ => true
    | .indexSc _ _ _ _ => true
    | _ => false
def targetOk (t : Target) : Bool :=
  match t with
  | .disp d => fitsS d 33
  | .reg _ => true
/-- The SRTTWID commands with a meaning, or reserved for IF and ELSE (41_compare_flags.md R298). -/
def srttwidKnown (i : BitVec 5) : Bool :=
  (srttwidFlags i false 0#8).isSome || (decide (0xE ≤ i.toNat) && decide (i.toNat ≤ 0x17))
/-- Type-tag immediates other than z1111 (47_system_ttag.md R939). -/
def ttKnown (i : BitVec 5) : Bool := slice i 0 4 != 15#4
/-- XMOVTT Imm32 names pairs of R0..R15 and R32..R47 (47_system_ttag.md R942). -/
def xmovttOk (n : Pair) : Bool := !bitAt n 3
/-- Registers an F88n form can name. -/
def even8 (n : Reg) : Bool := !bitAt n 4
/-- Shuffle fields that select a shuffle (48_gsv_media.md R982). -/
def shufOk (i : BitVec 11) : Bool := slice i 9 2 != 0#2 && !bitAt i 8
/-- Floating-point second operands: Imm56f, Imm5fp, Imm32f, or a register with a rounding mode (49_gfp.md R783). -/
def fsrc56 (b : FSrc) (m n : Reg) (r : BitVec 8) : Bool :=
  match b with
  | .reg _ => true
  | .imm v => r == 0#8 && slice v 0 8 == 0#8 && small2 m n
def fsrc5 (b : FSrc) (r : BitVec 8) : Bool :=
  match b with
  | .reg _ => true
  | .imm v => r == 0#8 && isMicro v
def fsrc32 (b : FSrc) (m n : Reg) : Bool :=
  match b with
  | .reg _ => true
  | .imm v => slice v 0 32 == 0#32 && small2 m n
def fsrcCmp (b : FSrc) (n : Reg) : Bool :=
  match b with
  | .reg _ => true
  | .imm v => slice v 0 8 == 0#8 && small n

/-- Whether an instruction's operands fit an encoding. Rows whose words decode to another instruction have none
(log 6). -/
def wellFormed : Instr → Bool
  | .add m s n => immAdd s m n
  | .adc _ _ => true
  | .addsL m s n => immAddL s m n
  | .adduL m s n => immAddL s m n
  | .sub _ _ _ => true
  | .subsL _ _ _ => true
  | .subuL _ _ _ => true
  | .sbb _ _ => true
  | .subP _ _ _ => true
  | .subxP _ _ _ => true
  | .and m s n => immLogic s m n
  | .or m s n => immLogic s m n
  | .xor m s n => immLogic s m n
  | .bswapuL _ _ => true
  | .bswapQ _ _ => true
  | .not _ _ => true
  | .neg _ _ => true
  | .negc n => small n
  | .nop => true
  | .nop3r _ => true
  | .nop3rrr _ _ _ => true
  | .mov _ _ => true
  | .movx _ _ => true
  | .movd _ _ => false
  | .extsB _ _ => true
  | .extsW _ _ => true
  | .extsL _ _ => true
  | .extuB _ _ => true
  | .extuW _ _ => true
  | .extuL _ _ => true
  | .cselt _ _ _ => true
  | .min _ _ _ => true
  | .max _ _ _ => true
  | .clz _ _ => true
  | .clzq _ _ => true
  | .ctz _ _ => true
  | .ctzq _ _ => true
  | .btrns _ _ => true
  | .btrnsq _ _ => true
  | .bcdadc _ _ => true
  | .bcdsbb _ _ => true
  | .bitnn _ _ _ => true
  | .pmortL _ _ => true
  | .pmortQ _ _ => true
  | .bitsel _ _ _ => true
  | .bitselx _ _ _ => true
  | .bitmovImm m o n _ => small3 m o n
  | .bitmovReg _ _ _ _ => true
  | .bitmovxImm _ o _ _ => small o
  | .bitmovxReg _ _ _ _ => true
  | .bitmovsImm m o n _ => small3 m o n
  | .bitmovsReg _ _ _ _ => true
  | .bitmovsxImm _ o _ _ => small o
  | .bitmovsxReg _ _ _ _ => true
  | .adcL _ _ => true
  | .sbbL _ _ => true
  | .cmpEQ s n f => immCmp s n f
  | .cmpEQS _ _ => true
  | .cmpGT s n f => immCmp s n f
  | .cmpGTS _ _ => true
  | .cmpHI s n f => immCmp s n f
  | .cmpHIS _ _ => true
  | .cmpGE s n f => immCmp s n f
  | .cmpGES _ _ => true
  | .cmpHS s n f => immCmp s n f
  | .cmpHSS _ _ => true
  | .cmpQEQ s n f => immCmp s n f
  | .cmpQEQS _ _ => true
  | .cmpQGT s n f => immCmp s n f
  | .cmpQGTS _ _ => true
  | .cmpQHI s n f => immCmp s n f
  | .cmpQHIS _ _ => true
  | .cmpQGE s n f => immCmp s n f
  | .cmpQGES _ _ => true
  | .cmpQHS s n f => immCmp s n f
  | .cmpQHSS _ _ => true
  | .tst s n f => immTst s n f
  | .tstS _ _ => true
  | .tstQ s n f => immTst s n f
  | .tstQS _ _ => true
  | .cmpPEQ _ _ => true
  | .cmpPEQX _ _ => true
  | .cmpPGT _ _ => true
  | .cmpPGTX _ _ => true
  | .cmp3EQ m s n => immCmp3 s m n
  | .cmp3GT m s n => immCmp3 s m n
  | .cmp3NE m s n => immCmp3 s m n
  | .cmp3LT m v n => immCmp3 (.imm v) m n
  | .cmp3GE _ _ _ => true
  | .cmp3HI _ v _ => fitsS v 17
  | .cmp3BI _ v _ => fitsS v 17
  | .clrT => true
  | .setT => true
  | .clrS => true
  | .setS => true
  | .notT => true
  | .notS => true
  | .srtprop _ => true
  | .srttwid i => srttwidKnown i
  | .movT _ => true
  | .movNT _ => true
  | .shad _ s _ => immShift s
  | .shadq _ s _ => immShift s
  | .shadx _ _ _ => true
  | .shld _ s _ => immShift s
  | .shldq _ s _ => immShift s
  | .shldx _ _ _ => true
  | .shar _ _ _ => true
  | .sharq _ _ _ => true
  | .sharx _ _ _ => true
  | .shlr _ _ _ => true
  | .shlrq _ _ _ => true
  | .shlrx _ _ _ => true
  | .rotclL _ => true
  | .rotclQ _ => true
  | .rotcrL _ => true
  | .rotcrQ _ => true
  | .rotl _ => true
  | .rotr _ => true
  | .rotlQ _ _ _ => true
  | .rotlL _ _ _ => true
  | .rotlx _ _ _ => true
  | .rotrQ _ _ _ => true
  | .muls _ s _ => immU9 s
  | .mulu _ s _ => immU9 s
  | .mulsQ _ _ _ => true
  | .muluQ _ _ _ => true
  | .mulhsQ _ _ _ => true
  | .mulhuQ _ _ _ => true
  | .dmulsL _ _ _ => true
  | .dmuluL _ _ _ => true
  | .mulsW m s n => immMulW s m n
  | .muluW m s n => immMulW s m n
  | .muluX _ _ => true
  | .mulhuX _ _ => true
  | .macsL m b a n => immMac b m a n
  | .macuL m b a n => immMac b m a n
  | .dmacsL m b a n => immMac b m a n
  | .dmacuL m b a n => immMac b m a n
  | .divsQ _ _ _ => true
  | .divuQ _ _ _ => true
  | .divsL _ _ _ => true
  | .divuL _ _ _ => true
  | .modsQ _ _ _ => true
  | .moduQ _ _ _ => true
  | .modsL _ _ _ => true
  | .moduL _ _ _ => true
  | .div0 => true
  | .div1 => true
  | .ldiz v n => fitsLdiz v n
  | .ldin v n => fitsLdin v n
  | .ldi8 v n => fitsS v 8 && nib n
  | .ldi64 _ _ => true
  | .ldimiz v _ => fitsU v 10
  | .ldimin v _ => fitsN v 10
  | .ldish v _ => fitsU v 8
  | .ldihi v _ => fitsU v 10
  | .ldihiL _ n => small n
  | .ldihiq v _ => fitsU v 10
  | .ldihiQ _ n => small n
  | .ldish16 v _ => fitsU v 16
  | .ldiroz _ _ => false
  | .ldirozq _ _ => false
  | .ldiron _ _ => false
  | .ldironq _ _ => false
  | .movB _ n a => addrOk .b a n
  | .movW _ n a => addrOk .w a n
  | .movL _ n a => addrOk .lq a n
  | .movQ _ n a => addrOk .lq a n
  | .movuB n a => addrOk .b a n
  | .movuW n a => addrOk .w a n
  | .movuL n a => addrOk .ul a n
  | .movnL n a => addrOk .d5 a n
  | .leaB n a => addrOk .lea a n
  | .leaW n a => addrOk .lea a n
  | .leaL n a => addrOk .lea a n
  | .leaQ n a => addrOk .leaq a n
  | .movX _ _ a => addrOk .x a 0#6
  | .movC _ c a => addrOk .c a c
  | .movTW _ n a => addrOk .d5 a n
  | .movuTW n a => addrOk .d5 a n
  | .movHTW _ n a => addrOk .d5 a n
  | .xmovB _ _ _ => false
  | .xmovW _ _ _ => false
  | .xmovL _ _ _ => false
  | .xmovQ _ _ _ => false
  | .xmovX _ _ _ => false
  | .ldop u d k n a => ldopOk u d k a n
  | .ldtex _ _ _ _ => true
  | .rbsldQ _ _ => true
  | .rbsldX _ _ => true
  | .rbsstQ _ _ => true
  | .rbsstX _ _ => true
  | .bra t => targetOk t
  | .jmp _ => true
  | .jmpAbs _ => true
  | .bsr t => targetOk t
  | .jsr _ => true
  | .jsrAbs _ => true
  | .rts => true
  | .rtsu => true
  | .bt t => targetOk t
  | .bf t => targetOk t
  | .jt _ => true
  | .jf _ => true
  | .braL _ => true
  | .bsrL _ => true
  | .btL _ => true
  | .bfL _ => true
  | .jmpmd _ _ => true
  | .jsrmd _ _ => true
  | .brEQL _ d => fits10 d
  | .brEQQ _ d => fits10 d
  | .brNEL _ d => fits10 d
  | .brNEQ _ d => fits10 d
  | .brLTL _ d => fits10 d
  | .brLTQ _ d => fits10 d
  | .brGEL _ d => fits10 d
  | .brGEQ _ d => fits10 d
  | .brLEL _ d => fits10 d
  | .brLEQ _ d => fits10 d
  | .brGTL _ d => fits10 d
  | .brGTQ _ d => fits10 d
  | .jtstT _ _ d => fitsS d 8
  | .jtstQT _ _ d => fitsS d 8
  | .jtstF _ _ d => fitsS d 8
  | .jtstQF _ _ d => fitsS d 8
  | .jcmpGT _ _ d => fitsS d 8
  | .jcmpQGT _ _ d => fitsS d 8
  | .jcmpLE _ _ d => fitsS d 8
  | .jcmpQLE _ _ d => fitsS d 8
  | .jcmpHI _ _ d => fitsS d 8
  | .jcmpQHI _ _ d => fitsS d 8
  | .jcmpLS _ _ d => fitsS d 8
  | .jcmpQLS _ _ d => fitsS d 8
  | .jcmpEQ _ _ d => fitsS d 8
  | .jcmpQEQ _ _ d => fitsS d 8
  | .jcmpNE _ _ d => fitsS d 8
  | .jcmpQNE _ _ d => fitsS d 8
  | .jcmpz _ _ _ d => fitsS d 8
  | .movToC _ _ => true
  | .movFromC _ _ => true
  | .movToS _ _ => true
  | .movFromS _ _ => true
  | .breakOp => true
  | .break2 => true
  | .sleep => true
  | .rte => true
  | .cpuid _ => true
  | .invtlb => true
  | .invic _ => true
  | .invdc _ => true
  | .ldtlb => true
  | .ldxtlb => true
  | .snipedc _ _ => true
  | .snipeic _ _ => true
  | .ldacl => true
  | .ldekrr => true
  | .svekrr => true
  | .ldekey => true
  | .ldeenc => true
  | .sxentr => true
  | .suentr => true
  | .sventr => true
  | .trapImm _ => true
  | .trapReg _ => true
  | .trapPair _ => true
  | .settrap _ _ => true
  | .vskg _ _ => true
  | .vskc _ _ => true
  | .xbless _ _ => true
  | .wexmd _ => true
  | .bndchkB _ _ => true
  | .bndchkW _ _ => true
  | .bndchkImm i _ => fitsU i 6
  | .bndchkL _ _ => true
  | .bndchkQ _ _ => true
  | .bndcmpB _ _ => true
  | .bndcmpW _ _ => true
  | .bndcmpL _ _ => true
  | .bndcmpQ _ _ => true
  | .bndcmpImm i _ => fitsU i 6
  | .leatB n a => addrOk .leat a n
  | .leatW n a => addrOk .leat a n
  | .leatL n a => addrOk .leat a n
  | .leatQ n a => addrOk .leat a n
  | .cmpTAEQ _ _ => true
  | .cmpTAHI _ _ => true
  | .cmpTAHS _ _ => true
  | .cmpTTEQ i _ => ttKnown (slice i 0 5)
  | .convfxi _ _ => true
  | .convfli _ _ => true
  | .movST _ _ => true
  | .xmovST _ _ => true
  | .movZT _ _ => true
  | .xmovZT _ _ => true
  | .movTTReg _ _ _ => true
  | .movTTTag _ i _ => ttKnown i
  | .movTTImm _ v _ => fitsS v 17
  | .xmovTTReg _ _ _ => true
  | .xmovTTImm _ n => xmovttOk n
  | .movHD2 _ _ => true
  | .movLD2 _ _ => true
  | .movHLD2 _ _ => false
  | .movLHD2 _ _ => false
  | .movHD _ _ _ => true
  | .movLD _ _ _ => true
  | .movHLD _ _ _ => true
  | .movLHD _ _ _ => true
  | .movHW _ _ _ => true
  | .movLW _ _ _ => true
  | .paddW _ _ _ => true
  | .paddL _ _ _ => true
  | .paddF _ _ _ => true
  | .paddxF _ _ _ => true
  | .paddH _ _ _ => true
  | .paddxD _ _ _ => true
  | .psubF _ _ _ => true
  | .psubxF _ _ _ => true
  | .psubH _ _ _ => true
  | .psubxD _ _ _ => true
  | .pmulF _ _ _ => true
  | .pmulxF _ _ _ => true
  | .pmulH _ _ _ => true
  | .pmulxD _ _ _ => true
  | .psubW _ _ _ => true
  | .psubL _ _ _ => true
  | .paddXrm _ _ _ _ => true
  | .paddxXrm _ _ _ _ => true
  | .pmulXrm _ _ _ _ => true
  | .pmulxXrm _ _ _ _ => true
  | .pmulsW _ _ _ => true
  | .pmuluW _ _ _ => true
  | .pmulsLW _ _ _ => true
  | .pmuluLW _ _ _ => true
  | .pmulsHW _ _ _ => true
  | .pmuluHW _ _ _ => true
  | .pcmpEQH _ _ => true
  | .pcmpEQF _ _ => true
  | .pcmpGTH _ _ => true
  | .pcmpGTF _ _ => true
  | .pcmpEQW _ _ => true
  | .pcmpEQL _ _ => true
  | .pcmpHIW _ _ => true
  | .pcmpHIL _ _ => true
  | .pcmpGTW _ _ => true
  | .pcmpGTL _ _ => true
  | .pcseltW _ _ _ => true
  | .pcseltL _ _ _ => true
  | .pselTW _ _ => false
  | .pselFW _ _ => true
  | .pselTL _ _ => false
  | .pselFL _ _ => true
  | .pdottH _ _ => true
  | .pdottF _ _ => true
  | .pstcF8H _ _ => true
  | .pldcF8H _ _ => true
  | .pldcH _ _ => true
  | .pldcHH _ _ => true
  | .pldcEHL _ _ => true
  | .pldcEHH _ _ => true
  | .pstcH _ _ => true
  | .pldcM8SH _ _ => true
  | .pldcM8UH _ _ => true
  | .pstcM8SH _ _ => true
  | .pstcM8UH _ _ => true
  | .prcpaH _ _ => true
  | .prcpaF _ _ => true
  | .preluH _ _ => true
  | .preluF _ _ => true
  | .pshalW _ _ => true
  | .pshllW _ _ => true
  | .psharW _ _ => true
  | .pshlrW _ _ => true
  | .psqrtaH _ _ => true
  | .psqrtuaH _ _ => true
  | .psqrtaF _ _ => true
  | .psqrtuaF _ _ => true
  | .pldcHImm _ n => even8 n
  | .pldcM8SHImm _ n => even8 n
  | .pldcM8UHImm _ n => even8 n
  | .pshufB _ _ _ => true
  | .pshufW m _ n => small m && small n
  | .pshufW33 m i n => bitAt i 8 && small m && small n
  | .pshufW17 _ i _ => bitAt i 8
  | .pscheqW _ _ _ => true
  | .pscheqB _ _ _ => true
  | .pschneW _ _ _ => true
  | .pschneB _ _ _ => true
  | .swapB _ _ => true
  | .swapW _ _ => true
  | .swap8B _ _ => true
  | .swapL _ _ => true
  | .swapLB _ _ => true
  | .swapLW _ _ => true
  | .swcpLB _ _ => true
  | .swcpLW _ _ => true
  | .swapMB _ _ => true
  | .swapMW _ _ => true
  | .swcpMB _ _ => true
  | .swcpMW _ _ => true
  | .swapHB _ _ => true
  | .swapHW _ _ => true
  | .swcpHB _ _ => true
  | .swcpHW _ _ => true
  | .paddshxX _ _ i _ => shufOk i
  | .psubshxX _ _ i _ => shufOk i
  | .pmulshxX _ _ i _ => shufOk i
  | .paddshH _ _ i _ => shufOk i
  | .psubshH _ _ i _ => shufOk i
  | .pmulshH _ _ i _ => shufOk i
  | .pmacshHV m _ n => small n && small m
  | .pmacshFV _ _ _ => true
  | .paddHV m _ n => small n && small m
  | .paddFV _ _ _ => true
  | .pmulHV m _ n => small n && small m
  | .pmulFV _ _ _ => true
  | .paddshHV m _ n => small n && small m
  | .paddshFV _ _ _ => true
  | .pmulshHV m _ n => small n && small m
  | .pmulshFV _ _ _ => true
  | .pmulF8H _ _ _ => true
  | .pmultxL m _ n => Config.eLetterR.isSome && !bitAt m 3 && !bitAt n 3
  | .pmultW m _ n => Config.eLetterR.isSome && nib m && nib n
  | .rgb5pck32 _ _ => true
  | .rgb5pck64 _ _ => true
  | .rgb5upck32 _ _ => true
  | .rgb5upck64 _ _ => true
  | .rgb32pck64 _ _ => true
  | .rgb32upck64 _ _ => true
  | .rgb5shr1 _ _ => true
  | .rgb5minmax _ _ => true
  | .rgb5pcki8 _ _ => true
  | .rgb5sh3 _ _ => true
  | .rgb5ush3 _ _ => true
  | .pldcm30ah _ _ => true
  | .pstcm30ah _ _ => true
  | .rgb5ccenc _ _ _ => true
  | .blerp _ _ _ => true
  | .blerp4 _ _ _ _ _ => true
  | .blkutx2 _ _ _ => true
  | .blkutx1 _ _ _ => true
  | .blkutx3h _ _ _ => true
  | .blkutx3l _ _ _ => true
  | .blkuvf1VL _ _ _ => true
  | .blkuvf1VH _ _ _ => true
  | .blkuvf1SL _ _ _ => true
  | .blkuvf1SH _ _ _ => true
  | .blkuab1 _ _ _ => true
  | .blkuab2 _ _ _ => true
  | .fabs _ _ => true
  | .fneg _ _ => true
  | .fmin _ _ _ => true
  | .fmax _ _ _ => true
  | .fadd m b n r => fsrc56 b m n r
  | .faddx _ _ _ _ => true
  | .faddg _ _ _ => true
  | .fadda m b n => fsrc32 b m n
  | .fsub _ b _ r => fsrc5 b r
  | .fsubx _ _ _ _ => true
  | .fsubg _ _ _ => true
  | .fsuba _ _ _ => true
  | .fmul m b n r => fsrc56 b m n r
  | .fmulx _ _ _ _ => true
  | .fmulg _ _ _ => true
  | .fmula m b n => fsrc32 b m n
  | .fcmpEQ b n => fsrcCmp b n
  | .fcmpXEQ _ _ => true
  | .fcmpGE v n => fsrcCmp (.imm v) n
  | .fcmpGT b n => fsrcCmp b n
  | .fcmpXGT _ _ => true
  | .fdiv _ _ _ => true
  | .fdivx _ _ _ => true
  | .fdiva _ _ _ => true
  | .fdivxa _ _ _ => true
  | .fsqrt _ _ => true
  | .fsqrtx _ _ => true
  | .fsqrta _ _ => true
  | .fsqrtxa _ _ => true
  | .fldcf _ _ => true
  | .fldchf _ _ => true
  | .fldci _ _ => true
  | .fldch _ _ => true
  | .fldciu _ _ => true
  | .fldcisL _ _ => true
  | .fldciuL _ _ => true
  | .fldchImm i n => slice i 0 24 == 0#24 && small n
  | .fldcfImm _ _ => true
  | .fstcf _ _ => true
  | .fstchf _ _ => true
  | .fstci _ _ => true
  | .fstch _ _ => true
  | .fmac _ _ _ _ => true
  | .fmacx _ _ _ _ => true
  | .fmas _ _ _ _ => true
  | .fmasx _ _ _ _ => true
  | .fmrs _ _ _ _ => true
  | .fmrsx _ _ _ _ => true
  | .fmra _ _ _ _ => true
  | .fmrax _ _ _ _ => true
  | .pmacH _ _ _ _ => true
  | .pmacF _ _ _ _ => true
  | .pmasH _ _ _ _ => true
  | .pmasF _ _ _ _ => true
  | .pmrsH _ _ _ _ => true
  | .pmrsF _ _ _ _ => true
  | .pmraH _ _ _ _ => true
  | .pmraF _ _ _ _ => true
  | .pconv _ _ _ => false
  | .pconvx _ _ _ => false
  | .pcvtSB2HL _ _ => true
  | .pcvtUB2HL _ _ => true
  | .pcvtSB2HH _ _ => true
  | .pcvtUB2HH _ _ => true
  | .pcvtSW2FL _ _ => true
  | .pcvtUW2FL _ _ => true
  | .pcvtSW2FH _ _ => true
  | .pcvtUW2FH _ _ => true
  | .pcvtH2SB _ _ => true
  | .pcvtH2UB _ _ => true
  | .pcvtSW2H _ _ => true
  | .pcvtUW2H _ _ => true
  | .pcvtF2SW _ _ => true
  | .pcvtF2UW _ _ => true
  | .pcvtH2SW _ _ => true
  | .pcvtH2UW _ _ => true
  | .pcvtH2AL _ _ => true
  | .pcvtAL2H _ _ => true

end Sys2Proof
end

