-- ==== Sys2Proof/Decode.lean ====
section
/-! DEFINITION. The decoder and the encoder (30_encoding.md). The decoder is total: it answers an instruction with its
length and flags, or the name of the reason it refuses. Op64 layouts are this spec's choice throughout (R161,
R162; log 17), and so are the places of the bits by which R155, R160 and R170 extend an immediate no row prints
(log 17). Forms of a group that Config.features leaves out are undefined encodings (R151). -/

namespace Sys2Proof

open Sys2Proof.Machine

/-! The section is noncomputable because the compiled code of Lean 4 has no room for the constructor numbers of `Instr`
above 244; every definition is evaluated by the kernel. -/
noncomputable section

/-- Why a word sequence has no instruction. -/
inductive DecodeError where
  /-- Too few words were given. -/
  | truncated
  /-- No row of the table matches (R150): the machine raises UndefinedInstruction. -/
  | undefined
  /-- A prefix before an E range (R136): the model refuses. -/
  | prefixedPredicate
deriving DecidableEq, Repr

/-- A decoded instruction: its length in bytes, the SR.T value it wants (R135), its WEX flag (R140). -/
structure Decoded where
  len   : Nat
  pred  : Option Bool
  wex   : Bool
  instr : Instr
deriving DecidableEq, Repr

/-- What the decoder answers. -/
inductive DecodeResult where
  | ok (d : Decoded)
  | error (e : DecodeError)
deriving DecidableEq, Repr

/-- The fields of a 32-bit base instruction (R112); nx, mx, ox hold bits 5 and 4 of the register fields, bit 4 from
E and bit 5 from 7w, Op64 or XG2. -/
structure Fields where
  xg2 : Bool
  blk : BitVec 4
  n   : BitVec 4
  m   : BitVec 4
  o   : BitVec 4
  nx  : BitVec 2
  mx  : BitVec 2
  ox  : BitVec 2
  z   : BitVec 4
  y   : BitVec 4
  q   : Bool
deriving DecidableEq, Repr

/-- The fields of the words w0, w1 of block `blk`, with `ext` the bits 5 of n, m, o. -/
def fieldsOf (xg2 : Bool) (blk : BitVec 4) (ext : BitVec 3) (w0 w1 : Half) : Fields :=
  { xg2 := xg2, blk := blk, n := slice w0 4 4, m := slice w0 0 4, o := slice w1 4 4,
    nx := slice ext 2 1 ++ slice w1 10 1, mx := slice ext 1 1 ++ slice w1 9 1, ox := slice ext 0 1 ++ slice w1 8 1,
    z := slice w1 12 4, y := slice w1 0 4, q := bitAt w1 11 }

/-! ### Registers, pairs and immediates read from the fields -/

/-- Keep an answer only where a condition on must-be-zero bits holds (R123). -/
def onlyIf {α : Type} (b : Bool) (x : Option α) : Option α := if b then x else none
/-- The pair a field names: its low bit selects X32 and up (10_state.md R23). DESIGN CHOICE: in a 6-bit field bit 5
selects them too, so 1, 32 and 33 all name X32 (log 18). -/
def pairOf (r : Reg) : Pair := (slice r 0 1 ||| slice r 5 1) ++ slice r 1 4
/-- The pair an `Rx` nibble of a 16-bit form names: its low bit selects the bank R0 or R16 (10_state.md R23; log 18). -/
def pairX (nib : BitVec 4) : Pair := 0#1 ++ slice nib 0 1 ++ slice nib 1 3
/-- A 6-bit field that names a pair. -/
def regOf (p : Pair) : Reg := 0#1 ++ slice p 0 4 ++ slice p 4 1
def Fields.rn (f : Fields) : Reg := f.nx ++ f.n
def Fields.rm (f : Fields) : Reg := f.mx ++ f.m
/-- Ro, and the register of a one-register form, which stands in its place (R119). DESIGN CHOICE: bit 5 of the latter is
the bit that extends the o field (WI, W.i), and its N and M bits must be zero (log 61). -/
def Fields.ro (f : Fields) : Reg := f.ox ++ f.o
/-- The register of an F8 form: its number's bit 4 is the low bit of the opcode nibble (R116). -/
def Fields.r8 (f : Fields) : Reg := slice f.nx 1 1 ++ slice f.n 0 1 ++ f.m
/-- The register of a doubly prefixed F8 form, whose opcode nibble selects the bank (R157). -/
def Fields.rb (f : Fields) : Reg := slice f.n 0 2 ++ f.m
/-- Rp of an Op64 form: P1[5:0] (R161). -/
def p4 (p1 : Half) : Reg := slice p1 0 6

def Fields.imm5 (f : Fields) : BitVec 5 := slice f.ox 0 1 ++ f.o
def Fields.imm8 (f : Fields) : BitVec 8 := f.o ++ f.y
def Fields.imm9 (f : Fields) : BitVec 9 := slice f.ox 0 1 ++ f.o ++ f.y
def Fields.imm10 (f : Fields) : BitVec 10 := slice f.mx 0 1 ++ slice f.ox 0 1 ++ f.o ++ f.y
def Fields.imm16 (f : Fields) : Half :=
  f.z ++ BitVec.ofBool f.q ++ slice f.nx 0 1 ++ slice f.mx 0 1 ++ slice f.ox 0 1 ++ f.o ++ f.y
def Fields.imm24 (f : Fields) : BitVec 24 := f.n ++ f.m ++ f.imm16
def Fields.disp20 (f : Fields) : BitVec 20 :=
  f.n ++ f.m ++ BitVec.ofBool f.q ++ slice f.nx 0 1 ++ slice f.mx 0 1 ++ slice f.ox 0 1 ++ f.o ++ f.y
/-- The bits 5 of the register fields. -/
def Fields.ext (f : Fields) : BitVec 3 := slice f.nx 1 1 ++ slice f.mx 1 1 ++ slice f.ox 1 1
def Fields.n5 (f : Fields) : Bool := bitAt f.nx 1
def Fields.m5 (f : Fields) : Bool := bitAt f.mx 1
def Fields.o5 (f : Fields) : Bool := bitAt f.ox 1

/-- The register of a branch through a register: in XG2 its bit 5 is E.q, elsewhere E.q must be 0 (46_branch.md R546;
log 61). DESIGN CHOICE (log 61): R546 says so of F010_3en0 alone, and the model of every branch and jump through a register:
F010 to F013, F020 to F023 and F02C to F02F_3en0. In XG2 WI must be clear in them. -/
def Fields.jumpReg (f : Fields) : Option Reg :=
  if f.xg2 then onlyIf (!f.o5) (some (BitVec.ofBool f.q ++ f.imm5)) else onlyIf (!f.q) (some f.ro)

/-- A w-bit immediate that the XG2 bit `hi` one-extends (R172). -/
def oneExt (xg2 hi : Bool) (w : Nat) (v : Word) : Option Word :=
  if hi then (if xg2 then some (oext w v) else none) else some v
/-- Imm9u and Disp9u. -/
def Fields.u9 (f : Fields) : Option Word := oneExt f.xg2 f.o5 9 (f.imm9.setWidth 64)
/-- Imm9n. -/
def Fields.n9 (f : Fields) : Option Word := onlyIf (!f.o5 || f.xg2) (some (oext 9 (f.imm9.setWidth 64)))
def Fields.d9 (f : Fields) : Option Word := f.u9
/-- Imm5u and Disp5 in the o position, and Imm5us of CMP3R (41_compare_flags.md R280). -/
def Fields.u5 (f : Fields) : Option Word := oneExt f.xg2 f.o5 5 (f.imm5.setWidth 64)
def Fields.us5 (f : Fields) : Option Word := f.u5
def Fields.i5 (f : Fields) : Option (BitVec 5) := onlyIf (!f.o5) (some f.imm5)
/-- The XG2 bits {WM, WI} above an immediate that uses the m and o fields (R170; log 17). -/
def Fields.hi2 (f : Fields) : BitVec 2 := slice f.mx 1 1 ++ slice f.ox 1 1
/-- A field under its high bits {WM, WI}, zero outside XG2: sign-extended in the u forms, one-extended in the n forms,
whose high bits are inverted (R170; log 17). -/
def Fields.uHi {w : Nat} (f : Fields) (v : BitVec w) : Option Word :=
  onlyIf (f.xg2 || f.hi2 == 0#2) (some (sext (w + 2) ((f.hi2 ++ v).setWidth 64)))
def Fields.nHi {w : Nat} (f : Fields) (v : BitVec w) : Option Word :=
  onlyIf (f.xg2 || f.hi2 == 0#2) (some (oext (w + 2) ((~~~f.hi2 ++ v).setWidth 64)))
/-- The same of an immediate that is zero-extended at every width: LDIZ and its like (43_load_immediate.md R390, R397, R400
to R402; log 17). -/
def Fields.zHi {w : Nat} (f : Fields) (v : BitVec w) : Option Word :=
  onlyIf (f.xg2 || f.hi2 == 0#2) (some ((f.hi2 ++ v).setWidth 64))
def Fields.u10 (f : Fields) : Option Word := f.uHi f.imm10
def Fields.z10 (f : Fields) : Option Word := f.zHi f.imm10
def Fields.n10 (f : Fields) : Option Word := f.nHi f.imm10
/-- Imm8 in an Imm10 field whose high two bits must be zero. -/
def Fields.b8 (f : Fields) : Option (BitVec 8) := onlyIf (f.mx == 0#2 && f.ox == 0#2) (some f.imm8)
def Fields.z8 (f : Fields) : Option Word := f.b8.map fun v => v.setWidth 64
def Fields.u16 (f : Fields) : Option Word := f.uHi f.imm16
def Fields.z16 (f : Fields) : Option Word := f.zHi f.imm16
def Fields.n16 (f : Fields) : Option Word := f.nHi f.imm16
/-- Imm16s: the XG2 bits are exclusive-ored with the sign, as those of a branch are (R173). -/
def Fields.s16 (f : Fields) : Option Word :=
  let s := slice f.imm16 15 1
  onlyIf (f.xg2 || f.hi2 == 0#2) (some (sext 18 (((f.hi2 ^^^ (s ++ s)) ++ f.imm16).setWidth 64)))
/-- Imm6u in the m position: {E.i, E.m, m} (47_system_ttag.md R655). -/
def Fields.imm6 (f : Fields) : BitVec 6 := slice f.ox 0 1 ++ slice f.mx 0 1 ++ f.m
/-- The same as a code, which nothing extends. -/
def Fields.m6 (f : Fields) : Option (BitVec 6) := onlyIf (f.hi2 == 0#2) (some f.imm6)
/-- The same as the byte offset of BNDCHK and BNDCMP, extended as an Imm10u is (R170; log 17). -/
def Fields.u6 (f : Fields) : Option Word := f.uHi f.imm6
/-- Imm5u in the m position, bit 4 and above the mode number zero (46_branch.md R561). -/
def Fields.mi4 (f : Fields) : Option (BitVec 4) := onlyIf (f.mx == 0#2) (some f.m)
/-- Imm5u in the m position, 0 to 3 (48_gsv_media.md R703). -/
def Fields.mi2 (f : Fields) : Option (BitVec 2) := onlyIf (f.mx == 0#2 && slice f.m 2 2 == 0#2) (some (slice f.m 0 2))
/-- The flag a 2-operand immediate compare writes: W.m selects SR.S (R160). -/
def Fields.flag (f : Fields) : Flag := if f.m5 then .s else .t
/-- The immediate of a 2-operand compare: CMP_IMM_WIDTH = 9 wants E.m clear, 10 makes it the top bit
(41_compare_flags.md R262). W.m needs the PRED_S group, and XG2 has no W.m. DESIGN CHOICE: W.m of a 9w word, which R165 does
not speak of, selects SR.S as behind an Op64 prefix (log 17). -/
def Fields.cmpOk (f : Fields) : Bool :=
  (Config.cmpImmWide || !bitAt f.mx 0) && (!f.m5 || (!f.xg2 && Config.features.predS))
def Fields.c9u (f : Fields) : Option Word :=
  onlyIf f.cmpOk (if Config.cmpImmWide then oneExt f.xg2 f.o5 10 (f.imm10.setWidth 64) else f.u9)
def Fields.c9n (f : Fields) : Option Word :=
  onlyIf f.cmpOk (if Config.cmpImmWide then onlyIf (!f.o5 || f.xg2) (some (oext 10 (f.imm10.setWidth 64))) else f.n9)
/-- Disp20 of a branch; in XG2 the high bits make it Disp23 (R118, R173). -/
def Fields.d20 (f : Fields) : Option Word :=
  let s := slice f.disp20 19 1
  if f.xg2 then
    some (sext 23 (((slice f.nx 1 1 ^^^ s) ++ (slice f.mx 1 1 ^^^ s) ++ (slice f.ox 1 1 ^^^ s) ++ f.disp20).setWidth 64))
  else onlyIf (!f.n5 && !f.m5 && !f.o5) (some (sext 20 (f.disp20.setWidth 64)))

/-! One Jumbo prefix (R155; log 17). -/
def Fields.s33 (f : Fields) (j : BitVec 24) : Option Word := onlyIf (!f.o5) (some (sext 33 ((j ++ f.imm9).setWidth 64)))
/-- An extended 10-bit immediate: the 33 bits of J24, E.i and jj, with E.m = 0, as 40_alu.md R200 has it for ADD. DESIGN CHOICE
(log 17): so too for every row of which no Jumbo form is listed (MULx.W Imm10, a GBR Disp10u, BRxx with a Disp10u, the compares
and TST; LDIMIZ, zero-extended, by z33h), not the 34 bits of J24 and the whole field. -/
def Fields.s33h (f : Fields) (j : BitVec 24) : Option Word := onlyIf (f.mx == 0#2) (f.s33 j)
def Fields.c33 (f : Fields) (j : BitVec 24) : Option Word :=
  f.s33h j
/-- An extended Imm8 or Disp8, signed as its base is. -/
def Fields.j8 (f : Fields) (j : BitVec 24) : Option Word := some (sext 32 ((j ++ f.imm8).setWidth 64))
def Fields.s29 (f : Fields) (j : BitVec 24) : Option Word := onlyIf (!f.o5) (some (sext 29 ((j ++ f.imm5).setWidth 64)))
/-- Imm30s of BNDCHK and BNDCMP. -/
def Fields.s30 (f : Fields) (j : BitVec 24) : Option Word := onlyIf (f.hi2 == 0#2) (some (sext 30 ((j ++ f.imm6).setWidth 64)))
/-- Imm29s of CMP3R, with whether the alternate form is selected. DESIGN CHOICE: XG2's WI selects it, as the prose of
R174 says, and the first nibble B of the printed rows is read as WM, bit 5 of Rm (C26; log 17). The rows with it are
contested (R174, R12). -/
def Fields.s29x (f : Fields) (j : BitVec 24) : Option (Bool × Word) :=
  onlyIf (!f.o5 || (f.xg2 && Config.acceptDropped)) (some (f.o5, sext 29 ((j ++ f.imm5).setWidth 64)))
def Fields.j32 (f : Fields) (j : BitVec 24) : Option (BitVec 32) := onlyIf (f.mx == 0#2 && f.ox == 0#2) (some (j ++ f.imm8))

/-- The immediates LDIZ and its like extend by zeros, of 33, 32 and 40 bits; Imm40s and Disp40s; Disp44s of a branch. -/
def Fields.z33h (f : Fields) (j : BitVec 24) : Option Word :=
  onlyIf (f.mx == 0#2 && !f.o5) (some ((j ++ f.imm9).setWidth 64))
def Fields.z32 (f : Fields) (j : BitVec 24) : Option Word := (f.j32 j).map fun v => v.setWidth 64
def Fields.z40 (f : Fields) (j : BitVec 24) : Option Word := onlyIf (f.hi2 == 0#2) (some ((j ++ f.imm16).setWidth 64))
def Fields.s40 (f : Fields) (j : BitVec 24) : Option Word := (f.z40 j).map (sext 40)
def Fields.d44 (f : Fields) (j : BitVec 24) : Option Word :=
  onlyIf (!f.n5 && !f.m5 && !f.o5) (some (sext 44 ((j ++ f.disp20).setWidth 64)))

/-! Two Jumbo prefixes (R156, R157). -/
def Fields.s57 (f : Fields) (jh jl : BitVec 24) : Option Word :=
  onlyIf (!f.o5) (some (sext 57 ((jh ++ jl ++ f.imm9).setWidth 64)))
def Fields.i64 (f : Fields) (jh jl : BitVec 24) : Option Word :=
  onlyIf (!f.n5 && !f.m5 && !f.o5) (some (jh ++ jl ++ f.imm16))

/-! Op64 (R161; log 17). -/
def Fields.s17 (f : Fields) (p1 : Half) : Option Word :=
  some (sext 17 ((slice f.ox 1 1 ++ slice p1 0 11 ++ f.imm5).setWidth 64))
/-! The immediates that R160 extends by P1[7:0]: W.i is the sign of the u forms and zero in the n forms (log 17). -/
def Fields.x9 (f : Fields) (p1 : Half) : Option Word :=
  some (sext 18 ((slice f.ox 1 1 ++ slice p1 0 8 ++ f.imm9).setWidth 64))
def Fields.x9n (f : Fields) (p1 : Half) : Option Word :=
  onlyIf (!f.o5) (some (oext 17 ((slice p1 0 8 ++ f.imm9).setWidth 64)))
def Fields.x5 (f : Fields) (p1 : Half) : Option Word :=
  some (sext 14 ((slice f.ox 1 1 ++ slice p1 0 8 ++ f.imm5).setWidth 64))
def Fields.x10 (f : Fields) (p1 : Half) : Option Word :=
  onlyIf (!f.m5) (some (sext 19 ((slice f.ox 1 1 ++ slice p1 0 8 ++ f.imm10).setWidth 64)))
def Fields.x6 (f : Fields) (p1 : Half) : Option Word :=
  onlyIf (!f.m5) (some (sext 15 ((slice f.ox 1 1 ++ slice p1 0 8 ++ f.imm6).setWidth 64)))
/-- Zero-extended, W.i the top bit (43_load_immediate.md R390). -/
def Fields.x10z (f : Fields) (p1 : Half) : Option Word :=
  onlyIf (!f.m5) (some ((slice f.ox 1 1 ++ slice p1 0 8 ++ f.imm10).setWidth 64))
def Fields.xz8 (f : Fields) (p1 : Half) : Option Word := f.b8.map fun v => (slice p1 0 8 ++ v).setWidth 64
def Fields.x10n (f : Fields) (p1 : Half) : Option Word :=
  onlyIf (!f.m5 && !f.o5) (some (oext 18 ((slice p1 0 8 ++ f.imm10).setWidth 64)))
/-- The immediate of a compare or test behind an Op64 prefix: its extension by P1[7:0] is contested (41_compare_flags.md
R262, R12). -/
def Fields.xcOk (f : Fields) (p1 : Half) : Bool := f.cmpOk && (slice p1 0 8 == 0#8 || Config.acceptDropped)
def Fields.xc9u (f : Fields) (p1 : Half) : Option Word :=
  onlyIf (f.xcOk p1) (if Config.cmpImmWide then some (sext 19 ((slice f.ox 1 1 ++ slice p1 0 8 ++ f.imm10).setWidth 64)) else f.x9 p1)
def Fields.xc9n (f : Fields) (p1 : Half) : Option Word :=
  onlyIf (f.xcOk p1)
    (if Config.cmpImmWide then onlyIf (!f.o5) (some (oext 18 ((slice p1 0 8 ++ f.imm10).setWidth 64))) else f.x9n p1)
def Fields.x24 (f : Fields) (p1 : Half) : Option (BitVec 24) := onlyIf (f.hi2 == 0#2) (some (slice p1 0 8 ++ f.imm16))
def Fields.x16u (f : Fields) (p1 : Half) : Option Word := (f.x24 p1).map fun v => v.setWidth 64
def Fields.x16n (f : Fields) (p1 : Half) : Option Word := (f.x24 p1).map fun v => oext 24 (v.setWidth 64)
def Fields.x16s (f : Fields) (p1 : Half) : Option Word := (f.x24 p1).map fun v => sext 24 (v.setWidth 64)
/-- An extended Imm8 or Disp8, signed as its base is. -/
def Fields.x8 (f : Fields) (p1 : Half) : Option Word := some (sext 16 ((slice p1 0 8 ++ f.imm8).setWidth 64))
def Fields.s11 (_ : Fields) (p1 : Half) : Option Word := some (sext 11 (p1.setWidth 64))
def Fields.d33 (f : Fields) (p1 : Half) : Option Word :=
  onlyIf (slice p1 12 4 == 0#4 && !f.n5 && !f.m5) (some (sext 33 ((slice f.ox 1 1 ++ slice p1 0 12 ++ f.disp20).setWidth 64)))
/-- Imm8 of the `08ii` forms. -/
def Fields.p8 (_ : Fields) (p1 : Half) : Option (BitVec 8) := onlyIf (slice p1 8 8 == 0x08#8) (some (slice p1 0 8))
/-- The interpolator selector P1[7:6] of BLERPx (48_rgb_blocks.md R741). -/
def Fields.k2 (_ : Fields) (p1 : Half) : Option (BitVec 2) := onlyIf (slice p1 8 8 == 0#8) (some (slice p1 6 2))
/-- The shuffle and rounding bits of the PxxxSH forms (48_gsv_media.md R982). DESIGN CHOICE: mode 00, for which no row is
printed, is an undefined encoding (log 24). -/
def Fields.sh11 (_ : Fields) (p1 : Half) : Option (BitVec 11) :=
  onlyIf (slice p1 12 4 == 0#4 && bitAt p1 11 && slice p1 9 2 != 0#2 && !bitAt p1 8) (some (slice p1 0 11))
/-- Imm17s of PSHUF.W (48_gsv_media.md R960; log 24). -/
def Fields.q17 (f : Fields) (p1 : Half) : Option (BitVec 17) :=
  onlyIf (slice p1 8 8 == 0#8 && f.ox == 1#2) (some (slice p1 0 8 ++ 1#1 ++ f.imm8))
/-- The two halves of an Op64 Imm32 put together (R166). -/
def imm32Of (p1 i : Half) : BitVec 32 := if Config.imm32PrefixHigh then p1 ++ i else i ++ p1
def imm32P1 (v : BitVec 32) : Half := if Config.imm32PrefixHigh then slice v 16 16 else slice v 0 16
def imm32Base (v : BitVec 32) : Half := if Config.imm32PrefixHigh then slice v 0 16 else slice v 16 16
/-- Imm32 of an F8 form whose W.m, W.i are `sel`. -/
def Fields.x32 (f : Fields) (p1 : Half) (sel : BitVec 2) : Option (BitVec 32) :=
  onlyIf (slice f.mx 1 1 ++ slice f.ox 1 1 == sel) (some (imm32Of p1 f.imm16))

/-! Floating-point immediates (49_gfp.md R783). DESIGN CHOICE: where R155, R160 or R170 extends one and no row is printed, the
bits stand below it, where its format is cut off (log 17). -/

/-- FLDCH's Imm16 with the bits below it. -/
def Fields.h16 (f : Fields) : Option (BitVec 40) := onlyIf (f.xg2 || f.hi2 == 0#2) (some (f.imm16 ++ f.hi2 ++ 0#22))
def Fields.h40 (f : Fields) (j : BitVec 24) : Option (BitVec 40) := onlyIf (f.hi2 == 0#2) (some (f.imm16 ++ j))
/-- The Binary16 value of an Imm5fp, with XG2's sign. -/
def microHalf (sgn : Bool) (i : BitVec 5) : Half := (BitVec.ofBool sgn ++ 0#15) ||| (0x3000#16 + (i.setWidth 16 <<< 8))
def Fields.fp5 (f : Fields) : Option Word := onlyIf (!f.o5 || f.xg2) (some (halfToDouble (microHalf f.o5 f.imm5)))
/-- The same with the bits below it. -/
def longMicro (sgn : Bool) (i : BitVec 5) (low : BitVec 24) : Word := longHalf (slice (microHalf sgn i) 8 8 ++ low ++ 0#8)
def Fields.jfp5 (f : Fields) (j : BitVec 24) : Option Word := onlyIf (!f.o5) (some (longMicro false f.imm5 j))
def Fields.xfp5 (f : Fields) (p1 : Half) : Option Word := some (longMicro f.o5 f.imm5 (slice p1 0 8 ++ 0#16))
/-- Imm10fp. -/
def Fields.f10 (f : Fields) : Option Word :=
  onlyIf (f.xg2 || f.hi2 == 0#2) (some (longHalf (f.imm10 ++ f.hi2 ++ 0#28)))
def Fields.xf10 (f : Fields) (p1 : Half) : Option Word :=
  onlyIf (f.hi2 == 0#2) (some (longHalf (f.imm10 ++ slice p1 0 8 ++ 0#22)))
def Fields.f56 (f : Fields) (jh jl : BitVec 24) : Option Word := onlyIf (f.ox == 0#2) (some (jh ++ jl ++ f.imm8 ++ 0#8))
def Fields.f32z (f : Fields) (j : BitVec 24) : Option Word := onlyIf (f.mx == 0#2 && f.ox == 0#2) (some (j ++ f.imm8 ++ 0#32))
def Fields.f56z (f : Fields) (jh jl : BitVec 24) : Option Word := onlyIf (f.mx == 0#2) (f.f56 jh jl)

/-! ### Forms with conditions of their own -/

def srttwidOf (i : BitVec 5) : Option Instr := onlyIf (srttwidKnown i) (some (.srttwid i))
def cmpTTEQOf (i : BitVec 6) (n : Reg) : Option Instr := onlyIf (ttKnown (slice i 0 5)) (some (.cmpTTEQ i n))
def movTTOf (m : Reg) (i : BitVec 5) (n : Reg) : Option Instr := onlyIf (ttKnown i) (some (.movTTTag m i n))
/-- The operator of JCMPZ: {Rm(0), E.m, E.i} (46_branch.md R587). -/
def zcondOf : BitVec 3 → Option ZCond
  | 0#3 => some .eq
  | 1#3 => some .ne
  | 2#3 => some .le
  | 3#3 => some .gt
  | 4#3 => some .lt
  | 5#3 => some .ge
  | _ => none
def zcondCode : ZCond → BitVec 3
  | .eq => 0#3
  | .ne => 1#3
  | .le => 2#3
  | .gt => 3#3
  | .lt => 4#3
  | .ge => 5#3
def Fields.jcmpz (f : Fields) (d : Word) : Option Instr :=
  onlyIf (!f.m5 && !f.o5) ((zcondOf (slice f.m 0 1 ++ slice f.mx 0 1 ++ slice f.ox 0 1)).map fun c => .jcmpz f.q c f.rn d)

/-! ### The E letter R (48_gsv_media.md R1000, R1001; log 6) -/

/-- The E bits are the nibble Config gives the letter R, and no register has a sixth bit. -/
def Fields.letterR (f : Fields) : Bool :=
  Config.eLetterR.map Fin.val == some (BitVec.ofBool f.q ++ slice f.nx 0 1 ++ slice f.mx 0 1 ++ slice f.ox 0 1).toNat &&
    !f.n5 && !f.m5 && !f.o5
/-- F2nm_7Rjj and F2nm_8Rjj, whose registers are R0 to R15, since E is the letter. -/
def Fields.formR (f : Fields) : Option Instr :=
  onlyIf f.letterR (match f.z with
    | 7#4 => some (.pmultxL (pairOf (0#2 ++ f.m)) f.imm8 (pairOf (0#2 ++ f.n)))
    | 8#4 => some (.pmultW (0#2 ++ f.m) f.imm8 (0#2 ++ f.n))
    | _ => none)

/-! ### 16-bit forms (R111): nibbles a b c d from the top -/

/-- R0..R15, R16..R31, and the register of a 3X form. -/
def lo4 (c : BitVec 4) : Reg := 0#2 ++ c
def hi4 (c : BitVec 4) : Reg := 1#2 ++ c
def mir4 (b c : BitVec 4) : Reg := 0#1 ++ slice b 3 1 ++ c

/-- 16-bit forms with first nibble 0 (R111). -/
def half0 (b c d : BitVec 4) : Option Instr :=
  match b with
  | 0#4 => some (.movB .store (lo4 c) (.ind (lo4 d)))
  | 1#4 => some (.movW .store (lo4 c) (.ind (lo4 d)))
  | 2#4 => some (.movL .store (lo4 c) (.ind (lo4 d)))
  | 3#4 => some (.movQ .store (lo4 c) (.ind (lo4 d)))
  | 4#4 => some (.movB .store (lo4 c) (.index (lo4 d) 0#6))
  | 5#4 => some (.movW .store (lo4 c) (.index (lo4 d) 0#6))
  | 6#4 => some (.movL .store (lo4 c) (.index (lo4 d) 0#6))
  | 7#4 => some (.movQ .store (lo4 c) (.index (lo4 d) 0#6))
  | 8#4 => some (.movB .load (lo4 c) (.ind (lo4 d)))
  | 9#4 => some (.movW .load (lo4 c) (.ind (lo4 d)))
  | 10#4 => some (.movL .load (lo4 c) (.ind (lo4 d)))
  | 11#4 => some (.movQ .load (lo4 c) (.ind (lo4 d)))
  | 12#4 => some (.movB .load (lo4 c) (.index (lo4 d) 0#6))
  | 13#4 => some (.movW .load (lo4 c) (.index (lo4 d) 0#6))
  | 14#4 => some (.movL .load (lo4 c) (.index (lo4 d) 0#6))
  | 15#4 => some (.movQ .load (lo4 c) (.index (lo4 d) 0#6))
  | _ => none
/-- 16-bit forms with first nibble 1 (R111). -/
def half1 (b c d : BitVec 4) : Option Instr :=
  match b with
  | 0#4 => some (.add (lo4 c) (.reg (lo4 d)) (lo4 c))
  | 1#4 => some (.sub (lo4 c) (lo4 d) (lo4 c))
  | 2#4 => some (.adc (lo4 d) (lo4 c))
  | 3#4 => some (.sbb (lo4 d) (lo4 c))
  | 4#4 => some (.tst (.reg (lo4 d)) (lo4 c) .t)
  | 5#4 => some (.and (lo4 c) (.reg (lo4 d)) (lo4 c))
  | 6#4 => some (.or (lo4 c) (.reg (lo4 d)) (lo4 c))
  | 7#4 => some (.xor (lo4 c) (.reg (lo4 d)) (lo4 c))
  | 8#4 => some (.mov (lo4 d) (lo4 c))
  | 9#4 => some (.mov (hi4 d) (lo4 c))
  | 10#4 => some (.mov (lo4 d) (hi4 c))
  | 11#4 => some (.mov (hi4 d) (hi4 c))
  | 12#4 => some (.cmpEQ (.reg (lo4 d)) (lo4 c) .t)
  | 13#4 => some (.cmpHI (.reg (lo4 d)) (lo4 c) .t)
  | 14#4 => some (.cmpGT (.reg (lo4 d)) (lo4 c) .t)
  | 15#4 => some (.cmpGE (.reg (lo4 d)) (lo4 c) .t)
  | _ => none
/-- 16-bit forms with first nibble 2 (R111). -/
def half2 (b c d : BitVec 4) : Option Instr :=
  match b with
  | 0#4 => some (.bra (.disp (sext 8 ((c ++ d).setWidth 64))))
  | 1#4 => some (.bsr (.disp (sext 8 ((c ++ d).setWidth 64))))
  | 2#4 => some (.bt (.disp (sext 8 ((c ++ d).setWidth 64))))
  | 3#4 => some (.bf (.disp (sext 8 ((c ++ d).setWidth 64))))
  | 6#4 => some (.ldish ((c ++ d).setWidth 64) 0#6)
  | 8#4 => some (.movuL (lo4 c) (.disp 15#6 (zext 4 (d.setWidth 64))))
  | 9#4 => some (.movX .load (pairX c) (.disp 15#6 (zext 4 (d.setWidth 64))))
  | 10#4 => some (.movuL (hi4 c) (.disp 15#6 (zext 4 (d.setWidth 64))))
  | 11#4 => some (.movX .store (pairX c) (.disp 15#6 (zext 4 (d.setWidth 64))))
  | 12#4 => some (.cmpEQ (.imm (zext 4 (d.setWidth 64))) (lo4 c) .t)
  | 13#4 => some (.cmpEQ (.imm (oext 4 (d.setWidth 64))) (lo4 c) .t)
  | 14#4 => some (.cmpGT (.imm (zext 4 (d.setWidth 64))) (lo4 c) .t)
  | 15#4 => some (.cmpGE (.imm (zext 4 (d.setWidth 64))) (lo4 c) .t)
  | _ => none
/-- 16-bit forms with first nibble 4 (R111). -/
def half4 (b c d : BitVec 4) : Option Instr :=
  match b with
  | 0#4 => some (.movL .store (lo4 c) (.disp 15#6 (zext 4 (d.setWidth 64))))
  | 1#4 => some (.movQ .store (lo4 c) (.disp 15#6 (zext 4 (d.setWidth 64))))
  | 2#4 => some (.movL .store (hi4 c) (.disp 15#6 (zext 4 (d.setWidth 64))))
  | 3#4 => some (.movQ .store (hi4 c) (.disp 15#6 (zext 4 (d.setWidth 64))))
  | 4#4 => some (.movL .load (lo4 c) (.disp 15#6 (zext 4 (d.setWidth 64))))
  | 5#4 => some (.movQ .load (lo4 c) (.disp 15#6 (zext 4 (d.setWidth 64))))
  | 6#4 => some (.movL .load (hi4 c) (.disp 15#6 (zext 4 (d.setWidth 64))))
  | 7#4 => some (.movQ .load (hi4 c) (.disp 15#6 (zext 4 (d.setWidth 64))))
  | 8#4 => some (.movToC (lo4 d) (lo4 c))
  | 9#4 => some (.movFromC (lo4 d) (lo4 c))
  | 10#4 => some (.movToS (lo4 d) (lo4 c))
  | 11#4 => some (.movFromS (lo4 d) (lo4 c))
  | 12#4 => some (.leaB (lo4 c) (.index (lo4 d) 0#6))
  | 13#4 => some (.leaW (lo4 c) (.index (lo4 d) 0#6))
  | 14#4 => some (.leaL (lo4 c) (.index (lo4 d) 0#6))
  | 15#4 => some (.leaQ (lo4 c) (.index (lo4 d) 0#6))
  | _ => none
/-- 16-bit forms with first nibble 5 (R111). -/
def half5 (b c d : BitVec 4) : Option Instr :=
  match b with
  | 0#4 => some (.movuB (lo4 c) (.ind (lo4 d)))
  | 1#4 => some (.movuW (lo4 c) (.ind (lo4 d)))
  | 2#4 => some (.movuB (lo4 c) (.index (lo4 d) 0#6))
  | 3#4 => some (.movuW (lo4 c) (.index (lo4 d) 0#6))
  | 4#4 => some (.tstQ (.reg (lo4 d)) (lo4 c) .t)
  | 8#4 => some (.add (lo4 d) (.reg 0#6) (lo4 c))
  | 9#4 => some (.sub (lo4 d) 0#6 (lo4 c))
  | 10#4 => some (.and (lo4 d) (.reg 0#6) (lo4 c))
  | 11#4 => some (.or (lo4 d) (.reg 0#6) (lo4 c))
  | 12#4 => some (.xor (lo4 d) (.reg 0#6) (lo4 c))
  | 13#4 => some (.cmpQHI (.reg (lo4 d)) (lo4 c) .t)
  | 14#4 => some (.cmpQGT (.reg (lo4 d)) (lo4 c) .t)
  | 15#4 => some (.cmpQEQ (.reg (lo4 d)) (lo4 c) .t)
  | _ => none
/-- 16-bit forms with first nibble 6 (R111). -/
def half6 (b c d : BitVec 4) : Option Instr :=
  match b with
  | 0#4 => some (.fadd (lo4 c) (.reg (lo4 d)) (lo4 c) 0#8)
  | 1#4 => some (.fsub (lo4 c) (.reg (lo4 d)) (lo4 c) 0#8)
  | 2#4 => some (.fmul (lo4 c) (.reg (lo4 d)) (lo4 c) 0#8)
  | 3#4 => some (.fldcf (lo4 d) (lo4 c))
  | 4#4 => some (.fcmpEQ (.reg (lo4 d)) (lo4 c))
  | 5#4 => some (.fcmpGT (.reg (lo4 d)) (lo4 c))
  | 6#4 => some (.fstcf (lo4 d) (lo4 c))
  | 12#4 => some (.cmpEQ (.imm (zext 4 (d.setWidth 64))) (hi4 c) .t)
  | 13#4 => some (.cmpEQ (.imm (oext 4 (d.setWidth 64))) (hi4 c) .t)
  | 14#4 => some (.cmpGT (.imm (zext 4 (d.setWidth 64))) (hi4 c) .t)
  | 15#4 => some (.cmpGE (.imm (zext 4 (d.setWidth 64))) (hi4 c) .t)
  | _ => none
/-- 16-bit forms with first nibble 8 (R111). -/
def half8 (b c d : BitVec 4) : Option Instr :=
  match b with
  | 0#4 => some (.movuL (lo4 c) (.ind (lo4 d)))
  | 8#4 => some (.movuL (lo4 c) (.index (lo4 d) 0#6))
  | _ => none
/-- 16-bit forms with first nibble 3: the mirror bit is the top bit of the second (R111). DESIGN CHOICE (log 6): 3EjA is CPUID
with the index 16 + j, as R111 and the opcode table have it, where Config.cpuidMirror does not take R600 at its word, that these
indices need the 32-bit form. -/
def half3 (b c d : BitVec 4) : Option Instr :=
  match slice b 0 3 with
  | 0#3 => onlyIf (!bitAt b 3) (match c with
    | 0#4 => (match d with | 0#4 => some (.nop) | _ => none)
    | 1#4 => (match d with | 0#4 => some (.rts) | 2#4 => some (.rtsu) | _ => none)
    | 2#4 => (match d with | 0#4 => some (.sleep) | _ => none)
    | 3#4 => (match d with | 0#4 => some (.breakOp) | _ => none)
    | 4#4 => (match d with | 0#4 => some (.clrT) | 2#4 => some (.ldacl) | _ => none)
    | 5#4 => (match d with | 0#4 => some (.setT) | 2#4 => some (.ldxtlb) | _ => none)
    | 6#4 => (match d with | 0#4 => some (.clrS) | _ => none)
    | 7#4 => (match d with | 0#4 => some (.setS) | _ => none)
    | 8#4 => (match d with | 0#4 => some (.notT) | 2#4 => some (.sxentr) | _ => none)
    | 9#4 => (match d with | 0#4 => some (.notS) | 2#4 => some (.suentr) | _ => none)
    | 11#4 => (match d with | 2#4 => some (.sventr) | _ => none)
    | 12#4 => (match d with | 0#4 => some (.rte) | _ => none)
    | 13#4 => (match d with | 0#4 => some (.div0) | _ => none)
    | 14#4 => (match d with | 0#4 => some (.div1) | _ => none)
    | 15#4 => (match d with | 2#4 => some (.invtlb) | 0#4 => some (.ldtlb) | _ => none)
    | _ => none)
  | 1#3 => (match d with
    | 0#4 => some (.bra (.reg (mir4 b c)))
    | 1#4 => some (.bsr (.reg (mir4 b c)))
    | 2#4 => some (.bt (.reg (mir4 b c)))
    | 3#4 => some (.bf (.reg (mir4 b c)))
    | 12#4 => some (.invic (mir4 b c))
    | 13#4 => some (.invdc (mir4 b c))
    | _ => none)
  | 2#3 => (match d with
    | 0#4 => some (.jmp (mir4 b c))
    | 1#4 => some (.jsr (mir4 b c))
    | 2#4 => some (.jt (mir4 b c))
    | 3#4 => some (.jf (mir4 b c))
    | 4#4 => some (.extuB (mir4 b c) (mir4 b c))
    | 5#4 => some (.extuW (mir4 b c) (mir4 b c))
    | 6#4 => some (.extsB (mir4 b c) (mir4 b c))
    | 7#4 => some (.extsW (mir4 b c) (mir4 b c))
    | _ => none)
  | 3#3 => (match d with
    | 0#4 => some (.not (mir4 b c) (mir4 b c))
    | 1#4 => some (.neg (mir4 b c) (mir4 b c))
    | 2#4 => some (.negc (mir4 b c))
    | 12#4 => some (.neg (mir4 b c) 0#6)
    | _ => none)
  | 6#3 => (match d with
    | 3#4 => some (.trapImm (slice b 3 1 ++ c))
    | 4#4 => some (.extuL (mir4 b c) (mir4 b c))
    | 5#4 => some (.extsL (mir4 b c) (mir4 b c))
    | 8#4 => some (.trapReg (mir4 b c))
    | 9#4 => some (.wexmd (slice b 3 1 ++ c))
    | 10#4 => onlyIf (!bitAt b 3 || Config.cpuidMirror) (some (.cpuid (slice b 3 1 ++ c)))
    | 11#4 => srttwidOf (slice b 3 1 ++ c)
    | 13#4 => some (.cmpHS (.reg 0#6) (mir4 b c) .t)
    | _ => none)
  | _ => none
/-- The 16-bit forms (R111). -/
def half16 (a b c d : BitVec 4) : Option Instr :=
  match a with
  | 0#4 => half0 b c d
  | 1#4 => half1 b c d
  | 2#4 => half2 b c d
  | 3#4 => half3 b c d
  | 4#4 => half4 b c d
  | 5#4 => half5 b c d
  | 6#4 => half6 b c d
  | 8#4 => half8 b c d
  | 10#4 => some (.ldiz ((b ++ c ++ d).setWidth 64) 0#6)
  | 11#4 => some (.ldin (oext 12 ((b ++ c ++ d).setWidth 64)) 0#6)
  | 12#4 => some (.add (lo4 b) (.imm (sext 8 ((c ++ d).setWidth 64))) (lo4 b))
  | 13#4 => some (.ldi8 (sext 8 ((c ++ d).setWidth 64)) (lo4 b))
  | _ => none

/-! ### 32-bit forms (R112 to R119, R185 to R188) -/

/-- Unprefixed forms, F0 block, Z = 0. -/
def plainF0z0 (f : Fields) : Option Instr :=
  match f.y with
  | 0#4 => match f.q with
    | false => none
    | true => (f.u5).map fun v => .leaB f.rn (.disp f.rm v)
  | 1#4 => match f.q with
    | false => none
    | true => (f.u5).map fun v => .leaW f.rn (.disp f.rm v)
  | 2#4 => match f.q with
    | false => none
    | true => (f.u5).map fun v => .leaL f.rn (.disp f.rm v)
  | 3#4 => match f.q with
    | false => none
    | true => (f.u5).map fun v => .leaQ f.rn (.disp f.rm v)
  | 4#4 => match f.q with
    | false => some (.movB .store f.rn (.index f.rm f.ro))
    | true => some (.leaB f.rn (.index f.rm f.ro))
  | 5#4 => match f.q with
    | false => some (.movW .store f.rn (.index f.rm f.ro))
    | true => some (.leaW f.rn (.index f.rm f.ro))
  | 6#4 => match f.q with
    | false => some (.movL .store f.rn (.index f.rm f.ro))
    | true => some (.leaL f.rn (.index f.rm f.ro))
  | 7#4 => match f.q with
    | false => some (.movQ .store f.rn (.index f.rm f.ro))
    | true => some (.leaQ f.rn (.index f.rm f.ro))
  | 11#4 => match f.q with
    | false => none
    | true => some (.ldtex f.rm f.ro .none f.rn)
  | 12#4 => match f.q with
    | false => some (.movB .load f.rn (.index f.rm f.ro))
    | true => some (.movuB f.rn (.index f.rm f.ro))
  | 13#4 => match f.q with
    | false => some (.movW .load f.rn (.index f.rm f.ro))
    | true => some (.movuW f.rn (.index f.rm f.ro))
  | 14#4 => match f.q with
    | false => some (.movL .load f.rn (.index f.rm f.ro))
    | true => some (.movuL f.rn (.index f.rm f.ro))
  | 15#4 => match f.q with
    | false => some (.movQ .load f.rn (.index f.rm f.ro))
    | true => none
  | _ => none
/-- Unprefixed forms, F0 block, Z = 1. -/
def plainF0z1 (f : Fields) : Option Instr :=
  match f.y with
  | 0#4 => match f.q with
    | false => some (.add f.rm (.reg f.ro) f.rn)
    | true => none
  | 1#4 => match f.q with
    | false => some (.sub f.rm f.ro f.rn)
    | true => none
  | 2#4 => match f.q with
    | false => some (.muls f.rm (.reg f.ro) f.rn)
    | true => some (.mulsQ f.rm f.ro f.rn)
  | 3#4 => match f.q with
    | false => some (.mulu f.rm (.reg f.ro) f.rn)
    | true => some (.muluQ f.rm f.ro f.rn)
  | 4#4 => match f.q with
    | false => some (.min f.rm f.ro f.rn)
    | true => some (.max f.rm f.ro f.rn)
  | 5#4 => match f.q with
    | false => some (.and f.rm (.reg f.ro) f.rn)
    | true => none
  | 6#4 => match f.q with
    | false => some (.or f.rm (.reg f.ro) f.rn)
    | true => none
  | 7#4 => match f.q with
    | false => some (.xor f.rm (.reg f.ro) f.rn)
    | true => none
  | 8#4 => match f.o with
    | 0#4 => match f.q with
      | false => onlyIf (f.ox == 0#2) (some (.bndchkB f.rm f.rn))
      | true => none
    | 1#4 => match f.q with
      | false => onlyIf (f.ox == 0#2) (some (.bndchkW f.rm f.rn))
      | true => none
    | 2#4 => match f.q with
      | false => onlyIf (f.ox == 0#2) (some (.bndchkL f.rm f.rn))
      | true => none
    | 3#4 => match f.q with
      | false => onlyIf (f.ox == 0#2) (some (.bndchkQ f.rm f.rn))
      | true => none
    | 4#4 => match f.q with
      | false => (f.u6).map fun v => .bndchkImm v f.rn
      | true => onlyIf (f.ox == 0#2) (some (.muluX (pairOf f.rm) (pairOf f.rn)))
    | 5#4 => match f.q with
      | false => (f.u6).map fun v => .bndcmpImm v f.rn
      | true => onlyIf (f.ox == 0#2) (some (.mulhuX (pairOf f.rm) (pairOf f.rn)))
    | 6#4 => match f.q with
      | false => onlyIf (f.ox == 0#2) (some (.vskg f.rm f.rn))
      | true => none
    | 7#4 => match f.q with
      | false => onlyIf (f.ox == 0#2) (some (.vskc f.rm f.rn))
      | true => none
    | 8#4 => match f.q with
      | false => onlyIf (f.ox == 0#2) (some (.bcdadc f.rm f.rn))
      | true => none
    | 9#4 => match f.q with
      | false => onlyIf (f.ox == 0#2) (some (.bcdsbb f.rm f.rn))
      | true => none
    | 10#4 => match f.q with
      | false => onlyIf (f.ox == 0#2) (some (.movZT f.rm f.rn))
      | true => onlyIf (f.ox == 0#2) (some (.xmovZT (pairOf f.rm) (pairOf f.rn)))
    | 11#4 => match f.q with
      | false => onlyIf (f.ox == 0#2) (some (.snipedc f.rm f.rn))
      | true => onlyIf (f.ox == 0#2) (some (.snipeic f.rm f.rn))
    | 12#4 => match f.q with
      | false => onlyIf (f.ox == 0#2) (some (.cmpTAEQ f.rm f.rn))
      | true => none
    | 13#4 => match f.q with
      | false => onlyIf (f.ox == 0#2) (some (.cmpTAHI f.rm f.rn))
      | true => none
    | 14#4 => match f.q with
      | false => onlyIf (f.ox == 0#2) (some (.cmpTAHS f.rm f.rn))
      | true => none
    | 15#4 => match f.q with
      | false => onlyIf (f.ox == 0#2) (some (.convfxi f.rm f.rn))
      | true => onlyIf (f.ox == 0#2) (some (.convfli f.rm f.rn))
    | _ => none
  | 9#4 => match f.o with
    | 0#4 => onlyIf (f.ox == 0#2 && Config.acceptDropped) (some (.add f.rn (.reg f.rm) f.rn))
    | 1#4 => onlyIf (f.ox == 0#2 && Config.acceptDropped) (some (.sub f.rn f.rm f.rn))
    | 2#4 => match f.q with
      | false => onlyIf (f.ox == 0#2) (some (.adc f.rm f.rn))
      | true => onlyIf (f.ox == 0#2) (some (.adcL f.rm f.rn))
    | 3#4 => match f.q with
      | false => onlyIf (f.ox == 0#2) (some (.sbb f.rm f.rn))
      | true => onlyIf (f.ox == 0#2) (some (.sbbL f.rm f.rn))
    | 4#4 => match f.q with
      | false => match f.ox with
        | 0#2 => some (.tst (.reg f.rm) f.rn .t)
        | 1#2 => some (.tstS f.rm f.rn)
        | _ => none
      | true => match f.ox with
        | 0#2 => some (.tstQ (.reg f.rm) f.rn .t)
        | 1#2 => some (.tstQS f.rm f.rn)
        | _ => none
    | 5#4 => onlyIf (f.ox == 0#2 && Config.acceptDropped) (some (.and f.rn (.reg f.rm) f.rn))
    | 6#4 => onlyIf (f.ox == 0#2 && Config.acceptDropped) (some (.or f.rn (.reg f.rm) f.rn))
    | 7#4 => onlyIf (f.ox == 0#2 && Config.acceptDropped) (some (.xor f.rn (.reg f.rm) f.rn))
    | 8#4 => match f.q with
      | false => onlyIf (f.ox == 0#2) (some (.mov f.rm f.rn))
      | true => onlyIf (f.ox == 0#2) (some (.movx (pairOf f.rm) (pairOf f.rn)))
    | 10#4 => match f.q with
      | false => onlyIf (f.ox == 0#2) (some (.movToC f.rm f.rn))
      | true => onlyIf (f.ox == 0#2) (some (.settrap f.rm f.rn))
    | 11#4 => match f.q with
      | false => onlyIf (f.ox == 0#2) (some (.movFromC f.rm f.rn))
      | true => (f.m6).bind fun v => cmpTTEQOf v f.rn
    | 12#4 => match f.q with
      | false => match f.ox with
        | 0#2 => some (.cmpEQ (.reg f.rm) f.rn .t)
        | 1#2 => some (.cmpEQS f.rm f.rn)
        | _ => none
      | true => match f.ox with
        | 0#2 => some (.cmpQEQ (.reg f.rm) f.rn .t)
        | 1#2 => some (.cmpQEQS f.rm f.rn)
        | _ => none
    | 13#4 => match f.q with
      | false => match f.ox with
        | 0#2 => some (.cmpHI (.reg f.rm) f.rn .t)
        | 1#2 => some (.cmpHIS f.rm f.rn)
        | _ => none
      | true => match f.ox with
        | 0#2 => some (.cmpQHI (.reg f.rm) f.rn .t)
        | 1#2 => some (.cmpQHIS f.rm f.rn)
        | _ => none
    | 14#4 => match f.q with
      | false => match f.ox with
        | 0#2 => some (.cmpGT (.reg f.rm) f.rn .t)
        | 1#2 => some (.cmpGTS f.rm f.rn)
        | _ => none
      | true => match f.ox with
        | 0#2 => some (.cmpQGT (.reg f.rm) f.rn .t)
        | 1#2 => some (.cmpQGTS f.rm f.rn)
        | _ => none
    | _ => none
  | 10#4 => match f.o with
    | 0#4 => match f.q with
      | false => onlyIf (f.ox == 0#2) (some (.pstcF8H f.rm f.rn))
      | true => none
    | 1#4 => match f.q with
      | false => onlyIf (f.ox == 0#2) (some (.pldcF8H f.rm f.rn))
      | true => none
    | 8#4 => match f.q with
      | false => onlyIf (f.ox == 0#2) (some (.movHD2 f.rm f.rn))
      | true => onlyIf (f.ox == 0#2) (some (.movLD2 f.rm f.rn))
    | 9#4 => match f.q with
      | false => onlyIf (f.ox == 0#2) ((f.mi2).map fun v => .pdottH v f.rn)
      | true => onlyIf (f.ox == 0#2) ((f.mi2).map fun v => .pdottF v f.rn)
    | 10#4 => match f.q with
      | false => onlyIf (f.ox == 0#2) (some (.pcmpEQH f.rm f.rn))
      | true => onlyIf (f.ox == 0#2) (some (.pcmpEQF f.rm f.rn))
    | 11#4 => match f.q with
      | false => match f.ox with
        | 0#2 => some (.pcmpGTH f.rm f.rn)
        | 1#2 => some (.pselFW f.rm f.rn)
        | _ => none
      | true => match f.ox with
        | 0#2 => some (.pcmpGTF f.rm f.rn)
        | 1#2 => some (.pselFL f.rm f.rn)
        | _ => none
    | 12#4 => match f.q with
      | false => onlyIf (f.ox == 0#2) (some (.pcmpEQW f.rm f.rn))
      | true => onlyIf (f.ox == 0#2) (some (.pcmpEQL f.rm f.rn))
    | 13#4 => match f.q with
      | false => onlyIf (f.ox == 0#2) (some (.pcmpHIW f.rm f.rn))
      | true => onlyIf (f.ox == 0#2) (some (.pcmpHIL f.rm f.rn))
    | 14#4 => match f.q with
      | false => onlyIf (f.ox == 0#2) (some (.pcmpGTW f.rm f.rn))
      | true => onlyIf (f.ox == 0#2) (some (.pcmpGTL f.rm f.rn))
    | 15#4 => match f.q with
      | false => onlyIf (f.ox == 0#2) (some (.bswapuL f.rm f.rn))
      | true => onlyIf (f.ox == 0#2) (some (.bswapQ f.rm f.rn))
    | _ => none
  | 12#4 => match f.o with
    | 0#4 => onlyIf (f.ox == 0#2) (some (.not f.rm f.rn))
    | 1#4 => onlyIf (f.ox == 0#2) (some (.neg f.rm f.rn))
    | 2#4 => match f.q with
      | false => onlyIf (f.ox == 0#2) (some (.clz f.rm f.rn))
      | true => onlyIf (f.ox == 0#2) (some (.clzq f.rm f.rn))
    | 3#4 => match f.q with
      | false => onlyIf (f.ox == 0#2) (some (.ctz f.rm f.rn))
      | true => onlyIf (f.ox == 0#2) (some (.ctzq f.rm f.rn))
    | 4#4 => match f.q with
      | false => onlyIf (f.ox == 0#2) (some (.btrns f.rm f.rn))
      | true => onlyIf (f.ox == 0#2) (some (.btrnsq f.rm f.rn))
    | 5#4 => match f.q with
      | false => onlyIf (f.ox == 0#2) (some (.extsL f.rm f.rn))
      | true => onlyIf (f.ox == 0#2) (some (.extuL f.rm f.rn))
    | 6#4 => match f.q with
      | false => onlyIf (f.ox == 0#2) (some (.shad f.rn (.reg f.rm) f.rn))
      | true => onlyIf (f.ox == 0#2) (some (.shadq f.rn (.reg f.rm) f.rn))
    | 7#4 => match f.q with
      | false => onlyIf (f.ox == 0#2) (some (.shld f.rn (.reg f.rm) f.rn))
      | true => onlyIf (f.ox == 0#2) (some (.shldq f.rn (.reg f.rm) f.rn))
    | 8#4 => match f.q with
      | false => onlyIf (f.ox == 0#2) (some (.extsB f.rm f.rn))
      | true => onlyIf (f.ox == 0#2) (some (.extuB f.rm f.rn))
    | 9#4 => match f.q with
      | false => onlyIf (f.ox == 0#2) (some (.extsW f.rm f.rn))
      | true => onlyIf (f.ox == 0#2) (some (.extuW f.rm f.rn))
    | 10#4 => onlyIf (f.ox == 0#2) (some (.movToS f.rm f.rn))
    | 11#4 => onlyIf (f.ox == 0#2) (some (.movFromS f.rm f.rn))
    | 14#4 => match f.q with
      | false => match f.ox with
        | 0#2 => some (.cmpGE (.reg f.rm) f.rn .t)
        | 1#2 => some (.cmpGES f.rm f.rn)
        | _ => none
      | true => match f.ox with
        | 0#2 => some (.cmpQGE (.reg f.rm) f.rn .t)
        | 1#2 => some (.cmpQGES f.rm f.rn)
        | _ => none
    | 15#4 => match f.q with
      | false => match f.ox with
        | 0#2 => some (.cmpHS (.reg f.rm) f.rn .t)
        | 1#2 => some (.cmpHSS f.rm f.rn)
        | _ => none
      | true => match f.ox with
        | 0#2 => some (.cmpQHS (.reg f.rm) f.rn .t)
        | 1#2 => some (.cmpQHSS f.rm f.rn)
        | _ => none
    | _ => none
  | 13#4 => match f.o with
    | 0#4 => match f.q with
      | false => onlyIf (f.ox == 0#2) (some (.fldcf f.rm f.rn))
      | true => none
    | 1#4 => match f.q with
      | false => onlyIf (f.ox == 0#2) (some (.fldchf f.rm f.rn))
      | true => onlyIf (f.ox == 0#2) (some (.fldchf f.rm f.rn))
    | 2#4 => match f.q with
      | false => onlyIf (f.ox == 0#2) (some (.fldci f.rm f.rn))
      | true => none
    | 3#4 => match f.q with
      | false => onlyIf (f.ox == 0#2) (some (.fldch f.rm f.rn))
      | true => onlyIf (f.ox == 0#2) (some (.fldch f.rm f.rn))
    | 4#4 => match f.q with
      | false => onlyIf (f.ox == 0#2) (some (.fstcf f.rm f.rn))
      | true => onlyIf (f.ox == 0#2) (some (.fstcf f.rm f.rn))
    | 5#4 => match f.q with
      | false => onlyIf (f.ox == 0#2) (some (.fstchf f.rm f.rn))
      | true => onlyIf (f.ox == 0#2) (some (.fstchf f.rm f.rn))
    | 6#4 => match f.q with
      | false => onlyIf (f.ox == 0#2) (some (.fstci f.rm f.rn))
      | true => onlyIf (f.ox == 0#2) (some (.fstci f.rm f.rn))
    | 7#4 => match f.q with
      | false => onlyIf (f.ox == 0#2) (some (.fstch f.rm f.rn))
      | true => onlyIf (f.ox == 0#2) (some (.fstch f.rm f.rn))
    | 8#4 => match f.q with
      | false => onlyIf (f.ox == 0#2) (some (.fneg f.rm f.rn))
      | true => none
    | 9#4 => match f.q with
      | false => onlyIf (f.ox == 0#2) (some (.fabs f.rm f.rn))
      | true => onlyIf (f.ox == 0#2) (some (.fabs f.rm f.rn))
    | 10#4 => match f.q with
      | false => onlyIf (f.ox == 0#2) (some (.fcmpEQ (.reg f.rm) f.rn))
      | true => onlyIf (f.ox == 0#2) (some (.fcmpXEQ (pairOf f.rm) (pairOf f.rn)))
    | 11#4 => match f.q with
      | false => onlyIf (f.ox == 0#2) (some (.fcmpGT (.reg f.rm) f.rn))
      | true => onlyIf (f.ox == 0#2) (some (.fcmpXGT (pairOf f.rm) (pairOf f.rn)))
    | 12#4 => match f.q with
      | false => onlyIf (f.ox == 0#2) (some (.fsqrt f.rm f.rn))
      | true => onlyIf (f.ox == 0#2) (some (.fsqrtx (pairOf f.rm) (pairOf f.rn)))
    | 13#4 => match f.q with
      | false => onlyIf (f.ox == 0#2) (some (.fsqrta f.rm f.rn))
      | true => onlyIf (f.ox == 0#2) (some (.fsqrtxa (pairOf f.rm) (pairOf f.rn)))
    | 15#4 => match f.q with
      | false => onlyIf (f.ox == 0#2) (some (.fldciu f.rm f.rn))
      | true => none
    | _ => none
  | 14#4 => match f.o with
    | 0#4 => match f.q with
      | false => onlyIf (f.ox == 0#2) (some (.rgb5shr1 f.rm f.rn))
      | true => onlyIf (f.ox == 0#2) (some (.rgb5minmax f.rm f.rn))
    | 1#4 => match f.q with
      | false => onlyIf (f.ox == 0#2) (some (.pmortL f.rm f.rn))
      | true => onlyIf (f.ox == 0#2) (some (.pmortQ f.rm f.rn))
    | 2#4 => match f.q with
      | false => onlyIf (f.ox == 0#2) (some (.rgb5pck32 f.rm f.rn))
      | true => onlyIf (f.ox == 0#2) (some (.rgb5pck64 f.rm f.rn))
    | 3#4 => match f.q with
      | false => onlyIf (f.ox == 0#2) (some (.rgb5upck32 f.rm f.rn))
      | true => onlyIf (f.ox == 0#2) (some (.rgb5upck64 f.rm f.rn))
    | 4#4 => match f.q with
      | false => onlyIf (f.ox == 0#2) (some (.rgb5sh3 f.rm f.rn))
      | true => onlyIf (f.ox == 0#2) (some (.rgb32pck64 f.rm f.rn))
    | 5#4 => match f.q with
      | false => onlyIf (f.ox == 0#2) (some (.rgb5ush3 f.rm f.rn))
      | true => onlyIf (f.ox == 0#2) (some (.rgb32upck64 f.rm f.rn))
    | 6#4 => match f.q with
      | false => onlyIf (f.ox == 0#2) (some (.pshalW f.rm f.rn))
      | true => onlyIf (f.ox == 0#2) (some (.pshllW f.rm f.rn))
    | 7#4 => match f.q with
      | false => onlyIf (f.ox == 0#2) (some (.psharW f.rm f.rn))
      | true => onlyIf (f.ox == 0#2) (some (.pshlrW f.rm f.rn))
    | 8#4 => match f.q with
      | false => onlyIf (f.ox == 0#2) (some (.pldcM8SH f.rm f.rn))
      | true => onlyIf (f.ox == 0#2) (some (.pldcM8UH f.rm f.rn))
    | 9#4 => match f.q with
      | false => onlyIf (f.ox == 0#2) (some (.pldcm30ah f.rm f.rn))
      | true => none
    | 10#4 => match f.q with
      | false => onlyIf (f.ox == 0#2) (some (.pstcM8SH f.rm f.rn))
      | true => onlyIf (f.ox == 0#2) (some (.pstcM8UH f.rm f.rn))
    | 11#4 => match f.q with
      | false => onlyIf (f.ox == 0#2) (some (.pstcm30ah f.rm f.rn))
      | true => none
    | 12#4 => match f.q with
      | false => onlyIf (f.ox == 0#2) (some (.pldcH f.rm f.rn))
      | true => onlyIf (f.ox == 0#2) (some (.pldcHH f.rm f.rn))
    | 13#4 => match f.q with
      | false => onlyIf (f.ox == 0#2) (some (.pldcEHL f.rm f.rn))
      | true => onlyIf (f.ox == 0#2) (some (.pldcEHH f.rm f.rn))
    | 14#4 => match f.q with
      | false => onlyIf (f.ox == 0#2) (some (.pstcH f.rm f.rn))
      | true => onlyIf (f.ox == 0#2) (some (.xbless (pairOf f.rm) (pairOf f.rn)))
    | 15#4 => match f.q with
      | false => onlyIf (f.ox == 0#2) (some (.movST f.rm f.rn))
      | true => onlyIf (f.ox == 0#2) (some (.xmovST (pairOf f.rm) (pairOf f.rn)))
    | _ => none
  | 15#4 => match f.o with
    | 0#4 => match f.q with
      | false => onlyIf (f.ox == 0#2) (some (.pcvtSB2HL f.rm f.rn))
      | true => onlyIf (f.ox == 0#2) (some (.pcvtUB2HL f.rm f.rn))
    | 1#4 => match f.q with
      | false => onlyIf (f.ox == 0#2) (some (.pcvtSB2HH f.rm f.rn))
      | true => onlyIf (f.ox == 0#2) (some (.pcvtUB2HH f.rm f.rn))
    | 2#4 => match f.q with
      | false => onlyIf (f.ox == 0#2) (some (.pcvtSW2FL f.rm f.rn))
      | true => onlyIf (f.ox == 0#2) (some (.pcvtUW2FL f.rm f.rn))
    | 3#4 => match f.q with
      | false => onlyIf (f.ox == 0#2) (some (.pcvtSW2FH f.rm f.rn))
      | true => onlyIf (f.ox == 0#2) (some (.pcvtUW2FH f.rm f.rn))
    | 4#4 => match f.q with
      | false => onlyIf (f.ox == 0#2) (some (.pcvtH2SB f.rm f.rn))
      | true => onlyIf (f.ox == 0#2) (some (.pcvtH2UB f.rm f.rn))
    | 5#4 => match f.q with
      | false => onlyIf (f.ox == 0#2) (some (.pcvtSW2H f.rm f.rn))
      | true => onlyIf (f.ox == 0#2) (some (.pcvtUW2H f.rm f.rn))
    | 6#4 => match f.q with
      | false => onlyIf (f.ox == 0#2) (some (.pcvtF2SW f.rm f.rn))
      | true => onlyIf (f.ox == 0#2) (some (.pcvtF2UW f.rm f.rn))
    | 7#4 => match f.q with
      | false => onlyIf (f.ox == 0#2) (some (.pcvtH2SW f.rm f.rn))
      | true => onlyIf (f.ox == 0#2) (some (.pcvtH2UW f.rm f.rn))
    | 8#4 => match f.q with
      | false => onlyIf (f.ox == 0#2) (some (.psqrtaH f.rm f.rn))
      | true => onlyIf (f.ox == 0#2) (some (.psqrtuaH f.rm f.rn))
    | 9#4 => match f.q with
      | false => onlyIf (f.ox == 0#2) (some (.psqrtaF f.rm f.rn))
      | true => onlyIf (f.ox == 0#2) (some (.psqrtuaF f.rm f.rn))
    | 10#4 => match f.q with
      | false => onlyIf (f.ox == 0#2) (some (.prcpaH f.rm f.rn))
      | true => onlyIf (f.ox == 0#2) (some (.preluH f.rm f.rn))
    | 11#4 => match f.q with
      | false => onlyIf (f.ox == 0#2) (some (.prcpaF f.rm f.rn))
      | true => onlyIf (f.ox == 0#2) (some (.preluF f.rm f.rn))
    | 12#4 => match f.q with
      | false => onlyIf (f.ox == 0#2) (some (.pcvtH2AL f.rm f.rn))
      | true => onlyIf (f.ox == 0#2) (some (.rgb5pcki8 f.rm f.rn))
    | 13#4 => match f.q with
      | false => onlyIf (f.ox == 0#2) (some (.pcvtAL2H f.rm f.rn))
      | true => none
    | 14#4 => match f.q with
      | false => onlyIf (f.ox == 0#2) (some (.fldcisL f.rm f.rn))
      | true => none
    | 15#4 => match f.q with
      | false => onlyIf (f.ox == 0#2) (some (.fldciuL f.rm f.rn))
      | true => none
    | _ => none
  | _ => none
/-- Unprefixed forms, F0 block, Z = 2. -/
def plainF0z2 (f : Fields) : Option Instr :=
  match f.y with
  | 0#4 => match f.q with
    | false => some (.paddW f.rm f.ro f.rn)
    | true => some (.paddL f.rm f.ro f.rn)
  | 1#4 => match f.q with
    | false => some (.psubW f.rm f.ro f.rn)
    | true => some (.psubL f.rm f.ro f.rn)
  | 2#4 => match f.q with
    | false => some (.shar f.rm f.ro f.rn)
    | true => some (.sharq f.rm f.ro f.rn)
  | 3#4 => match f.q with
    | false => some (.shlr f.rm f.ro f.rn)
    | true => some (.shlrq f.rm f.ro f.rn)
  | 4#4 => match f.q with
    | false => some (.pcseltW f.rm f.ro f.rn)
    | true => some (.pcseltL f.rm f.ro f.rn)
  | 5#4 => match f.q with
    | false => some (.paddF f.rm f.ro f.rn)
    | true => some (.paddxF (pairOf f.rm) (pairOf f.ro) (pairOf f.rn))
  | 6#4 => match f.q with
    | false => some (.psubF f.rm f.ro f.rn)
    | true => some (.psubxF (pairOf f.rm) (pairOf f.ro) (pairOf f.rn))
  | 7#4 => match f.q with
    | false => some (.pmulF f.rm f.ro f.rn)
    | true => some (.pmulxF (pairOf f.rm) (pairOf f.ro) (pairOf f.rn))
  | 8#4 => match f.q with
    | false => some (.movHD f.rm f.ro f.rn)
    | true => some (.movLD f.rm f.ro f.rn)
  | 9#4 => match f.q with
    | false => some (.movHLD f.rm f.ro f.rn)
    | true => some (.movLHD f.rm f.ro f.rn)
  | 10#4 => match f.q with
    | false => some (.pscheqW f.rm f.ro f.rn)
    | true => some (.pscheqB f.rm f.ro f.rn)
  | 11#4 => match f.q with
    | false => some (.pschneW f.rm f.ro f.rn)
    | true => some (.pschneB f.rm f.ro f.rn)
  | 12#4 => match f.q with
    | false => some (.blkutx1 f.rm f.ro f.rn)
    | true => some (.blkutx2 f.rm f.ro f.rn)
  | 13#4 => match f.q with
    | false => some (.paddH f.rm f.ro f.rn)
    | true => some (.paddxD (pairOf f.rm) (pairOf f.ro) (pairOf f.rn))
  | 14#4 => match f.q with
    | false => some (.psubH f.rm f.ro f.rn)
    | true => some (.psubxD (pairOf f.rm) (pairOf f.ro) (pairOf f.rn))
  | 15#4 => match f.q with
    | false => some (.pmulH f.rm f.ro f.rn)
    | true => some (.pmulxD (pairOf f.rm) (pairOf f.ro) (pairOf f.rn))
  | _ => none
/-- Unprefixed forms, F0 block, Z = 3. -/
def plainF0z3 (f : Fields) : Option Instr :=
  match f.y with
  | 0#4 => match f.n with
    | 0#4 => match f.m with
      | 0#4 => match f.o with
        | 0#4 => match f.q with
          | false => onlyIf (f.ox == 0#2) (onlyIf (f.nx == 0#2 && f.mx == 0#2) (some (.nop)))
          | true => none
        | 1#4 => match f.q with
          | false => onlyIf (f.ox == 0#2) (onlyIf (f.nx == 0#2 && f.mx == 0#2) (some (.rts)))
          | true => none
        | 2#4 => match f.q with
          | false => onlyIf (f.ox == 0#2) (onlyIf (f.nx == 0#2 && f.mx == 0#2) (some (.sleep)))
          | true => none
        | 3#4 => match f.q with
          | false => onlyIf (f.ox == 0#2) (onlyIf (f.nx == 0#2 && f.mx == 0#2) (some (.break2)))
          | true => none
        | 4#4 => match f.q with
          | false => onlyIf (f.ox == 0#2) (onlyIf (f.nx == 0#2 && f.mx == 0#2) (some (.clrT)))
          | true => none
        | 5#4 => match f.q with
          | false => onlyIf (f.ox == 0#2) (onlyIf (f.nx == 0#2 && f.mx == 0#2) (some (.setT)))
          | true => none
        | 6#4 => match f.q with
          | false => onlyIf (f.ox == 0#2) (onlyIf (f.nx == 0#2 && f.mx == 0#2) (some (.clrS)))
          | true => none
        | 7#4 => match f.q with
          | false => onlyIf (f.ox == 0#2) (onlyIf (f.nx == 0#2 && f.mx == 0#2) (some (.setS)))
          | true => none
        | 8#4 => match f.q with
          | false => onlyIf (f.ox == 0#2) (onlyIf (f.nx == 0#2 && f.mx == 0#2) (some (.notT)))
          | true => none
        | 9#4 => match f.q with
          | false => onlyIf (f.ox == 0#2) (onlyIf (f.nx == 0#2 && f.mx == 0#2) (some (.notS)))
          | true => none
        | 12#4 => match f.q with
          | false => onlyIf (f.ox == 0#2) (onlyIf (f.nx == 0#2 && f.mx == 0#2) (some (.rte)))
          | true => none
        | 13#4 => match f.q with
          | false => onlyIf (f.ox == 0#2) (onlyIf (f.nx == 0#2 && f.mx == 0#2) (some (.div0)))
          | true => none
        | 14#4 => match f.q with
          | false => onlyIf (f.ox == 0#2) (onlyIf (f.nx == 0#2 && f.mx == 0#2) (some (.div1)))
          | true => none
        | 15#4 => match f.q with
          | false => onlyIf (f.ox == 0#2) (onlyIf (f.nx == 0#2 && f.mx == 0#2) (some (.ldtlb)))
          | true => none
        | _ => none
      | 2#4 => match f.o with
        | 1#4 => match f.q with
          | false => onlyIf (f.ox == 0#2) (onlyIf (f.nx == 0#2 && f.mx == 0#2) (some (.rtsu)))
          | true => none
        | 4#4 => match f.q with
          | false => onlyIf (f.ox == 0#2) (onlyIf (f.nx == 0#2 && f.mx == 0#2) (some (.ldacl)))
          | true => none
        | 5#4 => match f.q with
          | false => onlyIf (f.ox == 0#2) (onlyIf (f.nx == 0#2 && f.mx == 0#2) (some (.ldxtlb)))
          | true => none
        | 8#4 => match f.q with
          | false => onlyIf (f.ox == 0#2) (onlyIf (f.nx == 0#2 && f.mx == 0#2) (some (.sxentr)))
          | true => none
        | 9#4 => match f.q with
          | false => onlyIf (f.ox == 0#2) (onlyIf (f.nx == 0#2 && f.mx == 0#2) (some (.suentr)))
          | true => none
        | 10#4 => match f.q with
          | false => onlyIf (f.ox == 0#2) (onlyIf (f.nx == 0#2 && f.mx == 0#2) (some (.svekrr)))
          | true => none
        | 11#4 => match f.q with
          | false => onlyIf (f.ox == 0#2) (onlyIf (f.nx == 0#2 && f.mx == 0#2) (some (.sventr)))
          | true => none
        | 12#4 => match f.q with
          | false => onlyIf (f.ox == 0#2) (onlyIf (f.nx == 0#2 && f.mx == 0#2) (some (.ldekrr)))
          | true => none
        | 13#4 => match f.q with
          | false => onlyIf (f.ox == 0#2) (onlyIf (f.nx == 0#2 && f.mx == 0#2) (some (.ldekey)))
          | true => none
        | 14#4 => match f.q with
          | false => onlyIf (f.ox == 0#2) (onlyIf (f.nx == 0#2 && f.mx == 0#2) (some (.ldeenc)))
          | true => none
        | 15#4 => match f.q with
          | false => onlyIf (f.ox == 0#2) (onlyIf (f.nx == 0#2 && f.mx == 0#2) (some (.invtlb)))
          | true => none
        | _ => none
      | _ => none
    | 1#4 => match f.m with
      | 0#4 => onlyIf (f.nx == 0#2 && f.mx == 0#2) ((f.jumpReg).map fun v => .bra (.reg v))
      | 1#4 => onlyIf (f.nx == 0#2 && f.mx == 0#2) ((f.jumpReg).map fun v => .bsr (.reg v))
      | 2#4 => onlyIf (f.nx == 0#2 && f.mx == 0#2 && Config.acceptDropped) ((f.jumpReg).map fun v => .bt (.reg v))
      | 3#4 => onlyIf (f.nx == 0#2 && f.mx == 0#2 && Config.acceptDropped) ((f.jumpReg).map fun v => .bf (.reg v))
      | 4#4 => onlyIf (f.nx == 0#2 && f.mx == 0#2) (some (.nop3r f.ro))
      | 12#4 => onlyIf (f.nx == 0#2 && f.mx == 0#2) (some (.invic f.ro))
      | 13#4 => onlyIf (f.nx == 0#2 && f.mx == 0#2) (some (.invdc f.ro))
      | _ => none
    | 2#4 => match f.m with
      | 0#4 => onlyIf (f.nx == 0#2 && f.mx == 0#2) ((f.jumpReg).map fun v => .jmp v)
      | 1#4 => onlyIf (f.nx == 0#2 && f.mx == 0#2) ((f.jumpReg).map fun v => .jsr v)
      | 2#4 => onlyIf (f.nx == 0#2 && f.mx == 0#2) ((f.jumpReg).map fun v => .jt v)
      | 3#4 => onlyIf (f.nx == 0#2 && f.mx == 0#2) ((f.jumpReg).map fun v => .jf v)
      | 12#4 => onlyIf (f.nx == 0#2 && f.mx == 0#2) ((f.jumpReg).map fun v => .braL v)
      | 13#4 => onlyIf (f.nx == 0#2 && f.mx == 0#2) ((f.jumpReg).map fun v => .bsrL v)
      | 14#4 => onlyIf (f.nx == 0#2 && f.mx == 0#2) ((f.jumpReg).map fun v => .btL v)
      | 15#4 => onlyIf (f.nx == 0#2 && f.mx == 0#2) ((f.jumpReg).map fun v => .bfL v)
      | _ => none
    | 3#4 => match f.m with
      | 3#4 => onlyIf (f.nx == 0#2 && f.mx == 0#2) (some (.movNT f.ro))
      | 4#4 => match f.q with
        | false => onlyIf (f.nx == 0#2 && f.mx == 0#2) (some (.rotl f.ro))
        | true => none
      | 5#4 => match f.q with
        | false => onlyIf (f.nx == 0#2 && f.mx == 0#2) (some (.rotr f.ro))
        | true => none
      | 6#4 => match f.q with
        | false => onlyIf (f.nx == 0#2 && f.mx == 0#2) (some (.rotclL f.ro))
        | true => onlyIf (f.nx == 0#2 && f.mx == 0#2) (some (.rotclQ f.ro))
      | 7#4 => match f.q with
        | false => onlyIf (f.nx == 0#2 && f.mx == 0#2) (some (.rotcrL f.ro))
        | true => onlyIf (f.nx == 0#2 && f.mx == 0#2) (some (.rotcrQ f.ro))
      | _ => none
    | 6#4 => match f.m with
      | 8#4 => match f.q with
        | false => onlyIf (f.nx == 0#2 && f.mx == 0#2) (some (.trapReg f.ro))
        | true => onlyIf (f.nx == 0#2 && f.mx == 0#2) (some (.trapPair (pairOf f.ro)))
      | 9#4 => onlyIf (f.nx == 0#2 && f.mx == 0#2) ((f.i5).map fun v => .wexmd v)
      | 10#4 => onlyIf (f.nx == 0#2 && f.mx == 0#2) ((f.i5).map fun v => .cpuid v)
      | 11#4 => onlyIf (f.nx == 0#2 && f.mx == 0#2) ((f.i5).bind fun v => srttwidOf v)
      | 12#4 => onlyIf (f.nx == 0#2 && f.mx == 0#2) ((f.i5).map fun v => .srtprop v)
      | 15#4 => onlyIf (f.nx == 0#2 && f.mx == 0#2) (some (.movT f.ro))
      | _ => none
    | _ => none
  | 1#4 => match f.q with
    | false => some (.movTTReg f.rm f.ro f.rn)
    | true => (f.i5).bind fun v => movTTOf f.rm v f.rn
  | 2#4 => match f.q with
    | false => some (.rotlQ f.rm f.ro f.rn)
    | true => some (.sharx (pairOf f.rm) f.ro (pairOf f.rn))
  | 3#4 => match f.q with
    | false => some (.rotrQ f.rm f.ro f.rn)
    | true => some (.shlrx (pairOf f.rm) f.ro (pairOf f.rn))
  | 4#4 => match f.q with
    | false => some (.mulhsQ f.rm f.ro f.rn)
    | true => some (.shadx (pairOf f.rm) f.ro (pairOf f.rn))
  | 5#4 => match f.q with
    | false => some (.mulhuQ f.rm f.ro f.rn)
    | true => some (.shldx (pairOf f.rm) f.ro (pairOf f.rn))
  | 6#4 => match f.q with
    | false => some (.rotlL f.rm f.ro f.rn)
    | true => some (.rotlx (pairOf f.rm) f.ro (pairOf f.rn))
  | 7#4 => match f.o with
    | 0#4 => match f.q with
      | false => onlyIf (f.ox == 0#2) (some (.swapB f.rm f.rn))
      | true => none
    | 1#4 => match f.q with
      | false => onlyIf (f.ox == 0#2) (some (.swapW f.rm f.rn))
      | true => none
    | 2#4 => match f.q with
      | false => onlyIf (f.ox == 0#2) (some (.swap8B f.rm f.rn))
      | true => none
    | 3#4 => match f.q with
      | false => onlyIf (f.ox == 0#2) (some (.swapL f.rm f.rn))
      | true => none
    | 4#4 => match f.q with
      | false => onlyIf (f.ox == 0#2) (some (.swapLB f.rm f.rn))
      | true => none
    | 5#4 => match f.q with
      | false => onlyIf (f.ox == 0#2) (some (.swapLW f.rm f.rn))
      | true => none
    | 6#4 => match f.q with
      | false => onlyIf (f.ox == 0#2) (some (.swcpLB f.rm f.rn))
      | true => none
    | 7#4 => match f.q with
      | false => onlyIf (f.ox == 0#2) (some (.swcpLW f.rm f.rn))
      | true => none
    | 8#4 => match f.q with
      | false => onlyIf (f.ox == 0#2) (some (.swapMB f.rm f.rn))
      | true => none
    | 9#4 => match f.q with
      | false => onlyIf (f.ox == 0#2) (some (.swapMW f.rm f.rn))
      | true => none
    | 10#4 => match f.q with
      | false => onlyIf (f.ox == 0#2) (some (.swcpMB f.rm f.rn))
      | true => none
    | 11#4 => match f.q with
      | false => onlyIf (f.ox == 0#2) (some (.swcpMW f.rm f.rn))
      | true => none
    | 12#4 => match f.q with
      | false => onlyIf (f.ox == 0#2) (some (.swapHB f.rm f.rn))
      | true => none
    | 13#4 => match f.q with
      | false => onlyIf (f.ox == 0#2) (some (.swapHW f.rm f.rn))
      | true => none
    | 14#4 => match f.q with
      | false => onlyIf (f.ox == 0#2) (some (.swcpHB f.rm f.rn))
      | true => none
    | 15#4 => match f.q with
      | false => onlyIf (f.ox == 0#2) (some (.swcpHW f.rm f.rn))
      | true => none
    | _ => none
  | 8#4 => match f.o with
    | 0#4 => match f.q with
      | false => onlyIf (f.ox == 0#2) (some (.bndcmpB f.rm f.rn))
      | true => none
    | 1#4 => match f.q with
      | false => onlyIf (f.ox == 0#2) (some (.bndcmpW f.rm f.rn))
      | true => none
    | 2#4 => match f.q with
      | false => onlyIf (f.ox == 0#2) (some (.bndcmpL f.rm f.rn))
      | true => none
    | 3#4 => match f.q with
      | false => onlyIf (f.ox == 0#2) (some (.bndcmpQ f.rm f.rn))
      | true => none
    | 6#4 => match f.q with
      | false => onlyIf (f.ox == 0#2) (some (.cmpPEQ f.rm f.rn))
      | true => onlyIf (f.ox == 0#2) (some (.cmpPEQX (pairOf f.rm) (pairOf f.rn)))
    | 7#4 => match f.q with
      | false => onlyIf (f.ox == 0#2) (some (.cmpPGT f.rm f.rn))
      | true => onlyIf (f.ox == 0#2) (some (.cmpPGTX (pairOf f.rm) (pairOf f.rn)))
    | 8#4 => match f.q with
      | false => none
      | true => onlyIf (f.ox == 0#2) ((f.mi4).map fun v => .jmpmd v f.rn)
    | 9#4 => match f.q with
      | false => none
      | true => onlyIf (f.ox == 0#2) ((f.mi4).map fun v => .jsrmd v f.rn)
    | _ => none
  | _ => none
/-- Unprefixed forms, F0 block, Z = 4. -/
def plainF0z4 (f : Fields) : Option Instr :=
  match f.y with
  | 0#4 => match f.q with
    | false => (f.u5).map fun v => .movX .store (pairOf f.rn) (.disp f.rm v)
    | true => (f.u5).map fun v => .leatB f.rn (.disp f.rm v)
  | 1#4 => match f.q with
    | false => none
    | true => (f.u5).map fun v => .leatW f.rn (.disp f.rm v)
  | 2#4 => match f.q with
    | false => none
    | true => (f.u5).map fun v => .leatL f.rn (.disp f.rm v)
  | 3#4 => match f.q with
    | false => none
    | true => (f.u5).map fun v => .leatQ f.rn (.disp f.rm v)
  | 4#4 => match f.q with
    | false => some (.movX .store (pairOf f.rn) (.index f.rm f.ro))
    | true => onlyIf (!bitAt f.ox 0) (some (.leatB f.rn (.index f.rm f.ro)))
  | 5#4 => match f.q with
    | false => some (.movC .store f.rn (.index f.rm f.ro))
    | true => onlyIf (!bitAt f.ox 0) (some (.leatW f.rn (.index f.rm f.ro)))
  | 6#4 => match f.q with
    | false => none
    | true => onlyIf (!bitAt f.ox 0) (some (.leatL f.rn (.index f.rm f.ro)))
  | 7#4 => match f.q with
    | false => none
    | true => onlyIf (!bitAt f.ox 0) (some (.leatQ f.rn (.index f.rm f.ro)))
  | 8#4 => match f.q with
    | false => (f.u5).map fun v => .movX .load (pairOf f.rn) (.disp f.rm v)
    | true => (f.u5).map fun v => .movnL f.rn (.disp f.rm v)
  | 12#4 => match f.q with
    | false => some (.movX .load (pairOf f.rn) (.index f.rm f.ro))
    | true => some (.movnL f.rn (.index f.rm f.ro))
  | 13#4 => match f.q with
    | false => some (.movC .load f.rn (.index f.rm f.ro))
    | true => none
  | _ => none
/-- Unprefixed forms, F0 block, Z = 5. -/
def plainF0z5 (f : Fields) : Option Instr :=
  match f.y with
  | 0#4 => match f.q with
    | false => some (.cselt f.rm f.ro f.rn)
    | true => some (.nop3rrr f.rm f.ro f.rn)
  | 1#4 => match f.q with
    | false => some (.pmulsW f.rm f.ro f.rn)
    | true => some (.pmuluW f.rm f.ro f.rn)
  | 2#4 => match f.q with
    | false => some (.dmulsL f.rm f.ro f.rn)
    | true => none
  | 3#4 => match f.q with
    | false => some (.dmuluL f.rm f.ro f.rn)
    | true => none
  | 4#4 => match f.q with
    | false => some (.shad f.rm (.reg f.ro) f.rn)
    | true => some (.shadq f.rm (.reg f.ro) f.rn)
  | 5#4 => match f.q with
    | false => some (.shld f.rm (.reg f.ro) f.rn)
    | true => some (.shldq f.rm (.reg f.ro) f.rn)
  | 6#4 => match f.q with
    | false => some (.pmulsLW f.rm f.ro f.rn)
    | true => some (.pmuluLW f.rm f.ro f.rn)
  | 7#4 => match f.q with
    | false => some (.pmulsHW f.rm f.ro f.rn)
    | true => some (.pmuluHW f.rm f.ro f.rn)
  | 8#4 => match f.q with
    | false => some (.fadd f.rm (.reg f.ro) f.rn 0#8)
    | true => some (.faddx (pairOf f.rm) (pairOf f.ro) (pairOf f.rn) 0#8)
  | 9#4 => match f.q with
    | false => some (.fsub f.rm (.reg f.ro) f.rn 0#8)
    | true => some (.fsubx (pairOf f.rm) (pairOf f.ro) (pairOf f.rn) 0#8)
  | 10#4 => match f.q with
    | false => some (.fmul f.rm (.reg f.ro) f.rn 0#8)
    | true => some (.fmulx (pairOf f.rm) (pairOf f.ro) (pairOf f.rn) 0#8)
  | 11#4 => match f.q with
    | false => some (.fmac f.rm f.ro f.rn f.rn)
    | true => some (.fmacx (pairOf f.rm) (pairOf f.ro) (pairOf f.rn) (pairOf f.rn))
  | 12#4 => match f.q with
    | false => some (.addsL f.rm (.reg f.ro) f.rn)
    | true => some (.adduL f.rm (.reg f.ro) f.rn)
  | 13#4 => match f.q with
    | false => some (.subsL f.rm f.ro f.rn)
    | true => some (.subuL f.rm f.ro f.rn)
  | 14#4 => match f.q with
    | false => some (.mulsW f.rm (.reg f.ro) f.rn)
    | true => (f.u5).map fun v => .mulsW f.rm (.imm v) f.rn
  | 15#4 => match f.q with
    | false => some (.muluW f.rm (.reg f.ro) f.rn)
    | true => (f.u5).map fun v => .muluW f.rm (.imm v) f.rn
  | _ => none
/-- Unprefixed forms, F0 block, Z = 6. -/
def plainF0z6 (f : Fields) : Option Instr :=
  match f.y with
  | 0#4 => match f.q with
    | false => some (.macsL f.rm (.reg f.ro) f.rn f.rn)
    | true => (f.u5).map fun v => .macsL f.rm (.imm v) f.rn f.rn
  | 1#4 => match f.q with
    | false => some (.macuL f.rm (.reg f.ro) f.rn f.rn)
    | true => (f.u5).map fun v => .macuL f.rm (.imm v) f.rn f.rn
  | 2#4 => match f.q with
    | false => some (.dmacsL f.rm (.reg f.ro) f.rn f.rn)
    | true => (f.u5).map fun v => .dmacsL f.rm (.imm v) f.rn f.rn
  | 3#4 => match f.q with
    | false => some (.dmacuL f.rm (.reg f.ro) f.rn f.rn)
    | true => (f.u5).map fun v => .dmacuL f.rm (.imm v) f.rn f.rn
  | 4#4 => match f.q with
    | false => some (.divsQ f.rm f.ro f.rn)
    | true => some (.divuQ f.rm f.ro f.rn)
  | 5#4 => match f.q with
    | false => some (.modsQ f.rm f.ro f.rn)
    | true => some (.moduQ f.rm f.ro f.rn)
  | 6#4 => match f.q with
    | false => some (.fdiv f.rm f.ro f.rn)
    | true => some (.fdivx (pairOf f.rm) (pairOf f.ro) (pairOf f.rn))
  | 7#4 => match f.q with
    | false => some (.fdiva f.rm f.ro f.rn)
    | true => some (.fdivxa (pairOf f.rm) (pairOf f.ro) (pairOf f.rn))
  | 8#4 => match f.q with
    | false => none
    | true => some (.blkutx3h (pairOf f.rm) f.ro f.rn)
  | 9#4 => match f.q with
    | false => some (.blerp f.rm f.ro f.rn)
    | true => some (.blkutx3l (pairOf f.rm) f.ro f.rn)
  | 11#4 => match f.q with
    | false => some (.bitsel f.rm f.ro f.rn)
    | true => some (.bitselx (pairOf f.rm) (pairOf f.ro) (pairOf f.rn))
  | 12#4 => match f.q with
    | false => some (.blkuab1 f.rm f.ro f.rn)
    | true => some (.blkuab2 f.rm f.ro f.rn)
  | 13#4 => match f.q with
    | false => some (.faddg f.rm f.ro f.rn)
    | true => onlyIf (Config.features.fpImm) ((f.fp5).map fun v => .fadd f.rm (.imm v) f.rn 0#8)
  | 14#4 => match f.q with
    | false => some (.fsubg f.rm f.ro f.rn)
    | true => onlyIf (Config.features.fpImm) ((f.fp5).map fun v => .fsub f.rm (.imm v) f.rn 0#8)
  | 15#4 => match f.q with
    | false => some (.fmulg f.rm f.ro f.rn)
    | true => onlyIf (Config.features.fpImm) ((f.fp5).map fun v => .fmul f.rm (.imm v) f.rn 0#8)
  | _ => none
/-- Unprefixed forms, F0 block, Z = 7. -/
def plainF0z7 (f : Fields) : Option Instr :=
  match f.y with
  | 0#4 => match f.q with
    | false => some (.fadda f.rm (.reg f.ro) f.rn)
    | true => some (.fmin f.rm f.ro f.rn)
  | 1#4 => match f.q with
    | false => some (.fsuba f.rm f.ro f.rn)
    | true => some (.fmax f.rm f.ro f.rn)
  | 2#4 => match f.q with
    | false => some (.fmula f.rm (.reg f.ro) f.rn)
    | true => some (.bitnn f.rm f.ro f.rn)
  | 3#4 => match f.q with
    | false => some (.movHW f.rm f.ro f.rn)
    | true => some (.movLW f.rm f.ro f.rn)
  | 4#4 => match f.q with
    | false => some (.divsL f.rm f.ro f.rn)
    | true => some (.divuL f.rm f.ro f.rn)
  | 5#4 => match f.q with
    | false => some (.modsL f.rm f.ro f.rn)
    | true => some (.moduL f.rm f.ro f.rn)
  | 6#4 => match f.q with
    | false => some (.rgb5ccenc f.rm f.ro f.rn)
    | true => some (.pmulF8H f.rm f.ro f.rn)
  | 7#4 => match f.q with
    | false => some (.subP f.rm f.ro f.rn)
    | true => some (.subxP (pairOf f.rm) (pairOf f.ro) (pairOf f.rn))
  | _ => none
/-- Unprefixed forms, F0 block, Z = 8. -/
def plainF0z8 (f : Fields) : Option Instr :=
  match f.y with
  | 6#4 => match f.q with
    | false => none
    | true => some (.xmovTTReg (pairOf f.rm) f.ro (pairOf f.rn))
  | _ => none
/-- Unprefixed forms, F0 block, Z = 9. -/
def plainF0z9 (f : Fields) : Option Instr :=
  match f.y with
  | 0#4 => match f.q with
    | false => (f.u5).map fun v => .movTW .store f.rn (.disp f.rm v)
    | true => (f.us5).map fun v => .cmp3EQ f.rm (.imm v) f.rn
  | 1#4 => match f.q with
    | false => (f.u5).map fun v => .movHTW .store f.rn (.disp f.rm v)
    | true => (f.us5).map fun v => .cmp3GT f.rm (.imm v) f.rn
  | 2#4 => match f.q with
    | false => none
    | true => (f.us5).map fun v => .cmp3NE f.rm (.imm v) f.rn
  | 3#4 => match f.q with
    | false => none
    | true => (f.us5).map fun v => .cmp3LT f.rm v f.rn
  | 4#4 => match f.q with
    | false => some (.movTW .store f.rn (.index f.rm f.ro))
    | true => some (.cmp3EQ f.rm (.reg f.ro) f.rn)
  | 5#4 => match f.q with
    | false => some (.movHTW .store f.rn (.index f.rm f.ro))
    | true => some (.cmp3GT f.rm (.reg f.ro) f.rn)
  | 6#4 => match f.q with
    | false => none
    | true => some (.cmp3NE f.rm (.reg f.ro) f.rn)
  | 7#4 => match f.q with
    | false => none
    | true => some (.cmp3GE f.rm f.ro f.rn)
  | 8#4 => match f.q with
    | false => (f.u5).map fun v => .movTW .load f.rn (.disp f.rm v)
    | true => (f.u5).map fun v => .movuTW f.rn (.disp f.rm v)
  | 9#4 => match f.q with
    | false => (f.u5).map fun v => .movHTW .load f.rn (.disp f.rm v)
    | true => none
  | 12#4 => match f.q with
    | false => some (.movTW .load f.rn (.index f.rm f.ro))
    | true => some (.movuTW f.rn (.index f.rm f.ro))
  | 13#4 => match f.q with
    | false => some (.movHTW .load f.rn (.index f.rm f.ro))
    | true => none
  | _ => none
/-- Unprefixed forms, F0 block, Z = C. -/
def plainF0zC (f : Fields) : Option Instr :=
  (f.d20).map fun v => .bra (.disp v)
/-- Unprefixed forms, F0 block, Z = D. -/
def plainF0zD (f : Fields) : Option Instr :=
  (f.d20).map fun v => .bsr (.disp v)
/-- Unprefixed forms, F0 block, Z = E. -/
def plainF0zE (f : Fields) : Option Instr :=
  onlyIf Config.acceptDropped ((f.d20).map fun v => .bt (.disp v))
/-- Unprefixed forms, F0 block, Z = F. -/
def plainF0zF (f : Fields) : Option Instr :=
  onlyIf Config.acceptDropped ((f.d20).map fun v => .bf (.disp v))
/-- Unprefixed forms, F0 block. -/
def plainF0 (f : Fields) : Option Instr :=
  match f.z with
  | 0#4 => plainF0z0 f
  | 1#4 => plainF0z1 f
  | 2#4 => plainF0z2 f
  | 3#4 => plainF0z3 f
  | 4#4 => plainF0z4 f
  | 5#4 => plainF0z5 f
  | 6#4 => plainF0z6 f
  | 7#4 => plainF0z7 f
  | 8#4 => plainF0z8 f
  | 9#4 => plainF0z9 f
  | 12#4 => plainF0zC f
  | 13#4 => plainF0zD f
  | 14#4 => plainF0zE f
  | 15#4 => plainF0zF f
  | _ => none
/-- Unprefixed forms, F1 block, Z = 0. -/
def plainF1z0 (f : Fields) : Option Instr :=
  match f.q with
  | false => (f.d9).map fun v => .movB .store f.rn (.disp f.rm v)
  | true => (f.d9).map fun v => .leaB f.rn (.disp f.rm v)
/-- Unprefixed forms, F1 block, Z = 1. -/
def plainF1z1 (f : Fields) : Option Instr :=
  match f.q with
  | false => (f.d9).map fun v => .movW .store f.rn (.disp f.rm v)
  | true => (f.d9).map fun v => .leaW f.rn (.disp f.rm v)
/-- Unprefixed forms, F1 block, Z = 2. -/
def plainF1z2 (f : Fields) : Option Instr :=
  match f.q with
  | false => (f.d9).map fun v => .movL .store f.rn (.disp f.rm v)
  | true => (f.d9).map fun v => .leaL f.rn (.disp f.rm v)
/-- Unprefixed forms, F1 block, Z = 3. -/
def plainF1z3 (f : Fields) : Option Instr :=
  match f.q with
  | false => (f.d9).map fun v => .movQ .store f.rn (.disp f.rm v)
  | true => (f.d9).map fun v => .leaQ f.rn (.disp f.rm v)
/-- Unprefixed forms, F1 block, Z = 5. -/
def plainF1z5 (f : Fields) : Option Instr :=
  match f.q with
  | false => (f.d9).map fun v => .movC .store f.rn (.disp f.rm v)
  | true => (f.d9).map fun v => .movX .store (pairOf f.rn) (.disp f.rm v)
/-- Unprefixed forms, F1 block, Z = 7. -/
def plainF1z7 (f : Fields) : Option Instr :=
  match f.q with
  | false => (f.d9).map fun v => .movC .load f.rn (.disp f.rm v)
  | true => (f.d9).map fun v => .movX .load (pairOf f.rn) (.disp f.rm v)
/-- Unprefixed forms, F1 block, Z = 8. -/
def plainF1z8 (f : Fields) : Option Instr :=
  match f.q with
  | false => (f.d9).map fun v => .movB .load f.rn (.disp f.rm v)
  | true => (f.d9).map fun v => .movuB f.rn (.disp f.rm v)
/-- Unprefixed forms, F1 block, Z = 9. -/
def plainF1z9 (f : Fields) : Option Instr :=
  match f.q with
  | false => (f.d9).map fun v => .movW .load f.rn (.disp f.rm v)
  | true => (f.d9).map fun v => .movuW f.rn (.disp f.rm v)
/-- Unprefixed forms, F1 block, Z = A. -/
def plainF1zA (f : Fields) : Option Instr :=
  match f.q with
  | false => (f.d9).map fun v => .movL .load f.rn (.disp f.rm v)
  | true => (f.d9).map fun v => .movuL f.rn (.disp f.rm v)
/-- Unprefixed forms, F1 block, Z = B. -/
def plainF1zB (f : Fields) : Option Instr :=
  match f.q with
  | false => (f.d9).map fun v => .movQ .load f.rn (.disp f.rm v)
  | true => none
/-- Unprefixed forms, F1 block, Z = C. -/
def plainF1zC (f : Fields) : Option Instr :=
  match f.q with
  | false => match f.ox with
    | 0#2 => some (.jtstT f.rm f.rn (sext 8 (zext 8 (f.imm8.setWidth 64))))
    | 1#2 => some (.jtstF f.rm f.rn (sext 8 (zext 8 (f.imm8.setWidth 64))))
    | _ => none
  | true => match f.ox with
    | 0#2 => some (.jtstQT f.rm f.rn (sext 8 (zext 8 (f.imm8.setWidth 64))))
    | 1#2 => some (.jtstQF f.rm f.rn (sext 8 (zext 8 (f.imm8.setWidth 64))))
    | _ => none
/-- Unprefixed forms, F1 block, Z = D. -/
def plainF1zD (f : Fields) : Option Instr :=
  match f.q with
  | false => match f.ox with
    | 0#2 => some (.jcmpGT f.rm f.rn (sext 8 (zext 8 (f.imm8.setWidth 64))))
    | 1#2 => some (.jcmpLE f.rm f.rn (sext 8 (zext 8 (f.imm8.setWidth 64))))
    | _ => none
  | true => match f.ox with
    | 0#2 => some (.jcmpQGT f.rm f.rn (sext 8 (zext 8 (f.imm8.setWidth 64))))
    | 1#2 => some (.jcmpQLE f.rm f.rn (sext 8 (zext 8 (f.imm8.setWidth 64))))
    | _ => none
/-- Unprefixed forms, F1 block, Z = E. -/
def plainF1zE (f : Fields) : Option Instr :=
  match f.q with
  | false => match f.ox with
    | 0#2 => some (.jcmpHI f.rm f.rn (sext 8 (zext 8 (f.imm8.setWidth 64))))
    | 1#2 => some (.jcmpLS f.rm f.rn (sext 8 (zext 8 (f.imm8.setWidth 64))))
    | _ => none
  | true => match f.ox with
    | 0#2 => some (.jcmpQHI f.rm f.rn (sext 8 (zext 8 (f.imm8.setWidth 64))))
    | 1#2 => some (.jcmpQLS f.rm f.rn (sext 8 (zext 8 (f.imm8.setWidth 64))))
    | _ => none
/-- Unprefixed forms, F1 block, Z = F. -/
def plainF1zF (f : Fields) : Option Instr :=
  match f.q with
  | false => match f.ox with
    | 0#2 => some (.jcmpEQ f.rm f.rn (sext 8 (zext 8 (f.imm8.setWidth 64))))
    | 1#2 => some (.jcmpNE f.rm f.rn (sext 8 (zext 8 (f.imm8.setWidth 64))))
    | _ => none
  | true => match f.ox with
    | 0#2 => some (.jcmpQEQ f.rm f.rn (sext 8 (zext 8 (f.imm8.setWidth 64))))
    | 1#2 => some (.jcmpQNE f.rm f.rn (sext 8 (zext 8 (f.imm8.setWidth 64))))
    | _ => none
/-- Unprefixed forms, F1 block. -/
def plainF1 (f : Fields) : Option Instr :=
  match f.z with
  | 0#4 => plainF1z0 f
  | 1#4 => plainF1z1 f
  | 2#4 => plainF1z2 f
  | 3#4 => plainF1z3 f
  | 5#4 => plainF1z5 f
  | 7#4 => plainF1z7 f
  | 8#4 => plainF1z8 f
  | 9#4 => plainF1z9 f
  | 10#4 => plainF1zA f
  | 11#4 => plainF1zB f
  | 12#4 => plainF1zC f
  | 13#4 => plainF1zD f
  | 14#4 => plainF1zE f
  | 15#4 => plainF1zF f
  | _ => none
/-- Unprefixed forms, F2 block, Z = 0. -/
def plainF2z0 (f : Fields) : Option Instr :=
  match f.q with
  | false => (f.u9).map fun v => .add f.rm (.imm v) f.rn
  | true => none
/-- Unprefixed forms, F2 block, Z = 1. -/
def plainF2z1 (f : Fields) : Option Instr :=
  match f.q with
  | false => (f.n9).map fun v => .add f.rm (.imm v) f.rn
  | true => none
/-- Unprefixed forms, F2 block, Z = 2. -/
def plainF2z2 (f : Fields) : Option Instr :=
  match f.q with
  | false => (f.u9).map fun v => .muls f.rm (.imm v) f.rn
  | true => (f.u9).map fun v => .mulu f.rm (.imm v) f.rn
/-- Unprefixed forms, F2 block, Z = 3. -/
def plainF2z3 (f : Fields) : Option Instr :=
  match f.q with
  | false => (f.u9).map fun v => .addsL f.rm (.imm v) f.rn
  | true => (f.u9).map fun v => .adduL f.rm (.imm v) f.rn
/-- Unprefixed forms, F2 block, Z = 4. -/
def plainF2z4 (f : Fields) : Option Instr :=
  match f.q with
  | false => (f.n9).map fun v => .addsL f.rm (.imm v) f.rn
  | true => (f.n9).map fun v => .adduL f.rm (.imm v) f.rn
/-- Unprefixed forms, F2 block, Z = 5. -/
def plainF2z5 (f : Fields) : Option Instr :=
  match f.q with
  | false => (f.u9).map fun v => .and f.rm (.imm v) f.rn
  | true => none
/-- Unprefixed forms, F2 block, Z = 6. -/
def plainF2z6 (f : Fields) : Option Instr :=
  match f.q with
  | false => (f.u9).map fun v => .or f.rm (.imm v) f.rn
  | true => none
/-- Unprefixed forms, F2 block, Z = 7. -/
def plainF2z7 (f : Fields) : Option Instr :=
  match f.q with
  | false => (f.u9).map fun v => .xor f.rm (.imm v) f.rn
  | true => none
/-- Unprefixed forms, F2 block, Z = 8. -/
def plainF2z8 (f : Fields) : Option Instr :=
  match f.q with
  | false => match f.ox with
    | 0#2 => some (.shad f.rm (.imm (sext 8 (zext 8 (f.imm8.setWidth 64)))) f.rn)
    | 1#2 => some (.pshufB f.rm f.imm8 f.rn)
    | _ => none
  | true => match f.ox with
    | 0#2 => some (.shadq f.rm (.imm (sext 8 (zext 8 (f.imm8.setWidth 64)))) f.rn)
    | 1#2 => some (.pshufW f.rm f.imm8 f.rn)
    | _ => none
/-- Unprefixed forms, F2 block, Z = 9. -/
def plainF2z9 (f : Fields) : Option Instr :=
  match f.q with
  | false => onlyIf (f.ox == 0#2) (some (.shld f.rm (.imm (sext 8 (zext 8 (f.imm8.setWidth 64)))) f.rn))
  | true => onlyIf (f.ox == 0#2) (some (.shldq f.rm (.imm (sext 8 (zext 8 (f.imm8.setWidth 64)))) f.rn))
/-- Unprefixed forms, F2 block, Z = C. -/
def plainF2zC (f : Fields) : Option Instr :=
  match f.m with
  | 0#4 => match f.q with
    | false => onlyIf (Config.features.wex2) ((f.z10).map fun v => .ldiz v f.rn)
    | true => (f.z10).map fun v => .ldimiz v f.rn
  | 1#4 => match f.q with
    | false => onlyIf (Config.features.wex2) ((f.n10).map fun v => .ldin v f.rn)
    | true => (f.n10).map fun v => .ldimin v f.rn
  | 2#4 => match f.q with
    | false => (f.z8).map fun v => .ldish v f.rn
    | true => none
  | 3#4 => match f.q with
    | false => (f.z10).map fun v => .ldihi v f.rn
    | true => (f.z10).map fun v => .ldihiq v f.rn
  | 4#4 => match f.q with
    | false => (f.c9u).map fun v => .tst (.imm v) f.rn f.flag
    | true => (f.c9u).map fun v => .tstQ (.imm v) f.rn f.flag
  | 5#4 => match f.q with
    | false => (f.c9n).map fun v => .tst (.imm v) f.rn f.flag
    | true => (f.c9n).map fun v => .tstQ (.imm v) f.rn f.flag
  | 6#4 => match f.q with
    | false => (f.c9u).map fun v => .cmpHS (.imm v) f.rn f.flag
    | true => (f.c9u).map fun v => .cmpQHS (.imm v) f.rn f.flag
  | 7#4 => match f.q with
    | false => (f.c9n).map fun v => .cmpHS (.imm v) f.rn f.flag
    | true => (f.c9n).map fun v => .cmpQHS (.imm v) f.rn f.flag
  | 8#4 => match f.q with
    | false => (f.c9u).map fun v => .cmpHI (.imm v) f.rn f.flag
    | true => (f.c9u).map fun v => .cmpQHI (.imm v) f.rn f.flag
  | 9#4 => match f.q with
    | false => (f.c9n).map fun v => .cmpHI (.imm v) f.rn f.flag
    | true => (f.c9n).map fun v => .cmpQHI (.imm v) f.rn f.flag
  | 10#4 => match f.q with
    | false => (f.c9u).map fun v => .cmpGE (.imm v) f.rn f.flag
    | true => (f.c9u).map fun v => .cmpQGE (.imm v) f.rn f.flag
  | 11#4 => match f.q with
    | false => (f.c9n).map fun v => .cmpGE (.imm v) f.rn f.flag
    | true => (f.c9n).map fun v => .cmpQGE (.imm v) f.rn f.flag
  | 12#4 => match f.q with
    | false => (f.c9u).map fun v => .cmpEQ (.imm v) f.rn f.flag
    | true => (f.c9u).map fun v => .cmpQEQ (.imm v) f.rn f.flag
  | 13#4 => match f.q with
    | false => (f.c9n).map fun v => .cmpEQ (.imm v) f.rn f.flag
    | true => (f.c9n).map fun v => .cmpQEQ (.imm v) f.rn f.flag
  | 14#4 => match f.q with
    | false => (f.c9u).map fun v => .cmpGT (.imm v) f.rn f.flag
    | true => (f.c9u).map fun v => .cmpQGT (.imm v) f.rn f.flag
  | 15#4 => match f.q with
    | false => (f.c9n).map fun v => .cmpGT (.imm v) f.rn f.flag
    | true => (f.c9n).map fun v => .cmpQGT (.imm v) f.rn f.flag
  | _ => none
/-- Unprefixed forms, F2 block, Z = D. -/
def plainF2zD (f : Fields) : Option Instr :=
  match f.m with
  | 0#4 => match f.q with
    | false => (f.u10).map fun v => .add f.rn (.imm v) f.rn
    | true => none
  | 1#4 => match f.q with
    | false => (f.n10).map fun v => .add f.rn (.imm v) f.rn
    | true => none
  | 2#4 => match f.q with
    | false => (f.u10).map fun v => .mulsW f.rn (.imm v) f.rn
    | true => (f.u10).map fun v => .muluW f.rn (.imm v) f.rn
  | 3#4 => match f.q with
    | false => (f.n10).map fun v => .mulsW f.rn (.imm v) f.rn
    | true => (f.n10).map fun v => .muluW f.rn (.imm v) f.rn
  | 6#4 => f.jcmpz (sext 8 (f.imm8.setWidth 64))
  | 7#4 => f.jcmpz (sext 8 (f.imm8.setWidth 64))
  | 8#4 => match f.q with
    | false => (f.u10).map fun v => .movL .store f.rn (.gbr v)
    | true => none
  | 9#4 => match f.q with
    | false => (f.u10).map fun v => .movQ .store f.rn (.gbr v)
    | true => (f.u10).map fun v => .movX .store (pairOf f.rn) (.gbr v)
  | 10#4 => match f.q with
    | false => (f.u10).map fun v => .movL .load f.rn (.gbr v)
    | true => (f.u10).map fun v => .movuL f.rn (.gbr v)
  | 11#4 => match f.q with
    | false => (f.u10).map fun v => .movQ .load f.rn (.gbr v)
    | true => (f.u10).map fun v => .movX .load (pairOf f.rn) (.gbr v)
  | 12#4 => match f.q with
    | false => onlyIf (Config.features.fpImm) ((f.f10).map fun v => .fcmpEQ (.imm v) f.rn)
    | true => none
  | 14#4 => match f.q with
    | false => onlyIf (Config.features.fpImm) ((f.f10).map fun v => .fcmpGT (.imm v) f.rn)
    | true => onlyIf (Config.features.fpImm) ((f.f10).map fun v => .fadd f.rn (.imm v) f.rn 0#8)
  | 15#4 => match f.q with
    | false => onlyIf (Config.features.fpImm) ((f.f10).map fun v => .fcmpGE v f.rn)
    | true => onlyIf (Config.features.fpImm) ((f.f10).map fun v => .fmul f.rn (.imm v) f.rn 0#8)
  | _ => none
/-- Unprefixed forms, F2 block, Z = E. -/
def plainF2zE (f : Fields) : Option Instr :=
  match f.m with
  | 2#4 => match f.q with
    | false => (f.b8).map fun v => .rbsldQ v f.rn
    | true => (f.b8).map fun v => .rbsldX v (pairOf f.rn)
  | 3#4 => match f.q with
    | false => (f.b8).map fun v => .rbsstQ v f.rn
    | true => (f.b8).map fun v => .rbsstX v (pairOf f.rn)
  | 4#4 => match f.q with
    | false => (f.u10).map fun v => .brEQL f.rn v
    | true => (f.u10).map fun v => .brEQQ f.rn v
  | 5#4 => match f.q with
    | false => (f.n10).map fun v => .brEQL f.rn v
    | true => (f.n10).map fun v => .brEQQ f.rn v
  | 6#4 => match f.q with
    | false => (f.u10).map fun v => .brNEL f.rn v
    | true => (f.u10).map fun v => .brNEQ f.rn v
  | 7#4 => match f.q with
    | false => (f.n10).map fun v => .brNEL f.rn v
    | true => (f.n10).map fun v => .brNEQ f.rn v
  | 8#4 => match f.q with
    | false => (f.u10).map fun v => .brLTL f.rn v
    | true => (f.u10).map fun v => .brLTQ f.rn v
  | 9#4 => match f.q with
    | false => (f.n10).map fun v => .brLTL f.rn v
    | true => (f.n10).map fun v => .brLTQ f.rn v
  | 10#4 => match f.q with
    | false => (f.u10).map fun v => .brGEL f.rn v
    | true => (f.u10).map fun v => .brGEQ f.rn v
  | 11#4 => match f.q with
    | false => (f.n10).map fun v => .brGEL f.rn v
    | true => (f.n10).map fun v => .brGEQ f.rn v
  | 12#4 => match f.q with
    | false => (f.u10).map fun v => .brLEL f.rn v
    | true => (f.u10).map fun v => .brLEQ f.rn v
  | 13#4 => match f.q with
    | false => (f.n10).map fun v => .brLEL f.rn v
    | true => (f.n10).map fun v => .brLEQ f.rn v
  | 14#4 => match f.q with
    | false => (f.u10).map fun v => .brGTL f.rn v
    | true => (f.u10).map fun v => .brGTQ f.rn v
  | 15#4 => match f.q with
    | false => (f.n10).map fun v => .brGTL f.rn v
    | true => (f.n10).map fun v => .brGTQ f.rn v
  | _ => none
/-- Unprefixed forms, F2 block. -/
def plainF2 (f : Fields) : Option Instr :=
  match f.z with
  | 0#4 => plainF2z0 f
  | 1#4 => plainF2z1 f
  | 2#4 => plainF2z2 f
  | 3#4 => plainF2z3 f
  | 4#4 => plainF2z4 f
  | 5#4 => plainF2z5 f
  | 6#4 => plainF2z6 f
  | 7#4 => plainF2z7 f
  | 8#4 => plainF2z8 f
  | 9#4 => plainF2z9 f
  | 12#4 => plainF2zC f
  | 13#4 => plainF2zD f
  | 14#4 => plainF2zE f
  | _ => none
/-- Unprefixed forms, F8 block (R116, R188). -/
def plainF8 (f : Fields) : Option Instr :=
  match f.n with
  | 0#4 => (f.z16).map fun v => .ldiz v f.r8
  | 1#4 => (f.z16).map fun v => .ldiz v f.r8
  | 2#4 => (f.n16).map fun v => .ldin v f.r8
  | 3#4 => (f.n16).map fun v => .ldin v f.r8
  | 4#4 => (f.s16).map fun v => .add f.r8 (.imm v) f.r8
  | 5#4 => (f.s16).map fun v => .add f.r8 (.imm v) f.r8
  | 6#4 => (f.z16).map fun v => .ldish16 v f.r8
  | 7#4 => (f.z16).map fun v => .ldish16 v f.r8
  | 8#4 => (f.h16).map fun v => .fldchImm v f.r8
  | 9#4 => (f.h16).map fun v => .fldchImm v f.r8
  | 10#4 => (f.u16).map fun v => .leaQ f.r8 (.gbr v)
  | 11#4 => (f.u16).map fun v => .leaQ f.r8 (.gbr v)
  | _ => none
/-- Forms behind one Jumbo prefix, F0 block, Z = 0. -/
def jumboF0z0 (f : Fields) (j : BitVec 24) : Option Instr :=
  match f.y with
  | 0#4 => match f.q with
    | false => none
    | true => (f.s29 j).map fun v => .leaB f.rn (.dispByte f.rm v)
  | 1#4 => match f.q with
    | false => none
    | true => (f.s29 j).map fun v => .leaW f.rn (.dispByte f.rm v)
  | 2#4 => match f.q with
    | false => none
    | true => (f.s29 j).map fun v => .leaL f.rn (.dispByte f.rm v)
  | 3#4 => match f.q with
    | false => none
    | true => (f.s29 j).map fun v => .leaQ f.rn (.dispByte f.rm v)
  | _ => none
/-- Forms behind one Jumbo prefix, F0 block, Z = 1. -/
def jumboF0z1 (f : Fields) (j : BitVec 24) : Option Instr :=
  match f.y with
  | 8#4 => match f.o with
    | 4#4 => match f.q with
      | false => (f.s30 j).map fun v => .bndchkImm v f.rn
      | true => none
    | 5#4 => match f.q with
      | false => (f.s30 j).map fun v => .bndcmpImm v f.rn
      | true => none
    | _ => none
  | _ => none
/-- Forms behind one Jumbo prefix, F0 block, Z = 2. -/
def jumboF0z2 (f : Fields) (j : BitVec 24) : Option Instr :=
  match f.y with
  | 2#4 => match f.q with
    | false => some (.bitmovsImm f.rm f.ro f.rn j)
    | true => some (.bitmovsxImm (pairOf f.rm) f.ro (pairOf f.rn) j)
  | 3#4 => match f.q with
    | false => some (.bitmovImm f.rm f.ro f.rn j)
    | true => some (.bitmovxImm (pairOf f.rm) f.ro (pairOf f.rn) j)
  | _ => none
/-- Forms behind one Jumbo prefix, F0 block, Z = 4. -/
def jumboF0z4 (f : Fields) (j : BitVec 24) : Option Instr :=
  match f.y with
  | 0#4 => match f.q with
    | false => (f.s29 j).map fun v => .movX .store (pairOf f.rn) (.dispByte f.rm v)
    | true => (f.s29 j).map fun v => .leatB f.rn (.dispByte f.rm v)
  | 1#4 => match f.q with
    | false => none
    | true => (f.s29 j).map fun v => .leatW f.rn (.dispByte f.rm v)
  | 2#4 => match f.q with
    | false => none
    | true => (f.s29 j).map fun v => .leatL f.rn (.dispByte f.rm v)
  | 3#4 => match f.q with
    | false => none
    | true => (f.s29 j).map fun v => .leatQ f.rn (.dispByte f.rm v)
  | 8#4 => match f.q with
    | false => (f.s29 j).map fun v => .movX .load (pairOf f.rn) (.dispByte f.rm v)
    | true => (f.s29 j).map fun v => .movnL f.rn (.dispByte f.rm v)
  | _ => none
/-- Forms behind one Jumbo prefix, F0 block, Z = 5. -/
def jumboF0z5 (f : Fields) (j : BitVec 24) : Option Instr :=
  match f.y with
  | 14#4 => match f.q with
    | false => none
    | true => (f.s29 j).map fun v => .mulsW f.rm (.imm v) f.rn
  | 15#4 => match f.q with
    | false => none
    | true => (f.s29 j).map fun v => .muluW f.rm (.imm v) f.rn
  | _ => none
/-- Forms behind one Jumbo prefix, F0 block, Z = 6. -/
def jumboF0z6 (f : Fields) (j : BitVec 24) : Option Instr :=
  match f.y with
  | 0#4 => match f.q with
    | false => none
    | true => (f.s29 j).map fun v => .macsL f.rm (.imm v) f.rn f.rn
  | 1#4 => match f.q with
    | false => none
    | true => (f.s29 j).map fun v => .macuL f.rm (.imm v) f.rn f.rn
  | 2#4 => match f.q with
    | false => none
    | true => (f.s29 j).map fun v => .dmacsL f.rm (.imm v) f.rn f.rn
  | 3#4 => match f.q with
    | false => none
    | true => (f.s29 j).map fun v => .dmacuL f.rm (.imm v) f.rn f.rn
  | 13#4 => match f.q with
    | false => none
    | true => onlyIf (Config.features.fpImm) ((f.jfp5 j).map fun v => .fadd f.rm (.imm v) f.rn 0#8)
  | 14#4 => match f.q with
    | false => none
    | true => onlyIf (Config.features.fpImm) ((f.jfp5 j).map fun v => .fsub f.rm (.imm v) f.rn 0#8)
  | 15#4 => match f.q with
    | false => none
    | true => onlyIf (Config.features.fpImm) ((f.jfp5 j).map fun v => .fmul f.rm (.imm v) f.rn 0#8)
  | _ => none
/-- Forms behind one Jumbo prefix, F0 block, Z = 9. -/
def jumboF0z9 (f : Fields) (j : BitVec 24) : Option Instr :=
  match f.y with
  | 0#4 => match f.q with
    | false => (f.s29 j).map fun v => .movTW .store f.rn (.dispByte f.rm v)
    | true => (f.s29x j).map fun p => if p.1 then .cmp3HI f.rm p.2 f.rn else .cmp3EQ f.rm (.imm p.2) f.rn
  | 1#4 => match f.q with
    | false => (f.s29 j).map fun v => .movHTW .store f.rn (.dispByte f.rm v)
    | true => (f.s29 j).map fun v => .cmp3GT f.rm (.imm v) f.rn
  | 2#4 => match f.q with
    | false => none
    | true => (f.s29x j).map fun p => if p.1 then .cmp3BI f.rm p.2 f.rn else .cmp3NE f.rm (.imm p.2) f.rn
  | 3#4 => match f.q with
    | false => none
    | true => (f.s29 j).map fun v => .cmp3LT f.rm v f.rn
  | 8#4 => match f.q with
    | false => (f.s29 j).map fun v => .movTW .load f.rn (.dispByte f.rm v)
    | true => (f.s29 j).map fun v => .movuTW f.rn (.dispByte f.rm v)
  | 9#4 => match f.q with
    | false => (f.s29 j).map fun v => .movHTW .load f.rn (.dispByte f.rm v)
    | true => none
  | _ => none
/-- Forms behind one Jumbo prefix, F0 block, Z = C. -/
def jumboF0zC (f : Fields) (j : BitVec 24) : Option Instr :=
  (f.d44 j).map fun v => .bra (.disp v)
/-- Forms behind one Jumbo prefix, F0 block, Z = D. -/
def jumboF0zD (f : Fields) (j : BitVec 24) : Option Instr :=
  (f.d44 j).map fun v => .bsr (.disp v)
/-- Forms behind one Jumbo prefix, F0 block, Z = E. -/
def jumboF0zE (f : Fields) (j : BitVec 24) : Option Instr :=
  onlyIf Config.acceptDropped ((f.d44 j).map fun v => .bt (.disp v))
/-- Forms behind one Jumbo prefix, F0 block, Z = F. -/
def jumboF0zF (f : Fields) (j : BitVec 24) : Option Instr :=
  onlyIf Config.acceptDropped ((f.d44 j).map fun v => .bf (.disp v))
/-- Forms behind one Jumbo prefix, F0 block. -/
def jumboF0 (f : Fields) (j : BitVec 24) : Option Instr :=
  match f.z with
  | 0#4 => jumboF0z0 f j
  | 1#4 => jumboF0z1 f j
  | 2#4 => jumboF0z2 f j
  | 4#4 => jumboF0z4 f j
  | 5#4 => jumboF0z5 f j
  | 6#4 => jumboF0z6 f j
  | 9#4 => jumboF0z9 f j
  | 12#4 => jumboF0zC f j
  | 13#4 => jumboF0zD f j
  | 14#4 => jumboF0zE f j
  | 15#4 => jumboF0zF f j
  | _ => none
/-- Forms behind one Jumbo prefix, F1 block, Z = 0. -/
def jumboF1z0 (f : Fields) (j : BitVec 24) : Option Instr :=
  match f.q with
  | false => (f.s33 j).map fun v => .movB .store f.rn (.dispByte f.rm v)
  | true => (f.s33 j).map fun v => .leaB f.rn (.dispByte f.rm v)
/-- Forms behind one Jumbo prefix, F1 block, Z = 1. -/
def jumboF1z1 (f : Fields) (j : BitVec 24) : Option Instr :=
  match f.q with
  | false => (f.s33 j).map fun v => .movW .store f.rn (.dispByte f.rm v)
  | true => (f.s33 j).map fun v => .leaW f.rn (.dispByte f.rm v)
/-- Forms behind one Jumbo prefix, F1 block, Z = 2. -/
def jumboF1z2 (f : Fields) (j : BitVec 24) : Option Instr :=
  match f.q with
  | false => (f.s33 j).map fun v => .movL .store f.rn (.dispByte f.rm v)
  | true => (f.s33 j).map fun v => .leaL f.rn (.dispByte f.rm v)
/-- Forms behind one Jumbo prefix, F1 block, Z = 3. -/
def jumboF1z3 (f : Fields) (j : BitVec 24) : Option Instr :=
  match f.q with
  | false => (f.s33 j).map fun v => .movQ .store f.rn (.dispByte f.rm v)
  | true => (f.s33 j).map fun v => .leaQ f.rn (.dispByte f.rm v)
/-- Forms behind one Jumbo prefix, F1 block, Z = 5. -/
def jumboF1z5 (f : Fields) (j : BitVec 24) : Option Instr :=
  match f.q with
  | false => (f.s33 j).map fun v => .movC .store f.rn (.dispByte f.rm v)
  | true => (f.s33 j).map fun v => .movX .store (pairOf f.rn) (.dispByte f.rm v)
/-- Forms behind one Jumbo prefix, F1 block, Z = 7. -/
def jumboF1z7 (f : Fields) (j : BitVec 24) : Option Instr :=
  match f.q with
  | false => (f.s33 j).map fun v => .movC .load f.rn (.dispByte f.rm v)
  | true => (f.s33 j).map fun v => .movX .load (pairOf f.rn) (.dispByte f.rm v)
/-- Forms behind one Jumbo prefix, F1 block, Z = 8. -/
def jumboF1z8 (f : Fields) (j : BitVec 24) : Option Instr :=
  match f.q with
  | false => (f.s33 j).map fun v => .movB .load f.rn (.dispByte f.rm v)
  | true => (f.s33 j).map fun v => .movuB f.rn (.dispByte f.rm v)
/-- Forms behind one Jumbo prefix, F1 block, Z = 9. -/
def jumboF1z9 (f : Fields) (j : BitVec 24) : Option Instr :=
  match f.q with
  | false => (f.s33 j).map fun v => .movW .load f.rn (.dispByte f.rm v)
  | true => (f.s33 j).map fun v => .movuW f.rn (.dispByte f.rm v)
/-- Forms behind one Jumbo prefix, F1 block, Z = A. -/
def jumboF1zA (f : Fields) (j : BitVec 24) : Option Instr :=
  match f.q with
  | false => (f.s33 j).map fun v => .movL .load f.rn (.dispByte f.rm v)
  | true => (f.s33 j).map fun v => .movuL f.rn (.dispByte f.rm v)
/-- Forms behind one Jumbo prefix, F1 block, Z = B. -/
def jumboF1zB (f : Fields) (j : BitVec 24) : Option Instr :=
  match f.q with
  | false => (f.s33 j).map fun v => .movQ .load f.rn (.dispByte f.rm v)
  | true => none
/-- Forms behind one Jumbo prefix, F1 block, Z = C. -/
def jumboF1zC (f : Fields) (j : BitVec 24) : Option Instr :=
  match f.q with
  | false => match f.ox with
    | 0#2 => (f.j8 j).map fun v => .jtstT f.rm f.rn v
    | 1#2 => (f.j8 j).map fun v => .jtstF f.rm f.rn v
    | _ => none
  | true => match f.ox with
    | 0#2 => (f.j8 j).map fun v => .jtstQT f.rm f.rn v
    | 1#2 => (f.j8 j).map fun v => .jtstQF f.rm f.rn v
    | _ => none
/-- Forms behind one Jumbo prefix, F1 block, Z = D. -/
def jumboF1zD (f : Fields) (j : BitVec 24) : Option Instr :=
  match f.q with
  | false => match f.ox with
    | 0#2 => (f.j8 j).map fun v => .jcmpGT f.rm f.rn v
    | 1#2 => (f.j8 j).map fun v => .jcmpLE f.rm f.rn v
    | _ => none
  | true => match f.ox with
    | 0#2 => (f.j8 j).map fun v => .jcmpQGT f.rm f.rn v
    | 1#2 => (f.j8 j).map fun v => .jcmpQLE f.rm f.rn v
    | _ => none
/-- Forms behind one Jumbo prefix, F1 block, Z = E. -/
def jumboF1zE (f : Fields) (j : BitVec 24) : Option Instr :=
  match f.q with
  | false => match f.ox with
    | 0#2 => (f.j8 j).map fun v => .jcmpHI f.rm f.rn v
    | 1#2 => (f.j8 j).map fun v => .jcmpLS f.rm f.rn v
    | _ => none
  | true => match f.ox with
    | 0#2 => (f.j8 j).map fun v => .jcmpQHI f.rm f.rn v
    | 1#2 => (f.j8 j).map fun v => .jcmpQLS f.rm f.rn v
    | _ => none
/-- Forms behind one Jumbo prefix, F1 block, Z = F. -/
def jumboF1zF (f : Fields) (j : BitVec 24) : Option Instr :=
  match f.q with
  | false => match f.ox with
    | 0#2 => (f.j8 j).map fun v => .jcmpEQ f.rm f.rn v
    | 1#2 => (f.j8 j).map fun v => .jcmpNE f.rm f.rn v
    | _ => none
  | true => match f.ox with
    | 0#2 => (f.j8 j).map fun v => .jcmpQEQ f.rm f.rn v
    | 1#2 => (f.j8 j).map fun v => .jcmpQNE f.rm f.rn v
    | _ => none
/-- Forms behind one Jumbo prefix, F1 block. -/
def jumboF1 (f : Fields) (j : BitVec 24) : Option Instr :=
  match f.z with
  | 0#4 => jumboF1z0 f j
  | 1#4 => jumboF1z1 f j
  | 2#4 => jumboF1z2 f j
  | 3#4 => jumboF1z3 f j
  | 5#4 => jumboF1z5 f j
  | 7#4 => jumboF1z7 f j
  | 8#4 => jumboF1z8 f j
  | 9#4 => jumboF1z9 f j
  | 10#4 => jumboF1zA f j
  | 11#4 => jumboF1zB f j
  | 12#4 => jumboF1zC f j
  | 13#4 => jumboF1zD f j
  | 14#4 => jumboF1zE f j
  | 15#4 => jumboF1zF f j
  | _ => none
/-- Forms behind one Jumbo prefix, F2 block, Z = 0. -/
def jumboF2z0 (f : Fields) (j : BitVec 24) : Option Instr :=
  match f.q with
  | false => (f.s33 j).map fun v => .add f.rm (.imm v) f.rn
  | true => none
/-- Forms behind one Jumbo prefix, F2 block, Z = 1. -/
def jumboF2z1 (f : Fields) (j : BitVec 24) : Option Instr :=
  match f.q with
  | false => none
  | true => match f.ox with
    | 0#2 => onlyIf (Config.features.fpImm) (some (.fadd f.rm (.imm (j ++ f.imm8 ++ 0#32)) f.rn 0#8))
    | 1#2 => onlyIf (Config.features.fpImm) (some (.fadda f.rm (.imm (j ++ f.imm8 ++ 0#32)) f.rn))
    | _ => none
/-- Forms behind one Jumbo prefix, F2 block, Z = 2. -/
def jumboF2z2 (f : Fields) (j : BitVec 24) : Option Instr :=
  match f.q with
  | false => (f.s33 j).map fun v => .muls f.rm (.imm v) f.rn
  | true => (f.s33 j).map fun v => .mulu f.rm (.imm v) f.rn
/-- Forms behind one Jumbo prefix, F2 block, Z = 3. -/
def jumboF2z3 (f : Fields) (j : BitVec 24) : Option Instr :=
  match f.q with
  | false => (f.s33 j).map fun v => .addsL f.rm (.imm v) f.rn
  | true => (f.s33 j).map fun v => .adduL f.rm (.imm v) f.rn
/-- Forms behind one Jumbo prefix, F2 block, Z = 4. -/
def jumboF2z4 (f : Fields) (j : BitVec 24) : Option Instr :=
  match f.q with
  | false => none
  | true => match f.ox with
    | 0#2 => onlyIf (Config.features.fpImm) (some (.fmul f.rm (.imm (j ++ f.imm8 ++ 0#32)) f.rn 0#8))
    | 1#2 => onlyIf (Config.features.fpImm) (some (.fmula f.rm (.imm (j ++ f.imm8 ++ 0#32)) f.rn))
    | _ => none
/-- Forms behind one Jumbo prefix, F2 block, Z = 5. -/
def jumboF2z5 (f : Fields) (j : BitVec 24) : Option Instr :=
  match f.q with
  | false => (f.s33 j).map fun v => .and f.rm (.imm v) f.rn
  | true => none
/-- Forms behind one Jumbo prefix, F2 block, Z = 6. -/
def jumboF2z6 (f : Fields) (j : BitVec 24) : Option Instr :=
  match f.q with
  | false => (f.s33 j).map fun v => .or f.rm (.imm v) f.rn
  | true => none
/-- Forms behind one Jumbo prefix, F2 block, Z = 7. -/
def jumboF2z7 (f : Fields) (j : BitVec 24) : Option Instr :=
  match f.q with
  | false => (f.s33 j).map fun v => .xor f.rm (.imm v) f.rn
  | true => none
/-- Forms behind one Jumbo prefix, F2 block, Z = 8. -/
def jumboF2z8 (f : Fields) (j : BitVec 24) : Option Instr :=
  match f.q with
  | false => onlyIf (f.ox == 0#2) ((f.j8 j).map fun v => .shad f.rm (.imm v) f.rn)
  | true => match f.ox with
    | 0#2 => (f.j8 j).map fun v => .shadq f.rm (.imm v) f.rn
    | 1#2 => some (.pshufW33 f.rm (j ++ 1#1 ++ f.imm8) f.rn)
    | _ => none
/-- Forms behind one Jumbo prefix, F2 block, Z = 9. -/
def jumboF2z9 (f : Fields) (j : BitVec 24) : Option Instr :=
  match f.q with
  | false => onlyIf (f.ox == 0#2) (onlyIf (Config.features.nnx && Config.acceptDropped) (some (.fmul f.rm (.imm (j ++ f.imm8 ++ 0#32)) f.rn 0#8)))
  | true => onlyIf (f.ox == 0#2) ((f.j8 j).map fun v => .shldq f.rm (.imm v) f.rn)
/-- Forms behind one Jumbo prefix, F2 block, Z = C. -/
def jumboF2zC (f : Fields) (j : BitVec 24) : Option Instr :=
  match f.m with
  | 0#4 => match f.q with
    | false => (f.j32 j).map fun v => .ldiz (v.setWidth 64) f.rn
    | true => (f.z33h j).map fun v => .ldimiz v f.rn
  | 1#4 => match f.q with
    | false => (f.j32 j).map fun v => .ldin (oext 32 (v.setWidth 64)) f.rn
    | true => none
  | 2#4 => match f.q with
    | false => match f.n with
      | 0#4 => match f.ox with
        | 0#2 => (onlyIf (f.nx == 1#2 && f.mx == 0#2 && Config.acceptDropped) (some (.bra (.disp (sext 33 ((j ++ 0#1 ++ f.imm8).setWidth 64)))))) <|> ((f.z32 j).map fun v => .ldish v f.rn)
        | _ => (f.z32 j).map fun v => .ldish v f.rn
      | _ => (f.z32 j).map fun v => .ldish v f.rn
    | true => match f.n with
      | 0#4 => onlyIf (f.ox == 0#2) (onlyIf (f.nx == 1#2 && f.mx == 0#2 && Config.acceptDropped) (some (.bsr (.disp (sext 33 ((j ++ 0#1 ++ f.imm8).setWidth 64))))))
      | _ => none
  | 3#4 => match f.q with
    | false => (f.j32 j).map fun v => .ldihiL v f.rn
    | true => (f.j32 j).map fun v => .ldihiQ v f.rn
  | 4#4 => match f.q with
    | false => (f.c33 j).map fun v => .tst (.imm v) f.rn .t
    | true => (f.c33 j).map fun v => .tstQ (.imm v) f.rn .t
  | 6#4 => match f.q with
    | false => (f.c33 j).map fun v => .cmpHS (.imm v) f.rn .t
    | true => (f.c33 j).map fun v => .cmpQHS (.imm v) f.rn .t
  | 8#4 => match f.q with
    | false => (f.c33 j).map fun v => .cmpHI (.imm v) f.rn .t
    | true => (f.c33 j).map fun v => .cmpQHI (.imm v) f.rn .t
  | 10#4 => match f.q with
    | false => (f.c33 j).map fun v => .cmpGE (.imm v) f.rn .t
    | true => (f.c33 j).map fun v => .cmpQGE (.imm v) f.rn .t
  | 12#4 => match f.q with
    | false => (f.c33 j).map fun v => .cmpEQ (.imm v) f.rn .t
    | true => (f.c33 j).map fun v => .cmpQEQ (.imm v) f.rn .t
  | 14#4 => match f.q with
    | false => (f.c33 j).map fun v => .cmpGT (.imm v) f.rn .t
    | true => (f.c33 j).map fun v => .cmpQGT (.imm v) f.rn .t
  | _ => none
/-- Forms behind one Jumbo prefix, F2 block, Z = D. -/
def jumboF2zD (f : Fields) (j : BitVec 24) : Option Instr :=
  match f.m with
  | 0#4 => match f.q with
    | false => (f.s33h j).map fun v => .add f.rn (.imm v) f.rn
    | true => none
  | 2#4 => match f.q with
    | false => (f.s33h j).map fun v => .mulsW f.rn (.imm v) f.rn
    | true => (f.s33h j).map fun v => .muluW f.rn (.imm v) f.rn
  | 6#4 => f.jcmpz (sext 32 ((j ++ f.imm8).setWidth 64))
  | 7#4 => f.jcmpz (sext 32 ((j ++ f.imm8).setWidth 64))
  | 8#4 => match f.q with
    | false => (f.s33h j).map fun v => .movL .store f.rn (.dispByte 1#6 v)
    | true => none
  | 9#4 => match f.q with
    | false => (f.s33h j).map fun v => .movQ .store f.rn (.dispByte 1#6 v)
    | true => (f.s33h j).map fun v => .movX .store (pairOf f.rn) (.dispByte 1#6 v)
  | 10#4 => match f.q with
    | false => (f.s33h j).map fun v => .movL .load f.rn (.dispByte 1#6 v)
    | true => (f.s33h j).map fun v => .movuL f.rn (.dispByte 1#6 v)
  | 11#4 => match f.q with
    | false => (f.s33h j).map fun v => .movQ .load f.rn (.dispByte 1#6 v)
    | true => (f.s33h j).map fun v => .movX .load (pairOf f.rn) (.dispByte 1#6 v)
  | 12#4 => match f.q with
    | false => onlyIf (Config.features.fpImm) ((f.f32z j).map fun v => .fcmpEQ (.imm v) f.rn)
    | true => none
  | 14#4 => match f.q with
    | false => onlyIf (Config.features.fpImm) ((f.f32z j).map fun v => .fcmpGT (.imm v) f.rn)
    | true => onlyIf (Config.features.fpImm) ((f.f32z j).map fun v => .fadd f.rn (.imm v) f.rn 0#8)
  | 15#4 => match f.q with
    | false => onlyIf (Config.features.fpImm) ((f.f32z j).map fun v => .fcmpGE v f.rn)
    | true => onlyIf (Config.features.fpImm) ((f.f32z j).map fun v => .fmul f.rn (.imm v) f.rn 0#8)
  | _ => none
/-- Forms behind one Jumbo prefix, F2 block, Z = E. -/
def jumboF2zE (f : Fields) (j : BitVec 24) : Option Instr :=
  match f.m with
  | 4#4 => match f.q with
    | false => (f.s33h j).map fun v => .brEQL f.rn v
    | true => (f.s33h j).map fun v => .brEQQ f.rn v
  | 6#4 => match f.q with
    | false => (f.s33h j).map fun v => .brNEL f.rn v
    | true => (f.s33h j).map fun v => .brNEQ f.rn v
  | 8#4 => match f.q with
    | false => (f.s33h j).map fun v => .brLTL f.rn v
    | true => (f.s33h j).map fun v => .brLTQ f.rn v
  | 10#4 => match f.q with
    | false => (f.s33h j).map fun v => .brGEL f.rn v
    | true => (f.s33h j).map fun v => .brGEQ f.rn v
  | 12#4 => match f.q with
    | false => (f.s33h j).map fun v => .brLEL f.rn v
    | true => (f.s33h j).map fun v => .brLEQ f.rn v
  | 14#4 => match f.q with
    | false => (f.s33h j).map fun v => .brGTL f.rn v
    | true => (f.s33h j).map fun v => .brGTQ f.rn v
  | _ => none
/-- Forms behind one Jumbo prefix, F2 block. -/
def jumboF2 (f : Fields) (j : BitVec 24) : Option Instr :=
  match f.z with
  | 0#4 => jumboF2z0 f j
  | 1#4 => jumboF2z1 f j
  | 2#4 => jumboF2z2 f j
  | 3#4 => jumboF2z3 f j
  | 4#4 => jumboF2z4 f j
  | 5#4 => jumboF2z5 f j
  | 6#4 => jumboF2z6 f j
  | 7#4 => jumboF2z7 f j
  | 8#4 => jumboF2z8 f j
  | 9#4 => jumboF2z9 f j
  | 12#4 => jumboF2zC f j
  | 13#4 => jumboF2zD f j
  | 14#4 => jumboF2zE f j
  | _ => none
/-- Forms behind one Jumbo prefix, F8 block (R116, R188). -/
def jumboF8 (f : Fields) (j : BitVec 24) : Option Instr :=
  match f.n with
  | 0#4 => (f.z40 j).map fun v => .ldiz v f.r8
  | 1#4 => (f.z40 j).map fun v => .ldiz v f.r8
  | 4#4 => (f.s40 j).map fun v => .add f.r8 (.imm v) f.r8
  | 5#4 => (f.s40 j).map fun v => .add f.r8 (.imm v) f.r8
  | 6#4 => (f.z40 j).map fun v => .ldish16 v f.r8
  | 7#4 => (f.z40 j).map fun v => .ldish16 v f.r8
  | 8#4 => (f.h40 j).map fun v => .fldchImm v f.r8
  | 9#4 => (f.h40 j).map fun v => .fldchImm v f.r8
  | 10#4 => (f.s40 j).map fun v => .leaQ f.r8 (.dispByte 1#6 v)
  | 11#4 => (f.s40 j).map fun v => .leaQ f.r8 (.dispByte 1#6 v)
  | _ => none
/-- Forms behind two Jumbo prefixes, F2 block, Z = 0. -/
def jumbo2F2z0 (f : Fields) (jh jl : BitVec 24) : Option Instr :=
  match f.q with
  | false => onlyIf (Config.features.fpImm) ((f.s57 jh jl).map fun v => .add f.rm (.imm v) f.rn)
  | true => none
/-- Forms behind two Jumbo prefixes, F2 block, Z = 1. -/
def jumbo2F2z1 (f : Fields) (jh jl : BitVec 24) : Option Instr :=
  match f.q with
  | false => none
  | true => onlyIf (Config.features.fpImm) ((f.f56 jh jl).map fun v => .fadd f.rm (.imm v) f.rn 0#8)
/-- Forms behind two Jumbo prefixes, F2 block, Z = 2. -/
def jumbo2F2z2 (f : Fields) (jh jl : BitVec 24) : Option Instr :=
  match f.q with
  | false => none
  | true => onlyIf (Config.features.fpImm && Config.acceptDropped) ((f.f56 jh jl).map fun v => .fmul f.rm (.imm v) f.rn 0#8)
/-- Forms behind two Jumbo prefixes, F2 block, Z = 3. -/
def jumbo2F2z3 (f : Fields) (jh jl : BitVec 24) : Option Instr :=
  match f.q with
  | false => none
  | true => onlyIf (Config.features.fpImm && Config.acceptDropped) ((f.f56 jh jl).map fun v => .fadd f.rm (.imm v) f.rn 0#8)
/-- Forms behind two Jumbo prefixes, F2 block, Z = 4. -/
def jumbo2F2z4 (f : Fields) (jh jl : BitVec 24) : Option Instr :=
  match f.q with
  | false => none
  | true => onlyIf (Config.features.fpImm) ((f.f56 jh jl).map fun v => .fmul f.rm (.imm v) f.rn 0#8)
/-- Forms behind two Jumbo prefixes, F2 block, Z = 5. -/
def jumbo2F2z5 (f : Fields) (jh jl : BitVec 24) : Option Instr :=
  match f.q with
  | false => (f.s57 jh jl).map fun v => .and f.rm (.imm v) f.rn
  | true => none
/-- Forms behind two Jumbo prefixes, F2 block, Z = 6. -/
def jumbo2F2z6 (f : Fields) (jh jl : BitVec 24) : Option Instr :=
  match f.q with
  | false => (f.s57 jh jl).map fun v => .or f.rm (.imm v) f.rn
  | true => none
/-- Forms behind two Jumbo prefixes, F2 block, Z = 7. -/
def jumbo2F2z7 (f : Fields) (jh jl : BitVec 24) : Option Instr :=
  match f.q with
  | false => (f.s57 jh jl).map fun v => .xor f.rm (.imm v) f.rn
  | true => match f.ox with
    | 0#2 => some (.pmacshHV f.rm (jh ++ jl ++ f.imm8) f.rn)
    | 1#2 => some (.pmacshFV (pairOf f.rm) (jh ++ jl ++ f.imm8) (pairOf f.rn))
    | _ => none
/-- Forms behind two Jumbo prefixes, F2 block, Z = 8. -/
def jumbo2F2z8 (f : Fields) (jh jl : BitVec 24) : Option Instr :=
  match f.q with
  | false => match f.ox with
    | 0#2 => some (.paddHV f.rm (jh ++ jl ++ f.imm8) f.rn)
    | 1#2 => some (.pmulHV f.rm (jh ++ jl ++ f.imm8) f.rn)
    | _ => none
  | true => match f.ox with
    | 0#2 => some (.paddFV (pairOf f.rm) (jh ++ jl ++ f.imm8) (pairOf f.rn))
    | 1#2 => some (.pmulFV (pairOf f.rm) (jh ++ jl ++ f.imm8) (pairOf f.rn))
    | _ => none
/-- Forms behind two Jumbo prefixes, F2 block, Z = 9. -/
def jumbo2F2z9 (f : Fields) (jh jl : BitVec 24) : Option Instr :=
  match f.q with
  | false => match f.ox with
    | 0#2 => some (.paddshHV f.rm (jh ++ jl ++ f.imm8) f.rn)
    | 1#2 => some (.pmulshHV f.rm (jh ++ jl ++ f.imm8) f.rn)
    | _ => none
  | true => match f.ox with
    | 0#2 => some (.paddshFV (pairOf f.rm) (jh ++ jl ++ f.imm8) (pairOf f.rn))
    | 1#2 => some (.pmulshFV (pairOf f.rm) (jh ++ jl ++ f.imm8) (pairOf f.rn))
    | _ => none
/-- Forms behind two Jumbo prefixes, F2 block, Z = D. -/
def jumbo2F2zD (f : Fields) (jh jl : BitVec 24) : Option Instr :=
  match f.m with
  | 12#4 => match f.q with
    | false => onlyIf (Config.features.fpImm) ((f.f56z jh jl).map fun v => .fcmpEQ (.imm v) f.rn)
    | true => none
  | 14#4 => match f.q with
    | false => onlyIf (Config.features.fpImm) ((f.f56z jh jl).map fun v => .fcmpGT (.imm v) f.rn)
    | true => none
  | 15#4 => match f.q with
    | false => onlyIf (Config.features.fpImm) ((f.f56z jh jl).map fun v => .fcmpGE v f.rn)
    | true => none
  | _ => none
/-- Forms behind two Jumbo prefixes, F2 block. -/
def jumbo2F2 (f : Fields) (jh jl : BitVec 24) : Option Instr :=
  match f.z with
  | 0#4 => jumbo2F2z0 f jh jl
  | 1#4 => jumbo2F2z1 f jh jl
  | 2#4 => jumbo2F2z2 f jh jl
  | 3#4 => jumbo2F2z3 f jh jl
  | 4#4 => jumbo2F2z4 f jh jl
  | 5#4 => jumbo2F2z5 f jh jl
  | 6#4 => jumbo2F2z6 f jh jl
  | 7#4 => jumbo2F2z7 f jh jl
  | 8#4 => jumbo2F2z8 f jh jl
  | 9#4 => jumbo2F2z9 f jh jl
  | 13#4 => jumbo2F2zD f jh jl
  | _ => none
/-- Forms behind two Jumbo prefixes, F8 block (R116, R188); the banks R32 to R63 ask for XGPR (43_load_immediate.md R396), those of
ADD (40_alu.md R200) as those of LDI. -/
def jumbo2F8 (f : Fields) (jh jl : BitVec 24) : Option Instr :=
  match f.n with
  | 0#4 => (f.i64 jh jl).map fun v => .ldi64 v f.rb
  | 1#4 => (f.i64 jh jl).map fun v => .ldi64 v f.rb
  | 2#4 => onlyIf Config.features.xgpr ((f.i64 jh jl).map fun v => .ldi64 v f.rb)
  | 3#4 => onlyIf Config.features.xgpr ((f.i64 jh jl).map fun v => .ldi64 v f.rb)
  | 4#4 => (f.i64 jh jl).map fun v => .add f.rb (.imm v) f.rb
  | 5#4 => (f.i64 jh jl).map fun v => .add f.rb (.imm v) f.rb
  | 6#4 => onlyIf Config.features.xgpr ((f.i64 jh jl).map fun v => .add f.rb (.imm v) f.rb)
  | 7#4 => onlyIf Config.features.xgpr ((f.i64 jh jl).map fun v => .add f.rb (.imm v) f.rb)
  | _ => none
/-- Forms behind an Op64 prefix, F0 block, Z = 0. -/
def op64F0z0 (f : Fields) (wq : Bool) (p1 : Half) : Option Instr :=
  match f.y with
  | 0#4 => match f.q with
    | false => (onlyIf (!wq && slice p1 12 4 == 0#4 && !bitAt p1 11 && Config.features.riMov) ((f.s17 p1).map fun v => .movB .store f.rn (.disp f.rm v))) <|> (onlyIf (!wq && slice p1 12 4 != 0#4 && !bitAt p1 11) ((f.s17 p1).map fun v => .ldop (slice p1 12 4) .store .b f.rn (.disp f.rm v)))
    | true => onlyIf (!wq && slice p1 8 8 == 0#8) ((f.x5 p1).map fun v => .leaB f.rn (.disp f.rm v))
  | 1#4 => match f.q with
    | false => (onlyIf (!wq && slice p1 12 4 == 0#4 && !bitAt p1 11 && Config.features.riMov) ((f.s17 p1).map fun v => .movW .store f.rn (.disp f.rm v))) <|> (onlyIf (!wq && slice p1 12 4 == 0#4 && bitAt p1 11 && Config.features.riMov) ((f.s17 p1).map fun v => .movW .store f.rn (.dispByte f.rm v))) <|> (onlyIf (!wq && slice p1 12 4 != 0#4 && !bitAt p1 11) ((f.s17 p1).map fun v => .ldop (slice p1 12 4) .store .w f.rn (.disp f.rm v)))
    | true => onlyIf (!wq && slice p1 8 8 == 0#8) ((f.x5 p1).map fun v => .leaW f.rn (.disp f.rm v))
  | 2#4 => match f.q with
    | false => (onlyIf (!wq && slice p1 12 4 == 0#4 && !bitAt p1 11 && Config.features.riMov) ((f.s17 p1).map fun v => .movL .store f.rn (.disp f.rm v))) <|> (onlyIf (!wq && slice p1 12 4 == 0#4 && bitAt p1 11 && Config.features.riMov) ((f.s17 p1).map fun v => .movL .store f.rn (.dispByte f.rm v))) <|> (onlyIf (!wq && slice p1 12 4 != 0#4 && !bitAt p1 11) ((f.s17 p1).map fun v => .ldop (slice p1 12 4) .store .l f.rn (.disp f.rm v)))
    | true => onlyIf (!wq && slice p1 8 8 == 0#8) ((f.x5 p1).map fun v => .leaL f.rn (.disp f.rm v))
  | 3#4 => match f.q with
    | false => (onlyIf (!wq && slice p1 12 4 == 0#4 && !bitAt p1 11 && Config.features.riMov) ((f.s17 p1).map fun v => .movQ .store f.rn (.disp f.rm v))) <|> (onlyIf (!wq && slice p1 12 4 == 0#4 && bitAt p1 11 && Config.features.riMov) ((f.s17 p1).map fun v => .movQ .store f.rn (.dispByte f.rm v))) <|> (onlyIf (!wq && slice p1 12 4 != 0#4 && !bitAt p1 11) ((f.s17 p1).map fun v => .ldop (slice p1 12 4) .store .q f.rn (.disp f.rm v)))
    | true => onlyIf (!wq && slice p1 8 8 == 0#8) ((f.x5 p1).map fun v => .leaQ f.rn (.disp f.rm v))
  | 4#4 => match f.q with
    | false => (onlyIf (!wq && slice p1 12 4 == 0#4 && bitAt p1 11 && Config.features.riMov) (some (.movB .store f.rn (.indexSc f.rm f.ro (slice p1 9 2) (slice p1 0 9))))) <|> (onlyIf (!wq && slice p1 12 4 == 0#4 && !bitAt p1 11 && Config.features.riMov) (some (.movB .store f.rn (.indexDisp f.rm f.ro (p1.setWidth 11))))) <|> (onlyIf (!wq && slice p1 12 4 != 0#4 && bitAt p1 11) (some (.ldop (slice p1 12 4) .store .b f.rn (.indexSc f.rm f.ro (slice p1 9 2) (slice p1 0 9))))) <|> (onlyIf (!wq && slice p1 12 4 != 0#4 && !bitAt p1 11) (some (.ldop (slice p1 12 4) .store .b f.rn (.indexDisp f.rm f.ro (p1.setWidth 11)))))
    | true => none
  | 5#4 => match f.q with
    | false => (onlyIf (!wq && slice p1 12 4 == 0#4 && bitAt p1 11 && Config.features.riMov) (some (.movW .store f.rn (.indexSc f.rm f.ro (slice p1 9 2) (slice p1 0 9))))) <|> (onlyIf (!wq && slice p1 12 4 == 0#4 && !bitAt p1 11 && Config.features.riMov) (some (.movW .store f.rn (.indexDisp f.rm f.ro (p1.setWidth 11))))) <|> (onlyIf (!wq && slice p1 12 4 != 0#4 && bitAt p1 11) (some (.ldop (slice p1 12 4) .store .w f.rn (.indexSc f.rm f.ro (slice p1 9 2) (slice p1 0 9))))) <|> (onlyIf (!wq && slice p1 12 4 != 0#4 && !bitAt p1 11) (some (.ldop (slice p1 12 4) .store .w f.rn (.indexDisp f.rm f.ro (p1.setWidth 11)))))
    | true => none
  | 6#4 => match f.q with
    | false => (onlyIf (!wq && slice p1 12 4 == 0#4 && bitAt p1 11 && Config.features.riMov) (some (.movL .store f.rn (.indexSc f.rm f.ro (slice p1 9 2) (slice p1 0 9))))) <|> (onlyIf (!wq && slice p1 12 4 == 0#4 && !bitAt p1 11 && Config.features.riMov) (some (.movL .store f.rn (.indexDisp f.rm f.ro (p1.setWidth 11))))) <|> (onlyIf (!wq && slice p1 12 4 != 0#4 && bitAt p1 11) (some (.ldop (slice p1 12 4) .store .l f.rn (.indexSc f.rm f.ro (slice p1 9 2) (slice p1 0 9))))) <|> (onlyIf (!wq && slice p1 12 4 != 0#4 && !bitAt p1 11) (some (.ldop (slice p1 12 4) .store .l f.rn (.indexDisp f.rm f.ro (p1.setWidth 11)))))
    | true => none
  | 7#4 => match f.q with
    | false => (onlyIf (!wq && slice p1 12 4 == 0#4 && bitAt p1 11 && Config.features.riMov) (some (.movQ .store f.rn (.indexSc f.rm f.ro (slice p1 9 2) (slice p1 0 9))))) <|> (onlyIf (!wq && slice p1 12 4 == 0#4 && !bitAt p1 11 && Config.features.riMov) (some (.movQ .store f.rn (.indexDisp f.rm f.ro (p1.setWidth 11))))) <|> (onlyIf (!wq && slice p1 12 4 != 0#4 && bitAt p1 11) (some (.ldop (slice p1 12 4) .store .q f.rn (.indexSc f.rm f.ro (slice p1 9 2) (slice p1 0 9))))) <|> (onlyIf (!wq && slice p1 12 4 != 0#4 && !bitAt p1 11) (some (.ldop (slice p1 12 4) .store .q f.rn (.indexDisp f.rm f.ro (p1.setWidth 11)))))
    | true => none
  | 8#4 => match f.q with
    | false => (onlyIf (!wq && slice p1 12 4 == 0#4 && !bitAt p1 11 && Config.features.riMov) ((f.s17 p1).map fun v => .movB .load f.rn (.disp f.rm v))) <|> (onlyIf (!wq && slice p1 12 4 != 0#4 && !bitAt p1 11) ((f.s17 p1).map fun v => .ldop (slice p1 12 4) .load .b f.rn (.disp f.rm v)))
    | true => (onlyIf (!wq && slice p1 12 4 != 0#4 && !bitAt p1 11) ((f.s17 p1).map fun v => .ldop (slice p1 12 4) .load .ub f.rn (.disp f.rm v))) <|> (onlyIf (!wq && slice p1 12 4 == 0#4 && !bitAt p1 11 && Config.features.riMov) ((f.s17 p1).map fun v => .movuB f.rn (.disp f.rm v)))
  | 9#4 => match f.q with
    | false => (onlyIf (!wq && slice p1 12 4 == 0#4 && !bitAt p1 11 && Config.features.riMov) ((f.s17 p1).map fun v => .movW .load f.rn (.disp f.rm v))) <|> (onlyIf (!wq && slice p1 12 4 == 0#4 && bitAt p1 11 && Config.features.riMov) ((f.s17 p1).map fun v => .movW .load f.rn (.dispByte f.rm v))) <|> (onlyIf (!wq && slice p1 12 4 != 0#4 && !bitAt p1 11) ((f.s17 p1).map fun v => .ldop (slice p1 12 4) .load .w f.rn (.disp f.rm v)))
    | true => (onlyIf (!wq && slice p1 12 4 != 0#4 && !bitAt p1 11) ((f.s17 p1).map fun v => .ldop (slice p1 12 4) .load .uw f.rn (.disp f.rm v))) <|> (onlyIf (!wq && slice p1 12 4 == 0#4 && !bitAt p1 11 && Config.features.riMov) ((f.s17 p1).map fun v => .movuW f.rn (.disp f.rm v))) <|> (onlyIf (!wq && slice p1 12 4 == 0#4 && bitAt p1 11 && Config.features.riMov) ((f.s17 p1).map fun v => .movuW f.rn (.dispByte f.rm v)))
  | 10#4 => match f.q with
    | false => (onlyIf (!wq && slice p1 12 4 == 0#4 && !bitAt p1 11 && Config.features.riMov) ((f.s17 p1).map fun v => .movL .load f.rn (.disp f.rm v))) <|> (onlyIf (!wq && slice p1 12 4 == 0#4 && bitAt p1 11 && Config.features.riMov) ((f.s17 p1).map fun v => .movL .load f.rn (.dispByte f.rm v))) <|> (onlyIf (!wq && slice p1 12 4 != 0#4 && !bitAt p1 11) ((f.s17 p1).map fun v => .ldop (slice p1 12 4) .load .l f.rn (.disp f.rm v)))
    | true => (onlyIf (!wq && slice p1 12 4 != 0#4 && !bitAt p1 11) ((f.s17 p1).map fun v => .ldop (slice p1 12 4) .load .ul f.rn (.disp f.rm v))) <|> (onlyIf (!wq && slice p1 12 4 == 0#4 && !bitAt p1 11 && Config.features.riMov) ((f.s17 p1).map fun v => .movuL f.rn (.disp f.rm v))) <|> (onlyIf (!wq && slice p1 12 4 == 0#4 && bitAt p1 11 && Config.features.riMov) ((f.s17 p1).map fun v => .movuL f.rn (.dispByte f.rm v)))
  | 11#4 => match f.q with
    | false => (onlyIf (!wq && slice p1 12 4 == 0#4 && !bitAt p1 11 && Config.features.riMov) ((f.s17 p1).map fun v => .movQ .load f.rn (.disp f.rm v))) <|> (onlyIf (!wq && slice p1 12 4 == 0#4 && bitAt p1 11 && Config.features.riMov) ((f.s17 p1).map fun v => .movQ .load f.rn (.dispByte f.rm v))) <|> (onlyIf (!wq && slice p1 12 4 != 0#4 && !bitAt p1 11) ((f.s17 p1).map fun v => .ldop (slice p1 12 4) .load .q f.rn (.disp f.rm v)))
    | true => (onlyIf (!wq && slice p1 12 4 == 0#4 && bitAt p1 11 && Config.features.riMov) (some (.ldtex f.rm f.ro (.scaled (slice p1 9 2) (slice p1 0 9)) f.rn))) <|> (onlyIf (!wq && slice p1 12 4 == 0#4 && !bitAt p1 11 && Config.features.riMov) (some (.ldtex f.rm f.ro (.disp (p1.setWidth 11)) f.rn)))
  | 12#4 => match f.q with
    | false => (onlyIf (!wq && slice p1 12 4 == 0#4 && bitAt p1 11 && Config.features.riMov) (some (.movB .load f.rn (.indexSc f.rm f.ro (slice p1 9 2) (slice p1 0 9))))) <|> (onlyIf (!wq && slice p1 12 4 == 0#4 && !bitAt p1 11 && Config.features.riMov) (some (.movB .load f.rn (.indexDisp f.rm f.ro (p1.setWidth 11))))) <|> (onlyIf (!wq && slice p1 12 4 != 0#4 && bitAt p1 11) (some (.ldop (slice p1 12 4) .load .b f.rn (.indexSc f.rm f.ro (slice p1 9 2) (slice p1 0 9))))) <|> (onlyIf (!wq && slice p1 12 4 != 0#4 && !bitAt p1 11) (some (.ldop (slice p1 12 4) .load .b f.rn (.indexDisp f.rm f.ro (p1.setWidth 11)))))
    | true => (onlyIf (!wq && slice p1 12 4 != 0#4 && bitAt p1 11) (some (.ldop (slice p1 12 4) .load .ub f.rn (.indexSc f.rm f.ro (slice p1 9 2) (slice p1 0 9))))) <|> (onlyIf (!wq && slice p1 12 4 != 0#4 && !bitAt p1 11) (some (.ldop (slice p1 12 4) .load .ub f.rn (.indexDisp f.rm f.ro (p1.setWidth 11))))) <|> (onlyIf (!wq && slice p1 12 4 == 0#4 && bitAt p1 11 && Config.features.riMov) (some (.movuB f.rn (.indexSc f.rm f.ro (slice p1 9 2) (slice p1 0 9))))) <|> (onlyIf (!wq && slice p1 12 4 == 0#4 && !bitAt p1 11 && Config.features.riMov) (some (.movuB f.rn (.indexDisp f.rm f.ro (p1.setWidth 11)))))
  | 13#4 => match f.q with
    | false => (onlyIf (!wq && slice p1 12 4 == 0#4 && bitAt p1 11 && Config.features.riMov) (some (.movW .load f.rn (.indexSc f.rm f.ro (slice p1 9 2) (slice p1 0 9))))) <|> (onlyIf (!wq && slice p1 12 4 == 0#4 && !bitAt p1 11 && Config.features.riMov) (some (.movW .load f.rn (.indexDisp f.rm f.ro (p1.setWidth 11))))) <|> (onlyIf (!wq && slice p1 12 4 != 0#4 && bitAt p1 11) (some (.ldop (slice p1 12 4) .load .w f.rn (.indexSc f.rm f.ro (slice p1 9 2) (slice p1 0 9))))) <|> (onlyIf (!wq && slice p1 12 4 != 0#4 && !bitAt p1 11) (some (.ldop (slice p1 12 4) .load .w f.rn (.indexDisp f.rm f.ro (p1.setWidth 11)))))
    | true => (onlyIf (!wq && slice p1 12 4 != 0#4 && bitAt p1 11) (some (.ldop (slice p1 12 4) .load .uw f.rn (.indexSc f.rm f.ro (slice p1 9 2) (slice p1 0 9))))) <|> (onlyIf (!wq && slice p1 12 4 != 0#4 && !bitAt p1 11) (some (.ldop (slice p1 12 4) .load .uw f.rn (.indexDisp f.rm f.ro (p1.setWidth 11))))) <|> (onlyIf (!wq && slice p1 12 4 == 0#4 && bitAt p1 11 && Config.features.riMov) (some (.movuW f.rn (.indexSc f.rm f.ro (slice p1 9 2) (slice p1 0 9))))) <|> (onlyIf (!wq && slice p1 12 4 == 0#4 && !bitAt p1 11 && Config.features.riMov) (some (.movuW f.rn (.indexDisp f.rm f.ro (p1.setWidth 11)))))
  | 14#4 => match f.q with
    | false => (onlyIf (!wq && slice p1 12 4 == 0#4 && bitAt p1 11 && Config.features.riMov) (some (.movL .load f.rn (.indexSc f.rm f.ro (slice p1 9 2) (slice p1 0 9))))) <|> (onlyIf (!wq && slice p1 12 4 == 0#4 && !bitAt p1 11 && Config.features.riMov) (some (.movL .load f.rn (.indexDisp f.rm f.ro (p1.setWidth 11))))) <|> (onlyIf (!wq && slice p1 12 4 != 0#4 && bitAt p1 11) (some (.ldop (slice p1 12 4) .load .l f.rn (.indexSc f.rm f.ro (slice p1 9 2) (slice p1 0 9))))) <|> (onlyIf (!wq && slice p1 12 4 != 0#4 && !bitAt p1 11) (some (.ldop (slice p1 12 4) .load .l f.rn (.indexDisp f.rm f.ro (p1.setWidth 11)))))
    | true => (onlyIf (!wq && slice p1 12 4 != 0#4 && bitAt p1 11) (some (.ldop (slice p1 12 4) .load .ul f.rn (.indexSc f.rm f.ro (slice p1 9 2) (slice p1 0 9))))) <|> (onlyIf (!wq && slice p1 12 4 != 0#4 && !bitAt p1 11) (some (.ldop (slice p1 12 4) .load .ul f.rn (.indexDisp f.rm f.ro (p1.setWidth 11))))) <|> (onlyIf (!wq && slice p1 12 4 == 0#4 && bitAt p1 11 && Config.features.riMov) (some (.movuL f.rn (.indexSc f.rm f.ro (slice p1 9 2) (slice p1 0 9))))) <|> (onlyIf (!wq && slice p1 12 4 == 0#4 && !bitAt p1 11 && Config.features.riMov) (some (.movuL f.rn (.indexDisp f.rm f.ro (p1.setWidth 11)))))
  | 15#4 => match f.q with
    | false => (onlyIf (!wq && slice p1 12 4 == 0#4 && bitAt p1 11 && Config.features.riMov) (some (.movQ .load f.rn (.indexSc f.rm f.ro (slice p1 9 2) (slice p1 0 9))))) <|> (onlyIf (!wq && slice p1 12 4 == 0#4 && !bitAt p1 11 && Config.features.riMov) (some (.movQ .load f.rn (.indexDisp f.rm f.ro (p1.setWidth 11))))) <|> (onlyIf (!wq && slice p1 12 4 != 0#4 && bitAt p1 11) (some (.ldop (slice p1 12 4) .load .q f.rn (.indexSc f.rm f.ro (slice p1 9 2) (slice p1 0 9))))) <|> (onlyIf (!wq && slice p1 12 4 != 0#4 && !bitAt p1 11) (some (.ldop (slice p1 12 4) .load .q f.rn (.indexDisp f.rm f.ro (p1.setWidth 11)))))
    | true => none
  | _ => none
/-- Forms behind an Op64 prefix, F0 block, Z = 1. -/
def op64F0z1 (f : Fields) (wq : Bool) (p1 : Half) : Option Instr :=
  match f.y with
  | 8#4 => match f.o with
    | 4#4 => match f.q with
      | false => onlyIf (!wq && slice p1 8 8 == 0#8) ((f.x6 p1).map fun v => .bndchkImm v f.rn)
      | true => none
    | 5#4 => match f.q with
      | false => onlyIf (!wq && slice p1 8 8 == 0#8) ((f.x6 p1).map fun v => .bndcmpImm v f.rn)
      | true => none
    | _ => none
  | _ => none
/-- Forms behind an Op64 prefix, F0 block, Z = 2. -/
def op64F0z2 (f : Fields) (wq : Bool) (p1 : Half) : Option Instr :=
  match f.y with
  | 2#4 => match f.q with
    | false => onlyIf (!wq && slice p1 6 10 == 32#10) (some (.bitmovsReg f.rm f.ro (p4 p1) f.rn))
    | true => onlyIf (!wq && slice p1 6 10 == 32#10) (some (.bitmovsxReg (pairOf f.rm) f.ro (pairOf (p4 p1)) (pairOf f.rn)))
  | 3#4 => match f.q with
    | false => onlyIf (!wq && slice p1 6 10 == 32#10) (some (.bitmovReg f.rm f.ro (p4 p1) f.rn))
    | true => onlyIf (!wq && slice p1 6 10 == 32#10) (some (.bitmovxReg (pairOf f.rm) f.ro (pairOf (p4 p1)) (pairOf f.rn)))
  | 5#4 => match f.q with
    | false => onlyIf (!wq) ((f.p8 p1).map fun v => .paddXrm f.rm f.ro f.rn v)
    | true => (onlyIf (!wq) ((f.p8 p1).map fun v => .paddxXrm (pairOf f.rm) (pairOf f.ro) (pairOf f.rn) v)) <|> (onlyIf (!wq) ((f.sh11 p1).map fun v => .paddshxX (pairOf f.rm) (pairOf f.ro) v (pairOf f.rn)))
  | 6#4 => match f.q with
    | false => none
    | true => onlyIf (!wq) ((f.sh11 p1).map fun v => .psubshxX (pairOf f.rm) (pairOf f.ro) v (pairOf f.rn))
  | 7#4 => match f.q with
    | false => onlyIf (!wq) ((f.p8 p1).map fun v => .pmulXrm f.rm f.ro f.rn v)
    | true => (onlyIf (!wq) ((f.p8 p1).map fun v => .pmulxXrm (pairOf f.rm) (pairOf f.ro) (pairOf f.rn) v)) <|> (onlyIf (!wq) ((f.sh11 p1).map fun v => .pmulshxX (pairOf f.rm) (pairOf f.ro) v (pairOf f.rn)))
  | 13#4 => match f.q with
    | false => onlyIf (!wq) ((f.sh11 p1).map fun v => .paddshH f.rm f.ro v f.rn)
    | true => none
  | 14#4 => match f.q with
    | false => onlyIf (!wq) ((f.sh11 p1).map fun v => .psubshH f.rm f.ro v f.rn)
    | true => none
  | 15#4 => match f.q with
    | false => onlyIf (!wq) ((f.sh11 p1).map fun v => .pmulshH f.rm f.ro v f.rn)
    | true => none
  | _ => none
/-- Forms behind an Op64 prefix, F0 block, Z = 3. -/
def op64F0z3 (f : Fields) (wq : Bool) (p1 : Half) : Option Instr :=
  match f.y with
  | 1#4 => match f.q with
    | false => none
    | true => onlyIf (!wq && slice p1 12 4 == 0#4 && bitAt p1 11 && Config.features.riMov) ((f.s17 p1).map fun v => .movTTImm f.rm v f.rn)
  | _ => none
/-- Forms behind an Op64 prefix, F0 block, Z = 4. -/
def op64F0z4 (f : Fields) (wq : Bool) (p1 : Half) : Option Instr :=
  match f.y with
  | 0#4 => match f.q with
    | false => onlyIf (!wq && slice p1 12 4 == 0#4 && !bitAt p1 11 && Config.features.riMov) ((f.s17 p1).map fun v => .movX .store (pairOf f.rn) (.disp f.rm v))
    | true => onlyIf (!wq && slice p1 8 8 == 0#8) ((f.x5 p1).map fun v => .leatB f.rn (.disp f.rm v))
  | 1#4 => match f.q with
    | false => none
    | true => onlyIf (!wq && slice p1 8 8 == 0#8) ((f.x5 p1).map fun v => .leatW f.rn (.disp f.rm v))
  | 2#4 => match f.q with
    | false => none
    | true => onlyIf (!wq && slice p1 8 8 == 0#8) ((f.x5 p1).map fun v => .leatL f.rn (.disp f.rm v))
  | 3#4 => match f.q with
    | false => (onlyIf (!wq && slice p1 12 4 == 0#4 && bitAt p1 11 && Config.features.riMov && Config.acceptDropped) (some (.movC .store f.rn (.indexSc f.rm f.ro (slice p1 9 2) (slice p1 0 9))))) <|> (onlyIf (!wq && slice p1 12 4 == 0#4 && !bitAt p1 11 && Config.features.riMov && Config.acceptDropped) (some (.movC .store f.rn (.indexDisp f.rm f.ro (p1.setWidth 11)))))
    | true => onlyIf (!wq && slice p1 8 8 == 0#8) ((f.x5 p1).map fun v => .leatQ f.rn (.disp f.rm v))
  | 4#4 => match f.q with
    | false => (onlyIf (!wq && slice p1 12 4 == 0#4 && bitAt p1 11 && Config.features.riMov) (some (.movX .store (pairOf f.rn) (.indexSc f.rm f.ro (slice p1 9 2) (slice p1 0 9))))) <|> (onlyIf (!wq && slice p1 12 4 == 0#4 && !bitAt p1 11 && Config.features.riMov) (some (.movX .store (pairOf f.rn) (.indexDisp f.rm f.ro (p1.setWidth 11)))))
    | true => none
  | 8#4 => match f.q with
    | false => onlyIf (!wq && slice p1 12 4 == 0#4 && !bitAt p1 11 && Config.features.riMov) ((f.s17 p1).map fun v => .movX .load (pairOf f.rn) (.disp f.rm v))
    | true => onlyIf (!wq && slice p1 8 8 == 0#8) ((f.x5 p1).map fun v => .movnL f.rn (.disp f.rm v))
  | 11#4 => match f.q with
    | false => (onlyIf (!wq && slice p1 12 4 == 0#4 && bitAt p1 11 && Config.features.riMov && Config.acceptDropped) (some (.movC .load f.rn (.indexSc f.rm f.ro (slice p1 9 2) (slice p1 0 9))))) <|> (onlyIf (!wq && slice p1 12 4 == 0#4 && !bitAt p1 11 && Config.features.riMov && Config.acceptDropped) (some (.movC .load f.rn (.indexDisp f.rm f.ro (p1.setWidth 11)))))
    | true => none
  | 12#4 => match f.q with
    | false => (onlyIf (!wq && slice p1 12 4 == 0#4 && bitAt p1 11 && Config.features.riMov) (some (.movX .load (pairOf f.rn) (.indexSc f.rm f.ro (slice p1 9 2) (slice p1 0 9))))) <|> (onlyIf (!wq && slice p1 12 4 == 0#4 && !bitAt p1 11 && Config.features.riMov) (some (.movX .load (pairOf f.rn) (.indexDisp f.rm f.ro (p1.setWidth 11)))))
    | true => none
  | _ => none
/-- Forms behind an Op64 prefix, F0 block, Z = 5. -/
def op64F0z5 (f : Fields) (wq : Bool) (p1 : Half) : Option Instr :=
  match f.y with
  | 8#4 => match f.q with
    | false => onlyIf (!wq) ((f.p8 p1).map fun v => .fadd f.rm (.reg f.ro) f.rn v)
    | true => onlyIf (!wq) ((f.p8 p1).map fun v => .faddx (pairOf f.rm) (pairOf f.ro) (pairOf f.rn) v)
  | 9#4 => match f.q with
    | false => onlyIf (!wq) ((f.p8 p1).map fun v => .fsub f.rm (.reg f.ro) f.rn v)
    | true => onlyIf (!wq) ((f.p8 p1).map fun v => .fsubx (pairOf f.rm) (pairOf f.ro) (pairOf f.rn) v)
  | 10#4 => match f.q with
    | false => onlyIf (!wq) ((f.p8 p1).map fun v => .fmul f.rm (.reg f.ro) f.rn v)
    | true => onlyIf (!wq) ((f.p8 p1).map fun v => .fmulx (pairOf f.rm) (pairOf f.ro) (pairOf f.rn) v)
  | 11#4 => match f.q with
    | false => (onlyIf (!wq && slice p1 6 10 == 0#10) (some (.fmac f.rm f.ro (p4 p1) f.rn))) <|> (onlyIf (!wq && slice p1 6 10 == 4#10) (some (.fmas f.rm f.ro (p4 p1) f.rn))) <|> (onlyIf (!wq && slice p1 6 10 == 8#10) (some (.fmrs f.rm f.ro (p4 p1) f.rn))) <|> (onlyIf (!wq && slice p1 6 10 == 12#10) (some (.fmra f.rm f.ro (p4 p1) f.rn))) <|> (onlyIf (!wq && slice p1 6 10 == 16#10) (some (.pmacH f.rm f.ro (p4 p1) f.rn))) <|> (onlyIf (!wq && slice p1 6 10 == 20#10) (some (.pmasH f.rm f.ro (p4 p1) f.rn))) <|> (onlyIf (!wq && slice p1 6 10 == 24#10) (some (.pmrsH f.rm f.ro (p4 p1) f.rn))) <|> (onlyIf (!wq && slice p1 6 10 == 28#10) (some (.pmraH f.rm f.ro (p4 p1) f.rn)))
    | true => (onlyIf (!wq && slice p1 6 10 == 0#10) (some (.fmacx (pairOf f.rm) (pairOf f.ro) (pairOf (p4 p1)) (pairOf f.rn)))) <|> (onlyIf (!wq && slice p1 6 10 == 4#10) (some (.fmasx (pairOf f.rm) (pairOf f.ro) (pairOf (p4 p1)) (pairOf f.rn)))) <|> (onlyIf (!wq && slice p1 6 10 == 8#10) (some (.fmrsx (pairOf f.rm) (pairOf f.ro) (pairOf (p4 p1)) (pairOf f.rn)))) <|> (onlyIf (!wq && slice p1 6 10 == 12#10) (some (.fmrax (pairOf f.rm) (pairOf f.ro) (pairOf (p4 p1)) (pairOf f.rn)))) <|> (onlyIf (!wq && slice p1 6 10 == 16#10) (some (.pmacF (pairOf f.rm) (pairOf f.ro) (pairOf (p4 p1)) (pairOf f.rn)))) <|> (onlyIf (!wq && slice p1 6 10 == 20#10) (some (.pmasF (pairOf f.rm) (pairOf f.ro) (pairOf (p4 p1)) (pairOf f.rn)))) <|> (onlyIf (!wq && slice p1 6 10 == 24#10) (some (.pmrsF (pairOf f.rm) (pairOf f.ro) (pairOf (p4 p1)) (pairOf f.rn)))) <|> (onlyIf (!wq && slice p1 6 10 == 28#10) (some (.pmraF (pairOf f.rm) (pairOf f.ro) (pairOf (p4 p1)) (pairOf f.rn))))
  | 14#4 => match f.q with
    | false => none
    | true => onlyIf (!wq && slice p1 8 8 == 0#8) ((f.x5 p1).map fun v => .mulsW f.rm (.imm v) f.rn)
  | 15#4 => match f.q with
    | false => none
    | true => onlyIf (!wq && slice p1 8 8 == 0#8) ((f.x5 p1).map fun v => .muluW f.rm (.imm v) f.rn)
  | _ => none
/-- Forms behind an Op64 prefix, F0 block, Z = 6. -/
def op64F0z6 (f : Fields) (wq : Bool) (p1 : Half) : Option Instr :=
  match f.y with
  | 0#4 => match f.q with
    | false => onlyIf (!wq && slice p1 6 10 == 32#10) (some (.macsL f.rm (.reg f.ro) (p4 p1) f.rn))
    | true => (onlyIf (!wq && slice p1 12 4 == 0#4 && bitAt p1 11) ((f.s11 p1).map fun v => .macsL f.rm (.imm v) f.ro f.rn)) <|> (onlyIf (!wq && slice p1 12 4 == 0#4 && !bitAt p1 11) ((f.s17 p1).map fun v => .macsL f.rm (.imm v) f.rn f.rn))
  | 1#4 => match f.q with
    | false => onlyIf (!wq && slice p1 6 10 == 32#10) (some (.macuL f.rm (.reg f.ro) (p4 p1) f.rn))
    | true => (onlyIf (!wq && slice p1 12 4 == 0#4 && bitAt p1 11) ((f.s11 p1).map fun v => .macuL f.rm (.imm v) f.ro f.rn)) <|> (onlyIf (!wq && slice p1 12 4 == 0#4 && !bitAt p1 11) ((f.s17 p1).map fun v => .macuL f.rm (.imm v) f.rn f.rn))
  | 2#4 => match f.q with
    | false => onlyIf (!wq && slice p1 6 10 == 32#10) (some (.dmacsL f.rm (.reg f.ro) (p4 p1) f.rn))
    | true => (onlyIf (!wq && slice p1 12 4 == 0#4 && bitAt p1 11) ((f.s11 p1).map fun v => .dmacsL f.rm (.imm v) f.ro f.rn)) <|> (onlyIf (!wq && slice p1 12 4 == 0#4 && !bitAt p1 11) ((f.s17 p1).map fun v => .dmacsL f.rm (.imm v) f.rn f.rn))
  | 3#4 => match f.q with
    | false => onlyIf (!wq && slice p1 6 10 == 32#10) (some (.dmacuL f.rm (.reg f.ro) (p4 p1) f.rn))
    | true => (onlyIf (!wq && slice p1 12 4 == 0#4 && bitAt p1 11) ((f.s11 p1).map fun v => .dmacuL f.rm (.imm v) f.ro f.rn)) <|> (onlyIf (!wq && slice p1 12 4 == 0#4 && !bitAt p1 11) ((f.s17 p1).map fun v => .dmacuL f.rm (.imm v) f.rn f.rn))
  | 9#4 => match f.q with
    | false => onlyIf (!wq) ((f.k2 p1).map fun v => .blerp4 f.rm f.ro (p4 p1) v f.rn)
    | true => none
  | 13#4 => match f.q with
    | false => none
    | true => onlyIf (!wq && slice p1 8 8 == 0#8 && Config.features.fpImm) ((f.xfp5 p1).map fun v => .fadd f.rm (.imm v) f.rn 0#8)
  | 14#4 => match f.q with
    | false => none
    | true => onlyIf (!wq && slice p1 8 8 == 0#8 && Config.features.fpImm) ((f.xfp5 p1).map fun v => .fsub f.rm (.imm v) f.rn 0#8)
  | 15#4 => match f.q with
    | false => none
    | true => onlyIf (!wq && slice p1 8 8 == 0#8 && Config.features.fpImm) ((f.xfp5 p1).map fun v => .fmul f.rm (.imm v) f.rn 0#8)
  | _ => none
/-- Forms behind an Op64 prefix, F0 block, Z = 7. -/
def op64F0z7 (f : Fields) (wq : Bool) (p1 : Half) : Option Instr :=
  match f.y with
  | 12#4 => (onlyIf (!wq && p1 == 0x0040#16) (some (.blkuvf1VL f.rm f.ro f.rn))) <|> (onlyIf (!wq && p1 == 0x0041#16) (some (.blkuvf1VH f.rm f.ro f.rn))) <|> (onlyIf (!wq && p1 == 0x0042#16) (some (.blkuvf1SL f.rm f.ro f.rn))) <|> (onlyIf (!wq && p1 == 0x0043#16) (some (.blkuvf1SH f.rm f.ro f.rn)))
  | _ => none
/-- Forms behind an Op64 prefix, F0 block, Z = 9. -/
def op64F0z9 (f : Fields) (wq : Bool) (p1 : Half) : Option Instr :=
  match f.y with
  | 0#4 => match f.q with
    | false => onlyIf (!wq && slice p1 8 8 == 0#8) ((f.x5 p1).map fun v => .movTW .store f.rn (.disp f.rm v))
    | true => onlyIf (!wq && slice p1 12 4 == 0#4 && !bitAt p1 11) ((f.s17 p1).map fun v => .cmp3EQ f.rm (.imm v) f.rn)
  | 1#4 => match f.q with
    | false => onlyIf (!wq && slice p1 8 8 == 0#8) ((f.x5 p1).map fun v => .movHTW .store f.rn (.disp f.rm v))
    | true => (onlyIf (!wq && slice p1 12 4 == 0#4 && !bitAt p1 11) ((f.s17 p1).map fun v => .cmp3GT f.rm (.imm v) f.rn)) <|> (onlyIf (wq && slice p1 12 4 == 0#4 && !bitAt p1 11) ((f.s17 p1).map fun v => .cmp3HI f.rm v f.rn))
  | 2#4 => match f.q with
    | false => none
    | true => onlyIf (!wq && slice p1 12 4 == 0#4 && !bitAt p1 11) ((f.s17 p1).map fun v => .cmp3NE f.rm (.imm v) f.rn)
  | 3#4 => match f.q with
    | false => none
    | true => (onlyIf (!wq && slice p1 12 4 == 0#4 && !bitAt p1 11) ((f.s17 p1).map fun v => .cmp3LT f.rm v f.rn)) <|> (onlyIf (wq && slice p1 12 4 == 0#4 && !bitAt p1 11) ((f.s17 p1).map fun v => .cmp3BI f.rm v f.rn))
  | 8#4 => match f.q with
    | false => onlyIf (!wq && slice p1 8 8 == 0#8) ((f.x5 p1).map fun v => .movTW .load f.rn (.disp f.rm v))
    | true => onlyIf (!wq && slice p1 8 8 == 0#8) ((f.x5 p1).map fun v => .movuTW f.rn (.disp f.rm v))
  | 9#4 => match f.q with
    | false => onlyIf (!wq && slice p1 8 8 == 0#8) ((f.x5 p1).map fun v => .movHTW .load f.rn (.disp f.rm v))
    | true => none
  | _ => none
/-- Forms behind an Op64 prefix, F0 block, Z = C. -/
def op64F0zC (f : Fields) (wq : Bool) (p1 : Half) : Option Instr :=
  onlyIf (!wq) ((f.d33 p1).map fun v => .bra (.disp v))
/-- Forms behind an Op64 prefix, F0 block, Z = D. -/
def op64F0zD (f : Fields) (wq : Bool) (p1 : Half) : Option Instr :=
  onlyIf (!wq) ((f.d33 p1).map fun v => .bsr (.disp v))
/-- Forms behind an Op64 prefix, F0 block, Z = E. -/
def op64F0zE (f : Fields) (wq : Bool) (p1 : Half) : Option Instr :=
  onlyIf (!wq && Config.acceptDropped) ((f.d33 p1).map fun v => .bt (.disp v))
/-- Forms behind an Op64 prefix, F0 block, Z = F. -/
def op64F0zF (f : Fields) (wq : Bool) (p1 : Half) : Option Instr :=
  onlyIf (!wq && Config.acceptDropped) ((f.d33 p1).map fun v => .bf (.disp v))
/-- Forms behind an Op64 prefix, F0 block. -/
def op64F0 (f : Fields) (wq : Bool) (p1 : Half) : Option Instr :=
  match f.z with
  | 0#4 => op64F0z0 f wq p1
  | 1#4 => op64F0z1 f wq p1
  | 2#4 => op64F0z2 f wq p1
  | 3#4 => op64F0z3 f wq p1
  | 4#4 => op64F0z4 f wq p1
  | 5#4 => op64F0z5 f wq p1
  | 6#4 => op64F0z6 f wq p1
  | 7#4 => op64F0z7 f wq p1
  | 9#4 => op64F0z9 f wq p1
  | 12#4 => op64F0zC f wq p1
  | 13#4 => op64F0zD f wq p1
  | 14#4 => op64F0zE f wq p1
  | 15#4 => op64F0zF f wq p1
  | _ => none
/-- Forms behind an Op64 prefix, F1 block, Z = 0. -/
def op64F1z0 (f : Fields) (wq : Bool) (p1 : Half) : Option Instr :=
  match f.q with
  | false => onlyIf (!wq && slice p1 8 8 == 0#8) ((f.x9 p1).map fun v => .movB .store f.rn (.disp f.rm v))
  | true => onlyIf (!wq && slice p1 8 8 == 0#8) ((f.x9 p1).map fun v => .leaB f.rn (.disp f.rm v))
/-- Forms behind an Op64 prefix, F1 block, Z = 1. -/
def op64F1z1 (f : Fields) (wq : Bool) (p1 : Half) : Option Instr :=
  match f.q with
  | false => onlyIf (!wq && slice p1 8 8 == 0#8) ((f.x9 p1).map fun v => .movW .store f.rn (.disp f.rm v))
  | true => onlyIf (!wq && slice p1 8 8 == 0#8) ((f.x9 p1).map fun v => .leaW f.rn (.disp f.rm v))
/-- Forms behind an Op64 prefix, F1 block, Z = 2. -/
def op64F1z2 (f : Fields) (wq : Bool) (p1 : Half) : Option Instr :=
  match f.q with
  | false => onlyIf (!wq && slice p1 8 8 == 0#8) ((f.x9 p1).map fun v => .movL .store f.rn (.disp f.rm v))
  | true => onlyIf (!wq && slice p1 8 8 == 0#8) ((f.x9 p1).map fun v => .leaL f.rn (.disp f.rm v))
/-- Forms behind an Op64 prefix, F1 block, Z = 3. -/
def op64F1z3 (f : Fields) (wq : Bool) (p1 : Half) : Option Instr :=
  match f.q with
  | false => onlyIf (!wq && slice p1 8 8 == 0#8) ((f.x9 p1).map fun v => .movQ .store f.rn (.disp f.rm v))
  | true => onlyIf (!wq && slice p1 8 8 == 0#8) ((f.x9 p1).map fun v => .leaQ f.rn (.disp f.rm v))
/-- Forms behind an Op64 prefix, F1 block, Z = 5. -/
def op64F1z5 (f : Fields) (wq : Bool) (p1 : Half) : Option Instr :=
  match f.q with
  | false => onlyIf (!wq && slice p1 8 8 == 0#8) ((f.x9 p1).map fun v => .movC .store f.rn (.disp f.rm v))
  | true => onlyIf (!wq && slice p1 8 8 == 0#8) ((f.x9 p1).map fun v => .movX .store (pairOf f.rn) (.disp f.rm v))
/-- Forms behind an Op64 prefix, F1 block, Z = 7. -/
def op64F1z7 (f : Fields) (wq : Bool) (p1 : Half) : Option Instr :=
  match f.q with
  | false => onlyIf (!wq && slice p1 8 8 == 0#8) ((f.x9 p1).map fun v => .movC .load f.rn (.disp f.rm v))
  | true => onlyIf (!wq && slice p1 8 8 == 0#8) ((f.x9 p1).map fun v => .movX .load (pairOf f.rn) (.disp f.rm v))
/-- Forms behind an Op64 prefix, F1 block, Z = 8. -/
def op64F1z8 (f : Fields) (wq : Bool) (p1 : Half) : Option Instr :=
  match f.q with
  | false => onlyIf (!wq && slice p1 8 8 == 0#8) ((f.x9 p1).map fun v => .movB .load f.rn (.disp f.rm v))
  | true => onlyIf (!wq && slice p1 8 8 == 0#8) ((f.x9 p1).map fun v => .movuB f.rn (.disp f.rm v))
/-- Forms behind an Op64 prefix, F1 block, Z = 9. -/
def op64F1z9 (f : Fields) (wq : Bool) (p1 : Half) : Option Instr :=
  match f.q with
  | false => onlyIf (!wq && slice p1 8 8 == 0#8) ((f.x9 p1).map fun v => .movW .load f.rn (.disp f.rm v))
  | true => onlyIf (!wq && slice p1 8 8 == 0#8) ((f.x9 p1).map fun v => .movuW f.rn (.disp f.rm v))
/-- Forms behind an Op64 prefix, F1 block, Z = A. -/
def op64F1zA (f : Fields) (wq : Bool) (p1 : Half) : Option Instr :=
  match f.q with
  | false => onlyIf (!wq && slice p1 8 8 == 0#8) ((f.x9 p1).map fun v => .movL .load f.rn (.disp f.rm v))
  | true => onlyIf (!wq && slice p1 8 8 == 0#8) ((f.x9 p1).map fun v => .movuL f.rn (.disp f.rm v))
/-- Forms behind an Op64 prefix, F1 block, Z = B. -/
def op64F1zB (f : Fields) (wq : Bool) (p1 : Half) : Option Instr :=
  match f.q with
  | false => onlyIf (!wq && slice p1 8 8 == 0#8) ((f.x9 p1).map fun v => .movQ .load f.rn (.disp f.rm v))
  | true => none
/-- Forms behind an Op64 prefix, F1 block, Z = C. -/
def op64F1zC (f : Fields) (wq : Bool) (p1 : Half) : Option Instr :=
  match f.q with
  | false => match f.ox with
    | 0#2 => onlyIf (!wq && slice p1 8 8 == 0#8) ((f.x8 p1).map fun v => .jtstT f.rm f.rn v)
    | 1#2 => onlyIf (!wq && slice p1 8 8 == 0#8) ((f.x8 p1).map fun v => .jtstF f.rm f.rn v)
    | _ => none
  | true => match f.ox with
    | 0#2 => onlyIf (!wq && slice p1 8 8 == 0#8) ((f.x8 p1).map fun v => .jtstQT f.rm f.rn v)
    | 1#2 => onlyIf (!wq && slice p1 8 8 == 0#8) ((f.x8 p1).map fun v => .jtstQF f.rm f.rn v)
    | _ => none
/-- Forms behind an Op64 prefix, F1 block, Z = D. -/
def op64F1zD (f : Fields) (wq : Bool) (p1 : Half) : Option Instr :=
  match f.q with
  | false => match f.ox with
    | 0#2 => onlyIf (!wq && slice p1 8 8 == 0#8) ((f.x8 p1).map fun v => .jcmpGT f.rm f.rn v)
    | 1#2 => onlyIf (!wq && slice p1 8 8 == 0#8) ((f.x8 p1).map fun v => .jcmpLE f.rm f.rn v)
    | _ => none
  | true => match f.ox with
    | 0#2 => onlyIf (!wq && slice p1 8 8 == 0#8) ((f.x8 p1).map fun v => .jcmpQGT f.rm f.rn v)
    | 1#2 => onlyIf (!wq && slice p1 8 8 == 0#8) ((f.x8 p1).map fun v => .jcmpQLE f.rm f.rn v)
    | _ => none
/-- Forms behind an Op64 prefix, F1 block, Z = E. -/
def op64F1zE (f : Fields) (wq : Bool) (p1 : Half) : Option Instr :=
  match f.q with
  | false => match f.ox with
    | 0#2 => onlyIf (!wq && slice p1 8 8 == 0#8) ((f.x8 p1).map fun v => .jcmpHI f.rm f.rn v)
    | 1#2 => onlyIf (!wq && slice p1 8 8 == 0#8) ((f.x8 p1).map fun v => .jcmpLS f.rm f.rn v)
    | _ => none
  | true => match f.ox with
    | 0#2 => onlyIf (!wq && slice p1 8 8 == 0#8) ((f.x8 p1).map fun v => .jcmpQHI f.rm f.rn v)
    | 1#2 => onlyIf (!wq && slice p1 8 8 == 0#8) ((f.x8 p1).map fun v => .jcmpQLS f.rm f.rn v)
    | _ => none
/-- Forms behind an Op64 prefix, F1 block, Z = F. -/
def op64F1zF (f : Fields) (wq : Bool) (p1 : Half) : Option Instr :=
  match f.q with
  | false => match f.ox with
    | 0#2 => onlyIf (!wq && slice p1 8 8 == 0#8) ((f.x8 p1).map fun v => .jcmpEQ f.rm f.rn v)
    | 1#2 => onlyIf (!wq && slice p1 8 8 == 0#8) ((f.x8 p1).map fun v => .jcmpNE f.rm f.rn v)
    | _ => none
  | true => match f.ox with
    | 0#2 => onlyIf (!wq && slice p1 8 8 == 0#8) ((f.x8 p1).map fun v => .jcmpQEQ f.rm f.rn v)
    | 1#2 => onlyIf (!wq && slice p1 8 8 == 0#8) ((f.x8 p1).map fun v => .jcmpQNE f.rm f.rn v)
    | _ => none
/-- Forms behind an Op64 prefix, F1 block. -/
def op64F1 (f : Fields) (wq : Bool) (p1 : Half) : Option Instr :=
  match f.z with
  | 0#4 => op64F1z0 f wq p1
  | 1#4 => op64F1z1 f wq p1
  | 2#4 => op64F1z2 f wq p1
  | 3#4 => op64F1z3 f wq p1
  | 5#4 => op64F1z5 f wq p1
  | 7#4 => op64F1z7 f wq p1
  | 8#4 => op64F1z8 f wq p1
  | 9#4 => op64F1z9 f wq p1
  | 10#4 => op64F1zA f wq p1
  | 11#4 => op64F1zB f wq p1
  | 12#4 => op64F1zC f wq p1
  | 13#4 => op64F1zD f wq p1
  | 14#4 => op64F1zE f wq p1
  | 15#4 => op64F1zF f wq p1
  | _ => none
/-- Forms behind an Op64 prefix, F2 block, Z = 0. -/
def op64F2z0 (f : Fields) (wq : Bool) (p1 : Half) : Option Instr :=
  match f.q with
  | false => onlyIf (!wq && slice p1 8 8 == 0#8) ((f.x9 p1).map fun v => .add f.rm (.imm v) f.rn)
  | true => none
/-- Forms behind an Op64 prefix, F2 block, Z = 1. -/
def op64F2z1 (f : Fields) (wq : Bool) (p1 : Half) : Option Instr :=
  match f.q with
  | false => onlyIf (!wq && slice p1 8 8 == 0#8) ((f.x9n p1).map fun v => .add f.rm (.imm v) f.rn)
  | true => none
/-- Forms behind an Op64 prefix, F2 block, Z = 2. -/
def op64F2z2 (f : Fields) (wq : Bool) (p1 : Half) : Option Instr :=
  match f.q with
  | false => onlyIf (!wq && slice p1 8 8 == 0#8) ((f.x9 p1).map fun v => .muls f.rm (.imm v) f.rn)
  | true => onlyIf (!wq && slice p1 8 8 == 0#8) ((f.x9 p1).map fun v => .mulu f.rm (.imm v) f.rn)
/-- Forms behind an Op64 prefix, F2 block, Z = 3. -/
def op64F2z3 (f : Fields) (wq : Bool) (p1 : Half) : Option Instr :=
  match f.q with
  | false => onlyIf (!wq && slice p1 8 8 == 0#8) ((f.x9 p1).map fun v => .addsL f.rm (.imm v) f.rn)
  | true => onlyIf (!wq && slice p1 8 8 == 0#8) ((f.x9 p1).map fun v => .adduL f.rm (.imm v) f.rn)
/-- Forms behind an Op64 prefix, F2 block, Z = 4. -/
def op64F2z4 (f : Fields) (wq : Bool) (p1 : Half) : Option Instr :=
  match f.q with
  | false => onlyIf (!wq && slice p1 8 8 == 0#8) ((f.x9n p1).map fun v => .addsL f.rm (.imm v) f.rn)
  | true => onlyIf (!wq && slice p1 8 8 == 0#8) ((f.x9n p1).map fun v => .adduL f.rm (.imm v) f.rn)
/-- Forms behind an Op64 prefix, F2 block, Z = 5. -/
def op64F2z5 (f : Fields) (wq : Bool) (p1 : Half) : Option Instr :=
  match f.q with
  | false => onlyIf (!wq && slice p1 8 8 == 0#8) ((f.x9 p1).map fun v => .and f.rm (.imm v) f.rn)
  | true => none
/-- Forms behind an Op64 prefix, F2 block, Z = 6. -/
def op64F2z6 (f : Fields) (wq : Bool) (p1 : Half) : Option Instr :=
  match f.q with
  | false => onlyIf (!wq && slice p1 8 8 == 0#8) ((f.x9 p1).map fun v => .or f.rm (.imm v) f.rn)
  | true => none
/-- Forms behind an Op64 prefix, F2 block, Z = 7. -/
def op64F2z7 (f : Fields) (wq : Bool) (p1 : Half) : Option Instr :=
  match f.q with
  | false => onlyIf (!wq && slice p1 8 8 == 0#8) ((f.x9 p1).map fun v => .xor f.rm (.imm v) f.rn)
  | true => none
/-- Forms behind an Op64 prefix, F2 block, Z = 8. -/
def op64F2z8 (f : Fields) (wq : Bool) (p1 : Half) : Option Instr :=
  match f.q with
  | false => onlyIf (f.ox == 0#2) (onlyIf (!wq && slice p1 8 8 == 0#8) ((f.x8 p1).map fun v => .shad f.rm (.imm v) f.rn))
  | true => match f.ox with
    | 0#2 => onlyIf (!wq && slice p1 8 8 == 0#8) ((f.x8 p1).map fun v => .shadq f.rm (.imm v) f.rn)
    | 1#2 => onlyIf (!wq) ((f.q17 p1).map fun v => .pshufW17 f.rm v f.rn)
    | _ => none
/-- Forms behind an Op64 prefix, F2 block, Z = 9. -/
def op64F2z9 (f : Fields) (wq : Bool) (p1 : Half) : Option Instr :=
  match f.q with
  | false => onlyIf (f.ox == 0#2) (onlyIf (!wq && slice p1 8 8 == 0#8) ((f.x8 p1).map fun v => .shld f.rm (.imm v) f.rn))
  | true => onlyIf (f.ox == 0#2) (onlyIf (!wq && slice p1 8 8 == 0#8) ((f.x8 p1).map fun v => .shldq f.rm (.imm v) f.rn))
/-- Forms behind an Op64 prefix, F2 block, Z = C. -/
def op64F2zC (f : Fields) (wq : Bool) (p1 : Half) : Option Instr :=
  match f.m with
  | 0#4 => match f.q with
    | false => onlyIf (!wq && slice p1 8 8 == 0#8 && Config.features.wex2) ((f.x10z p1).map fun v => .ldiz v f.rn)
    | true => onlyIf (!wq && slice p1 8 8 == 0#8) ((f.x10z p1).map fun v => .ldimiz v f.rn)
  | 1#4 => match f.q with
    | false => onlyIf (!wq && slice p1 8 8 == 0#8 && Config.features.wex2) ((f.x10n p1).map fun v => .ldin v f.rn)
    | true => onlyIf (!wq && slice p1 8 8 == 0#8) ((f.x10n p1).map fun v => .ldimin v f.rn)
  | 2#4 => match f.q with
    | false => onlyIf (!wq && slice p1 8 8 == 0#8) ((f.xz8 p1).map fun v => .ldish v f.rn)
    | true => none
  | 3#4 => match f.q with
    | false => onlyIf (!wq && slice p1 8 8 == 0#8) ((f.x10z p1).map fun v => .ldihi v f.rn)
    | true => onlyIf (!wq && slice p1 8 8 == 0#8) ((f.x10z p1).map fun v => .ldihiq v f.rn)
  | 4#4 => match f.q with
    | false => onlyIf (!wq && slice p1 8 8 == 0#8) ((f.xc9u p1).map fun v => .tst (.imm v) f.rn f.flag)
    | true => onlyIf (!wq && slice p1 8 8 == 0#8) ((f.xc9u p1).map fun v => .tstQ (.imm v) f.rn f.flag)
  | 5#4 => match f.q with
    | false => onlyIf (!wq && slice p1 8 8 == 0#8) ((f.xc9n p1).map fun v => .tst (.imm v) f.rn f.flag)
    | true => onlyIf (!wq && slice p1 8 8 == 0#8) ((f.xc9n p1).map fun v => .tstQ (.imm v) f.rn f.flag)
  | 6#4 => match f.q with
    | false => onlyIf (!wq && slice p1 8 8 == 0#8) ((f.xc9u p1).map fun v => .cmpHS (.imm v) f.rn f.flag)
    | true => onlyIf (!wq && slice p1 8 8 == 0#8) ((f.xc9u p1).map fun v => .cmpQHS (.imm v) f.rn f.flag)
  | 7#4 => match f.q with
    | false => onlyIf (!wq && slice p1 8 8 == 0#8) ((f.xc9n p1).map fun v => .cmpHS (.imm v) f.rn f.flag)
    | true => onlyIf (!wq && slice p1 8 8 == 0#8) ((f.xc9n p1).map fun v => .cmpQHS (.imm v) f.rn f.flag)
  | 8#4 => match f.q with
    | false => onlyIf (!wq && slice p1 8 8 == 0#8) ((f.xc9u p1).map fun v => .cmpHI (.imm v) f.rn f.flag)
    | true => onlyIf (!wq && slice p1 8 8 == 0#8) ((f.xc9u p1).map fun v => .cmpQHI (.imm v) f.rn f.flag)
  | 9#4 => match f.q with
    | false => onlyIf (!wq && slice p1 8 8 == 0#8) ((f.xc9n p1).map fun v => .cmpHI (.imm v) f.rn f.flag)
    | true => onlyIf (!wq && slice p1 8 8 == 0#8) ((f.xc9n p1).map fun v => .cmpQHI (.imm v) f.rn f.flag)
  | 10#4 => match f.q with
    | false => onlyIf (!wq && slice p1 8 8 == 0#8) ((f.xc9u p1).map fun v => .cmpGE (.imm v) f.rn f.flag)
    | true => onlyIf (!wq && slice p1 8 8 == 0#8) ((f.xc9u p1).map fun v => .cmpQGE (.imm v) f.rn f.flag)
  | 11#4 => match f.q with
    | false => onlyIf (!wq && slice p1 8 8 == 0#8) ((f.xc9n p1).map fun v => .cmpGE (.imm v) f.rn f.flag)
    | true => onlyIf (!wq && slice p1 8 8 == 0#8) ((f.xc9n p1).map fun v => .cmpQGE (.imm v) f.rn f.flag)
  | 12#4 => match f.q with
    | false => onlyIf (!wq && slice p1 8 8 == 0#8) ((f.xc9u p1).map fun v => .cmpEQ (.imm v) f.rn f.flag)
    | true => onlyIf (!wq && slice p1 8 8 == 0#8) ((f.xc9u p1).map fun v => .cmpQEQ (.imm v) f.rn f.flag)
  | 13#4 => match f.q with
    | false => onlyIf (!wq && slice p1 8 8 == 0#8) ((f.xc9n p1).map fun v => .cmpEQ (.imm v) f.rn f.flag)
    | true => onlyIf (!wq && slice p1 8 8 == 0#8) ((f.xc9n p1).map fun v => .cmpQEQ (.imm v) f.rn f.flag)
  | 14#4 => match f.q with
    | false => onlyIf (!wq && slice p1 8 8 == 0#8) ((f.xc9u p1).map fun v => .cmpGT (.imm v) f.rn f.flag)
    | true => onlyIf (!wq && slice p1 8 8 == 0#8) ((f.xc9u p1).map fun v => .cmpQGT (.imm v) f.rn f.flag)
  | 15#4 => match f.q with
    | false => onlyIf (!wq && slice p1 8 8 == 0#8) ((f.xc9n p1).map fun v => .cmpGT (.imm v) f.rn f.flag)
    | true => onlyIf (!wq && slice p1 8 8 == 0#8) ((f.xc9n p1).map fun v => .cmpQGT (.imm v) f.rn f.flag)
  | _ => none
/-- Forms behind an Op64 prefix, F2 block, Z = D. -/
def op64F2zD (f : Fields) (wq : Bool) (p1 : Half) : Option Instr :=
  match f.m with
  | 0#4 => match f.q with
    | false => onlyIf (!wq && slice p1 8 8 == 0#8) ((f.x10 p1).map fun v => .add f.rn (.imm v) f.rn)
    | true => none
  | 1#4 => match f.q with
    | false => onlyIf (!wq && slice p1 8 8 == 0#8) ((f.x10n p1).map fun v => .add f.rn (.imm v) f.rn)
    | true => none
  | 2#4 => match f.q with
    | false => onlyIf (!wq && slice p1 8 8 == 0#8) ((f.x10 p1).map fun v => .mulsW f.rn (.imm v) f.rn)
    | true => onlyIf (!wq && slice p1 8 8 == 0#8) ((f.x10 p1).map fun v => .muluW f.rn (.imm v) f.rn)
  | 3#4 => match f.q with
    | false => onlyIf (!wq && slice p1 8 8 == 0#8) ((f.x10n p1).map fun v => .mulsW f.rn (.imm v) f.rn)
    | true => onlyIf (!wq && slice p1 8 8 == 0#8) ((f.x10n p1).map fun v => .muluW f.rn (.imm v) f.rn)
  | 6#4 => onlyIf (!wq && slice p1 8 8 == 0#8) (f.jcmpz (sext 16 ((slice p1 0 8 ++ f.imm8).setWidth 64)))
  | 7#4 => onlyIf (!wq && slice p1 8 8 == 0#8) (f.jcmpz (sext 16 ((slice p1 0 8 ++ f.imm8).setWidth 64)))
  | 8#4 => match f.q with
    | false => onlyIf (!wq && slice p1 8 8 == 0#8) ((f.x10 p1).map fun v => .movL .store f.rn (.gbr v))
    | true => none
  | 9#4 => match f.q with
    | false => onlyIf (!wq && slice p1 8 8 == 0#8) ((f.x10 p1).map fun v => .movQ .store f.rn (.gbr v))
    | true => onlyIf (!wq && slice p1 8 8 == 0#8) ((f.x10 p1).map fun v => .movX .store (pairOf f.rn) (.gbr v))
  | 10#4 => match f.q with
    | false => onlyIf (!wq && slice p1 8 8 == 0#8) ((f.x10 p1).map fun v => .movL .load f.rn (.gbr v))
    | true => onlyIf (!wq && slice p1 8 8 == 0#8) ((f.x10 p1).map fun v => .movuL f.rn (.gbr v))
  | 11#4 => match f.q with
    | false => onlyIf (!wq && slice p1 8 8 == 0#8) ((f.x10 p1).map fun v => .movQ .load f.rn (.gbr v))
    | true => onlyIf (!wq && slice p1 8 8 == 0#8) ((f.x10 p1).map fun v => .movX .load (pairOf f.rn) (.gbr v))
  | 12#4 => match f.q with
    | false => onlyIf (!wq && slice p1 8 8 == 0#8 && Config.features.fpImm) ((f.xf10 p1).map fun v => .fcmpEQ (.imm v) f.rn)
    | true => none
  | 14#4 => match f.q with
    | false => onlyIf (!wq && slice p1 8 8 == 0#8 && Config.features.fpImm) ((f.xf10 p1).map fun v => .fcmpGT (.imm v) f.rn)
    | true => onlyIf (!wq && slice p1 8 8 == 0#8 && Config.features.fpImm) ((f.xf10 p1).map fun v => .fadd f.rn (.imm v) f.rn 0#8)
  | 15#4 => match f.q with
    | false => onlyIf (!wq && slice p1 8 8 == 0#8 && Config.features.fpImm) ((f.xf10 p1).map fun v => .fcmpGE v f.rn)
    | true => onlyIf (!wq && slice p1 8 8 == 0#8 && Config.features.fpImm) ((f.xf10 p1).map fun v => .fmul f.rn (.imm v) f.rn 0#8)
  | _ => none
/-- Forms behind an Op64 prefix, F2 block, Z = E. -/
def op64F2zE (f : Fields) (wq : Bool) (p1 : Half) : Option Instr :=
  match f.m with
  | 4#4 => match f.q with
    | false => onlyIf (!wq && slice p1 8 8 == 0#8) ((f.x10 p1).map fun v => .brEQL f.rn v)
    | true => onlyIf (!wq && slice p1 8 8 == 0#8) ((f.x10 p1).map fun v => .brEQQ f.rn v)
  | 5#4 => match f.q with
    | false => onlyIf (!wq && slice p1 8 8 == 0#8) ((f.x10n p1).map fun v => .brEQL f.rn v)
    | true => onlyIf (!wq && slice p1 8 8 == 0#8) ((f.x10n p1).map fun v => .brEQQ f.rn v)
  | 6#4 => match f.q with
    | false => onlyIf (!wq && slice p1 8 8 == 0#8) ((f.x10 p1).map fun v => .brNEL f.rn v)
    | true => onlyIf (!wq && slice p1 8 8 == 0#8) ((f.x10 p1).map fun v => .brNEQ f.rn v)
  | 7#4 => match f.q with
    | false => onlyIf (!wq && slice p1 8 8 == 0#8) ((f.x10n p1).map fun v => .brNEL f.rn v)
    | true => onlyIf (!wq && slice p1 8 8 == 0#8) ((f.x10n p1).map fun v => .brNEQ f.rn v)
  | 8#4 => match f.q with
    | false => onlyIf (!wq && slice p1 8 8 == 0#8) ((f.x10 p1).map fun v => .brLTL f.rn v)
    | true => onlyIf (!wq && slice p1 8 8 == 0#8) ((f.x10 p1).map fun v => .brLTQ f.rn v)
  | 9#4 => match f.q with
    | false => onlyIf (!wq && slice p1 8 8 == 0#8) ((f.x10n p1).map fun v => .brLTL f.rn v)
    | true => onlyIf (!wq && slice p1 8 8 == 0#8) ((f.x10n p1).map fun v => .brLTQ f.rn v)
  | 10#4 => match f.q with
    | false => onlyIf (!wq && slice p1 8 8 == 0#8) ((f.x10 p1).map fun v => .brGEL f.rn v)
    | true => onlyIf (!wq && slice p1 8 8 == 0#8) ((f.x10 p1).map fun v => .brGEQ f.rn v)
  | 11#4 => match f.q with
    | false => onlyIf (!wq && slice p1 8 8 == 0#8) ((f.x10n p1).map fun v => .brGEL f.rn v)
    | true => onlyIf (!wq && slice p1 8 8 == 0#8) ((f.x10n p1).map fun v => .brGEQ f.rn v)
  | 12#4 => match f.q with
    | false => onlyIf (!wq && slice p1 8 8 == 0#8) ((f.x10 p1).map fun v => .brLEL f.rn v)
    | true => onlyIf (!wq && slice p1 8 8 == 0#8) ((f.x10 p1).map fun v => .brLEQ f.rn v)
  | 13#4 => match f.q with
    | false => onlyIf (!wq && slice p1 8 8 == 0#8) ((f.x10n p1).map fun v => .brLEL f.rn v)
    | true => onlyIf (!wq && slice p1 8 8 == 0#8) ((f.x10n p1).map fun v => .brLEQ f.rn v)
  | 14#4 => match f.q with
    | false => onlyIf (!wq && slice p1 8 8 == 0#8) ((f.x10 p1).map fun v => .brGTL f.rn v)
    | true => onlyIf (!wq && slice p1 8 8 == 0#8) ((f.x10 p1).map fun v => .brGTQ f.rn v)
  | 15#4 => match f.q with
    | false => onlyIf (!wq && slice p1 8 8 == 0#8) ((f.x10n p1).map fun v => .brGTL f.rn v)
    | true => onlyIf (!wq && slice p1 8 8 == 0#8) ((f.x10n p1).map fun v => .brGTQ f.rn v)
  | _ => none
/-- Forms behind an Op64 prefix, F2 block. -/
def op64F2 (f : Fields) (wq : Bool) (p1 : Half) : Option Instr :=
  match f.z with
  | 0#4 => op64F2z0 f wq p1
  | 1#4 => op64F2z1 f wq p1
  | 2#4 => op64F2z2 f wq p1
  | 3#4 => op64F2z3 f wq p1
  | 4#4 => op64F2z4 f wq p1
  | 5#4 => op64F2z5 f wq p1
  | 6#4 => op64F2z6 f wq p1
  | 7#4 => op64F2z7 f wq p1
  | 8#4 => op64F2z8 f wq p1
  | 9#4 => op64F2z9 f wq p1
  | 12#4 => op64F2zC f wq p1
  | 13#4 => op64F2zD f wq p1
  | 14#4 => op64F2zE f wq p1
  | _ => none
/-- Forms behind an Op64 prefix, F8 block (R116, R188). -/
def op64F8 (f : Fields) (wq : Bool) (p1 : Half) : Option Instr :=
  match f.n with
  | 0#4 => onlyIf (!wq && slice p1 8 8 == 0#8) ((f.x16u p1).map fun v => .ldiz v f.r8)
  | 1#4 => onlyIf (!wq && slice p1 8 8 == 0#8) ((f.x16u p1).map fun v => .ldiz v f.r8)
  | 2#4 => onlyIf (!wq && slice p1 8 8 == 0#8) ((f.x16n p1).map fun v => .ldin v f.r8)
  | 3#4 => onlyIf (!wq && slice p1 8 8 == 0#8) ((f.x16n p1).map fun v => .ldin v f.r8)
  | 4#4 => (onlyIf (!wq) ((f.x32 p1 3#2).map fun v => .xmovTTImm v (pairOf f.r8))) <|> (onlyIf (!wq && slice p1 8 8 == 0#8) ((f.x16s p1).map fun v => .add f.r8 (.imm v) f.r8))
  | 5#4 => onlyIf (!wq && slice p1 8 8 == 0#8) ((f.x16s p1).map fun v => .add f.r8 (.imm v) f.r8)
  | 6#4 => onlyIf (!wq && slice p1 8 8 == 0#8) ((f.x16u p1).map fun v => .ldish16 v f.r8)
  | 7#4 => onlyIf (!wq && slice p1 8 8 == 0#8) ((f.x16u p1).map fun v => .ldish16 v f.r8)
  | 8#4 => (onlyIf (!wq) ((f.x32 p1 1#2).map fun v => .pldcHImm v f.r8)) <|> (onlyIf (!wq) ((f.x32 p1 2#2).map fun v => .pldcM8SHImm v f.r8)) <|> (onlyIf (!wq) ((f.x32 p1 3#2).map fun v => .pldcM8UHImm v f.r8)) <|> (onlyIf (!wq) ((f.x32 p1 0#2).map fun v => .fldcfImm v f.r8))
  | 9#4 => onlyIf (!wq) ((f.x32 p1 0#2).map fun v => .fldcfImm v f.r8)
  | 10#4 => onlyIf (!wq && slice p1 8 8 == 0#8) ((f.x16u p1).map fun v => .leaQ f.r8 (.gbr v))
  | 11#4 => onlyIf (!wq && slice p1 8 8 == 0#8) ((f.x16u p1).map fun v => .leaQ f.r8 (.gbr v))
  | _ => none

/-- Whether the E ranges may hold an instruction: not one that reads or writes SR.T, nor, but for BRA, BSR and the register
jumps, control flow (R136). DESIGN CHOICE (log 62): TRAP, BREAK,
SLEEP, SXENTR, SUENTR and SVENTR may be predicated; PCSELT.W, PSELT.W and PSELF.W, which read P to O, count as "CSELT and
similar" and may not. -/
def predicable : Instr → Bool
  | .add _ _ _ => true
  | .adc _ _ => false
  | .addsL _ _ _ => true
  | .adduL _ _ _ => true
  | .sub _ _ _ => true
  | .subsL _ _ _ => true
  | .subuL _ _ _ => true
  | .sbb _ _ => false
  | .subP _ _ _ => true
  | .subxP _ _ _ => true
  | .and _ _ _ => true
  | .or _ _ _ => true
  | .xor _ _ _ => true
  | .bswapuL _ _ => true
  | .bswapQ _ _ => true
  | .not _ _ => true
  | .neg _ _ => true
  | .negc _ => false
  | .nop => true
  | .nop3r _ => true
  | .nop3rrr _ _ _ => true
  | .mov _ _ => true
  | .movx _ _ => true
  | .movd _ _ => true
  | .extsB _ _ => true
  | .extsW _ _ => true
  | .extsL _ _ => true
  | .extuB _ _ => true
  | .extuW _ _ => true
  | .extuL _ _ => true
  | .cselt _ _ _ => false
  | .min _ _ _ => true
  | .max _ _ _ => true
  | .clz _ _ => true
  | .clzq _ _ => true
  | .ctz _ _ => true
  | .ctzq _ _ => true
  | .btrns _ _ => true
  | .btrnsq _ _ => true
  | .bcdadc _ _ => false
  | .bcdsbb _ _ => false
  | .bitnn _ _ _ => true
  | .pmortL _ _ => true
  | .pmortQ _ _ => true
  | .bitsel _ _ _ => true
  | .bitselx _ _ _ => true
  | .bitmovImm _ _ _ _ => true
  | .bitmovReg _ _ _ _ => true
  | .bitmovxImm _ _ _ _ => true
  | .bitmovxReg _ _ _ _ => true
  | .bitmovsImm _ _ _ _ => true
  | .bitmovsReg _ _ _ _ => true
  | .bitmovsxImm _ _ _ _ => true
  | .bitmovsxReg _ _ _ _ => true
  | .adcL _ _ => false
  | .sbbL _ _ => false
  | .cmpEQ _ _ _ => false
  | .cmpEQS _ _ => false
  | .cmpGT _ _ _ => false
  | .cmpGTS _ _ => false
  | .cmpHI _ _ _ => false
  | .cmpHIS _ _ => false
  | .cmpGE _ _ _ => false
  | .cmpGES _ _ => false
  | .cmpHS _ _ _ => false
  | .cmpHSS _ _ => false
  | .cmpQEQ _ _ _ => false
  | .cmpQEQS _ _ => false
  | .cmpQGT _ _ _ => false
  | .cmpQGTS _ _ => false
  | .cmpQHI _ _ _ => false
  | .cmpQHIS _ _ => false
  | .cmpQGE _ _ _ => false
  | .cmpQGES _ _ => false
  | .cmpQHS _ _ _ => false
  | .cmpQHSS _ _ => false
  | .tst _ _ _ => false
  | .tstS _ _ => false
  | .tstQ _ _ _ => false
  | .tstQS _ _ => false
  | .cmpPEQ _ _ => false
  | .cmpPEQX _ _ => false
  | .cmpPGT _ _ => false
  | .cmpPGTX _ _ => false
  | .cmp3EQ _ _ _ => true
  | .cmp3GT _ _ _ => true
  | .cmp3NE _ _ _ => true
  | .cmp3LT _ _ _ => true
  | .cmp3GE _ _ _ => true
  | .cmp3HI _ _ _ => true
  | .cmp3BI _ _ _ => true
  | .clrT => false
  | .setT => false
  | .clrS => true
  | .setS => true
  | .notT => false
  | .notS => true
  | .srtprop _ => false
  | .srttwid _ => false
  | .movT _ => false
  | .movNT _ => false
  | .shad _ _ _ => true
  | .shadq _ _ _ => true
  | .shadx _ _ _ => true
  | .shld _ _ _ => true
  | .shldq _ _ _ => true
  | .shldx _ _ _ => true
  | .shar _ _ _ => true
  | .sharq _ _ _ => true
  | .sharx _ _ _ => true
  | .shlr _ _ _ => true
  | .shlrq _ _ _ => true
  | .shlrx _ _ _ => true
  | .rotclL _ => false
  | .rotclQ _ => false
  | .rotcrL _ => false
  | .rotcrQ _ => false
  | .rotl _ => true
  | .rotr _ => true
  | .rotlQ _ _ _ => true
  | .rotlL _ _ _ => true
  | .rotlx _ _ _ => true
  | .rotrQ _ _ _ => true
  | .muls _ _ _ => true
  | .mulu _ _ _ => true
  | .mulsQ _ _ _ => true
  | .muluQ _ _ _ => true
  | .mulhsQ _ _ _ => true
  | .mulhuQ _ _ _ => true
  | .dmulsL _ _ _ => true
  | .dmuluL _ _ _ => true
  | .mulsW _ _ _ => true
  | .muluW _ _ _ => true
  | .muluX _ _ => true
  | .mulhuX _ _ => true
  | .macsL _ _ _ _ => true
  | .macuL _ _ _ _ => true
  | .dmacsL _ _ _ _ => true
  | .dmacuL _ _ _ _ => true
  | .divsQ _ _ _ => true
  | .divuQ _ _ _ => true
  | .divsL _ _ _ => true
  | .divuL _ _ _ => true
  | .modsQ _ _ _ => true
  | .moduQ _ _ _ => true
  | .modsL _ _ _ => true
  | .moduL _ _ _ => true
  | .div0 => false
  | .div1 => false
  | .ldiz _ _ => true
  | .ldin _ _ => true
  | .ldi8 _ _ => true
  | .ldi64 _ _ => true
  | .ldimiz _ _ => true
  | .ldimin _ _ => true
  | .ldish _ _ => true
  | .ldihi _ _ => true
  | .ldihiL _ _ => true
  | .ldihiq _ _ => true
  | .ldihiQ _ _ => true
  | .ldish16 _ _ => true
  | .ldiroz _ _ => true
  | .ldirozq _ _ => true
  | .ldiron _ _ => true
  | .ldironq _ _ => true
  | .movB _ _ _ => true
  | .movW _ _ _ => true
  | .movL _ _ _ => true
  | .movQ _ _ _ => true
  | .movuB _ _ => true
  | .movuW _ _ => true
  | .movuL _ _ => true
  | .movnL _ _ => true
  | .leaB _ _ => true
  | .leaW _ _ => true
  | .leaL _ _ => true
  | .leaQ _ _ => true
  | .movX _ _ _ => true
  | .movC _ _ _ => true
  | .movTW _ _ _ => true
  | .movuTW _ _ => true
  | .movHTW _ _ _ => true
  | .xmovB _ _ _ => true
  | .xmovW _ _ _ => true
  | .xmovL _ _ _ => true
  | .xmovQ _ _ _ => true
  | .xmovX _ _ _ => true
  | .ldop _ _ _ _ _ => true
  | .ldtex _ _ _ _ => true
  | .rbsldQ _ _ => true
  | .rbsldX _ _ => true
  | .rbsstQ _ _ => true
  | .rbsstX _ _ => true
  | .bra _ => true
  | .jmp _ => true
  | .jmpAbs _ => false
  | .bsr _ => true
  | .jsr _ => true
  | .jsrAbs _ => false
  | .rts => false
  | .rtsu => false
  | .bt _ => false
  | .bf _ => false
  | .jt _ => false
  | .jf _ => false
  | .braL _ => false
  | .bsrL _ => false
  | .btL _ => false
  | .bfL _ => false
  | .jmpmd _ _ => false
  | .jsrmd _ _ => false
  | .brEQL _ _ => false
  | .brEQQ _ _ => false
  | .brNEL _ _ => false
  | .brNEQ _ _ => false
  | .brLTL _ _ => false
  | .brLTQ _ _ => false
  | .brGEL _ _ => false
  | .brGEQ _ _ => false
  | .brLEL _ _ => false
  | .brLEQ _ _ => false
  | .brGTL _ _ => false
  | .brGTQ _ _ => false
  | .jtstT _ _ _ => false
  | .jtstQT _ _ _ => false
  | .jtstF _ _ _ => false
  | .jtstQF _ _ _ => false
  | .jcmpGT _ _ _ => false
  | .jcmpQGT _ _ _ => false
  | .jcmpLE _ _ _ => false
  | .jcmpQLE _ _ _ => false
  | .jcmpHI _ _ _ => false
  | .jcmpQHI _ _ _ => false
  | .jcmpLS _ _ _ => false
  | .jcmpQLS _ _ _ => false
  | .jcmpEQ _ _ _ => false
  | .jcmpQEQ _ _ _ => false
  | .jcmpNE _ _ _ => false
  | .jcmpQNE _ _ _ => false
  | .jcmpz _ _ _ _ => false
  | .movToC _ _ => true
  | .movFromC _ _ => true
  | .movToS _ _ => true
  | .movFromS _ _ => true
  | .breakOp => true
  | .break2 => true
  | .sleep => true
  | .rte => false
  | .cpuid _ => true
  | .invtlb => true
  | .invic _ => true
  | .invdc _ => true
  | .ldtlb => true
  | .ldxtlb => true
  | .snipedc _ _ => true
  | .snipeic _ _ => true
  | .ldacl => true
  | .ldekrr => true
  | .svekrr => true
  | .ldekey => true
  | .ldeenc => true
  | .sxentr => true
  | .suentr => true
  | .sventr => true
  | .trapImm _ => true
  | .trapReg _ => true
  | .trapPair _ => true
  | .settrap _ _ => true
  | .vskg _ _ => true
  | .vskc _ _ => true
  | .xbless _ _ => true
  | .wexmd _ => true
  | .bndchkB _ _ => true
  | .bndchkW _ _ => true
  | .bndchkImm _ _ => true
  | .bndchkL _ _ => true
  | .bndchkQ _ _ => true
  | .bndcmpB _ _ => false
  | .bndcmpW _ _ => false
  | .bndcmpL _ _ => false
  | .bndcmpQ _ _ => false
  | .bndcmpImm _ _ => false
  | .leatB _ _ => true
  | .leatW _ _ => true
  | .leatL _ _ => true
  | .leatQ _ _ => true
  | .cmpTAEQ _ _ => false
  | .cmpTAHI _ _ => false
  | .cmpTAHS _ _ => false
  | .cmpTTEQ _ _ => false
  | .convfxi _ _ => true
  | .convfli _ _ => true
  | .movST _ _ => true
  | .xmovST _ _ => true
  | .movZT _ _ => true
  | .xmovZT _ _ => true
  | .movTTReg _ _ _ => true
  | .movTTTag _ _ _ => true
  | .movTTImm _ _ _ => true
  | .xmovTTReg _ _ _ => true
  | .xmovTTImm _ _ => true
  | .movHD2 _ _ => true
  | .movLD2 _ _ => true
  | .movHLD2 _ _ => true
  | .movLHD2 _ _ => true
  | .movHD _ _ _ => true
  | .movLD _ _ _ => true
  | .movHLD _ _ _ => true
  | .movLHD _ _ _ => true
  | .movHW _ _ _ => true
  | .movLW _ _ _ => true
  | .paddW _ _ _ => true
  | .paddL _ _ _ => true
  | .paddF _ _ _ => true
  | .paddxF _ _ _ => true
  | .paddH _ _ _ => true
  | .paddxD _ _ _ => true
  | .psubF _ _ _ => true
  | .psubxF _ _ _ => true
  | .psubH _ _ _ => true
  | .psubxD _ _ _ => true
  | .pmulF _ _ _ => true
  | .pmulxF _ _ _ => true
  | .pmulH _ _ _ => true
  | .pmulxD _ _ _ => true
  | .psubW _ _ _ => true
  | .psubL _ _ _ => true
  | .paddXrm _ _ _ _ => true
  | .paddxXrm _ _ _ _ => true
  | .pmulXrm _ _ _ _ => true
  | .pmulxXrm _ _ _ _ => true
  | .pmulsW _ _ _ => true
  | .pmuluW _ _ _ => true
  | .pmulsLW _ _ _ => true
  | .pmuluLW _ _ _ => true
  | .pmulsHW _ _ _ => true
  | .pmuluHW _ _ _ => true
  | .pcmpEQH _ _ => false
  | .pcmpEQF _ _ => false
  | .pcmpGTH _ _ => false
  | .pcmpGTF _ _ => false
  | .pcmpEQW _ _ => false
  | .pcmpEQL _ _ => false
  | .pcmpHIW _ _ => false
  | .pcmpHIL _ _ => false
  | .pcmpGTW _ _ => false
  | .pcmpGTL _ _ => false
  | .pcseltW _ _ _ => false
  | .pcseltL _ _ _ => false
  | .pselTW _ _ => false
  | .pselFW _ _ => false
  | .pselTL _ _ => false
  | .pselFL _ _ => false
  | .pdottH _ _ => false
  | .pdottF _ _ => false
  | .pstcF8H _ _ => true
  | .pldcF8H _ _ => true
  | .pldcH _ _ => true
  | .pldcHH _ _ => true
  | .pldcEHL _ _ => true
  | .pldcEHH _ _ => true
  | .pstcH _ _ => true
  | .pldcM8SH _ _ => true
  | .pldcM8UH _ _ => true
  | .pstcM8SH _ _ => true
  | .pstcM8UH _ _ => true
  | .prcpaH _ _ => true
  | .prcpaF _ _ => true
  | .preluH _ _ => true
  | .preluF _ _ => true
  | .pshalW _ _ => true
  | .pshllW _ _ => true
  | .psharW _ _ => true
  | .pshlrW _ _ => true
  | .psqrtaH _ _ => true
  | .psqrtuaH _ _ => true
  | .psqrtaF _ _ => true
  | .psqrtuaF _ _ => true
  | .pldcHImm _ _ => true
  | .pldcM8SHImm _ _ => true
  | .pldcM8UHImm _ _ => true
  | .pshufB _ _ _ => true
  | .pshufW _ _ _ => true
  | .pshufW33 _ _ _ => true
  | .pshufW17 _ _ _ => true
  | .pscheqW _ _ _ => false
  | .pscheqB _ _ _ => false
  | .pschneW _ _ _ => false
  | .pschneB _ _ _ => false
  | .swapB _ _ => true
  | .swapW _ _ => true
  | .swap8B _ _ => true
  | .swapL _ _ => true
  | .swapLB _ _ => true
  | .swapLW _ _ => true
  | .swcpLB _ _ => true
  | .swcpLW _ _ => true
  | .swapMB _ _ => true
  | .swapMW _ _ => true
  | .swcpMB _ _ => true
  | .swcpMW _ _ => true
  | .swapHB _ _ => true
  | .swapHW _ _ => true
  | .swcpHB _ _ => true
  | .swcpHW _ _ => true
  | .paddshxX _ _ _ _ => true
  | .psubshxX _ _ _ _ => true
  | .pmulshxX _ _ _ _ => true
  | .paddshH _ _ _ _ => true
  | .psubshH _ _ _ _ => true
  | .pmulshH _ _ _ _ => true
  | .pmacshHV _ _ _ => true
  | .pmacshFV _ _ _ => true
  | .paddHV _ _ _ => true
  | .paddFV _ _ _ => true
  | .pmulHV _ _ _ => true
  | .pmulFV _ _ _ => true
  | .paddshHV _ _ _ => true
  | .paddshFV _ _ _ => true
  | .pmulshHV _ _ _ => true
  | .pmulshFV _ _ _ => true
  | .pmulF8H _ _ _ => true
  | .pmultxL _ _ _ => true
  | .pmultW _ _ _ => true
  | .rgb5pck32 _ _ => true
  | .rgb5pck64 _ _ => true
  | .rgb5upck32 _ _ => true
  | .rgb5upck64 _ _ => true
  | .rgb32pck64 _ _ => true
  | .rgb32upck64 _ _ => true
  | .rgb5shr1 _ _ => true
  | .rgb5minmax _ _ => true
  | .rgb5pcki8 _ _ => true
  | .rgb5sh3 _ _ => true
  | .rgb5ush3 _ _ => true
  | .pldcm30ah _ _ => true
  | .pstcm30ah _ _ => true
  | .rgb5ccenc _ _ _ => true
  | .blerp _ _ _ => true
  | .blerp4 _ _ _ _ _ => true
  | .blkutx2 _ _ _ => true
  | .blkutx1 _ _ _ => true
  | .blkutx3h _ _ _ => true
  | .blkutx3l _ _ _ => true
  | .blkuvf1VL _ _ _ => true
  | .blkuvf1VH _ _ _ => true
  | .blkuvf1SL _ _ _ => true
  | .blkuvf1SH _ _ _ => true
  | .blkuab1 _ _ _ => true
  | .blkuab2 _ _ _ => true
  | .fabs _ _ => true
  | .fneg _ _ => true
  | .fmin _ _ _ => true
  | .fmax _ _ _ => true
  | .fadd _ _ _ _ => true
  | .faddx _ _ _ _ => true
  | .faddg _ _ _ => true
  | .fadda _ _ _ => true
  | .fsub _ _ _ _ => true
  | .fsubx _ _ _ _ => true
  | .fsubg _ _ _ => true
  | .fsuba _ _ _ => true
  | .fmul _ _ _ _ => true
  | .fmulx _ _ _ _ => true
  | .fmulg _ _ _ => true
  | .fmula _ _ _ => true
  | .fcmpEQ _ _ => false
  | .fcmpXEQ _ _ => false
  | .fcmpGE _ _ => false
  | .fcmpGT _ _ => false
  | .fcmpXGT _ _ => false
  | .fdiv _ _ _ => true
  | .fdivx _ _ _ => true
  | .fdiva _ _ _ => true
  | .fdivxa _ _ _ => true
  | .fsqrt _ _ => true
  | .fsqrtx _ _ => true
  | .fsqrta _ _ => true
  | .fsqrtxa _ _ => true
  | .fldcf _ _ => true
  | .fldchf _ _ => true
  | .fldci _ _ => true
  | .fldch _ _ => true
  | .fldciu _ _ => true
  | .fldcisL _ _ => true
  | .fldciuL _ _ => true
  | .fldchImm _ _ => true
  | .fldcfImm _ _ => true
  | .fstcf _ _ => true
  | .fstchf _ _ => true
  | .fstci _ _ => true
  | .fstch _ _ => true
  | .fmac _ _ _ _ => true
  | .fmacx _ _ _ _ => true
  | .fmas _ _ _ _ => true
  | .fmasx _ _ _ _ => true
  | .fmrs _ _ _ _ => true
  | .fmrsx _ _ _ _ => true
  | .fmra _ _ _ _ => true
  | .fmrax _ _ _ _ => true
  | .pmacH _ _ _ _ => true
  | .pmacF _ _ _ _ => true
  | .pmasH _ _ _ _ => true
  | .pmasF _ _ _ _ => true
  | .pmrsH _ _ _ _ => true
  | .pmrsF _ _ _ _ => true
  | .pmraH _ _ _ _ => true
  | .pmraF _ _ _ _ => true
  | .pconv _ _ _ => true
  | .pconvx _ _ _ => true
  | .pcvtSB2HL _ _ => true
  | .pcvtUB2HL _ _ => true
  | .pcvtSB2HH _ _ => true
  | .pcvtUB2HH _ _ => true
  | .pcvtSW2FL _ _ => true
  | .pcvtUW2FL _ _ => true
  | .pcvtSW2FH _ _ => true
  | .pcvtUW2FH _ _ => true
  | .pcvtH2SB _ _ => true
  | .pcvtH2UB _ _ => true
  | .pcvtSW2H _ _ => true
  | .pcvtUW2H _ _ => true
  | .pcvtF2SW _ _ => true
  | .pcvtF2UW _ _ => true
  | .pcvtH2SW _ _ => true
  | .pcvtH2UW _ _ => true
  | .pcvtH2AL _ _ => true
  | .pcvtAL2H _ _ => true

/-- Whether the group an instruction belongs to is there: a form of a group that is not is undefined (R151;
00_scope.md R8). An instruction whose only rows are dropped, maydrop, unknown or contested also asks Config.acceptDropped
(R12, R150; log 6), and so do SRTPROP, MOVT and MOVNT, whose rules R296 and R300 say status unknown; such a row of another
instruction asks it in its table. DESIGN CHOICE (log 5): GSVX gates nothing, since no row carries its tag and the 128-bit
packed rows carry GSVFX, which R670 makes of GSV and GFPX. -/
def implemented : Instr → Bool
  | .add _ _ _ => true
  | .adc _ _ => true
  | .addsL _ _ _ => true
  | .adduL _ _ _ => true
  | .sub _ _ _ => true
  | .subsL _ _ _ => true
  | .subuL _ _ _ => true
  | .sbb _ _ => true
  | .subP _ _ _ => Config.features.aluptr
  | .subxP _ _ _ => Config.features.aluptr && Config.features.alux
  | .and _ _ _ => true
  | .or _ _ _ => true
  | .xor _ _ _ => true
  | .bswapuL _ _ => Config.features.ttag
  | .bswapQ _ _ => Config.features.ttag
  | .not _ _ => true
  | .neg _ _ => true
  | .negc _ => true
  | .nop => true
  | .nop3r _ => Config.features.wex2
  | .nop3rrr _ _ _ => true
  | .mov _ _ => true
  | .movx _ _ => Config.features.movx2
  | .movd _ _ => true
  | .extsB _ _ => true
  | .extsW _ _ => true
  | .extsL _ _ => true
  | .extuB _ _ => true
  | .extuW _ _ => true
  | .extuL _ _ => true
  | .cselt _ _ _ => true
  | .min _ _ _ => Config.features.minmax
  | .max _ _ _ => Config.features.minmax
  | .clz _ _ => Config.features.clz
  | .clzq _ _ => Config.features.clz
  | .ctz _ _ => Config.features.clz
  | .ctzq _ _ => Config.features.clz
  | .btrns _ _ => Config.features.clz
  | .btrnsq _ _ => Config.features.clz
  | .bcdadc _ _ => Config.features.bcd
  | .bcdsbb _ _ => Config.features.bcd
  | .bitnn _ _ _ => Config.features.bitnn
  | .pmortL _ _ => Config.features.gsv && Config.features.pmort
  | .pmortQ _ _ => Config.features.gsv && Config.features.pmort
  | .bitsel _ _ _ => Config.features.bits
  | .bitselx _ _ _ => Config.features.bits
  | .bitmovImm _ _ _ _ => Config.features.bits
  | .bitmovReg _ _ _ _ => Config.features.bits
  | .bitmovxImm _ _ _ _ => Config.features.bits
  | .bitmovxReg _ _ _ _ => Config.features.bits
  | .bitmovsImm _ _ _ _ => Config.features.bits
  | .bitmovsReg _ _ _ _ => Config.features.bits
  | .bitmovsxImm _ _ _ _ => Config.features.bits
  | .bitmovsxReg _ _ _ _ => Config.features.bits
  | .adcL _ _ => Config.acceptDropped
  | .sbbL _ _ => Config.acceptDropped
  | .cmpEQ _ _ _ => true
  | .cmpEQS _ _ => Config.features.predS
  | .cmpGT _ _ _ => true
  | .cmpGTS _ _ => Config.features.predS
  | .cmpHI _ _ _ => true
  | .cmpHIS _ _ => Config.features.predS
  | .cmpGE _ _ _ => true
  | .cmpGES _ _ => Config.features.predS
  | .cmpHS _ _ _ => true
  | .cmpHSS _ _ => Config.features.predS
  | .cmpQEQ _ _ _ => true
  | .cmpQEQS _ _ => Config.features.predS
  | .cmpQGT _ _ _ => true
  | .cmpQGTS _ _ => Config.features.predS
  | .cmpQHI _ _ _ => true
  | .cmpQHIS _ _ => Config.features.predS
  | .cmpQGE _ _ _ => true
  | .cmpQGES _ _ => Config.features.predS
  | .cmpQHS _ _ _ => true
  | .cmpQHSS _ _ => Config.features.predS
  | .tst _ _ _ => true
  | .tstS _ _ => Config.features.predS
  | .tstQ _ _ _ => true
  | .tstQS _ _ => Config.features.predS
  | .cmpPEQ _ _ => Config.features.aluptr
  | .cmpPEQX _ _ => Config.features.aluxptr && Config.features.alux && Config.features.aluptr
  | .cmpPGT _ _ => Config.features.aluptr
  | .cmpPGTX _ _ => Config.features.aluxptr && Config.features.alux && Config.features.aluptr
  | .cmp3EQ _ _ _ => Config.features.cmp3r
  | .cmp3GT _ _ _ => Config.features.cmp3r
  | .cmp3NE _ _ _ => Config.features.cmp3r
  | .cmp3LT _ _ _ => Config.features.cmp3r
  | .cmp3GE _ _ _ => Config.features.cmp3r
  | .cmp3HI _ _ _ => Config.features.cmp3r
  | .cmp3BI _ _ _ => Config.features.cmp3r
  | .clrT => true
  | .setT => true
  | .clrS => true
  | .setS => true
  | .notT => true
  | .notS => true
  | .srtprop _ => Config.acceptDropped
  | .srttwid _ => true
  | .movT _ => Config.acceptDropped
  | .movNT _ => Config.acceptDropped
  | .shad _ _ _ => true
  | .shadq _ _ _ => true
  | .shadx _ _ _ => Config.features.alux
  | .shld _ _ _ => true
  | .shldq _ _ _ => true
  | .shldx _ _ _ => Config.features.alux
  | .shar _ _ _ => true
  | .sharq _ _ _ => true
  | .sharx _ _ _ => Config.features.alux
  | .shlr _ _ _ => true
  | .shlrq _ _ _ => true
  | .shlrx _ _ _ => Config.features.alux
  | .rotclL _ => true
  | .rotclQ _ => true
  | .rotcrL _ => true
  | .rotcrQ _ => true
  | .rotl _ => true
  | .rotr _ => true
  | .rotlQ _ _ _ => true
  | .rotlL _ _ _ => true
  | .rotlx _ _ _ => Config.features.alux
  | .rotrQ _ _ _ => true
  | .muls _ _ _ => true
  | .mulu _ _ _ => true
  | .mulsQ _ _ _ => Config.features.mulq
  | .muluQ _ _ _ => Config.features.mulq
  | .mulhsQ _ _ _ => Config.features.mulq
  | .mulhuQ _ _ _ => Config.features.mulq
  | .dmulsL _ _ _ => Config.features.mull
  | .dmuluL _ _ _ => Config.features.mull
  | .mulsW _ _ _ => Config.features.mulw
  | .muluW _ _ _ => Config.features.mulw
  | .muluX _ _ => Config.features.mulx
  | .mulhuX _ _ => Config.features.mulx
  | .macsL _ _ _ _ => Config.features.dmac
  | .macuL _ _ _ _ => Config.features.dmac
  | .dmacsL _ _ _ _ => Config.features.dmac
  | .dmacuL _ _ _ _ => Config.features.dmac
  | .divsQ _ _ _ => Config.features.mulq
  | .divuQ _ _ _ => Config.features.mulq
  | .divsL _ _ _ => Config.features.mulq
  | .divuL _ _ _ => Config.features.mulq
  | .modsQ _ _ _ => Config.features.mulq
  | .moduQ _ _ _ => Config.features.mulq
  | .modsL _ _ _ => Config.features.mulq
  | .moduL _ _ _ => Config.features.mulq
  | .div0 => Config.features.div && Config.acceptDropped
  | .div1 => Config.features.div && Config.acceptDropped
  | .ldiz _ _ => true
  | .ldin _ _ => true
  | .ldi8 _ _ => true
  | .ldi64 _ _ => true
  | .ldimiz _ _ => true
  | .ldimin _ _ => true
  | .ldish _ _ => true
  | .ldihi _ _ => true
  | .ldihiL _ _ => true
  | .ldihiq _ _ => true
  | .ldihiQ _ _ => true
  | .ldish16 _ _ => true
  | .ldiroz _ _ => Config.acceptDropped
  | .ldirozq _ _ => Config.acceptDropped
  | .ldiron _ _ => Config.acceptDropped
  | .ldironq _ _ => Config.acceptDropped
  | .movB _ _ _ => true
  | .movW _ _ _ => true
  | .movL _ _ _ => true
  | .movQ _ _ _ => true
  | .movuB _ _ => true
  | .movuW _ _ => true
  | .movuL _ _ => true
  | .movnL _ _ => true
  | .leaB _ _ => true
  | .leaW _ _ => true
  | .leaL _ _ => true
  | .leaQ _ _ => true
  | .movX _ _ _ => Config.features.movx2
  | .movC _ _ _ => true
  | .movTW _ _ _ => Config.features.ldst48
  | .movuTW _ _ => Config.features.ldst48
  | .movHTW _ _ _ => Config.features.ldst48
  | .xmovB _ _ _ => Config.features.xmov && Config.acceptDropped
  | .xmovW _ _ _ => Config.features.xmov && Config.acceptDropped
  | .xmovL _ _ _ => Config.features.xmov && Config.acceptDropped
  | .xmovQ _ _ _ => Config.features.xmov && Config.acceptDropped
  | .xmovX _ _ _ => Config.features.xmov && Config.acceptDropped
  | .ldop _ _ _ _ _ => Config.features.ldOp && Config.features.riMov
  | .ldtex _ _ _ _ => Config.features.ldtex
  | .rbsldQ _ _ => Config.features.rbs
  | .rbsldX _ _ => Config.features.rbs
  | .rbsstQ _ _ => Config.features.rbs
  | .rbsstX _ _ => Config.features.rbs
  | .bra _ => true
  | .jmp _ => true
  | .jmpAbs _ => true
  | .bsr _ => true
  | .jsr _ => true
  | .jsrAbs _ => true
  | .rts => true
  | .rtsu => true
  | .bt _ => true
  | .bf _ => true
  | .jt _ => Config.acceptDropped
  | .jf _ => Config.acceptDropped
  | .braL _ => true
  | .bsrL _ => true
  | .btL _ => Config.acceptDropped
  | .bfL _ => Config.acceptDropped
  | .jmpmd _ _ => true
  | .jsrmd _ _ => true
  | .brEQL _ _ => Config.features.jcmp && Config.features.jcmpz
  | .brEQQ _ _ => Config.features.jcmp && Config.features.jcmpz
  | .brNEL _ _ => Config.features.jcmp && Config.features.jcmpz
  | .brNEQ _ _ => Config.features.jcmp && Config.features.jcmpz
  | .brLTL _ _ => Config.features.jcmp && Config.features.jcmpz
  | .brLTQ _ _ => Config.features.jcmp && Config.features.jcmpz
  | .brGEL _ _ => Config.features.jcmp && Config.features.jcmpz
  | .brGEQ _ _ => Config.features.jcmp && Config.features.jcmpz
  | .brLEL _ _ => Config.features.jcmp && Config.features.jcmpz
  | .brLEQ _ _ => Config.features.jcmp && Config.features.jcmpz
  | .brGTL _ _ => Config.features.jcmp && Config.features.jcmpz
  | .brGTQ _ _ => Config.features.jcmp && Config.features.jcmpz
  | .jtstT _ _ _ => Config.features.jcmp
  | .jtstQT _ _ _ => Config.features.jcmp
  | .jtstF _ _ _ => Config.features.jcmp
  | .jtstQF _ _ _ => Config.features.jcmp
  | .jcmpGT _ _ _ => Config.features.jcmp
  | .jcmpQGT _ _ _ => Config.features.jcmp
  | .jcmpLE _ _ _ => Config.features.jcmp
  | .jcmpQLE _ _ _ => Config.features.jcmp
  | .jcmpHI _ _ _ => Config.features.jcmp
  | .jcmpQHI _ _ _ => Config.features.jcmp
  | .jcmpLS _ _ _ => Config.features.jcmp
  | .jcmpQLS _ _ _ => Config.features.jcmp
  | .jcmpEQ _ _ _ => Config.features.jcmp
  | .jcmpQEQ _ _ _ => Config.features.jcmp
  | .jcmpNE _ _ _ => Config.features.jcmp
  | .jcmpQNE _ _ _ => Config.features.jcmp
  | .jcmpz _ _ _ _ => Config.features.jcmpz && Config.acceptDropped
  | .movToC _ _ => true
  | .movFromC _ _ => true
  | .movToS _ _ => true
  | .movFromS _ _ => true
  | .breakOp => true
  | .break2 => true
  | .sleep => true
  | .rte => true
  | .cpuid _ => true
  | .invtlb => true
  | .invic _ => true
  | .invdc _ => true
  | .ldtlb => true
  | .ldxtlb => Config.features.xmov
  | .snipedc _ _ => true
  | .snipeic _ _ => true
  | .ldacl => true
  | .ldekrr => Config.features.keyring
  | .svekrr => Config.features.keyring
  | .ldekey => Config.features.keyring
  | .ldeenc => Config.features.keyring
  | .sxentr => true
  | .suentr => true
  | .sventr => true
  | .trapImm _ => true
  | .trapReg _ => true
  | .trapPair _ => true
  | .settrap _ _ => Config.features.dbg
  | .vskg _ _ => true
  | .vskc _ _ => true
  | .xbless _ _ => Config.features.bce
  | .wexmd _ => true
  | .bndchkB _ _ => Config.features.ttag
  | .bndchkW _ _ => Config.features.ttag
  | .bndchkImm _ _ => Config.features.ttag
  | .bndchkL _ _ => Config.features.ttag
  | .bndchkQ _ _ => Config.features.ttag
  | .bndcmpB _ _ => Config.features.ttag
  | .bndcmpW _ _ => Config.features.ttag
  | .bndcmpL _ _ => Config.features.ttag
  | .bndcmpQ _ _ => Config.features.ttag
  | .bndcmpImm _ _ => Config.features.ttag
  | .leatB _ _ => Config.features.ttag
  | .leatW _ _ => Config.features.ttag
  | .leatL _ _ => Config.features.ttag
  | .leatQ _ _ => Config.features.ttag
  | .cmpTAEQ _ _ => Config.features.ttag
  | .cmpTAHI _ _ => Config.features.ttag
  | .cmpTAHS _ _ => Config.features.ttag
  | .cmpTTEQ _ _ => Config.features.ttag
  | .convfxi _ _ => Config.features.ttag
  | .convfli _ _ => Config.features.ttag
  | .movST _ _ => Config.features.ttag
  | .xmovST _ _ => Config.features.ttag
  | .movZT _ _ => Config.features.ttag
  | .xmovZT _ _ => Config.features.ttag
  | .movTTReg _ _ _ => Config.features.ttag
  | .movTTTag _ _ _ => Config.features.ttag
  | .movTTImm _ _ _ => Config.features.riMov && Config.features.ttag
  | .xmovTTReg _ _ _ => Config.features.ttag && Config.features.xgpr
  | .xmovTTImm _ _ => Config.features.ttag && Config.features.xgpr
  | .movHD2 _ _ => Config.features.gsv && Config.acceptDropped
  | .movLD2 _ _ => Config.features.gsv && Config.acceptDropped
  | .movHLD2 _ _ => Config.features.gsv && Config.acceptDropped
  | .movLHD2 _ _ => Config.features.gsv && Config.acceptDropped
  | .movHD _ _ _ => Config.features.gsv
  | .movLD _ _ _ => Config.features.gsv
  | .movHLD _ _ _ => Config.features.gsv
  | .movLHD _ _ _ => Config.features.gsv
  | .movHW _ _ _ => Config.features.gsv
  | .movLW _ _ _ => Config.features.gsv
  | .paddW _ _ _ => Config.features.gsv
  | .paddL _ _ _ => Config.features.gsv
  | .paddF _ _ _ => Config.features.gsv && Config.features.gsvf
  | .paddxF _ _ _ => Config.features.gsv && Config.features.gsvfx
  | .paddH _ _ _ => Config.features.gsv && Config.features.gsvf
  | .paddxD _ _ _ => Config.features.gsv && Config.features.gsvfx
  | .psubF _ _ _ => Config.features.gsv && Config.features.gsvf
  | .psubxF _ _ _ => Config.features.gsv && Config.features.gsvfx
  | .psubH _ _ _ => Config.features.gsv && Config.features.gsvf
  | .psubxD _ _ _ => Config.features.gsv && Config.features.gsvfx
  | .pmulF _ _ _ => Config.features.gsvf
  | .pmulxF _ _ _ => Config.features.gsvf && Config.features.gsvfx
  | .pmulH _ _ _ => Config.features.gsvf
  | .pmulxD _ _ _ => Config.features.gsvf && Config.features.gsvfx
  | .psubW _ _ _ => Config.features.gsv
  | .psubL _ _ _ => Config.features.gsv
  | .paddXrm _ _ _ _ => Config.features.gsv && Config.features.gsvfx
  | .paddxXrm _ _ _ _ => Config.features.gsv && Config.features.gsvfx
  | .pmulXrm _ _ _ _ => Config.features.gsvf
  | .pmulxXrm _ _ _ _ => Config.features.gsvf && Config.features.gsvfx
  | .pmulsW _ _ _ => Config.features.gsv
  | .pmuluW _ _ _ => Config.features.gsv
  | .pmulsLW _ _ _ => Config.features.gsv
  | .pmuluLW _ _ _ => Config.features.gsv
  | .pmulsHW _ _ _ => Config.features.gsv
  | .pmuluHW _ _ _ => Config.features.gsv
  | .pcmpEQH _ _ => Config.features.gsv && Config.features.gsvf
  | .pcmpEQF _ _ => Config.features.gsv && Config.features.gsvf
  | .pcmpGTH _ _ => Config.features.gsv && Config.features.gsvf
  | .pcmpGTF _ _ => Config.features.gsv && Config.features.gsvf
  | .pcmpEQW _ _ => Config.features.gsv
  | .pcmpEQL _ _ => Config.features.gsv
  | .pcmpHIW _ _ => Config.features.gsv
  | .pcmpHIL _ _ => Config.features.gsv
  | .pcmpGTW _ _ => Config.features.gsv
  | .pcmpGTL _ _ => Config.features.gsv
  | .pcseltW _ _ _ => Config.features.gsv
  | .pcseltL _ _ _ => Config.features.gsv
  | .pselTW _ _ => Config.features.gsv && Config.acceptDropped
  | .pselFW _ _ => Config.features.gsv && Config.acceptDropped
  | .pselTL _ _ => Config.features.gsv && Config.acceptDropped
  | .pselFL _ _ => Config.features.gsv && Config.acceptDropped
  | .pdottH _ _ => Config.features.gsvf && Config.features.pdott
  | .pdottF _ _ => Config.features.gsvf && Config.features.pdott
  | .pstcF8H _ _ => Config.features.convFp16 && Config.features.gsvf
  | .pldcF8H _ _ => Config.features.convFp16 && Config.features.gsvf
  | .pldcH _ _ => Config.features.convFp16 && Config.features.gsvf
  | .pldcHH _ _ => Config.features.convFp16 && Config.features.gsvf
  | .pldcEHL _ _ => Config.features.convFp16 && Config.features.gsvf
  | .pldcEHH _ _ => Config.features.convFp16 && Config.features.gsvf
  | .pstcH _ _ => Config.features.convFp16 && Config.features.gsvf
  | .pldcM8SH _ _ => Config.features.convFp16 && Config.features.gsvf
  | .pldcM8UH _ _ => Config.features.convFp16 && Config.features.gsvf
  | .pstcM8SH _ _ => Config.features.convFp16 && Config.features.gsvf
  | .pstcM8UH _ _ => Config.features.convFp16 && Config.features.gsvf
  | .prcpaH _ _ => Config.features.gsv && Config.features.gsvf
  | .prcpaF _ _ => Config.features.gsv && Config.features.gsvf
  | .preluH _ _ => Config.features.gsv && Config.features.gsvf
  | .preluF _ _ => Config.features.gsv && Config.features.gsvf
  | .pshalW _ _ => Config.features.gsv
  | .pshllW _ _ => Config.features.gsv
  | .psharW _ _ => Config.features.gsv
  | .pshlrW _ _ => Config.features.gsv
  | .psqrtaH _ _ => Config.features.gsv && Config.features.gsvf
  | .psqrtuaH _ _ => Config.features.gsv && Config.features.gsvf
  | .psqrtaF _ _ => Config.features.gsv && Config.features.gsvf
  | .psqrtuaF _ _ => Config.features.gsv && Config.features.gsvf
  | .pldcHImm _ _ => Config.features.convFp16 && Config.features.gsvf
  | .pldcM8SHImm _ _ => Config.features.convFp16 && Config.features.gsvf
  | .pldcM8UHImm _ _ => Config.features.convFp16 && Config.features.gsvf
  | .pshufB _ _ _ => Config.features.gsv
  | .pshufW _ _ _ => Config.features.gsv
  | .pshufW33 _ _ _ => Config.features.gsv && Config.features.nnx
  | .pshufW17 _ _ _ => Config.features.gsv && Config.features.nnx
  | .pscheqW _ _ _ => Config.features.gsv
  | .pscheqB _ _ _ => Config.features.gsv
  | .pschneW _ _ _ => Config.features.gsv
  | .pschneB _ _ _ => Config.features.gsv
  | .swapB _ _ => Config.features.gsv && Config.acceptDropped
  | .swapW _ _ => Config.features.gsv && Config.acceptDropped
  | .swap8B _ _ => Config.features.gsv && Config.acceptDropped
  | .swapL _ _ => Config.features.gsv && Config.acceptDropped
  | .swapLB _ _ => Config.features.gsv && Config.acceptDropped
  | .swapLW _ _ => Config.features.gsv && Config.acceptDropped
  | .swcpLB _ _ => Config.features.gsv && Config.acceptDropped
  | .swcpLW _ _ => Config.features.gsv && Config.acceptDropped
  | .swapMB _ _ => Config.features.gsv && Config.acceptDropped
  | .swapMW _ _ => Config.features.gsv && Config.acceptDropped
  | .swcpMB _ _ => Config.features.gsv && Config.acceptDropped
  | .swcpMW _ _ => Config.features.gsv && Config.acceptDropped
  | .swapHB _ _ => Config.features.gsv && Config.acceptDropped
  | .swapHW _ _ => Config.features.gsv && Config.acceptDropped
  | .swcpHB _ _ => Config.features.gsv && Config.acceptDropped
  | .swcpHW _ _ => Config.features.gsv && Config.acceptDropped
  | .paddshxX _ _ _ _ => Config.features.nnx
  | .psubshxX _ _ _ _ => Config.features.nnx
  | .pmulshxX _ _ _ _ => Config.features.nnx
  | .paddshH _ _ _ _ => Config.features.nnx
  | .psubshH _ _ _ _ => Config.features.nnx
  | .pmulshH _ _ _ _ => Config.features.nnx
  | .pmacshHV _ _ _ => Config.features.nnx
  | .pmacshFV _ _ _ => Config.features.nnx
  | .paddHV _ _ _ => Config.features.nnx
  | .paddFV _ _ _ => Config.features.nnx
  | .pmulHV _ _ _ => Config.features.nnx
  | .pmulFV _ _ _ => Config.features.nnx
  | .paddshHV _ _ _ => Config.features.nnx
  | .paddshFV _ _ _ => Config.features.nnx
  | .pmulshHV _ _ _ => Config.features.nnx
  | .pmulshFV _ _ _ => Config.features.nnx
  | .pmulF8H _ _ _ => Config.features.nnx
  | .pmultxL _ _ _ => Config.features.nnx && Config.acceptDropped
  | .pmultW _ _ _ => Config.features.nnx && Config.acceptDropped
  | .rgb5pck32 _ _ => Config.features.rgb
  | .rgb5pck64 _ _ => Config.features.rgb
  | .rgb5upck32 _ _ => Config.features.rgb
  | .rgb5upck64 _ _ => Config.features.rgb
  | .rgb32pck64 _ _ => Config.features.rgb
  | .rgb32upck64 _ _ => Config.features.rgb
  | .rgb5shr1 _ _ => Config.features.rgb
  | .rgb5minmax _ _ => Config.features.rgb
  | .rgb5pcki8 _ _ => Config.features.rgb
  | .rgb5sh3 _ _ => Config.features.rgb
  | .rgb5ush3 _ _ => Config.features.rgb
  | .pldcm30ah _ _ => Config.features.rgbf
  | .pstcm30ah _ _ => Config.features.rgbf
  | .rgb5ccenc _ _ _ => Config.features.rgbCce
  | .blerp _ _ _ => Config.features.rgbx
  | .blerp4 _ _ _ _ _ => Config.features.rgbx
  | .blkutx2 _ _ _ => Config.features.rgb
  | .blkutx1 _ _ _ => Config.features.rgb
  | .blkutx3h _ _ _ => Config.features.rgbx
  | .blkutx3l _ _ _ => Config.features.rgbx
  | .blkuvf1VL _ _ _ => Config.features.blkuvf1
  | .blkuvf1VH _ _ _ => Config.features.blkuvf1
  | .blkuvf1SL _ _ _ => Config.features.blkuvf1
  | .blkuvf1SH _ _ _ => Config.features.blkuvf1
  | .blkuab1 _ _ _ => Config.features.uab
  | .blkuab2 _ _ _ => Config.features.uab
  | .fabs _ _ => Config.features.gfp
  | .fneg _ _ => Config.features.gfp
  | .fmin _ _ _ => Config.features.minmax
  | .fmax _ _ _ => Config.features.minmax
  | .fadd _ _ _ _ => Config.features.gfp
  | .faddx _ _ _ _ => Config.features.gfp && Config.features.gfpx
  | .faddg _ _ _ => Config.features.gfp
  | .fadda _ _ _ => Config.features.gfp
  | .fsub _ _ _ _ => Config.features.gfp
  | .fsubx _ _ _ _ => Config.features.gfp && Config.features.gfpx
  | .fsubg _ _ _ => Config.features.gfp
  | .fsuba _ _ _ => Config.features.gfp
  | .fmul _ _ _ _ => Config.features.gfp
  | .fmulx _ _ _ _ => Config.features.gfp && Config.features.gfpx
  | .fmulg _ _ _ => Config.features.gfp
  | .fmula _ _ _ => Config.features.gfp
  | .fcmpEQ _ _ => Config.features.gfp
  | .fcmpXEQ _ _ => Config.features.gfp
  | .fcmpGE _ _ => Config.features.gfp
  | .fcmpGT _ _ => Config.features.gfp
  | .fcmpXGT _ _ => Config.features.gfp
  | .fdiv _ _ _ => Config.features.fdiv && Config.features.gfp
  | .fdivx _ _ _ => Config.features.fdiv && Config.features.gfp && Config.features.gfpx
  | .fdiva _ _ _ => Config.features.fdiv && Config.features.gfp
  | .fdivxa _ _ _ => Config.features.fdiv && Config.features.gfp && Config.features.gfpx
  | .fsqrt _ _ => Config.features.fdiv && Config.features.gfp
  | .fsqrtx _ _ => Config.features.fdiv && Config.features.gfp && Config.features.gfpx
  | .fsqrta _ _ => Config.features.fdiv && Config.features.gfp
  | .fsqrtxa _ _ => Config.features.fdiv && Config.features.gfp && Config.features.gfpx
  | .fldcf _ _ => Config.features.gfp
  | .fldchf _ _ => Config.features.gfp
  | .fldci _ _ => Config.features.gfp
  | .fldch _ _ => Config.features.gfp
  | .fldciu _ _ => Config.features.gfp
  | .fldcisL _ _ => Config.features.gfp
  | .fldciuL _ _ => Config.features.gfp
  | .fldchImm _ _ => Config.features.gfp
  | .fldcfImm _ _ => Config.features.gfp
  | .fstcf _ _ => Config.features.gfp
  | .fstchf _ _ => Config.features.gfp
  | .fstci _ _ => Config.features.gfp
  | .fstch _ _ => Config.features.gfp
  | .fmac _ _ _ _ => if Config.profileFix32D then Config.features.gfpMac else Config.features.fmac
  | .fmacx _ _ _ _ => Config.features.fmac && Config.features.gfpx
  | .fmas _ _ _ _ => Config.features.fmac
  | .fmasx _ _ _ _ => Config.features.fmac && Config.features.gfpx
  | .fmrs _ _ _ _ => Config.features.fmac
  | .fmrsx _ _ _ _ => Config.features.fmac && Config.features.gfpx
  | .fmra _ _ _ _ => Config.features.fmac
  | .fmrax _ _ _ _ => Config.features.fmac && Config.features.gfpx
  | .pmacH _ _ _ _ => Config.features.fmac && Config.features.nnx
  | .pmacF _ _ _ _ => Config.features.fmac && Config.features.nnx
  | .pmasH _ _ _ _ => Config.features.fmac && Config.features.nnx
  | .pmasF _ _ _ _ => Config.features.fmac && Config.features.nnx
  | .pmrsH _ _ _ _ => Config.features.fmac && Config.features.nnx
  | .pmrsF _ _ _ _ => Config.features.fmac && Config.features.nnx
  | .pmraH _ _ _ _ => Config.features.fmac && Config.features.nnx
  | .pmraF _ _ _ _ => Config.features.fmac && Config.features.nnx
  | .pconv _ _ _ => Config.features.gfpx && Config.acceptDropped
  | .pconvx _ _ _ => Config.features.gfpx && Config.acceptDropped
  | .pcvtSB2HL _ _ => Config.features.gsvf
  | .pcvtUB2HL _ _ => Config.features.gsvf
  | .pcvtSB2HH _ _ => Config.features.gsvf
  | .pcvtUB2HH _ _ => Config.features.gsvf
  | .pcvtSW2FL _ _ => Config.features.gsvf
  | .pcvtUW2FL _ _ => Config.features.gsvf
  | .pcvtSW2FH _ _ => Config.features.gsvf
  | .pcvtUW2FH _ _ => Config.features.gsvf
  | .pcvtH2SB _ _ => Config.features.gsvf
  | .pcvtH2UB _ _ => Config.features.gsvf
  | .pcvtSW2H _ _ => Config.features.gsvf
  | .pcvtUW2H _ _ => Config.features.gsvf
  | .pcvtF2SW _ _ => Config.features.gsvf
  | .pcvtF2UW _ _ => Config.features.gsvf
  | .pcvtH2SW _ _ => Config.features.gsvf
  | .pcvtH2UW _ _ => Config.features.gsvf
  | .pcvtH2AL _ _ => Config.features.gsvf
  | .pcvtAL2H _ _ => Config.features.gsvf

/-- Whether the FE and FF prefixes are there (R155, R160; 00_scope.md R10). -/
def prefixJumbo : Bool := Config.features.jumbo && !Config.profileFix32D
def prefixOp64 : Bool := Config.features.op64 && !Config.profileFix32D

/-! ### Lengths, ranges and prefixes (R110, R120, R180) -/

/-- What stands before a base instruction. -/
inductive Prefix where
  | none
  | jumbo (j : BitVec 24)
  | jumbo2 (jh jl : BitVec 24)
  | op64 (wq : Bool) (p1 : Half)
deriving DecidableEq, Repr
/-- Whether a prefix is one the feature groups and the profile have. -/
def Prefix.there : Prefix → Bool
  | .none => true
  | .jumbo _ | .jumbo2 _ _ => prefixJumbo
  | .op64 _ _ => prefixOp64

/-- The 32-bit forms the Fix32-D profile keeps (00_scope.md R10): not those marked "(N/A)", "(Reserved)" or "-". Every form of
45_load_store_ext.md and of 48_rgb_blocks.md is absent, and of 48_gsv_media.md every form but MOVHD, MOVLD, MOVHLD and MOVLHD
(R670), PMULU.W as PMULS.W (R756, R757). DESIGN CHOICE (log 5): BITSELX goes with BITSEL (R242), as MAX with MIN (R229). -/
def Fields.inFix32 (f : Fields) : Bool :=
  let y := f.y.toNat
  let o := f.o.toNat
  match f.blk with
  | 0#4 =>
    match f.z with
    | 0#4 => decide (4 ≤ y % 8) && Config.movIdx
    | 1#4 => !(decide (y = 9) && f.q && decide (o = 8)) && !(decide (y = 12) && decide (o = 10 ∨ o = 11)) &&
      decide (y ≠ 4 ∧ y ≠ 10 ∧ y ≠ 14 ∧ y ≠ 15)
    | 2#4 => decide (y = 2 ∨ y = 3 ∨ y = 8 ∨ y = 9)
    | 3#4 => decide (y ≠ 7) && !(f.n == 0#4 && f.m == 2#4 && decide (y = 0) && decide (8 ≤ o ∧ o ≤ 14)) &&
      !(f.n == 6#4 && f.m == 9#4 && decide (y = 0))
    | 4#4 | 8#4 | 9#4 => false
    | 5#4 => decide (y ≠ 1 ∧ y ≠ 6 ∧ y ≠ 7)
    | 6#4 => !decide (4 ≤ y ∧ y ≤ 12)
    | 7#4 => decide (y ≠ 3 ∧ y ≠ 6)
    | _ => true
  | 1#4 => decide (f.z.toNat < 4 ∨ (8 ≤ f.z.toNat ∧ f.z.toNat < 12))
  | 2#4 =>
    let m := f.m.toNat
    match f.z with
    | 8#4 => !bitAt f.ox 0 && !f.letterR
    | 7#4 => !f.letterR
    | 12#4 => decide (3 ≤ m)
    | 13#4 => decide (m ≠ 6 ∧ m ≠ 7) && !(decide (m = 9 ∨ m = 11) && f.q)
    | 14#4 => decide (4 ≤ m)
    | _ => true
  | _ => true
/-- A base instruction with no prefix; in XG2 the three bits 5 extend the Imm24 of LDIZ and LDIN (R170; log 17). -/
def plainAll (f : Fields) : Option Instr :=
  match f.blk with
  | 0#4 => plainF0 f
  | 1#4 => plainF1 f
  | 2#4 => f.formR <|> plainF2 f
  | 8#4 => plainF8 f
  | 10#4 => some (.ldiz ((f.ext ++ f.imm24).setWidth 64) 0#6)
  | 11#4 => some (.ldin (oext 27 ((~~~f.ext ++ f.imm24).setWidth 64)) 0#6)
  | _ => none
/-- A base instruction with no prefix, where the profile has it. -/
def plain (f : Fields) : Option Instr := onlyIf (!Config.profileFix32D || f.inFix32) (plainAll f)
/-- A base instruction with its prefix (R155, R160), which decodeBase finds allowed. An Op64
prefix with P1 = 0 before a form with neither a row of its own nor an immediate only widens the registers (R160). -/
def classify (p : Prefix) (f : Fields) : Option Instr :=
  match p with
  | .none => plain f
  | .jumbo j =>
    match f.blk with
    | 0#4 => jumboF0 f j
    | 1#4 => jumboF1 f j
    | 2#4 => jumboF2 f j
    | 8#4 => jumboF8 f j
    | 10#4 => onlyIf (f.ext == 0#3) (some (.ldiz ((j ++ f.imm24).setWidth 64) 0#6))
    | _ => none
  | .jumbo2 jh jl =>
    match f.blk with
    | 2#4 => jumbo2F2 f jh jl
    | 8#4 => jumbo2F8 f jh jl
    | _ => none
  | .op64 wq p1 =>
    (match f.blk with
      | 0#4 => op64F0 f wq p1
      | 1#4 => op64F1 f wq p1
      | 2#4 => op64F2 f wq p1
      | 8#4 => op64F8 f wq p1
      | _ => none) <|>
    onlyIf (!wq && p1 == 0#16 && !(f.blk == 10#4) && !(f.blk == 11#4)) (plain f)

/-- What W0[12] (the F ranges against the E ranges) and W0[11:8] stand for: the wanted SR.T, the WEX flag and the
block repeated (R120); none where no instruction is defined. -/
def rangeOf (normal : Bool) (b : BitVec 4) : Option (Option Bool × Bool × BitVec 4) :=
  match b with
  | 0#4 | 1#4 | 2#4 => some (if normal then none else some true, false, b)
  | 4#4 | 5#4 | 6#4 => if normal then some (none, true, b - 4#4) else some (some false, false, b - 4#4)
  | 8#4 => some (if normal then none else some true, false, b)
  | 10#4 => if normal then some (none, false, b) else some (some true, true, 0#4)
  | 11#4 => if normal then some (none, false, b) else some (some true, true, 2#4)
  | 12#4 => some (if normal then none else some false, normal, 8#4)
  | 14#4 => if normal then none else some (some false, true, 0#4)
  | 15#4 => if normal then none else some (some false, true, 2#4)
  | _ => none

/-- Check the feature group (R151) and predication (R136), and put the answer together. -/
def finish (len : Nat) (pred : Option Bool) (wex : Bool) (i : Option Instr) : DecodeResult :=
  match i with
  | none => .error .undefined
  | some i => if !implemented i || (pred.isSome && !predicable i) then .error .undefined else .ok ⟨len, pred, wex, i⟩

/-- A base instruction w0 w1, `len` bytes with its prefix; `ext` are the bits 5 of the register fields. Behind a prefix that
is not there every word is undefined, a predicated one too. -/
def decodeBase (xg2 : Bool) (p : Prefix) (len : Nat) (ext : BitVec 3) (w0 w1 : Half) : DecodeResult :=
  match rangeOf (bitAt w0 12) (slice w0 8 4) with
  | none => .error .undefined
  | some (pred, wex, blk) =>
    if !p.there then .error .undefined
    else if pred.isSome && p != .none then .error .prefixedPredicate
    else finish len pred wex (classify p (fieldsOf xg2 blk ext w0 w1))

/-- The bits 5 that XG2 puts, inverted, in W0[15:13] (R171); XG1 has none, and only the E and F ranges. -/
def xg2Ext (xg2 : Bool) (w0 : Half) : BitVec 3 := if xg2 then ~~~slice w0 13 3 else 0#3
/-- Whether w0 starts a base instruction that may follow a prefix. -/
def isBase (xg2 : Bool) (w0 : Half) : Bool := xg2 || slice w0 13 3 == 7#3
/-- Whether w0 is a prefix word with the given low byte half: FE Jumbo, FF Op64. -/
def isJumbo (w0 : Half) : Bool := slice w0 8 8 == 0xFE#8
def isOp64 (w0 : Half) : Bool := slice w0 8 8 == 0xFF#8

/-- A base instruction behind an Op64 prefix p0 p1 (R160, R163), whose bits stand in for those of XG2. -/
def decodeOp64 (p0 p1 w0 w1 : Half) : DecodeResult :=
  if !prefixOp64 then .error .undefined
  else if slice w0 8 8 == 0xFA#8 then .ok ⟨8, none, false, .jmpAbs (slice p0 0 8 ++ p1 ++ slice w0 0 8 ++ w1)⟩
  else if slice w0 8 8 == 0xFB#8 then .ok ⟨8, none, false, .jsrAbs (slice p0 0 8 ++ p1 ++ slice w0 0 8 ++ w1)⟩
  else if isJumbo w0 || isOp64 w0 || !(slice w0 13 3 == 7#3) || !(slice p0 0 4 == 0#4) then .error .undefined
  else decodeBase false (.op64 (bitAt p0 7) p1) 8 (slice p0 4 3) w0 w1

/-- A 32-bit instruction or one with prefixes. -/
def decodeWide (xg2 : Bool) (ws : List Half) : DecodeResult :=
  match ws with
  | w0 :: w1 :: ws =>
    if isOp64 w0 then
      match ws with
      | w2 :: w3 :: _ => decodeOp64 w0 w1 w2 w3
      | _ => .error .truncated
    else if isJumbo w0 then
      match ws with
      | w2 :: w3 :: ws =>
        if isJumbo w2 then
          match ws with
          | w4 :: w5 :: _ =>
            if isJumbo w4 || isOp64 w4 || !isBase xg2 w4 then .error .undefined
            else decodeBase xg2 (.jumbo2 (slice w0 0 8 ++ w1) (slice w2 0 8 ++ w3)) 12 (xg2Ext xg2 w4) w4 w5
          | _ => .error .truncated
        else if isOp64 w2 || !isBase xg2 w2 then .error .undefined
        else decodeBase xg2 (.jumbo (slice w0 0 8 ++ w1)) 8 (xg2Ext xg2 w2) w2 w3
      | _ => .error .truncated
    else decodeBase xg2 .none 4 (xg2Ext xg2 w0) w0 w1
  | _ => .error .truncated

/-- A 7w form: F0 with 6-bit register fields and the WEX flag on top. A 9w form: F1 or F2 with 6-bit Rn and Rm, which
of the two W.i selects. DESIGN CHOICE: its top bit is the WEX flag again and its o field gets no sixth bit (R165;
log 17). -/
def decodeXgpr (ws : List Half) : DecodeResult :=
  match ws with
  | w0 :: w1 :: _ =>
    if Config.profileFix32D || !Config.features.xgpr then .error .undefined
    else if slice w0 12 4 == 7#4 then finish 4 none (bitAt w0 11) (plainF0 (fieldsOf false 0#4 (slice w0 8 3) w0 w1))
    else
      let blk := if bitAt w0 8 == Config.xgpr9SelectsF2 then 2#4 else 1#4
      finish 4 none (bitAt w0 11) (plain (fieldsOf false blk (slice w0 9 2 ++ 0#1) w0 w1))
  | _ => .error .truncated
/-- A 16-bit form (R111); where Config says so, BREAK in the place of a MOV.B (47_system_ttag.md R596). -/
def decodeHalf (w : Half) : Option Instr :=
  if Config.profileFix32D then none
  else if slice w 12 4 == 0#4 && slice w 8 2 == 0#2 && Config.isBreakOverlap w then some .breakOp
  else half16 (slice w 12 4) (slice w 8 4) (slice w 4 4) (slice w 0 4)

/-- One instruction at the head of a word list (R180; XG2: R170 to R175). -/
def decode (xg2 : Bool) (ws : List Half) : DecodeResult :=
  match ws with
  | [] => .error .truncated
  | w0 :: _ =>
    if xg2 || slice w0 13 3 == 7#3 then decodeWide xg2 ws
    else if slice w0 12 4 == 7#4 || slice w0 12 4 == 9#4 then decodeXgpr ws
    else finish 2 none false (decodeHalf w0)

/-- How many words an instruction has that starts with the given ones, as far as they show (R110). -/
def wordsNeeded (xg2 : Bool) (ws : List Half) : Nat :=
  match ws with
  | w0 :: rest =>
    if isOp64 w0 then 4
    else if isJumbo w0 then
      match rest with
      | _ :: w2 :: _ => if isJumbo w2 then 6 else 4
      | _ => 4
    else if xg2 || slice w0 13 3 == 7#3 || slice w0 12 4 == 7#4 || slice w0 12 4 == 9#4 then 2
    else 1
  | [] => 1

/-! ### The encoder -/

/-- An instruction as a 16-bit word, a base instruction (with the P1 it takes where it needs an Op64 prefix for its
registers), a base instruction behind a prefix, or an absolute jump. -/
inductive Code where
  | h (w : Half)
  | b (f : Fields)
  | bx (p1 : Half) (f : Fields)
  | j (j : BitVec 24) (f : Fields)
  | jj (jh jl : BitVec 24) (f : Fields)
  | x (wq : Bool) (p1 : Half) (f : Fields)
  | abs (link : Bool) (a : BitVec 48)
deriving DecidableEq, Repr

/-- The second word of a base instruction. -/
def Fields.w1 (f : Fields) : Half := f.imm16
/-- The first word, under a range nibble and a block nibble. -/
def Fields.w0 (f : Fields) (top blk : BitVec 4) : Half := top ++ blk ++ f.n ++ f.m
/-- The words of a base instruction behind an Op64 prefix. -/
def op64Words (wq : Bool) (p1 : Half) (f : Fields) : List Half :=
  [0xFF#8 ++ BitVec.ofBool wq ++ f.ext ++ 0#4, p1, f.w0 15#4 f.blk, f.w1]
/-- Registers above R31 take the 7w form in the F0 block and an Op64 prefix elsewhere. -/
def baseWords (p1 : Half) (f : Fields) : List Half :=
  if f.ext == 0#3 then [f.w0 15#4 f.blk, f.w1]
  else if f.blk == 0#4 then [f.w0 7#4 (0#1 ++ f.ext), f.w1]
  else op64Words false p1 f
/-- P1 = 00FF, which keeps an n immediate as it is, and the sign of an Imm8 (R160). -/
def p1n : Half := 0x00FF#16
def p1s (v : Word) : Half := if bitAt v 7 then p1n else 0#16
/-- The words of an encoding. -/
def Code.words : Code → List Half
  | .h w => [w]
  | .b f => baseWords 0#16 f
  | .bx p1 f => baseWords p1 f
  | .j k f => [0xFE#8 ++ slice k 16 8, slice k 0 16, f.w0 15#4 f.blk, f.w1]
  | .jj jh jl f => [0xFE#8 ++ slice jh 16 8, slice jh 0 16, 0xFE#8 ++ slice jl 16 8, slice jl 0 16, f.w0 15#4 f.blk, f.w1]
  | .x wq p1 f => op64Words wq p1 f
  | .abs link a =>
    [0xFF#8 ++ slice a 40 8, slice a 24 16, (if link then 0xFB#8 else 0xFA#8) ++ slice a 16 8, slice a 0 16]

/-- Fields with three 6-bit register fields. -/
def mk3 (blk z y : BitVec 4) (q : Bool) (n m o : BitVec 6) : Fields :=
  { xg2 := false, blk := blk, n := slice n 0 4, m := slice m 0 4, o := slice o 0 4, nx := slice n 4 2, mx := slice m 4 2,
    ox := slice o 4 2, z := z, y := y, q := q }
/-- Fields with an Imm8 and given bits 5 and 4 above it. -/
def mk8 (blk z : BitVec 4) (q : Bool) (n m : BitVec 6) (ox : BitVec 2) (v : BitVec 8) : Fields :=
  mk3 blk z (slice v 0 4) q n m (ox ++ slice v 4 4)
/-- Fields with an Imm9. -/
def mk9 (blk z : BitVec 4) (q : Bool) (n m : BitVec 6) (v : BitVec 9) : Fields :=
  mk3 blk z (slice v 0 4) q n m (0#1 ++ slice v 4 5)
/-- Fields with an Imm10 and an opcode nibble in the m position. -/
def mk10 (blk z op : BitVec 4) (q : Bool) (n : BitVec 6) (v : BitVec 10) : Fields :=
  mk3 blk z (slice v 0 4) q n (0#1 ++ slice v 9 1 ++ op) (0#1 ++ slice v 4 5)
/-- A 2-operand immediate compare. -/
def mkCmp (z op : BitVec 4) (q : Bool) (n : BitVec 6) (f : Flag) (v : BitVec 9) : Fields :=
  mk3 2#4 z (slice v 0 4) q n ((match f with | .t => 0#2 | .s => 2#2) ++ op) (0#1 ++ slice v 4 5)
/-- An F8 form: W.m, W.i are `sel`. -/
def mk16 (z : BitVec 3) (r : Reg) (sel : BitVec 2) (v : Half) : Fields :=
  { xg2 := false, blk := 8#4, n := z ++ slice r 4 1, m := slice r 0 4, o := slice v 4 4, nx := slice r 5 1 ++ slice v 10 1,
    mx := slice sel 1 1 ++ slice v 9 1, ox := slice sel 0 1 ++ slice v 8 1, z := slice v 12 4, y := slice v 0 4,
    q := bitAt v 11 }
/-- A doubly prefixed F8 form. -/
def mkBank (z : BitVec 2) (r : Reg) (v : Half) : Fields :=
  { mk16 0#3 0#6 0#2 v with n := z ++ slice r 4 2, m := slice r 0 4 }
/-- A Disp20 branch, with bit 5 of o. -/
def mk20 (z : BitVec 4) (hi : BitVec 1) (v : BitVec 20) : Fields :=
  { xg2 := false, blk := 0#4, n := slice v 16 4, m := slice v 12 4, o := slice v 4 4, nx := 0#1 ++ slice v 10 1,
    mx := 0#1 ++ slice v 9 1, ox := hi ++ slice v 8 1, z := z, y := slice v 0 4, q := bitAt v 11 }
/-- The forms of the E letter R. -/
def mkR (z : BitVec 4) (n m : BitVec 6) (v : BitVec 8) : Fields :=
  let e := BitVec.ofNat 4 ((Config.eLetterR.map Fin.val).getD 0)
  { mk8 2#4 z (bitAt e 3) n m (0#1 ++ slice e 0 1) v with nx := 0#1 ++ slice e 2 1, mx := 0#1 ++ slice e 1 1 }
def mkJcmpz (q : Bool) (c : ZCond) (n : Reg) (v : BitVec 8) : Fields :=
  mk3 2#4 13#4 (slice v 0 4) q n (0#1 ++ slice (zcondCode c) 1 1 ++ 3#3 ++ slice (zcondCode c) 2 1)
    (0#1 ++ slice (zcondCode c) 0 1 ++ slice v 4 4)

/-- The encoding chosen for an instruction, from the same rows; none where no row can hold the operands. -/
def encodeCode : Instr → Option Code
  | .add m (.reg r') n => some (.b (mk3 0#4 1#4 0#4 false n m r'))
  | .add m (.imm v') n => if fitsU v' 9 then some (.b (mk9 2#4 0#4 false n m (v'.setWidth 9))) else if fitsN v' 9 then some (.bx p1n (mk9 2#4 1#4 false n m (v'.setWidth 9))) else if fitsS v' 33 && small n && small m then some (.j (slice v' 9 24) (mk9 2#4 0#4 false n m (v'.setWidth 9))) else if fitsS v' 57 && small n && small m then some (.jj (slice v' 33 24) (slice v' 9 24) (mk9 2#4 0#4 false n m (v'.setWidth 9))) else if n == m then some (.jj (slice v' 40 24) (slice v' 16 24) (mkBank 1#2 m (v'.setWidth 16))) else none
  | .adc m n => some (.b (mk3 0#4 1#4 9#4 false n m 0x02#6))
  | .addsL m (.reg r') n => some (.b (mk3 0#4 5#4 12#4 false n m r'))
  | .addsL m (.imm v') n => if fitsU v' 9 then some (.b (mk9 2#4 3#4 false n m (v'.setWidth 9))) else if fitsN v' 9 then some (.bx p1n (mk9 2#4 4#4 false n m (v'.setWidth 9))) else if fitsS v' 33 && small n && small m then some (.j (slice v' 9 24) (mk9 2#4 3#4 false n m (v'.setWidth 9))) else none
  | .adduL m (.reg r') n => some (.b (mk3 0#4 5#4 12#4 true n m r'))
  | .adduL m (.imm v') n => if fitsU v' 9 then some (.b (mk9 2#4 3#4 true n m (v'.setWidth 9))) else if fitsN v' 9 then some (.bx p1n (mk9 2#4 4#4 true n m (v'.setWidth 9))) else if fitsS v' 33 && small n && small m then some (.j (slice v' 9 24) (mk9 2#4 3#4 true n m (v'.setWidth 9))) else none
  | .sub m o n => some (.b (mk3 0#4 1#4 1#4 false n m o))
  | .subsL m o n => some (.b (mk3 0#4 5#4 13#4 false n m o))
  | .subuL m o n => some (.b (mk3 0#4 5#4 13#4 true n m o))
  | .sbb m n => some (.b (mk3 0#4 1#4 9#4 false n m 0x03#6))
  | .subP m o n => some (.b (mk3 0#4 7#4 7#4 false n m o))
  | .subxP m o n => some (.b (mk3 0#4 7#4 7#4 true (regOf n) (regOf m) (regOf o)))
  | .and m (.reg r') n => some (.b (mk3 0#4 1#4 5#4 false n m r'))
  | .and m (.imm v') n => if fitsU v' 9 then some (.b (mk9 2#4 5#4 false n m (v'.setWidth 9))) else if fitsS v' 33 && small n && small m then some (.j (slice v' 9 24) (mk9 2#4 5#4 false n m (v'.setWidth 9))) else if fitsS v' 57 && small n && small m then some (.jj (slice v' 33 24) (slice v' 9 24) (mk9 2#4 5#4 false n m (v'.setWidth 9))) else none
  | .or m (.reg r') n => some (.b (mk3 0#4 1#4 6#4 false n m r'))
  | .or m (.imm v') n => if fitsU v' 9 then some (.b (mk9 2#4 6#4 false n m (v'.setWidth 9))) else if fitsS v' 33 && small n && small m then some (.j (slice v' 9 24) (mk9 2#4 6#4 false n m (v'.setWidth 9))) else if fitsS v' 57 && small n && small m then some (.jj (slice v' 33 24) (slice v' 9 24) (mk9 2#4 6#4 false n m (v'.setWidth 9))) else none
  | .xor m (.reg r') n => some (.b (mk3 0#4 1#4 7#4 false n m r'))
  | .xor m (.imm v') n => if fitsU v' 9 then some (.b (mk9 2#4 7#4 false n m (v'.setWidth 9))) else if fitsS v' 33 && small n && small m then some (.j (slice v' 9 24) (mk9 2#4 7#4 false n m (v'.setWidth 9))) else if fitsS v' 57 && small n && small m then some (.jj (slice v' 33 24) (slice v' 9 24) (mk9 2#4 7#4 false n m (v'.setWidth 9))) else none
  | .bswapuL m n => some (.b (mk3 0#4 1#4 10#4 false n m 0x0F#6))
  | .bswapQ m n => some (.b (mk3 0#4 1#4 10#4 true n m 0x0F#6))
  | .not m n => some (.b (mk3 0#4 1#4 12#4 false n m 0x00#6))
  | .neg m n => some (.b (mk3 0#4 1#4 12#4 false n m 0x01#6))
  | .negc n => some (.h (3#4 ++ slice n 4 1 ++ 3#3 ++ slice n 0 4 ++ 2#4))
  | .nop => some (.b (mk3 0#4 3#4 0#4 false 0x00#6 0x00#6 0x00#6))
  | .nop3r n => some (.b (mk3 0#4 3#4 0#4 false 0x01#6 0x04#6 n))
  | .nop3rrr m o n => some (.b (mk3 0#4 5#4 0#4 true n m o))
  | .mov m n => some (.b (mk3 0#4 1#4 9#4 false n m 0x08#6))
  | .movx m n => some (.b (mk3 0#4 1#4 9#4 true (regOf n) (regOf m) 0x08#6))
  | .movd _ _ => none
  | .extsB m n => some (.b (mk3 0#4 1#4 12#4 false n m 0x08#6))
  | .extsW m n => some (.b (mk3 0#4 1#4 12#4 false n m 0x09#6))
  | .extsL m n => some (.b (mk3 0#4 1#4 12#4 false n m 0x05#6))
  | .extuB m n => some (.b (mk3 0#4 1#4 12#4 true n m 0x08#6))
  | .extuW m n => some (.b (mk3 0#4 1#4 12#4 true n m 0x09#6))
  | .extuL m n => some (.b (mk3 0#4 1#4 12#4 true n m 0x05#6))
  | .cselt m o n => some (.b (mk3 0#4 5#4 0#4 false n m o))
  | .min m o n => some (.b (mk3 0#4 1#4 4#4 false n m o))
  | .max m o n => some (.b (mk3 0#4 1#4 4#4 true n m o))
  | .clz m n => some (.b (mk3 0#4 1#4 12#4 false n m 0x02#6))
  | .clzq m n => some (.b (mk3 0#4 1#4 12#4 true n m 0x02#6))
  | .ctz m n => some (.b (mk3 0#4 1#4 12#4 false n m 0x03#6))
  | .ctzq m n => some (.b (mk3 0#4 1#4 12#4 true n m 0x03#6))
  | .btrns m n => some (.b (mk3 0#4 1#4 12#4 false n m 0x04#6))
  | .btrnsq m n => some (.b (mk3 0#4 1#4 12#4 true n m 0x04#6))
  | .bcdadc m n => some (.b (mk3 0#4 1#4 8#4 false n m 0x08#6))
  | .bcdsbb m n => some (.b (mk3 0#4 1#4 8#4 false n m 0x09#6))
  | .bitnn m o n => some (.b (mk3 0#4 7#4 2#4 true n m o))
  | .pmortL m n => some (.b (mk3 0#4 1#4 14#4 false n m 0x01#6))
  | .pmortQ m n => some (.b (mk3 0#4 1#4 14#4 true n m 0x01#6))
  | .bitsel m o n => some (.b (mk3 0#4 6#4 11#4 false n m o))
  | .bitselx m o n => some (.b (mk3 0#4 6#4 11#4 true (regOf n) (regOf m) (regOf o)))
  | .bitmovImm m o n c => if small n && small m && small o then some (.j c (mk3 0#4 2#4 3#4 false n m o)) else none
  | .bitmovReg m o p n => some (.x false (0x08#8 ++ 0#2 ++ p) (mk3 0#4 2#4 3#4 false n m o))
  | .bitmovxImm m o n c => if small o then some (.j c (mk3 0#4 2#4 3#4 true (regOf n) (regOf m) o)) else none
  | .bitmovxReg m o p n => some (.x false (0x08#8 ++ 0#2 ++ (regOf p)) (mk3 0#4 2#4 3#4 true (regOf n) (regOf m) o))
  | .bitmovsImm m o n c => if small n && small m && small o then some (.j c (mk3 0#4 2#4 2#4 false n m o)) else none
  | .bitmovsReg m o p n => some (.x false (0x08#8 ++ 0#2 ++ p) (mk3 0#4 2#4 2#4 false n m o))
  | .bitmovsxImm m o n c => if small o then some (.j c (mk3 0#4 2#4 2#4 true (regOf n) (regOf m) o)) else none
  | .bitmovsxReg m o p n => some (.x false (0x08#8 ++ 0#2 ++ (regOf p)) (mk3 0#4 2#4 2#4 true (regOf n) (regOf m) o))
  | .adcL m n => some (.b (mk3 0#4 1#4 9#4 true n m 0x02#6))
  | .sbbL m n => some (.b (mk3 0#4 1#4 9#4 true n m 0x03#6))
  | .cmpEQ (.reg r') n f => if f == .t then some (.b (mk3 0#4 1#4 9#4 false n r' 0x0C#6)) else none
  | .cmpEQ (.imm v') n f => if fitsU v' 9 then some (.b (mkCmp 12#4 12#4 false n f (v'.setWidth 9))) else if fitsN v' 9 then some (.bx p1n (mkCmp 12#4 13#4 false n f (v'.setWidth 9))) else if f == .t && fitsS v' 33 && small n then some (.j (slice v' 9 24) (mkCmp 12#4 12#4 false n .t (v'.setWidth 9))) else none
  | .cmpEQS m n => some (.b (mk3 0#4 1#4 9#4 false n m 0x1C#6))
  | .cmpGT (.reg r') n f => if f == .t then some (.b (mk3 0#4 1#4 9#4 false n r' 0x0E#6)) else none
  | .cmpGT (.imm v') n f => if fitsU v' 9 then some (.b (mkCmp 12#4 14#4 false n f (v'.setWidth 9))) else if fitsN v' 9 then some (.bx p1n (mkCmp 12#4 15#4 false n f (v'.setWidth 9))) else if f == .t && fitsS v' 33 && small n then some (.j (slice v' 9 24) (mkCmp 12#4 14#4 false n .t (v'.setWidth 9))) else none
  | .cmpGTS m n => some (.b (mk3 0#4 1#4 9#4 false n m 0x1E#6))
  | .cmpHI (.reg r') n f => if f == .t then some (.b (mk3 0#4 1#4 9#4 false n r' 0x0D#6)) else none
  | .cmpHI (.imm v') n f => if fitsU v' 9 then some (.b (mkCmp 12#4 8#4 false n f (v'.setWidth 9))) else if fitsN v' 9 then some (.bx p1n (mkCmp 12#4 9#4 false n f (v'.setWidth 9))) else if f == .t && fitsS v' 33 && small n then some (.j (slice v' 9 24) (mkCmp 12#4 8#4 false n .t (v'.setWidth 9))) else none
  | .cmpHIS m n => some (.b (mk3 0#4 1#4 9#4 false n m 0x1D#6))
  | .cmpGE (.reg r') n f => if f == .t then some (.b (mk3 0#4 1#4 12#4 false n r' 0x0E#6)) else none
  | .cmpGE (.imm v') n f => if fitsU v' 9 then some (.b (mkCmp 12#4 10#4 false n f (v'.setWidth 9))) else if fitsN v' 9 then some (.bx p1n (mkCmp 12#4 11#4 false n f (v'.setWidth 9))) else if f == .t && fitsS v' 33 && small n then some (.j (slice v' 9 24) (mkCmp 12#4 10#4 false n .t (v'.setWidth 9))) else none
  | .cmpGES m n => some (.b (mk3 0#4 1#4 12#4 false n m 0x1E#6))
  | .cmpHS (.reg r') n f => if f == .t then some (.b (mk3 0#4 1#4 12#4 false n r' 0x0F#6)) else none
  | .cmpHS (.imm v') n f => if fitsU v' 9 then some (.b (mkCmp 12#4 6#4 false n f (v'.setWidth 9))) else if fitsN v' 9 then some (.bx p1n (mkCmp 12#4 7#4 false n f (v'.setWidth 9))) else if f == .t && fitsS v' 33 && small n then some (.j (slice v' 9 24) (mkCmp 12#4 6#4 false n .t (v'.setWidth 9))) else none
  | .cmpHSS m n => some (.b (mk3 0#4 1#4 12#4 false n m 0x1F#6))
  | .cmpQEQ (.reg r') n f => if f == .t then some (.b (mk3 0#4 1#4 9#4 true n r' 0x0C#6)) else none
  | .cmpQEQ (.imm v') n f => if fitsU v' 9 then some (.b (mkCmp 12#4 12#4 true n f (v'.setWidth 9))) else if fitsN v' 9 then some (.bx p1n (mkCmp 12#4 13#4 true n f (v'.setWidth 9))) else if f == .t && fitsS v' 33 && small n then some (.j (slice v' 9 24) (mkCmp 12#4 12#4 true n .t (v'.setWidth 9))) else none
  | .cmpQEQS m n => some (.b (mk3 0#4 1#4 9#4 true n m 0x1C#6))
  | .cmpQGT (.reg r') n f => if f == .t then some (.b (mk3 0#4 1#4 9#4 true n r' 0x0E#6)) else none
  | .cmpQGT (.imm v') n f => if fitsU v' 9 then some (.b (mkCmp 12#4 14#4 true n f (v'.setWidth 9))) else if fitsN v' 9 then some (.bx p1n (mkCmp 12#4 15#4 true n f (v'.setWidth 9))) else if f == .t && fitsS v' 33 && small n then some (.j (slice v' 9 24) (mkCmp 12#4 14#4 true n .t (v'.setWidth 9))) else none
  | .cmpQGTS m n => some (.b (mk3 0#4 1#4 9#4 true n m 0x1E#6))
  | .cmpQHI (.reg r') n f => if f == .t then some (.b (mk3 0#4 1#4 9#4 true n r' 0x0D#6)) else none
  | .cmpQHI (.imm v') n f => if fitsU v' 9 then some (.b (mkCmp 12#4 8#4 true n f (v'.setWidth 9))) else if fitsN v' 9 then some (.bx p1n (mkCmp 12#4 9#4 true n f (v'.setWidth 9))) else if f == .t && fitsS v' 33 && small n then some (.j (slice v' 9 24) (mkCmp 12#4 8#4 true n .t (v'.setWidth 9))) else none
  | .cmpQHIS m n => some (.b (mk3 0#4 1#4 9#4 true n m 0x1D#6))
  | .cmpQGE (.reg r') n f => if f == .t then some (.b (mk3 0#4 1#4 12#4 true n r' 0x0E#6)) else none
  | .cmpQGE (.imm v') n f => if fitsU v' 9 then some (.b (mkCmp 12#4 10#4 true n f (v'.setWidth 9))) else if fitsN v' 9 then some (.bx p1n (mkCmp 12#4 11#4 true n f (v'.setWidth 9))) else if f == .t && fitsS v' 33 && small n then some (.j (slice v' 9 24) (mkCmp 12#4 10#4 true n .t (v'.setWidth 9))) else none
  | .cmpQGES m n => some (.b (mk3 0#4 1#4 12#4 true n m 0x1E#6))
  | .cmpQHS (.reg r') n f => if f == .t then some (.b (mk3 0#4 1#4 12#4 true n r' 0x0F#6)) else none
  | .cmpQHS (.imm v') n f => if fitsU v' 9 then some (.b (mkCmp 12#4 6#4 true n f (v'.setWidth 9))) else if fitsN v' 9 then some (.bx p1n (mkCmp 12#4 7#4 true n f (v'.setWidth 9))) else if f == .t && fitsS v' 33 && small n then some (.j (slice v' 9 24) (mkCmp 12#4 6#4 true n .t (v'.setWidth 9))) else none
  | .cmpQHSS m n => some (.b (mk3 0#4 1#4 12#4 true n m 0x1F#6))
  | .tst (.reg r') n f => if f == .t then some (.b (mk3 0#4 1#4 9#4 false n r' 0x04#6)) else none
  | .tst (.imm v') n f => if fitsU v' 9 then some (.b (mkCmp 12#4 4#4 false n f (v'.setWidth 9))) else if fitsN v' 9 then some (.bx p1n (mkCmp 12#4 5#4 false n f (v'.setWidth 9))) else none
  | .tstS m n => some (.b (mk3 0#4 1#4 9#4 false n m 0x14#6))
  | .tstQ (.reg r') n f => if f == .t then some (.b (mk3 0#4 1#4 9#4 true n r' 0x04#6)) else none
  | .tstQ (.imm v') n f => if fitsU v' 9 then some (.b (mkCmp 12#4 4#4 true n f (v'.setWidth 9))) else if fitsN v' 9 then some (.bx p1n (mkCmp 12#4 5#4 true n f (v'.setWidth 9))) else none
  | .tstQS m n => some (.b (mk3 0#4 1#4 9#4 true n m 0x14#6))
  | .cmpPEQ m n => some (.b (mk3 0#4 3#4 8#4 false n m 0x06#6))
  | .cmpPEQX m n => some (.b (mk3 0#4 3#4 8#4 true (regOf n) (regOf m) 0x06#6))
  | .cmpPGT m n => some (.b (mk3 0#4 3#4 8#4 false n m 0x07#6))
  | .cmpPGTX m n => some (.b (mk3 0#4 3#4 8#4 true (regOf n) (regOf m) 0x07#6))
  | .cmp3EQ m (.imm v') n => if fitsU v' 5 then some (.b (mk3 0#4 9#4 0#4 true n m ((v'.setWidth 5).setWidth 6))) else if fitsS v' 17 then some (.x false (0#4 ++ 0#1 ++ slice v' 5 11) (mk3 0#4 9#4 0#4 true n m (slice v' 16 1 ++ v'.setWidth 5))) else if fitsS v' 29 && small n && small m then some (.j (slice v' 5 24) (mk3 0#4 9#4 0#4 true n m ((v'.setWidth 5).setWidth 6))) else none
  | .cmp3EQ m (.reg r') n => some (.b (mk3 0#4 9#4 4#4 true n m r'))
  | .cmp3GT m (.imm v') n => if fitsU v' 5 then some (.b (mk3 0#4 9#4 1#4 true n m ((v'.setWidth 5).setWidth 6))) else if fitsS v' 17 then some (.x false (0#4 ++ 0#1 ++ slice v' 5 11) (mk3 0#4 9#4 1#4 true n m (slice v' 16 1 ++ v'.setWidth 5))) else if fitsS v' 29 && small n && small m then some (.j (slice v' 5 24) (mk3 0#4 9#4 1#4 true n m ((v'.setWidth 5).setWidth 6))) else none
  | .cmp3GT m (.reg r') n => some (.b (mk3 0#4 9#4 5#4 true n m r'))
  | .cmp3NE m (.imm v') n => if fitsU v' 5 then some (.b (mk3 0#4 9#4 2#4 true n m ((v'.setWidth 5).setWidth 6))) else if fitsS v' 17 then some (.x false (0#4 ++ 0#1 ++ slice v' 5 11) (mk3 0#4 9#4 2#4 true n m (slice v' 16 1 ++ v'.setWidth 5))) else if fitsS v' 29 && small n && small m then some (.j (slice v' 5 24) (mk3 0#4 9#4 2#4 true n m ((v'.setWidth 5).setWidth 6))) else none
  | .cmp3NE m (.reg r') n => some (.b (mk3 0#4 9#4 6#4 true n m r'))
  | .cmp3LT m v n => if fitsU v 5 then some (.b (mk3 0#4 9#4 3#4 true n m ((v.setWidth 5).setWidth 6))) else if fitsS v 17 then some (.x false (0#4 ++ 0#1 ++ slice v 5 11) (mk3 0#4 9#4 3#4 true n m (slice v 16 1 ++ v.setWidth 5))) else if fitsS v 29 && small n && small m then some (.j (slice v 5 24) (mk3 0#4 9#4 3#4 true n m ((v.setWidth 5).setWidth 6))) else none
  | .cmp3GE m o n => some (.b (mk3 0#4 9#4 7#4 true n m o))
  | .cmp3HI m v n => if fitsS v 17 then some (.x true (0#4 ++ 0#1 ++ slice v 5 11) (mk3 0#4 9#4 1#4 true n m (slice v 16 1 ++ v.setWidth 5))) else none
  | .cmp3BI m v n => if fitsS v 17 then some (.x true (0#4 ++ 0#1 ++ slice v 5 11) (mk3 0#4 9#4 3#4 true n m (slice v 16 1 ++ v.setWidth 5))) else none
  | .clrT => some (.b (mk3 0#4 3#4 0#4 false 0x00#6 0x00#6 0x04#6))
  | .setT => some (.b (mk3 0#4 3#4 0#4 false 0x00#6 0x00#6 0x05#6))
  | .clrS => some (.b (mk3 0#4 3#4 0#4 false 0x00#6 0x00#6 0x06#6))
  | .setS => some (.b (mk3 0#4 3#4 0#4 false 0x00#6 0x00#6 0x07#6))
  | .notT => some (.b (mk3 0#4 3#4 0#4 false 0x00#6 0x00#6 0x08#6))
  | .notS => some (.b (mk3 0#4 3#4 0#4 false 0x00#6 0x00#6 0x09#6))
  | .srtprop i => some (.b (mk3 0#4 3#4 0#4 false 0x06#6 0x0C#6 (i.setWidth 6)))
  | .srttwid i => some (.b (mk3 0#4 3#4 0#4 false 6#6 11#6 (i.setWidth 6)))
  | .movT n => some (.b (mk3 0#4 3#4 0#4 false 0x06#6 0x0F#6 n))
  | .movNT n => some (.b (mk3 0#4 3#4 0#4 false 0x03#6 0x03#6 n))
  | .shad m (.reg r') n => some (.b (mk3 0#4 5#4 4#4 false n m r'))
  | .shad m (.imm v') n => if fitsS v' 8 then some (.bx (p1s ((v'.setWidth 8).setWidth 64)) (mk8 2#4 8#4 false n m 0#2 (v'.setWidth 8))) else none
  | .shadq m (.reg r') n => some (.b (mk3 0#4 5#4 4#4 true n m r'))
  | .shadq m (.imm v') n => if fitsS v' 8 then some (.bx (p1s ((v'.setWidth 8).setWidth 64)) (mk8 2#4 8#4 true n m 0#2 (v'.setWidth 8))) else none
  | .shadx m o n => some (.b (mk3 0#4 3#4 4#4 true (regOf n) (regOf m) o))
  | .shld m (.reg r') n => some (.b (mk3 0#4 5#4 5#4 false n m r'))
  | .shld m (.imm v') n => if fitsS v' 8 then some (.bx (p1s ((v'.setWidth 8).setWidth 64)) (mk8 2#4 9#4 false n m 0#2 (v'.setWidth 8))) else none
  | .shldq m (.reg r') n => some (.b (mk3 0#4 5#4 5#4 true n m r'))
  | .shldq m (.imm v') n => if fitsS v' 8 then some (.bx (p1s ((v'.setWidth 8).setWidth 64)) (mk8 2#4 9#4 true n m 0#2 (v'.setWidth 8))) else none
  | .shldx m o n => some (.b (mk3 0#4 3#4 5#4 true (regOf n) (regOf m) o))
  | .shar m o n => some (.b (mk3 0#4 2#4 2#4 false n m o))
  | .sharq m o n => some (.b (mk3 0#4 2#4 2#4 true n m o))
  | .sharx m o n => some (.b (mk3 0#4 3#4 2#4 true (regOf n) (regOf m) o))
  | .shlr m o n => some (.b (mk3 0#4 2#4 3#4 false n m o))
  | .shlrq m o n => some (.b (mk3 0#4 2#4 3#4 true n m o))
  | .shlrx m o n => some (.b (mk3 0#4 3#4 3#4 true (regOf n) (regOf m) o))
  | .rotclL n => some (.b (mk3 0#4 3#4 0#4 false 0x03#6 0x06#6 n))
  | .rotclQ n => some (.b (mk3 0#4 3#4 0#4 true 0x03#6 0x06#6 n))
  | .rotcrL n => some (.b (mk3 0#4 3#4 0#4 false 0x03#6 0x07#6 n))
  | .rotcrQ n => some (.b (mk3 0#4 3#4 0#4 true 0x03#6 0x07#6 n))
  | .rotl n => some (.b (mk3 0#4 3#4 0#4 false 0x03#6 0x04#6 n))
  | .rotr n => some (.b (mk3 0#4 3#4 0#4 false 0x03#6 0x05#6 n))
  | .rotlQ m o n => some (.b (mk3 0#4 3#4 2#4 false n m o))
  | .rotlL m o n => some (.b (mk3 0#4 3#4 6#4 false n m o))
  | .rotlx m o n => some (.b (mk3 0#4 3#4 6#4 true (regOf n) (regOf m) o))
  | .rotrQ m o n => some (.b (mk3 0#4 3#4 3#4 false n m o))
  | .muls m (.reg r') n => some (.b (mk3 0#4 1#4 2#4 false n m r'))
  | .muls m (.imm v') n => if fitsU v' 9 then some (.b (mk9 2#4 2#4 false n m (v'.setWidth 9))) else none
  | .mulu m (.reg r') n => some (.b (mk3 0#4 1#4 3#4 false n m r'))
  | .mulu m (.imm v') n => if fitsU v' 9 then some (.b (mk9 2#4 2#4 true n m (v'.setWidth 9))) else none
  | .mulsQ m o n => some (.b (mk3 0#4 1#4 2#4 true n m o))
  | .muluQ m o n => some (.b (mk3 0#4 1#4 3#4 true n m o))
  | .mulhsQ m o n => some (.b (mk3 0#4 3#4 4#4 false n m o))
  | .mulhuQ m o n => some (.b (mk3 0#4 3#4 5#4 false n m o))
  | .dmulsL m o n => some (.b (mk3 0#4 5#4 2#4 false n m o))
  | .dmuluL m o n => some (.b (mk3 0#4 5#4 3#4 false n m o))
  | .mulsW m (.imm v') n => if fitsU v' 5 then some (.b (mk3 0#4 5#4 14#4 true n m ((v'.setWidth 5).setWidth 6))) else if n == m && fitsU v' 10 then some (.b (mk10 2#4 13#4 2#4 false m (v'.setWidth 10))) else if n == m && fitsN v' 10 then some (.bx p1n (mk10 2#4 13#4 3#4 false m (v'.setWidth 10))) else none
  | .mulsW m (.reg r') n => some (.b (mk3 0#4 5#4 14#4 false n m r'))
  | .muluW m (.imm v') n => if fitsU v' 5 then some (.b (mk3 0#4 5#4 15#4 true n m ((v'.setWidth 5).setWidth 6))) else if n == m && fitsU v' 10 then some (.b (mk10 2#4 13#4 2#4 true m (v'.setWidth 10))) else if n == m && fitsN v' 10 then some (.bx p1n (mk10 2#4 13#4 3#4 true m (v'.setWidth 10))) else none
  | .muluW m (.reg r') n => some (.b (mk3 0#4 5#4 15#4 false n m r'))
  | .muluX m n => some (.b (mk3 0#4 1#4 8#4 true (regOf n) (regOf m) 0x04#6))
  | .mulhuX m n => some (.b (mk3 0#4 1#4 8#4 true (regOf n) (regOf m) 0x05#6))
  | .macsL m (.reg r') a n => if n == a then some (.b (mk3 0#4 6#4 0#4 false a m r')) else some (.x false (0x08#8 ++ 0#2 ++ a) (mk3 0#4 6#4 0#4 false n m r'))
  | .macsL m (.imm v') a n => if fitsS v' 11 then some (.x false (0#4 ++ 1#1 ++ v'.setWidth 11) (mk3 0#4 6#4 0#4 true n m a)) else if n == a && fitsS v' 17 then some (.x false (0#4 ++ 0#1 ++ slice v' 5 11) (mk3 0#4 6#4 0#4 true a m (slice v' 16 1 ++ v'.setWidth 5))) else if n == a && fitsS v' 29 && small a && small m then some (.j (slice v' 5 24) (mk3 0#4 6#4 0#4 true a m ((v'.setWidth 5).setWidth 6))) else none
  | .macuL m (.reg r') a n => if n == a then some (.b (mk3 0#4 6#4 1#4 false a m r')) else some (.x false (0x08#8 ++ 0#2 ++ a) (mk3 0#4 6#4 1#4 false n m r'))
  | .macuL m (.imm v') a n => if fitsS v' 11 then some (.x false (0#4 ++ 1#1 ++ v'.setWidth 11) (mk3 0#4 6#4 1#4 true n m a)) else if n == a && fitsS v' 17 then some (.x false (0#4 ++ 0#1 ++ slice v' 5 11) (mk3 0#4 6#4 1#4 true a m (slice v' 16 1 ++ v'.setWidth 5))) else if n == a && fitsS v' 29 && small a && small m then some (.j (slice v' 5 24) (mk3 0#4 6#4 1#4 true a m ((v'.setWidth 5).setWidth 6))) else none
  | .dmacsL m (.reg r') a n => if n == a then some (.b (mk3 0#4 6#4 2#4 false a m r')) else some (.x false (0x08#8 ++ 0#2 ++ a) (mk3 0#4 6#4 2#4 false n m r'))
  | .dmacsL m (.imm v') a n => if fitsS v' 11 then some (.x false (0#4 ++ 1#1 ++ v'.setWidth 11) (mk3 0#4 6#4 2#4 true n m a)) else if n == a && fitsS v' 17 then some (.x false (0#4 ++ 0#1 ++ slice v' 5 11) (mk3 0#4 6#4 2#4 true a m (slice v' 16 1 ++ v'.setWidth 5))) else if n == a && fitsS v' 29 && small a && small m then some (.j (slice v' 5 24) (mk3 0#4 6#4 2#4 true a m ((v'.setWidth 5).setWidth 6))) else none
  | .dmacuL m (.reg r') a n => if n == a then some (.b (mk3 0#4 6#4 3#4 false a m r')) else some (.x false (0x08#8 ++ 0#2 ++ a) (mk3 0#4 6#4 3#4 false n m r'))
  | .dmacuL m (.imm v') a n => if fitsS v' 11 then some (.x false (0#4 ++ 1#1 ++ v'.setWidth 11) (mk3 0#4 6#4 3#4 true n m a)) else if n == a && fitsS v' 17 then some (.x false (0#4 ++ 0#1 ++ slice v' 5 11) (mk3 0#4 6#4 3#4 true a m (slice v' 16 1 ++ v'.setWidth 5))) else if n == a && fitsS v' 29 && small a && small m then some (.j (slice v' 5 24) (mk3 0#4 6#4 3#4 true a m ((v'.setWidth 5).setWidth 6))) else none
  | .divsQ m o n => some (.b (mk3 0#4 6#4 4#4 false n m o))
  | .divuQ m o n => some (.b (mk3 0#4 6#4 4#4 true n m o))
  | .divsL m o n => some (.b (mk3 0#4 7#4 4#4 false n m o))
  | .divuL m o n => some (.b (mk3 0#4 7#4 4#4 true n m o))
  | .modsQ m o n => some (.b (mk3 0#4 6#4 5#4 false n m o))
  | .moduQ m o n => some (.b (mk3 0#4 6#4 5#4 true n m o))
  | .modsL m o n => some (.b (mk3 0#4 7#4 5#4 false n m o))
  | .moduL m o n => some (.b (mk3 0#4 7#4 5#4 true n m o))
  | .div0 => some (.b (mk3 0#4 3#4 0#4 false 0x00#6 0x00#6 0x0D#6))
  | .div1 => some (.b (mk3 0#4 3#4 0#4 false 0x00#6 0x00#6 0x0E#6))
  | .ldiz v n => if fitsU v 10 then some (.b (mk10 2#4 12#4 0#4 false n (v.setWidth 10))) else if fitsU v 16 then some (.b (mk16 0#3 n 0#2 (v.setWidth 16))) else if fitsU v 32 && small n then some (.j (slice (v.setWidth 32) 8 24) (mk8 2#4 12#4 false n 0x00#6 0#2 ((v.setWidth 32).setWidth 8))) else none
  | .ldin v n => if fitsN v 10 then some (.bx p1n (mk10 2#4 12#4 1#4 false n (v.setWidth 10))) else if fitsN v 16 then some (.bx p1n (mk16 1#3 n 0#2 (v.setWidth 16))) else if fitsN v 32 && small n then some (.j (slice (v.setWidth 32) 8 24) (mk8 2#4 12#4 false n 0x01#6 0#2 ((v.setWidth 32).setWidth 8))) else none
  | .ldi8 v n => if fitsS v 8 && nib n then some (.h (0xD#4 ++ slice n 0 4 ++ (v.setWidth 8))) else none
  | .ldi64 v n => some (.jj (slice v 40 24) (slice v 16 24) (mkBank 0#2 n (v.setWidth 16)))
  | .ldimiz v n => if fitsU v 10 then some (.b (mk10 2#4 12#4 0#4 true n (v.setWidth 10))) else none
  | .ldimin v n => if fitsN v 10 then some (.bx p1n (mk10 2#4 12#4 1#4 true n (v.setWidth 10))) else none
  | .ldish v n => if fitsU v 8 then some (.b (mk10 2#4 12#4 2#4 false n (v.setWidth 10))) else none
  | .ldihi v n => if fitsU v 10 then some (.b (mk10 2#4 12#4 3#4 false n (v.setWidth 10))) else none
  | .ldihiL i n => if small n then some (.j (slice i 8 24) (mk8 2#4 12#4 false n 0x03#6 0#2 (i.setWidth 8))) else none
  | .ldihiq v n => if fitsU v 10 then some (.b (mk10 2#4 12#4 3#4 true n (v.setWidth 10))) else none
  | .ldihiQ i n => if small n then some (.j (slice i 8 24) (mk8 2#4 12#4 true n 0x03#6 0#2 (i.setWidth 8))) else none
  | .ldish16 v n => if fitsU v 16 then some (.b (mk16 3#3 n 0#2 (v.setWidth 16))) else none
  | .ldiroz _ _ => none
  | .ldirozq _ _ => none
  | .ldiron _ _ => none
  | .ldironq _ _ => none
  | .movB .store n (.ind b') => if nib n && nib b' then some (.h (0x00#8 ++ slice n 0 4 ++ slice b' 0 4)) else none
  | .movB .load n (.ind b') => if nib n && nib b' then some (.h (0x08#8 ++ slice n 0 4 ++ slice b' 0 4)) else none
  | .movB .store n (.index b' x') => some (.b (mk3 0#4 0#4 4#4 false n b' x'))
  | .movB .load n (.index b' x') => some (.b (mk3 0#4 0#4 12#4 false n b' x'))
  | .movB .store n (.disp b' d') => if fitsU d' 9 then some (.b (mk9 1#4 0#4 false n b' (d'.setWidth 9))) else if fitsS d' 17 then some (.x false (0#4 ++ 0#1 ++ slice d' 5 11) (mk3 0#4 0#4 0#4 false n b' (slice d' 16 1 ++ d'.setWidth 5))) else none
  | .movB .load n (.disp b' d') => if fitsU d' 9 then some (.b (mk9 1#4 8#4 false n b' (d'.setWidth 9))) else if fitsS d' 17 then some (.x false (0#4 ++ 0#1 ++ slice d' 5 11) (mk3 0#4 0#4 8#4 false n b' (slice d' 16 1 ++ d'.setWidth 5))) else none
  | .movB .store n (.indexSc b' x' k' d') => some (.x false (0#4 ++ 1#1 ++ k' ++ d') (mk3 0#4 0#4 4#4 false n b' x'))
  | .movB .store n (.indexDisp b' x' d') => some (.x false (0#4 ++ 0#1 ++ d') (mk3 0#4 0#4 4#4 false n b' x'))
  | .movB .load n (.indexSc b' x' k' d') => some (.x false (0#4 ++ 1#1 ++ k' ++ d') (mk3 0#4 0#4 12#4 false n b' x'))
  | .movB .load n (.indexDisp b' x' d') => some (.x false (0#4 ++ 0#1 ++ d') (mk3 0#4 0#4 12#4 false n b' x'))
  | .movB .store n (.dispByte b' d') => if fitsS d' 33 && small n && small b' then some (.j (slice d' 9 24) (mk9 1#4 0#4 false n b' (d'.setWidth 9))) else none
  | .movB .load n (.dispByte b' d') => if fitsS d' 33 && small n && small b' then some (.j (slice d' 9 24) (mk9 1#4 8#4 false n b' (d'.setWidth 9))) else none
  | .movB _ _ _ => none
  | .movW .store n (.ind b') => if nib n && nib b' then some (.h (0x01#8 ++ slice n 0 4 ++ slice b' 0 4)) else none
  | .movW .load n (.ind b') => if nib n && nib b' then some (.h (0x09#8 ++ slice n 0 4 ++ slice b' 0 4)) else none
  | .movW .store n (.index b' x') => some (.b (mk3 0#4 0#4 5#4 false n b' x'))
  | .movW .load n (.index b' x') => some (.b (mk3 0#4 0#4 13#4 false n b' x'))
  | .movW .store n (.disp b' d') => if fitsU d' 9 then some (.b (mk9 1#4 1#4 false n b' (d'.setWidth 9))) else if fitsS d' 17 then some (.x false (0#4 ++ 0#1 ++ slice d' 5 11) (mk3 0#4 0#4 1#4 false n b' (slice d' 16 1 ++ d'.setWidth 5))) else none
  | .movW .load n (.disp b' d') => if fitsU d' 9 then some (.b (mk9 1#4 9#4 false n b' (d'.setWidth 9))) else if fitsS d' 17 then some (.x false (0#4 ++ 0#1 ++ slice d' 5 11) (mk3 0#4 0#4 9#4 false n b' (slice d' 16 1 ++ d'.setWidth 5))) else none
  | .movW .store n (.indexSc b' x' k' d') => some (.x false (0#4 ++ 1#1 ++ k' ++ d') (mk3 0#4 0#4 5#4 false n b' x'))
  | .movW .store n (.indexDisp b' x' d') => some (.x false (0#4 ++ 0#1 ++ d') (mk3 0#4 0#4 5#4 false n b' x'))
  | .movW .store n (.dispByte b' d') => if fitsS d' 17 then some (.x false (0#4 ++ 1#1 ++ slice d' 5 11) (mk3 0#4 0#4 1#4 false n b' (slice d' 16 1 ++ d'.setWidth 5))) else if fitsS d' 33 && small n && small b' then some (.j (slice d' 9 24) (mk9 1#4 1#4 false n b' (d'.setWidth 9))) else none
  | .movW .load n (.indexSc b' x' k' d') => some (.x false (0#4 ++ 1#1 ++ k' ++ d') (mk3 0#4 0#4 13#4 false n b' x'))
  | .movW .load n (.indexDisp b' x' d') => some (.x false (0#4 ++ 0#1 ++ d') (mk3 0#4 0#4 13#4 false n b' x'))
  | .movW .load n (.dispByte b' d') => if fitsS d' 17 then some (.x false (0#4 ++ 1#1 ++ slice d' 5 11) (mk3 0#4 0#4 9#4 false n b' (slice d' 16 1 ++ d'.setWidth 5))) else if fitsS d' 33 && small n && small b' then some (.j (slice d' 9 24) (mk9 1#4 9#4 false n b' (d'.setWidth 9))) else none
  | .movW _ _ _ => none
  | .movL .store n (.ind b') => if nib n && nib b' then some (.h (0x02#8 ++ slice n 0 4 ++ slice b' 0 4)) else none
  | .movL .load n (.ind b') => if nib n && nib b' then some (.h (0x0A#8 ++ slice n 0 4 ++ slice b' 0 4)) else none
  | .movL .store n (.index b' x') => some (.b (mk3 0#4 0#4 6#4 false n b' x'))
  | .movL .load n (.index b' x') => some (.b (mk3 0#4 0#4 14#4 false n b' x'))
  | .movL .store n (.disp b' d') => if fitsU d' 9 then some (.b (mk9 1#4 2#4 false n b' (d'.setWidth 9))) else if fitsS d' 17 then some (.x false (0#4 ++ 0#1 ++ slice d' 5 11) (mk3 0#4 0#4 2#4 false n b' (slice d' 16 1 ++ d'.setWidth 5))) else none
  | .movL .load n (.disp b' d') => if fitsU d' 9 then some (.b (mk9 1#4 10#4 false n b' (d'.setWidth 9))) else if fitsS d' 17 then some (.x false (0#4 ++ 0#1 ++ slice d' 5 11) (mk3 0#4 0#4 10#4 false n b' (slice d' 16 1 ++ d'.setWidth 5))) else none
  | .movL .store n (.gbr d') => if fitsU d' 10 then some (.b (mk10 2#4 13#4 8#4 false n (d'.setWidth 10))) else none
  | .movL .load n (.gbr d') => if fitsU d' 10 then some (.b (mk10 2#4 13#4 10#4 false n (d'.setWidth 10))) else none
  | .movL .store n (.indexSc b' x' k' d') => some (.x false (0#4 ++ 1#1 ++ k' ++ d') (mk3 0#4 0#4 6#4 false n b' x'))
  | .movL .store n (.indexDisp b' x' d') => some (.x false (0#4 ++ 0#1 ++ d') (mk3 0#4 0#4 6#4 false n b' x'))
  | .movL .store n (.dispByte b' d') => if fitsS d' 17 then some (.x false (0#4 ++ 1#1 ++ slice d' 5 11) (mk3 0#4 0#4 2#4 false n b' (slice d' 16 1 ++ d'.setWidth 5))) else if fitsS d' 33 && small n && small b' then some (.j (slice d' 9 24) (mk9 1#4 2#4 false n b' (d'.setWidth 9))) else none
  | .movL .load n (.indexSc b' x' k' d') => some (.x false (0#4 ++ 1#1 ++ k' ++ d') (mk3 0#4 0#4 14#4 false n b' x'))
  | .movL .load n (.indexDisp b' x' d') => some (.x false (0#4 ++ 0#1 ++ d') (mk3 0#4 0#4 14#4 false n b' x'))
  | .movL .load n (.dispByte b' d') => if fitsS d' 17 then some (.x false (0#4 ++ 1#1 ++ slice d' 5 11) (mk3 0#4 0#4 10#4 false n b' (slice d' 16 1 ++ d'.setWidth 5))) else if fitsS d' 33 && small n && small b' then some (.j (slice d' 9 24) (mk9 1#4 10#4 false n b' (d'.setWidth 9))) else none
  | .movQ .store n (.ind b') => if nib n && nib b' then some (.h (0x03#8 ++ slice n 0 4 ++ slice b' 0 4)) else none
  | .movQ .load n (.ind b') => if nib n && nib b' then some (.h (0x0B#8 ++ slice n 0 4 ++ slice b' 0 4)) else none
  | .movQ .store n (.index b' x') => some (.b (mk3 0#4 0#4 7#4 false n b' x'))
  | .movQ .load n (.index b' x') => some (.b (mk3 0#4 0#4 15#4 false n b' x'))
  | .movQ .store n (.disp b' d') => if fitsU d' 9 then some (.b (mk9 1#4 3#4 false n b' (d'.setWidth 9))) else if fitsS d' 17 then some (.x false (0#4 ++ 0#1 ++ slice d' 5 11) (mk3 0#4 0#4 3#4 false n b' (slice d' 16 1 ++ d'.setWidth 5))) else none
  | .movQ .load n (.disp b' d') => if fitsU d' 9 then some (.b (mk9 1#4 11#4 false n b' (d'.setWidth 9))) else if fitsS d' 17 then some (.x false (0#4 ++ 0#1 ++ slice d' 5 11) (mk3 0#4 0#4 11#4 false n b' (slice d' 16 1 ++ d'.setWidth 5))) else none
  | .movQ .store n (.gbr d') => if fitsU d' 10 then some (.b (mk10 2#4 13#4 9#4 false n (d'.setWidth 10))) else none
  | .movQ .load n (.gbr d') => if fitsU d' 10 then some (.b (mk10 2#4 13#4 11#4 false n (d'.setWidth 10))) else none
  | .movQ .store n (.indexSc b' x' k' d') => some (.x false (0#4 ++ 1#1 ++ k' ++ d') (mk3 0#4 0#4 7#4 false n b' x'))
  | .movQ .store n (.indexDisp b' x' d') => some (.x false (0#4 ++ 0#1 ++ d') (mk3 0#4 0#4 7#4 false n b' x'))
  | .movQ .store n (.dispByte b' d') => if fitsS d' 17 then some (.x false (0#4 ++ 1#1 ++ slice d' 5 11) (mk3 0#4 0#4 3#4 false n b' (slice d' 16 1 ++ d'.setWidth 5))) else if fitsS d' 33 && small n && small b' then some (.j (slice d' 9 24) (mk9 1#4 3#4 false n b' (d'.setWidth 9))) else none
  | .movQ .load n (.indexSc b' x' k' d') => some (.x false (0#4 ++ 1#1 ++ k' ++ d') (mk3 0#4 0#4 15#4 false n b' x'))
  | .movQ .load n (.indexDisp b' x' d') => some (.x false (0#4 ++ 0#1 ++ d') (mk3 0#4 0#4 15#4 false n b' x'))
  | .movQ .load n (.dispByte b' d') => if fitsS d' 17 then some (.x false (0#4 ++ 1#1 ++ slice d' 5 11) (mk3 0#4 0#4 11#4 false n b' (slice d' 16 1 ++ d'.setWidth 5))) else if fitsS d' 33 && small n && small b' then some (.j (slice d' 9 24) (mk9 1#4 11#4 false n b' (d'.setWidth 9))) else none
  | .movuB n (.ind b') => if nib n && nib b' then some (.h (0x50#8 ++ slice n 0 4 ++ slice b' 0 4)) else none
  | .movuB n (.index b' x') => some (.b (mk3 0#4 0#4 12#4 true n b' x'))
  | .movuB n (.disp b' d') => if fitsU d' 9 then some (.b (mk9 1#4 8#4 true n b' (d'.setWidth 9))) else if fitsS d' 17 then some (.x false (0#4 ++ 0#1 ++ slice d' 5 11) (mk3 0#4 0#4 8#4 true n b' (slice d' 16 1 ++ d'.setWidth 5))) else none
  | .movuB n (.indexSc b' x' k' d') => some (.x false (0#4 ++ 1#1 ++ k' ++ d') (mk3 0#4 0#4 12#4 true n b' x'))
  | .movuB n (.indexDisp b' x' d') => some (.x false (0#4 ++ 0#1 ++ d') (mk3 0#4 0#4 12#4 true n b' x'))
  | .movuB n (.dispByte b' d') => if fitsS d' 33 && small n && small b' then some (.j (slice d' 9 24) (mk9 1#4 8#4 true n b' (d'.setWidth 9))) else none
  | .movuB _ _ => none
  | .movuW n (.ind b') => if nib n && nib b' then some (.h (0x51#8 ++ slice n 0 4 ++ slice b' 0 4)) else none
  | .movuW n (.index b' x') => some (.b (mk3 0#4 0#4 13#4 true n b' x'))
  | .movuW n (.disp b' d') => if fitsU d' 9 then some (.b (mk9 1#4 9#4 true n b' (d'.setWidth 9))) else if fitsS d' 17 then some (.x false (0#4 ++ 0#1 ++ slice d' 5 11) (mk3 0#4 0#4 9#4 true n b' (slice d' 16 1 ++ d'.setWidth 5))) else none
  | .movuW n (.indexSc b' x' k' d') => some (.x false (0#4 ++ 1#1 ++ k' ++ d') (mk3 0#4 0#4 13#4 true n b' x'))
  | .movuW n (.indexDisp b' x' d') => some (.x false (0#4 ++ 0#1 ++ d') (mk3 0#4 0#4 13#4 true n b' x'))
  | .movuW n (.dispByte b' d') => if fitsS d' 17 then some (.x false (0#4 ++ 1#1 ++ slice d' 5 11) (mk3 0#4 0#4 9#4 true n b' (slice d' 16 1 ++ d'.setWidth 5))) else if fitsS d' 33 && small n && small b' then some (.j (slice d' 9 24) (mk9 1#4 9#4 true n b' (d'.setWidth 9))) else none
  | .movuW _ _ => none
  | .movuL n (.ind b') => if nib n && nib b' then some (.h (0x80#8 ++ slice n 0 4 ++ slice b' 0 4)) else none
  | .movuL n (.index b' x') => some (.b (mk3 0#4 0#4 14#4 true n b' x'))
  | .movuL n (.disp b' d') => if fitsU d' 9 then some (.b (mk9 1#4 10#4 true n b' (d'.setWidth 9))) else if fitsS d' 17 then some (.x false (0#4 ++ 0#1 ++ slice d' 5 11) (mk3 0#4 0#4 10#4 true n b' (slice d' 16 1 ++ d'.setWidth 5))) else none
  | .movuL n (.gbr d') => if fitsU d' 10 then some (.b (mk10 2#4 13#4 10#4 true n (d'.setWidth 10))) else none
  | .movuL n (.indexSc b' x' k' d') => some (.x false (0#4 ++ 1#1 ++ k' ++ d') (mk3 0#4 0#4 14#4 true n b' x'))
  | .movuL n (.indexDisp b' x' d') => some (.x false (0#4 ++ 0#1 ++ d') (mk3 0#4 0#4 14#4 true n b' x'))
  | .movuL n (.dispByte b' d') => if fitsS d' 17 then some (.x false (0#4 ++ 1#1 ++ slice d' 5 11) (mk3 0#4 0#4 10#4 true n b' (slice d' 16 1 ++ d'.setWidth 5))) else if fitsS d' 33 && small n && small b' then some (.j (slice d' 9 24) (mk9 1#4 10#4 true n b' (d'.setWidth 9))) else none
  | .movnL n (.disp b' d') => if fitsU d' 5 then some (.b (mk3 0#4 4#4 8#4 true n b' ((d'.setWidth 5).setWidth 6))) else none
  | .movnL n (.index b' x') => some (.b (mk3 0#4 4#4 12#4 true n b' x'))
  | .movnL _ _ => none
  | .leaB n (.index b' x') => some (.b (mk3 0#4 0#4 4#4 true n b' x'))
  | .leaB n (.disp b' d') => if fitsU d' 9 then some (.b (mk9 1#4 0#4 true n b' (d'.setWidth 9))) else none
  | .leaB n (.dispByte b' d') => if fitsS d' 33 && small n && small b' then some (.j (slice d' 9 24) (mk9 1#4 0#4 true n b' (d'.setWidth 9))) else none
  | .leaB _ _ => none
  | .leaW n (.index b' x') => some (.b (mk3 0#4 0#4 5#4 true n b' x'))
  | .leaW n (.disp b' d') => if fitsU d' 9 then some (.b (mk9 1#4 1#4 true n b' (d'.setWidth 9))) else none
  | .leaW n (.dispByte b' d') => if fitsS d' 33 && small n && small b' then some (.j (slice d' 9 24) (mk9 1#4 1#4 true n b' (d'.setWidth 9))) else none
  | .leaW _ _ => none
  | .leaL n (.index b' x') => some (.b (mk3 0#4 0#4 6#4 true n b' x'))
  | .leaL n (.disp b' d') => if fitsU d' 9 then some (.b (mk9 1#4 2#4 true n b' (d'.setWidth 9))) else none
  | .leaL n (.dispByte b' d') => if fitsS d' 33 && small n && small b' then some (.j (slice d' 9 24) (mk9 1#4 2#4 true n b' (d'.setWidth 9))) else none
  | .leaL _ _ => none
  | .leaQ n (.index b' x') => some (.b (mk3 0#4 0#4 7#4 true n b' x'))
  | .leaQ n (.disp b' d') => if fitsU d' 9 then some (.b (mk9 1#4 3#4 true n b' (d'.setWidth 9))) else none
  | .leaQ n (.gbr d') => if fitsU d' 16 then some (.b (mk16 5#3 n 0#2 (d'.setWidth 16))) else none
  | .leaQ n (.dispByte b' d') => if fitsS d' 33 && small n && small b' then some (.j (slice d' 9 24) (mk9 1#4 3#4 true n b' (d'.setWidth 9))) else none
  | .leaQ _ _ => none
  | .movX .store n (.index b' x') => some (.b (mk3 0#4 4#4 4#4 false (regOf n) b' x'))
  | .movX .load n (.index b' x') => some (.b (mk3 0#4 4#4 12#4 false (regOf n) b' x'))
  | .movX .store n (.disp b' d') => if fitsU d' 9 then some (.b (mk9 1#4 5#4 true (regOf n) b' (d'.setWidth 9))) else if fitsS d' 17 then some (.x false (0#4 ++ 0#1 ++ slice d' 5 11) (mk3 0#4 4#4 0#4 false (regOf n) b' (slice d' 16 1 ++ d'.setWidth 5))) else none
  | .movX .load n (.disp b' d') => if fitsU d' 9 then some (.b (mk9 1#4 7#4 true (regOf n) b' (d'.setWidth 9))) else if fitsS d' 17 then some (.x false (0#4 ++ 0#1 ++ slice d' 5 11) (mk3 0#4 4#4 8#4 false (regOf n) b' (slice d' 16 1 ++ d'.setWidth 5))) else none
  | .movX .store n (.gbr d') => if fitsU d' 10 then some (.b (mk10 2#4 13#4 9#4 true (regOf n) (d'.setWidth 10))) else none
  | .movX .load n (.gbr d') => if fitsU d' 10 then some (.b (mk10 2#4 13#4 11#4 true (regOf n) (d'.setWidth 10))) else none
  | .movX .store n (.indexSc b' x' k' d') => some (.x false (0#4 ++ 1#1 ++ k' ++ d') (mk3 0#4 4#4 4#4 false (regOf n) b' x'))
  | .movX .store n (.indexDisp b' x' d') => some (.x false (0#4 ++ 0#1 ++ d') (mk3 0#4 4#4 4#4 false (regOf n) b' x'))
  | .movX .load n (.indexSc b' x' k' d') => some (.x false (0#4 ++ 1#1 ++ k' ++ d') (mk3 0#4 4#4 12#4 false (regOf n) b' x'))
  | .movX .load n (.indexDisp b' x' d') => some (.x false (0#4 ++ 0#1 ++ d') (mk3 0#4 4#4 12#4 false (regOf n) b' x'))
  | .movX .store n (.dispByte b' d') => if fitsS d' 33 && small b' then some (.j (slice d' 9 24) (mk9 1#4 5#4 true (regOf n) b' (d'.setWidth 9))) else none
  | .movX .load n (.dispByte b' d') => if fitsS d' 33 && small b' then some (.j (slice d' 9 24) (mk9 1#4 7#4 true (regOf n) b' (d'.setWidth 9))) else none
  | .movX _ _ _ => none
  | .movC .store c (.index b' x') => some (.b (mk3 0#4 4#4 5#4 false c b' x'))
  | .movC .store c (.disp b' d') => if fitsU d' 9 then some (.b (mk9 1#4 5#4 false c b' (d'.setWidth 9))) else none
  | .movC .load c (.index b' x') => some (.b (mk3 0#4 4#4 13#4 false c b' x'))
  | .movC .load c (.disp b' d') => if fitsU d' 9 then some (.b (mk9 1#4 7#4 false c b' (d'.setWidth 9))) else none
  | .movC .store c (.indexSc b' x' k' d') => some (.x false (0#4 ++ 1#1 ++ k' ++ d') (mk3 0#4 4#4 3#4 false c b' x'))
  | .movC .store c (.indexDisp b' x' d') => some (.x false (0#4 ++ 0#1 ++ d') (mk3 0#4 4#4 3#4 false c b' x'))
  | .movC .load c (.indexSc b' x' k' d') => some (.x false (0#4 ++ 1#1 ++ k' ++ d') (mk3 0#4 4#4 11#4 false c b' x'))
  | .movC .load c (.indexDisp b' x' d') => some (.x false (0#4 ++ 0#1 ++ d') (mk3 0#4 4#4 11#4 false c b' x'))
  | .movC .store c (.dispByte b' d') => if fitsS d' 33 && small c && small b' then some (.j (slice d' 9 24) (mk9 1#4 5#4 false c b' (d'.setWidth 9))) else none
  | .movC .load c (.dispByte b' d') => if fitsS d' 33 && small c && small b' then some (.j (slice d' 9 24) (mk9 1#4 7#4 false c b' (d'.setWidth 9))) else none
  | .movC _ _ _ => none
  | .movTW .store n (.disp b' d') => if fitsU d' 5 then some (.b (mk3 0#4 9#4 0#4 false n b' ((d'.setWidth 5).setWidth 6))) else none
  | .movTW .store n (.index b' x') => some (.b (mk3 0#4 9#4 4#4 false n b' x'))
  | .movTW .load n (.disp b' d') => if fitsU d' 5 then some (.b (mk3 0#4 9#4 8#4 false n b' ((d'.setWidth 5).setWidth 6))) else none
  | .movTW .load n (.index b' x') => some (.b (mk3 0#4 9#4 12#4 false n b' x'))
  | .movTW _ _ _ => none
  | .movuTW n (.disp b' d') => if fitsU d' 5 then some (.b (mk3 0#4 9#4 8#4 true n b' ((d'.setWidth 5).setWidth 6))) else none
  | .movuTW n (.index b' x') => some (.b (mk3 0#4 9#4 12#4 true n b' x'))
  | .movuTW _ _ => none
  | .movHTW .store n (.disp b' d') => if fitsU d' 5 then some (.b (mk3 0#4 9#4 1#4 false n b' ((d'.setWidth 5).setWidth 6))) else none
  | .movHTW .store n (.index b' x') => some (.b (mk3 0#4 9#4 5#4 false n b' x'))
  | .movHTW .load n (.disp b' d') => if fitsU d' 5 then some (.b (mk3 0#4 9#4 9#4 false n b' ((d'.setWidth 5).setWidth 6))) else none
  | .movHTW .load n (.index b' x') => some (.b (mk3 0#4 9#4 13#4 false n b' x'))
  | .movHTW _ _ _ => none
  | .xmovB _ _ _ => none
  | .xmovW _ _ _ => none
  | .xmovL _ _ _ => none
  | .xmovQ _ _ _ => none
  | .xmovX _ _ _ => none
  | .ldop u .store .b n (.indexSc b' x' k' d') => some (.x false (u ++ 1#1 ++ k' ++ d') (mk3 0#4 0#4 4#4 false n b' x'))
  | .ldop u .store .b n (.indexDisp b' x' d') => some (.x false (u ++ 0#1 ++ d') (mk3 0#4 0#4 4#4 false n b' x'))
  | .ldop u .store .b n (.disp b' d') => if fitsS d' 17 then some (.x false (u ++ 0#1 ++ slice d' 5 11) (mk3 0#4 0#4 0#4 false n b' (slice d' 16 1 ++ d'.setWidth 5))) else none
  | .ldop u .load .b n (.indexSc b' x' k' d') => some (.x false (u ++ 1#1 ++ k' ++ d') (mk3 0#4 0#4 12#4 false n b' x'))
  | .ldop u .load .b n (.indexDisp b' x' d') => some (.x false (u ++ 0#1 ++ d') (mk3 0#4 0#4 12#4 false n b' x'))
  | .ldop u .load .b n (.disp b' d') => if fitsS d' 17 then some (.x false (u ++ 0#1 ++ slice d' 5 11) (mk3 0#4 0#4 8#4 false n b' (slice d' 16 1 ++ d'.setWidth 5))) else none
  | .ldop u .load .ub n (.indexSc b' x' k' d') => some (.x false (u ++ 1#1 ++ k' ++ d') (mk3 0#4 0#4 12#4 true n b' x'))
  | .ldop u .load .ub n (.indexDisp b' x' d') => some (.x false (u ++ 0#1 ++ d') (mk3 0#4 0#4 12#4 true n b' x'))
  | .ldop u .load .ub n (.disp b' d') => if fitsS d' 17 then some (.x false (u ++ 0#1 ++ slice d' 5 11) (mk3 0#4 0#4 8#4 true n b' (slice d' 16 1 ++ d'.setWidth 5))) else none
  | .ldop u .store .w n (.indexSc b' x' k' d') => some (.x false (u ++ 1#1 ++ k' ++ d') (mk3 0#4 0#4 5#4 false n b' x'))
  | .ldop u .store .w n (.indexDisp b' x' d') => some (.x false (u ++ 0#1 ++ d') (mk3 0#4 0#4 5#4 false n b' x'))
  | .ldop u .store .w n (.disp b' d') => if fitsS d' 17 then some (.x false (u ++ 0#1 ++ slice d' 5 11) (mk3 0#4 0#4 1#4 false n b' (slice d' 16 1 ++ d'.setWidth 5))) else none
  | .ldop u .load .w n (.indexSc b' x' k' d') => some (.x false (u ++ 1#1 ++ k' ++ d') (mk3 0#4 0#4 13#4 false n b' x'))
  | .ldop u .load .w n (.indexDisp b' x' d') => some (.x false (u ++ 0#1 ++ d') (mk3 0#4 0#4 13#4 false n b' x'))
  | .ldop u .load .w n (.disp b' d') => if fitsS d' 17 then some (.x false (u ++ 0#1 ++ slice d' 5 11) (mk3 0#4 0#4 9#4 false n b' (slice d' 16 1 ++ d'.setWidth 5))) else none
  | .ldop u .load .uw n (.indexSc b' x' k' d') => some (.x false (u ++ 1#1 ++ k' ++ d') (mk3 0#4 0#4 13#4 true n b' x'))
  | .ldop u .load .uw n (.indexDisp b' x' d') => some (.x false (u ++ 0#1 ++ d') (mk3 0#4 0#4 13#4 true n b' x'))
  | .ldop u .load .uw n (.disp b' d') => if fitsS d' 17 then some (.x false (u ++ 0#1 ++ slice d' 5 11) (mk3 0#4 0#4 9#4 true n b' (slice d' 16 1 ++ d'.setWidth 5))) else none
  | .ldop u .store .l n (.indexSc b' x' k' d') => some (.x false (u ++ 1#1 ++ k' ++ d') (mk3 0#4 0#4 6#4 false n b' x'))
  | .ldop u .store .l n (.indexDisp b' x' d') => some (.x false (u ++ 0#1 ++ d') (mk3 0#4 0#4 6#4 false n b' x'))
  | .ldop u .store .l n (.disp b' d') => if fitsS d' 17 then some (.x false (u ++ 0#1 ++ slice d' 5 11) (mk3 0#4 0#4 2#4 false n b' (slice d' 16 1 ++ d'.setWidth 5))) else none
  | .ldop u .load .l n (.indexSc b' x' k' d') => some (.x false (u ++ 1#1 ++ k' ++ d') (mk3 0#4 0#4 14#4 false n b' x'))
  | .ldop u .load .l n (.indexDisp b' x' d') => some (.x false (u ++ 0#1 ++ d') (mk3 0#4 0#4 14#4 false n b' x'))
  | .ldop u .load .l n (.disp b' d') => if fitsS d' 17 then some (.x false (u ++ 0#1 ++ slice d' 5 11) (mk3 0#4 0#4 10#4 false n b' (slice d' 16 1 ++ d'.setWidth 5))) else none
  | .ldop u .load .ul n (.indexSc b' x' k' d') => some (.x false (u ++ 1#1 ++ k' ++ d') (mk3 0#4 0#4 14#4 true n b' x'))
  | .ldop u .load .ul n (.indexDisp b' x' d') => some (.x false (u ++ 0#1 ++ d') (mk3 0#4 0#4 14#4 true n b' x'))
  | .ldop u .load .ul n (.disp b' d') => if fitsS d' 17 then some (.x false (u ++ 0#1 ++ slice d' 5 11) (mk3 0#4 0#4 10#4 true n b' (slice d' 16 1 ++ d'.setWidth 5))) else none
  | .ldop u .store .q n (.indexSc b' x' k' d') => some (.x false (u ++ 1#1 ++ k' ++ d') (mk3 0#4 0#4 7#4 false n b' x'))
  | .ldop u .store .q n (.indexDisp b' x' d') => some (.x false (u ++ 0#1 ++ d') (mk3 0#4 0#4 7#4 false n b' x'))
  | .ldop u .store .q n (.disp b' d') => if fitsS d' 17 then some (.x false (u ++ 0#1 ++ slice d' 5 11) (mk3 0#4 0#4 3#4 false n b' (slice d' 16 1 ++ d'.setWidth 5))) else none
  | .ldop u .load .q n (.indexSc b' x' k' d') => some (.x false (u ++ 1#1 ++ k' ++ d') (mk3 0#4 0#4 15#4 false n b' x'))
  | .ldop u .load .q n (.indexDisp b' x' d') => some (.x false (u ++ 0#1 ++ d') (mk3 0#4 0#4 15#4 false n b' x'))
  | .ldop u .load .q n (.disp b' d') => if fitsS d' 17 then some (.x false (u ++ 0#1 ++ slice d' 5 11) (mk3 0#4 0#4 11#4 false n b' (slice d' 16 1 ++ d'.setWidth 5))) else none
  | .ldop _ _ _ _ _ => none
  | .ldtex m o .none n => some (.b (mk3 0#4 0#4 11#4 true n m o))
  | .ldtex m o (.scaled k' d') n => some (.x false (0#4 ++ 1#1 ++ k' ++ d') (mk3 0#4 0#4 11#4 true n m o))
  | .ldtex m o (.disp d') n => some (.x false (0#4 ++ 0#1 ++ d') (mk3 0#4 0#4 11#4 true n m o))
  | .rbsldQ i n => some (.b (mk10 2#4 14#4 2#4 false n (i.setWidth 10)))
  | .rbsldX i n => some (.b (mk10 2#4 14#4 2#4 true (regOf n) (i.setWidth 10)))
  | .rbsstQ i n => some (.b (mk10 2#4 14#4 3#4 false n (i.setWidth 10)))
  | .rbsstX i n => some (.b (mk10 2#4 14#4 3#4 true (regOf n) (i.setWidth 10)))
  | .bra (.reg r') => some (.b (mk3 0#4 3#4 0#4 false 0x01#6 0x00#6 r'))
  | .bra (.disp d') => if fitsS d' 20 then some (.b (mk20 12#4 0#1 (d'.setWidth 20))) else if fitsS d' 33 then some (.x false (0#4 ++ slice d' 20 12) (mk20 12#4 (slice d' 32 1) (d'.setWidth 20))) else none
  | .jmp n => some (.b (mk3 0#4 3#4 0#4 false 0x02#6 0x00#6 n))
  | .jmpAbs a => some (.abs false a)
  | .bsr (.reg r') => some (.b (mk3 0#4 3#4 0#4 false 0x01#6 0x01#6 r'))
  | .bsr (.disp d') => if fitsS d' 20 then some (.b (mk20 13#4 0#1 (d'.setWidth 20))) else if fitsS d' 33 then some (.x false (0#4 ++ slice d' 20 12) (mk20 13#4 (slice d' 32 1) (d'.setWidth 20))) else none
  | .jsr n => some (.b (mk3 0#4 3#4 0#4 false 0x02#6 0x01#6 n))
  | .jsrAbs a => some (.abs true a)
  | .rts => some (.b (mk3 0#4 3#4 0#4 false 0x00#6 0x00#6 0x01#6))
  | .rtsu => some (.b (mk3 0#4 3#4 0#4 false 0x00#6 0x02#6 0x01#6))
  | .bt (.reg r') => some (.b (mk3 0#4 3#4 0#4 false 0x01#6 0x02#6 r'))
  | .bt (.disp d') => if fitsS d' 20 then some (.b (mk20 14#4 0#1 (d'.setWidth 20))) else if fitsS d' 33 then some (.x false (0#4 ++ slice d' 20 12) (mk20 14#4 (slice d' 32 1) (d'.setWidth 20))) else none
  | .bf (.reg r') => some (.b (mk3 0#4 3#4 0#4 false 0x01#6 0x03#6 r'))
  | .bf (.disp d') => if fitsS d' 20 then some (.b (mk20 15#4 0#1 (d'.setWidth 20))) else if fitsS d' 33 then some (.x false (0#4 ++ slice d' 20 12) (mk20 15#4 (slice d' 32 1) (d'.setWidth 20))) else none
  | .jt n => some (.b (mk3 0#4 3#4 0#4 false 0x02#6 0x02#6 n))
  | .jf n => some (.b (mk3 0#4 3#4 0#4 false 0x02#6 0x03#6 n))
  | .braL n => some (.b (mk3 0#4 3#4 0#4 false 0x02#6 0x0C#6 n))
  | .bsrL n => some (.b (mk3 0#4 3#4 0#4 false 0x02#6 0x0D#6 n))
  | .btL n => some (.b (mk3 0#4 3#4 0#4 false 0x02#6 0x0E#6 n))
  | .bfL n => some (.b (mk3 0#4 3#4 0#4 false 0x02#6 0x0F#6 n))
  | .jmpmd i n => some (.b (mk3 0#4 3#4 8#4 true n (i.setWidth 6) 0x08#6))
  | .jsrmd i n => some (.b (mk3 0#4 3#4 8#4 true n (i.setWidth 6) 0x09#6))
  | .brEQL n d => if fitsU d 10 then some (.b (mk10 2#4 14#4 4#4 false n (d.setWidth 10))) else if fitsN d 10 then some (.bx p1n (mk10 2#4 14#4 5#4 false n (d.setWidth 10))) else none
  | .brEQQ n d => if fitsU d 10 then some (.b (mk10 2#4 14#4 4#4 true n (d.setWidth 10))) else if fitsN d 10 then some (.bx p1n (mk10 2#4 14#4 5#4 true n (d.setWidth 10))) else none
  | .brNEL n d => if fitsU d 10 then some (.b (mk10 2#4 14#4 6#4 false n (d.setWidth 10))) else if fitsN d 10 then some (.bx p1n (mk10 2#4 14#4 7#4 false n (d.setWidth 10))) else none
  | .brNEQ n d => if fitsU d 10 then some (.b (mk10 2#4 14#4 6#4 true n (d.setWidth 10))) else if fitsN d 10 then some (.bx p1n (mk10 2#4 14#4 7#4 true n (d.setWidth 10))) else none
  | .brLTL n d => if fitsU d 10 then some (.b (mk10 2#4 14#4 8#4 false n (d.setWidth 10))) else if fitsN d 10 then some (.bx p1n (mk10 2#4 14#4 9#4 false n (d.setWidth 10))) else none
  | .brLTQ n d => if fitsU d 10 then some (.b (mk10 2#4 14#4 8#4 true n (d.setWidth 10))) else if fitsN d 10 then some (.bx p1n (mk10 2#4 14#4 9#4 true n (d.setWidth 10))) else none
  | .brGEL n d => if fitsU d 10 then some (.b (mk10 2#4 14#4 10#4 false n (d.setWidth 10))) else if fitsN d 10 then some (.bx p1n (mk10 2#4 14#4 11#4 false n (d.setWidth 10))) else none
  | .brGEQ n d => if fitsU d 10 then some (.b (mk10 2#4 14#4 10#4 true n (d.setWidth 10))) else if fitsN d 10 then some (.bx p1n (mk10 2#4 14#4 11#4 true n (d.setWidth 10))) else none
  | .brLEL n d => if fitsU d 10 then some (.b (mk10 2#4 14#4 12#4 false n (d.setWidth 10))) else if fitsN d 10 then some (.bx p1n (mk10 2#4 14#4 13#4 false n (d.setWidth 10))) else none
  | .brLEQ n d => if fitsU d 10 then some (.b (mk10 2#4 14#4 12#4 true n (d.setWidth 10))) else if fitsN d 10 then some (.bx p1n (mk10 2#4 14#4 13#4 true n (d.setWidth 10))) else none
  | .brGTL n d => if fitsU d 10 then some (.b (mk10 2#4 14#4 14#4 false n (d.setWidth 10))) else if fitsN d 10 then some (.bx p1n (mk10 2#4 14#4 15#4 false n (d.setWidth 10))) else none
  | .brGTQ n d => if fitsU d 10 then some (.b (mk10 2#4 14#4 14#4 true n (d.setWidth 10))) else if fitsN d 10 then some (.bx p1n (mk10 2#4 14#4 15#4 true n (d.setWidth 10))) else none
  | .jtstT m n d => if fitsS d 8 then some (.bx (p1s ((d.setWidth 8).setWidth 64)) (mk8 1#4 12#4 false n m 0#2 (d.setWidth 8))) else none
  | .jtstQT m n d => if fitsS d 8 then some (.bx (p1s ((d.setWidth 8).setWidth 64)) (mk8 1#4 12#4 true n m 0#2 (d.setWidth 8))) else none
  | .jtstF m n d => if fitsS d 8 then some (.bx (p1s ((d.setWidth 8).setWidth 64)) (mk8 1#4 12#4 false n m 1#2 (d.setWidth 8))) else none
  | .jtstQF m n d => if fitsS d 8 then some (.bx (p1s ((d.setWidth 8).setWidth 64)) (mk8 1#4 12#4 true n m 1#2 (d.setWidth 8))) else none
  | .jcmpGT m n d => if fitsS d 8 then some (.bx (p1s ((d.setWidth 8).setWidth 64)) (mk8 1#4 13#4 false n m 0#2 (d.setWidth 8))) else none
  | .jcmpQGT m n d => if fitsS d 8 then some (.bx (p1s ((d.setWidth 8).setWidth 64)) (mk8 1#4 13#4 true n m 0#2 (d.setWidth 8))) else none
  | .jcmpLE m n d => if fitsS d 8 then some (.bx (p1s ((d.setWidth 8).setWidth 64)) (mk8 1#4 13#4 false n m 1#2 (d.setWidth 8))) else none
  | .jcmpQLE m n d => if fitsS d 8 then some (.bx (p1s ((d.setWidth 8).setWidth 64)) (mk8 1#4 13#4 true n m 1#2 (d.setWidth 8))) else none
  | .jcmpHI m n d => if fitsS d 8 then some (.bx (p1s ((d.setWidth 8).setWidth 64)) (mk8 1#4 14#4 false n m 0#2 (d.setWidth 8))) else none
  | .jcmpQHI m n d => if fitsS d 8 then some (.bx (p1s ((d.setWidth 8).setWidth 64)) (mk8 1#4 14#4 true n m 0#2 (d.setWidth 8))) else none
  | .jcmpLS m n d => if fitsS d 8 then some (.bx (p1s ((d.setWidth 8).setWidth 64)) (mk8 1#4 14#4 false n m 1#2 (d.setWidth 8))) else none
  | .jcmpQLS m n d => if fitsS d 8 then some (.bx (p1s ((d.setWidth 8).setWidth 64)) (mk8 1#4 14#4 true n m 1#2 (d.setWidth 8))) else none
  | .jcmpEQ m n d => if fitsS d 8 then some (.bx (p1s ((d.setWidth 8).setWidth 64)) (mk8 1#4 15#4 false n m 0#2 (d.setWidth 8))) else none
  | .jcmpQEQ m n d => if fitsS d 8 then some (.bx (p1s ((d.setWidth 8).setWidth 64)) (mk8 1#4 15#4 true n m 0#2 (d.setWidth 8))) else none
  | .jcmpNE m n d => if fitsS d 8 then some (.bx (p1s ((d.setWidth 8).setWidth 64)) (mk8 1#4 15#4 false n m 1#2 (d.setWidth 8))) else none
  | .jcmpQNE m n d => if fitsS d 8 then some (.bx (p1s ((d.setWidth 8).setWidth 64)) (mk8 1#4 15#4 true n m 1#2 (d.setWidth 8))) else none
  | .jcmpz q c n d => if fitsS d 8 then some (.bx (p1s d) (mkJcmpz q c n (d.setWidth 8))) else none
  | .movToC m c => some (.b (mk3 0#4 1#4 9#4 false c m 0x0A#6))
  | .movFromC c n => some (.b (mk3 0#4 1#4 9#4 false n c 0x0B#6))
  | .movToS m k => some (.b (mk3 0#4 1#4 12#4 false k m 0x0A#6))
  | .movFromS k n => some (.b (mk3 0#4 1#4 12#4 false n k 0x0B#6))
  | .breakOp => some (.h 0x3030#16)
  | .break2 => some (.b (mk3 0#4 3#4 0#4 false 0x00#6 0x00#6 0x03#6))
  | .sleep => some (.b (mk3 0#4 3#4 0#4 false 0x00#6 0x00#6 0x02#6))
  | .rte => some (.b (mk3 0#4 3#4 0#4 false 0x00#6 0x00#6 0x0C#6))
  | .cpuid i => some (.b (mk3 0#4 3#4 0#4 false 0x06#6 0x0A#6 (i.setWidth 6)))
  | .invtlb => some (.b (mk3 0#4 3#4 0#4 false 0x00#6 0x02#6 0x0F#6))
  | .invic n => some (.b (mk3 0#4 3#4 0#4 false 0x01#6 0x0C#6 n))
  | .invdc n => some (.b (mk3 0#4 3#4 0#4 false 0x01#6 0x0D#6 n))
  | .ldtlb => some (.b (mk3 0#4 3#4 0#4 false 0x00#6 0x00#6 0x0F#6))
  | .ldxtlb => some (.b (mk3 0#4 3#4 0#4 false 0x00#6 0x02#6 0x05#6))
  | .snipedc m n => some (.b (mk3 0#4 1#4 8#4 false n m 0x0B#6))
  | .snipeic m n => some (.b (mk3 0#4 1#4 8#4 true n m 0x0B#6))
  | .ldacl => some (.b (mk3 0#4 3#4 0#4 false 0x00#6 0x02#6 0x04#6))
  | .ldekrr => some (.b (mk3 0#4 3#4 0#4 false 0x00#6 0x02#6 0x0C#6))
  | .svekrr => some (.b (mk3 0#4 3#4 0#4 false 0x00#6 0x02#6 0x0A#6))
  | .ldekey => some (.b (mk3 0#4 3#4 0#4 false 0x00#6 0x02#6 0x0D#6))
  | .ldeenc => some (.b (mk3 0#4 3#4 0#4 false 0x00#6 0x02#6 0x0E#6))
  | .sxentr => some (.b (mk3 0#4 3#4 0#4 false 0x00#6 0x02#6 0x08#6))
  | .suentr => some (.b (mk3 0#4 3#4 0#4 false 0x00#6 0x02#6 0x09#6))
  | .sventr => some (.b (mk3 0#4 3#4 0#4 false 0x00#6 0x02#6 0x0B#6))
  | .trapImm i => some (.h (3#4 ++ slice i 4 1 ++ 6#3 ++ slice i 0 4 ++ 3#4))
  | .trapReg n => some (.b (mk3 0#4 3#4 0#4 false 0x06#6 0x08#6 n))
  | .trapPair n => some (.b (mk3 0#4 3#4 0#4 true 0x06#6 0x08#6 (regOf n)))
  | .settrap m n => some (.b (mk3 0#4 1#4 9#4 true n m 0x0A#6))
  | .vskg m n => some (.b (mk3 0#4 1#4 8#4 false n m 0x06#6))
  | .vskc m n => some (.b (mk3 0#4 1#4 8#4 false n m 0x07#6))
  | .xbless m n => some (.b (mk3 0#4 1#4 14#4 true (regOf n) (regOf m) 0x0E#6))
  | .wexmd i => some (.b (mk3 0#4 3#4 0#4 false 0x06#6 0x09#6 (i.setWidth 6)))
  | .bndchkB m n => some (.b (mk3 0#4 1#4 8#4 false n m 0x00#6))
  | .bndchkW m n => some (.b (mk3 0#4 1#4 8#4 false n m 0x01#6))
  | .bndchkImm i n => if fitsU i 6 then some (.b (mk3 0#4 1#4 8#4 false n ((slice i 0 5 : BitVec 5).setWidth 6) (0#1 ++ slice i 5 1 ++ 4#4))) else none
  | .bndchkL m n => some (.b (mk3 0#4 1#4 8#4 false n m 0x02#6))
  | .bndchkQ m n => some (.b (mk3 0#4 1#4 8#4 false n m 0x03#6))
  | .bndcmpB m n => some (.b (mk3 0#4 3#4 8#4 false n m 0x00#6))
  | .bndcmpW m n => some (.b (mk3 0#4 3#4 8#4 false n m 0x01#6))
  | .bndcmpL m n => some (.b (mk3 0#4 3#4 8#4 false n m 0x02#6))
  | .bndcmpQ m n => some (.b (mk3 0#4 3#4 8#4 false n m 0x03#6))
  | .bndcmpImm i n => if fitsU i 6 then some (.b (mk3 0#4 1#4 8#4 false n ((slice i 0 5 : BitVec 5).setWidth 6) (0#1 ++ slice i 5 1 ++ 5#4))) else none
  | .leatB n (.disp b' d') => if fitsU d' 5 then some (.b (mk3 0#4 4#4 0#4 true n b' ((d'.setWidth 5).setWidth 6))) else none
  | .leatB n (.index b' x') => some (.b (mk3 0#4 4#4 4#4 true n b' x'))
  | .leatB n (.dispByte b' d') => if fitsS d' 29 && small n && small b' then some (.j (slice d' 5 24) (mk3 0#4 4#4 0#4 true n b' ((d'.setWidth 5).setWidth 6))) else none
  | .leatB _ _ => none
  | .leatW n (.disp b' d') => if fitsU d' 5 then some (.b (mk3 0#4 4#4 1#4 true n b' ((d'.setWidth 5).setWidth 6))) else none
  | .leatW n (.index b' x') => some (.b (mk3 0#4 4#4 5#4 true n b' x'))
  | .leatW n (.dispByte b' d') => if fitsS d' 29 && small n && small b' then some (.j (slice d' 5 24) (mk3 0#4 4#4 1#4 true n b' ((d'.setWidth 5).setWidth 6))) else none
  | .leatW _ _ => none
  | .leatL n (.disp b' d') => if fitsU d' 5 then some (.b (mk3 0#4 4#4 2#4 true n b' ((d'.setWidth 5).setWidth 6))) else none
  | .leatL n (.index b' x') => some (.b (mk3 0#4 4#4 6#4 true n b' x'))
  | .leatL n (.dispByte b' d') => if fitsS d' 29 && small n && small b' then some (.j (slice d' 5 24) (mk3 0#4 4#4 2#4 true n b' ((d'.setWidth 5).setWidth 6))) else none
  | .leatL _ _ => none
  | .leatQ n (.disp b' d') => if fitsU d' 5 then some (.b (mk3 0#4 4#4 3#4 true n b' ((d'.setWidth 5).setWidth 6))) else none
  | .leatQ n (.index b' x') => some (.b (mk3 0#4 4#4 7#4 true n b' x'))
  | .leatQ n (.dispByte b' d') => if fitsS d' 29 && small n && small b' then some (.j (slice d' 5 24) (mk3 0#4 4#4 3#4 true n b' ((d'.setWidth 5).setWidth 6))) else none
  | .leatQ _ _ => none
  | .cmpTAEQ m n => some (.b (mk3 0#4 1#4 8#4 false n m 0x0C#6))
  | .cmpTAHI m n => some (.b (mk3 0#4 1#4 8#4 false n m 0x0D#6))
  | .cmpTAHS m n => some (.b (mk3 0#4 1#4 8#4 false n m 0x0E#6))
  | .cmpTTEQ i n => some (.b (mk3 0#4 1#4 9#4 true n ((slice i 0 5).setWidth 6) (0#1 ++ slice i 5 1 ++ 11#4)))
  | .convfxi m n => some (.b (mk3 0#4 1#4 8#4 false n m 0x0F#6))
  | .convfli m n => some (.b (mk3 0#4 1#4 8#4 true n m 0x0F#6))
  | .movST m n => some (.b (mk3 0#4 1#4 14#4 false n m 0x0F#6))
  | .xmovST m n => some (.b (mk3 0#4 1#4 14#4 true (regOf n) (regOf m) 0x0F#6))
  | .movZT m n => some (.b (mk3 0#4 1#4 8#4 false n m 0x0A#6))
  | .xmovZT m n => some (.b (mk3 0#4 1#4 8#4 true (regOf n) (regOf m) 0x0A#6))
  | .movTTReg m o n => some (.b (mk3 0#4 3#4 1#4 false n m o))
  | .movTTTag m i n => some (.b (mk3 0#4 3#4 1#4 true n m (i.setWidth 6)))
  | .movTTImm m v n => if fitsS v 17 then some (.x false (0#4 ++ 1#1 ++ slice v 5 11) (mk3 0#4 3#4 1#4 true n m (slice v 16 1 ++ v.setWidth 5))) else none
  | .xmovTTReg m o n => some (.b (mk3 0#4 8#4 6#4 true (regOf n) (regOf m) o))
  | .xmovTTImm i n => some (.x false (imm32P1 i) (mk16 2#3 (regOf n) 3#2 (imm32Base i)))
  | .movHD2 m n => some (.b (mk3 0#4 1#4 10#4 false n m 0x08#6))
  | .movLD2 m n => some (.b (mk3 0#4 1#4 10#4 true n m 0x08#6))
  | .movHLD2 _ _ => none
  | .movLHD2 _ _ => none
  | .movHD m o n => some (.b (mk3 0#4 2#4 8#4 false n m o))
  | .movLD m o n => some (.b (mk3 0#4 2#4 8#4 true n m o))
  | .movHLD m o n => some (.b (mk3 0#4 2#4 9#4 false n m o))
  | .movLHD m o n => some (.b (mk3 0#4 2#4 9#4 true n m o))
  | .movHW m o n => some (.b (mk3 0#4 7#4 3#4 false n m o))
  | .movLW m o n => some (.b (mk3 0#4 7#4 3#4 true n m o))
  | .paddW m o n => some (.b (mk3 0#4 2#4 0#4 false n m o))
  | .paddL m o n => some (.b (mk3 0#4 2#4 0#4 true n m o))
  | .paddF m o n => some (.b (mk3 0#4 2#4 5#4 false n m o))
  | .paddxF m o n => some (.b (mk3 0#4 2#4 5#4 true (regOf n) (regOf m) (regOf o)))
  | .paddH m o n => some (.b (mk3 0#4 2#4 13#4 false n m o))
  | .paddxD m o n => some (.b (mk3 0#4 2#4 13#4 true (regOf n) (regOf m) (regOf o)))
  | .psubF m o n => some (.b (mk3 0#4 2#4 6#4 false n m o))
  | .psubxF m o n => some (.b (mk3 0#4 2#4 6#4 true (regOf n) (regOf m) (regOf o)))
  | .psubH m o n => some (.b (mk3 0#4 2#4 14#4 false n m o))
  | .psubxD m o n => some (.b (mk3 0#4 2#4 14#4 true (regOf n) (regOf m) (regOf o)))
  | .pmulF m o n => some (.b (mk3 0#4 2#4 7#4 false n m o))
  | .pmulxF m o n => some (.b (mk3 0#4 2#4 7#4 true (regOf n) (regOf m) (regOf o)))
  | .pmulH m o n => some (.b (mk3 0#4 2#4 15#4 false n m o))
  | .pmulxD m o n => some (.b (mk3 0#4 2#4 15#4 true (regOf n) (regOf m) (regOf o)))
  | .psubW m o n => some (.b (mk3 0#4 2#4 1#4 false n m o))
  | .psubL m o n => some (.b (mk3 0#4 2#4 1#4 true n m o))
  | .paddXrm m o n i => some (.x false (0x08#8 ++ i) (mk3 0#4 2#4 5#4 false n m o))
  | .paddxXrm m o n i => some (.x false (0x08#8 ++ i) (mk3 0#4 2#4 5#4 true (regOf n) (regOf m) (regOf o)))
  | .pmulXrm m o n i => some (.x false (0x08#8 ++ i) (mk3 0#4 2#4 7#4 false n m o))
  | .pmulxXrm m o n i => some (.x false (0x08#8 ++ i) (mk3 0#4 2#4 7#4 true (regOf n) (regOf m) (regOf o)))
  | .pmulsW m o n => some (.b (mk3 0#4 5#4 1#4 false n m o))
  | .pmuluW m o n => some (.b (mk3 0#4 5#4 1#4 true n m o))
  | .pmulsLW m o n => some (.b (mk3 0#4 5#4 6#4 false n m o))
  | .pmuluLW m o n => some (.b (mk3 0#4 5#4 6#4 true n m o))
  | .pmulsHW m o n => some (.b (mk3 0#4 5#4 7#4 false n m o))
  | .pmuluHW m o n => some (.b (mk3 0#4 5#4 7#4 true n m o))
  | .pcmpEQH m n => some (.b (mk3 0#4 1#4 10#4 false n m 0x0A#6))
  | .pcmpEQF m n => some (.b (mk3 0#4 1#4 10#4 true n m 0x0A#6))
  | .pcmpGTH m n => some (.b (mk3 0#4 1#4 10#4 false n m 0x0B#6))
  | .pcmpGTF m n => some (.b (mk3 0#4 1#4 10#4 true n m 0x0B#6))
  | .pcmpEQW m n => some (.b (mk3 0#4 1#4 10#4 false n m 0x0C#6))
  | .pcmpEQL m n => some (.b (mk3 0#4 1#4 10#4 true n m 0x0C#6))
  | .pcmpHIW m n => some (.b (mk3 0#4 1#4 10#4 false n m 0x0D#6))
  | .pcmpHIL m n => some (.b (mk3 0#4 1#4 10#4 true n m 0x0D#6))
  | .pcmpGTW m n => some (.b (mk3 0#4 1#4 10#4 false n m 0x0E#6))
  | .pcmpGTL m n => some (.b (mk3 0#4 1#4 10#4 true n m 0x0E#6))
  | .pcseltW m o n => some (.b (mk3 0#4 2#4 4#4 false n m o))
  | .pcseltL m o n => some (.b (mk3 0#4 2#4 4#4 true n m o))
  | .pselTW _ _ => none
  | .pselFW m n => some (.b (mk3 0#4 1#4 10#4 false n m 0x1B#6))
  | .pselTL _ _ => none
  | .pselFL m n => some (.b (mk3 0#4 1#4 10#4 true n m 0x1B#6))
  | .pdottH i n => some (.b (mk3 0#4 1#4 10#4 false n (i.setWidth 6) 0x09#6))
  | .pdottF i n => some (.b (mk3 0#4 1#4 10#4 true n (i.setWidth 6) 0x09#6))
  | .pstcF8H m n => some (.b (mk3 0#4 1#4 10#4 false n m 0x00#6))
  | .pldcF8H m n => some (.b (mk3 0#4 1#4 10#4 false n m 0x01#6))
  | .pldcH m n => some (.b (mk3 0#4 1#4 14#4 false n m 0x0C#6))
  | .pldcHH m n => some (.b (mk3 0#4 1#4 14#4 true n m 0x0C#6))
  | .pldcEHL m n => some (.b (mk3 0#4 1#4 14#4 false n m 0x0D#6))
  | .pldcEHH m n => some (.b (mk3 0#4 1#4 14#4 true n m 0x0D#6))
  | .pstcH m n => some (.b (mk3 0#4 1#4 14#4 false n m 0x0E#6))
  | .pldcM8SH m n => some (.b (mk3 0#4 1#4 14#4 false n m 0x08#6))
  | .pldcM8UH m n => some (.b (mk3 0#4 1#4 14#4 true n m 0x08#6))
  | .pstcM8SH m n => some (.b (mk3 0#4 1#4 14#4 false n m 0x0A#6))
  | .pstcM8UH m n => some (.b (mk3 0#4 1#4 14#4 true n m 0x0A#6))
  | .prcpaH m n => some (.b (mk3 0#4 1#4 15#4 false n m 0x0A#6))
  | .prcpaF m n => some (.b (mk3 0#4 1#4 15#4 false n m 0x0B#6))
  | .preluH m n => some (.b (mk3 0#4 1#4 15#4 true n m 0x0A#6))
  | .preluF m n => some (.b (mk3 0#4 1#4 15#4 true n m 0x0B#6))
  | .pshalW m n => some (.b (mk3 0#4 1#4 14#4 false n m 0x06#6))
  | .pshllW m n => some (.b (mk3 0#4 1#4 14#4 true n m 0x06#6))
  | .psharW m n => some (.b (mk3 0#4 1#4 14#4 false n m 0x07#6))
  | .pshlrW m n => some (.b (mk3 0#4 1#4 14#4 true n m 0x07#6))
  | .psqrtaH m n => some (.b (mk3 0#4 1#4 15#4 false n m 0x08#6))
  | .psqrtuaH m n => some (.b (mk3 0#4 1#4 15#4 true n m 0x08#6))
  | .psqrtaF m n => some (.b (mk3 0#4 1#4 15#4 false n m 0x09#6))
  | .psqrtuaF m n => some (.b (mk3 0#4 1#4 15#4 true n m 0x09#6))
  | .pldcHImm i n => some (.x false (imm32P1 i) (mk16 4#3 n 1#2 (imm32Base i)))
  | .pldcM8SHImm i n => some (.x false (imm32P1 i) (mk16 4#3 n 2#2 (imm32Base i)))
  | .pldcM8UHImm i n => some (.x false (imm32P1 i) (mk16 4#3 n 3#2 (imm32Base i)))
  | .pshufB m i n => some (.b (mk8 2#4 8#4 false n m 1#2 i))
  | .pshufW m i n => some (.b (mk8 2#4 8#4 true n m 1#2 i))
  | .pshufW33 m i n => if small n && small m then some (.j (slice i 9 24) (mk8 2#4 8#4 true n m 1#2 (i.setWidth 8))) else none
  | .pshufW17 m i n => some (.x false (0#8 ++ slice i 9 8) (mk8 2#4 8#4 true n m 1#2 (i.setWidth 8)))
  | .pscheqW m o n => some (.b (mk3 0#4 2#4 10#4 false n m o))
  | .pscheqB m o n => some (.b (mk3 0#4 2#4 10#4 true n m o))
  | .pschneW m o n => some (.b (mk3 0#4 2#4 11#4 false n m o))
  | .pschneB m o n => some (.b (mk3 0#4 2#4 11#4 true n m o))
  | .swapB m n => some (.b (mk3 0#4 3#4 7#4 false n m 0x00#6))
  | .swapW m n => some (.b (mk3 0#4 3#4 7#4 false n m 0x01#6))
  | .swap8B m n => some (.b (mk3 0#4 3#4 7#4 false n m 0x02#6))
  | .swapL m n => some (.b (mk3 0#4 3#4 7#4 false n m 0x03#6))
  | .swapLB m n => some (.b (mk3 0#4 3#4 7#4 false n m 0x04#6))
  | .swapLW m n => some (.b (mk3 0#4 3#4 7#4 false n m 0x05#6))
  | .swcpLB m n => some (.b (mk3 0#4 3#4 7#4 false n m 0x06#6))
  | .swcpLW m n => some (.b (mk3 0#4 3#4 7#4 false n m 0x07#6))
  | .swapMB m n => some (.b (mk3 0#4 3#4 7#4 false n m 0x08#6))
  | .swapMW m n => some (.b (mk3 0#4 3#4 7#4 false n m 0x09#6))
  | .swcpMB m n => some (.b (mk3 0#4 3#4 7#4 false n m 0x0A#6))
  | .swcpMW m n => some (.b (mk3 0#4 3#4 7#4 false n m 0x0B#6))
  | .swapHB m n => some (.b (mk3 0#4 3#4 7#4 false n m 0x0C#6))
  | .swapHW m n => some (.b (mk3 0#4 3#4 7#4 false n m 0x0D#6))
  | .swcpHB m n => some (.b (mk3 0#4 3#4 7#4 false n m 0x0E#6))
  | .swcpHW m n => some (.b (mk3 0#4 3#4 7#4 false n m 0x0F#6))
  | .paddshxX m o i n => some (.x false (0#4 ++ 1#1 ++ i) (mk3 0#4 2#4 5#4 true (regOf n) (regOf m) (regOf o)))
  | .psubshxX m o i n => some (.x false (0#4 ++ 1#1 ++ i) (mk3 0#4 2#4 6#4 true (regOf n) (regOf m) (regOf o)))
  | .pmulshxX m o i n => some (.x false (0#4 ++ 1#1 ++ i) (mk3 0#4 2#4 7#4 true (regOf n) (regOf m) (regOf o)))
  | .paddshH m o i n => some (.x false (0#4 ++ 1#1 ++ i) (mk3 0#4 2#4 13#4 false n m o))
  | .psubshH m o i n => some (.x false (0#4 ++ 1#1 ++ i) (mk3 0#4 2#4 14#4 false n m o))
  | .pmulshH m o i n => some (.x false (0#4 ++ 1#1 ++ i) (mk3 0#4 2#4 15#4 false n m o))
  | .pmacshHV m i n => if small n && small m then some (.jj (slice i 32 24) (slice i 8 24) (mk8 2#4 7#4 true n m 0#2 (i.setWidth 8))) else none
  | .pmacshFV m i n => some (.jj (slice i 32 24) (slice i 8 24) (mk8 2#4 7#4 true (regOf n) (regOf m) 1#2 (i.setWidth 8)))
  | .paddHV m i n => if small n && small m then some (.jj (slice i 32 24) (slice i 8 24) (mk8 2#4 8#4 false n m 0#2 (i.setWidth 8))) else none
  | .paddFV m i n => some (.jj (slice i 32 24) (slice i 8 24) (mk8 2#4 8#4 true (regOf n) (regOf m) 0#2 (i.setWidth 8)))
  | .pmulHV m i n => if small n && small m then some (.jj (slice i 32 24) (slice i 8 24) (mk8 2#4 8#4 false n m 1#2 (i.setWidth 8))) else none
  | .pmulFV m i n => some (.jj (slice i 32 24) (slice i 8 24) (mk8 2#4 8#4 true (regOf n) (regOf m) 1#2 (i.setWidth 8)))
  | .paddshHV m i n => if small n && small m then some (.jj (slice i 32 24) (slice i 8 24) (mk8 2#4 9#4 false n m 0#2 (i.setWidth 8))) else none
  | .paddshFV m i n => some (.jj (slice i 32 24) (slice i 8 24) (mk8 2#4 9#4 true (regOf n) (regOf m) 0#2 (i.setWidth 8)))
  | .pmulshHV m i n => if small n && small m then some (.jj (slice i 32 24) (slice i 8 24) (mk8 2#4 9#4 false n m 1#2 (i.setWidth 8))) else none
  | .pmulshFV m i n => some (.jj (slice i 32 24) (slice i 8 24) (mk8 2#4 9#4 true (regOf n) (regOf m) 1#2 (i.setWidth 8)))
  | .pmulF8H m o n => some (.b (mk3 0#4 7#4 6#4 true n m o))
  | .pmultxL m i n => if Config.eLetterR.isSome && !bitAt m 3 && !bitAt n 3 then some (.b (mkR 7#4 (regOf n) (regOf m) i)) else none
  | .pmultW m i n => if Config.eLetterR.isSome && nib m && nib n then some (.b (mkR 8#4 n m i)) else none
  | .rgb5pck32 m n => some (.b (mk3 0#4 1#4 14#4 false n m 0x02#6))
  | .rgb5pck64 m n => some (.b (mk3 0#4 1#4 14#4 true n m 0x02#6))
  | .rgb5upck32 m n => some (.b (mk3 0#4 1#4 14#4 false n m 0x03#6))
  | .rgb5upck64 m n => some (.b (mk3 0#4 1#4 14#4 true n m 0x03#6))
  | .rgb32pck64 m n => some (.b (mk3 0#4 1#4 14#4 true n m 0x04#6))
  | .rgb32upck64 m n => some (.b (mk3 0#4 1#4 14#4 true n m 0x05#6))
  | .rgb5shr1 m n => some (.b (mk3 0#4 1#4 14#4 false n m 0x00#6))
  | .rgb5minmax m n => some (.b (mk3 0#4 1#4 14#4 true n m 0x00#6))
  | .rgb5pcki8 m n => some (.b (mk3 0#4 1#4 15#4 true n m 0x0C#6))
  | .rgb5sh3 m n => some (.b (mk3 0#4 1#4 14#4 false n m 0x04#6))
  | .rgb5ush3 m n => some (.b (mk3 0#4 1#4 14#4 false n m 0x05#6))
  | .pldcm30ah m n => some (.b (mk3 0#4 1#4 14#4 false n m 0x09#6))
  | .pstcm30ah m n => some (.b (mk3 0#4 1#4 14#4 false n m 0x0B#6))
  | .rgb5ccenc m o n => some (.b (mk3 0#4 7#4 6#4 false n m o))
  | .blerp m o n => some (.b (mk3 0#4 6#4 9#4 false n m o))
  | .blerp4 m o p k n => some (.x false (0#8 ++ k ++ p) (mk3 0#4 6#4 9#4 false n m o))
  | .blkutx2 m o n => some (.b (mk3 0#4 2#4 12#4 true n m o))
  | .blkutx1 m o n => some (.b (mk3 0#4 2#4 12#4 false n m o))
  | .blkutx3h m o n => some (.b (mk3 0#4 6#4 8#4 true n (regOf m) o))
  | .blkutx3l m o n => some (.b (mk3 0#4 6#4 9#4 true n (regOf m) o))
  | .blkuvf1VL m o n => some (.x false 0x0040#16 (mk3 0#4 7#4 12#4 false n m o))
  | .blkuvf1VH m o n => some (.x false 0x0041#16 (mk3 0#4 7#4 12#4 false n m o))
  | .blkuvf1SL m o n => some (.x false 0x0042#16 (mk3 0#4 7#4 12#4 false n m o))
  | .blkuvf1SH m o n => some (.x false 0x0043#16 (mk3 0#4 7#4 12#4 false n m o))
  | .blkuab1 m o n => some (.b (mk3 0#4 6#4 12#4 false n m o))
  | .blkuab2 m o n => some (.b (mk3 0#4 6#4 12#4 true n m o))
  | .fabs m n => some (.b (mk3 0#4 1#4 13#4 false n m 0x09#6))
  | .fneg m n => some (.b (mk3 0#4 1#4 13#4 false n m 0x08#6))
  | .fmin m o n => some (.b (mk3 0#4 7#4 0#4 true n m o))
  | .fmax m o n => some (.b (mk3 0#4 7#4 1#4 true n m o))
  | .fadd m (.reg r') n r => if r == 0#8 then some (.b (mk3 0#4 5#4 8#4 false n m r')) else some (.x false (0x08#8 ++ r) (mk3 0#4 5#4 8#4 false n m r'))
  | .fadd m (.imm v') n r => if r == 0#8 && slice v' 0 8 == 0#8 && small n && small m then some (.jj (slice v' 40 24) (slice v' 16 24) (mk8 2#4 1#4 true n m 0#2 (slice v' 8 8))) else none
  | .faddx m o n r => if r == 0#8 then some (.b (mk3 0#4 5#4 8#4 true (regOf n) (regOf m) (regOf o))) else some (.x false (0x08#8 ++ r) (mk3 0#4 5#4 8#4 true (regOf n) (regOf m) (regOf o)))
  | .faddg m o n => some (.b (mk3 0#4 6#4 13#4 false n m o))
  | .fadda m (.reg r') n => some (.b (mk3 0#4 7#4 0#4 false n m r'))
  | .fadda m (.imm v') n => if slice v' 0 32 == 0#32 && small n && small m then some (.j (slice v' 40 24) (mk8 2#4 1#4 true n m 1#2 (slice v' 32 8))) else none
  | .fsub m (.reg r') n r => if r == 0#8 then some (.b (mk3 0#4 5#4 9#4 false n m r')) else some (.x false (0x08#8 ++ r) (mk3 0#4 5#4 9#4 false n m r'))
  | .fsub m (.imm v') n r => if r == 0#8 && isMicro v' then some (.b (mk3 0#4 6#4 14#4 true n m ((microOf v').setWidth 6))) else none
  | .fsubx m o n r => if r == 0#8 then some (.b (mk3 0#4 5#4 9#4 true (regOf n) (regOf m) (regOf o))) else some (.x false (0x08#8 ++ r) (mk3 0#4 5#4 9#4 true (regOf n) (regOf m) (regOf o)))
  | .fsubg m o n => some (.b (mk3 0#4 6#4 14#4 false n m o))
  | .fsuba m o n => some (.b (mk3 0#4 7#4 1#4 false n m o))
  | .fmul m (.reg r') n r => if r == 0#8 then some (.b (mk3 0#4 5#4 10#4 false n m r')) else some (.x false (0x08#8 ++ r) (mk3 0#4 5#4 10#4 false n m r'))
  | .fmul m (.imm v') n r => if r == 0#8 && slice v' 0 8 == 0#8 && small n && small m then some (.jj (slice v' 40 24) (slice v' 16 24) (mk8 2#4 2#4 true n m 0#2 (slice v' 8 8))) else none
  | .fmulx m o n r => if r == 0#8 then some (.b (mk3 0#4 5#4 10#4 true (regOf n) (regOf m) (regOf o))) else some (.x false (0x08#8 ++ r) (mk3 0#4 5#4 10#4 true (regOf n) (regOf m) (regOf o)))
  | .fmulg m o n => some (.b (mk3 0#4 6#4 15#4 false n m o))
  | .fmula m (.reg r') n => some (.b (mk3 0#4 7#4 2#4 false n m r'))
  | .fmula m (.imm v') n => if slice v' 0 32 == 0#32 && small n && small m then some (.j (slice v' 40 24) (mk8 2#4 4#4 true n m 1#2 (slice v' 32 8))) else none
  | .fcmpEQ (.reg r') n => some (.b (mk3 0#4 1#4 13#4 false n r' 0x0A#6))
  | .fcmpEQ (.imm v') n => if slice v' 0 8 == 0#8 && small n then some (.jj (slice v' 40 24) (slice v' 16 24) (mk8 2#4 13#4 false n 0x0C#6 0#2 (slice v' 8 8))) else none
  | .fcmpXEQ m n => some (.b (mk3 0#4 1#4 13#4 true (regOf n) (regOf m) 0x0A#6))
  | .fcmpGE v n => if slice v 0 8 == 0#8 && small n then some (.jj (slice v 40 24) (slice v 16 24) (mk8 2#4 13#4 false n 0x0F#6 0#2 (slice v 8 8))) else none
  | .fcmpGT (.reg r') n => some (.b (mk3 0#4 1#4 13#4 false n r' 0x0B#6))
  | .fcmpGT (.imm v') n => if slice v' 0 8 == 0#8 && small n then some (.jj (slice v' 40 24) (slice v' 16 24) (mk8 2#4 13#4 false n 0x0E#6 0#2 (slice v' 8 8))) else none
  | .fcmpXGT m n => some (.b (mk3 0#4 1#4 13#4 true (regOf n) (regOf m) 0x0B#6))
  | .fdiv m o n => some (.b (mk3 0#4 6#4 6#4 false n m o))
  | .fdivx m o n => some (.b (mk3 0#4 6#4 6#4 true (regOf n) (regOf m) (regOf o)))
  | .fdiva m o n => some (.b (mk3 0#4 6#4 7#4 false n m o))
  | .fdivxa m o n => some (.b (mk3 0#4 6#4 7#4 true (regOf n) (regOf m) (regOf o)))
  | .fsqrt m n => some (.b (mk3 0#4 1#4 13#4 false n m 0x0C#6))
  | .fsqrtx m n => some (.b (mk3 0#4 1#4 13#4 true (regOf n) (regOf m) 0x0C#6))
  | .fsqrta m n => some (.b (mk3 0#4 1#4 13#4 false n m 0x0D#6))
  | .fsqrtxa m n => some (.b (mk3 0#4 1#4 13#4 true (regOf n) (regOf m) 0x0D#6))
  | .fldcf m n => some (.b (mk3 0#4 1#4 13#4 false n m 0x00#6))
  | .fldchf m n => some (.b (mk3 0#4 1#4 13#4 false n m 0x01#6))
  | .fldci m n => some (.b (mk3 0#4 1#4 13#4 false n m 0x02#6))
  | .fldch m n => some (.b (mk3 0#4 1#4 13#4 false n m 0x03#6))
  | .fldciu m n => some (.b (mk3 0#4 1#4 13#4 false n m 0x0F#6))
  | .fldcisL m n => some (.b (mk3 0#4 1#4 15#4 false n m 0x0E#6))
  | .fldciuL m n => some (.b (mk3 0#4 1#4 15#4 false n m 0x0F#6))
  | .fldchImm i n => if slice i 0 24 == 0#24 then some (.b (mk16 4#3 n 0#2 (slice i 24 16))) else none
  | .fldcfImm i n => some (.x false (imm32P1 i) (mk16 4#3 n 0#2 (imm32Base i)))
  | .fstcf m n => some (.b (mk3 0#4 1#4 13#4 false n m 0x04#6))
  | .fstchf m n => some (.b (mk3 0#4 1#4 13#4 false n m 0x05#6))
  | .fstci m n => some (.b (mk3 0#4 1#4 13#4 false n m 0x06#6))
  | .fstch m n => some (.b (mk3 0#4 1#4 13#4 false n m 0x07#6))
  | .fmac m o p n => if n == p then some (.b (mk3 0#4 5#4 11#4 false p m o)) else some (.x false (0x00#8 ++ 0#2 ++ p) (mk3 0#4 5#4 11#4 false n m o))
  | .fmacx m o p n => if n == p then some (.b (mk3 0#4 5#4 11#4 true (regOf p) (regOf m) (regOf o))) else some (.x false (0x00#8 ++ 0#2 ++ (regOf p)) (mk3 0#4 5#4 11#4 true (regOf n) (regOf m) (regOf o)))
  | .fmas m o p n => some (.x false (0x01#8 ++ 0#2 ++ p) (mk3 0#4 5#4 11#4 false n m o))
  | .fmasx m o p n => some (.x false (0x01#8 ++ 0#2 ++ (regOf p)) (mk3 0#4 5#4 11#4 true (regOf n) (regOf m) (regOf o)))
  | .fmrs m o p n => some (.x false (0x02#8 ++ 0#2 ++ p) (mk3 0#4 5#4 11#4 false n m o))
  | .fmrsx m o p n => some (.x false (0x02#8 ++ 0#2 ++ (regOf p)) (mk3 0#4 5#4 11#4 true (regOf n) (regOf m) (regOf o)))
  | .fmra m o p n => some (.x false (0x03#8 ++ 0#2 ++ p) (mk3 0#4 5#4 11#4 false n m o))
  | .fmrax m o p n => some (.x false (0x03#8 ++ 0#2 ++ (regOf p)) (mk3 0#4 5#4 11#4 true (regOf n) (regOf m) (regOf o)))
  | .pmacH m o p n => some (.x false (0x04#8 ++ 0#2 ++ p) (mk3 0#4 5#4 11#4 false n m o))
  | .pmacF m o p n => some (.x false (0x04#8 ++ 0#2 ++ (regOf p)) (mk3 0#4 5#4 11#4 true (regOf n) (regOf m) (regOf o)))
  | .pmasH m o p n => some (.x false (0x05#8 ++ 0#2 ++ p) (mk3 0#4 5#4 11#4 false n m o))
  | .pmasF m o p n => some (.x false (0x05#8 ++ 0#2 ++ (regOf p)) (mk3 0#4 5#4 11#4 true (regOf n) (regOf m) (regOf o)))
  | .pmrsH m o p n => some (.x false (0x06#8 ++ 0#2 ++ p) (mk3 0#4 5#4 11#4 false n m o))
  | .pmrsF m o p n => some (.x false (0x06#8 ++ 0#2 ++ (regOf p)) (mk3 0#4 5#4 11#4 true (regOf n) (regOf m) (regOf o)))
  | .pmraH m o p n => some (.x false (0x07#8 ++ 0#2 ++ p) (mk3 0#4 5#4 11#4 false n m o))
  | .pmraF m o p n => some (.x false (0x07#8 ++ 0#2 ++ (regOf p)) (mk3 0#4 5#4 11#4 true (regOf n) (regOf m) (regOf o)))
  | .pconv _ _ _ => none
  | .pconvx _ _ _ => none
  | .pcvtSB2HL m n => some (.b (mk3 0#4 1#4 15#4 false n m 0x00#6))
  | .pcvtUB2HL m n => some (.b (mk3 0#4 1#4 15#4 true n m 0x00#6))
  | .pcvtSB2HH m n => some (.b (mk3 0#4 1#4 15#4 false n m 0x01#6))
  | .pcvtUB2HH m n => some (.b (mk3 0#4 1#4 15#4 true n m 0x01#6))
  | .pcvtSW2FL m n => some (.b (mk3 0#4 1#4 15#4 false n m 0x02#6))
  | .pcvtUW2FL m n => some (.b (mk3 0#4 1#4 15#4 true n m 0x02#6))
  | .pcvtSW2FH m n => some (.b (mk3 0#4 1#4 15#4 false n m 0x03#6))
  | .pcvtUW2FH m n => some (.b (mk3 0#4 1#4 15#4 true n m 0x03#6))
  | .pcvtH2SB m n => some (.b (mk3 0#4 1#4 15#4 false n m 0x04#6))
  | .pcvtH2UB m n => some (.b (mk3 0#4 1#4 15#4 true n m 0x04#6))
  | .pcvtSW2H m n => some (.b (mk3 0#4 1#4 15#4 false n m 0x05#6))
  | .pcvtUW2H m n => some (.b (mk3 0#4 1#4 15#4 true n m 0x05#6))
  | .pcvtF2SW m n => some (.b (mk3 0#4 1#4 15#4 false n m 0x06#6))
  | .pcvtF2UW m n => some (.b (mk3 0#4 1#4 15#4 true n m 0x06#6))
  | .pcvtH2SW m n => some (.b (mk3 0#4 1#4 15#4 false n m 0x07#6))
  | .pcvtH2UW m n => some (.b (mk3 0#4 1#4 15#4 true n m 0x07#6))
  | .pcvtH2AL m n => some (.b (mk3 0#4 1#4 15#4 false n m 0x0C#6))
  | .pcvtAL2H m n => some (.b (mk3 0#4 1#4 15#4 false n m 0x0D#6))

/-- The words of an instruction, XG1 form; none where no encoding exists. -/
def encode (i : Instr) : Option (List Half) := (encodeCode i).map Code.words

/-! ### The table's numbering (log 38) -/

/-- The first `k` words of an instruction of the table's numbering: a value of 32 bits or more whose top nibble is F
has its first word on top; any other has it at bits 15:0. Words beyond are zero. -/
def tableWords (nbits w : Nat) : List Half :=
  let k := nbits / 16
  let ws := (List.range 6).map fun i => if i < k then BitVec.ofNat 16 (w >>> (16 * i)) else 0#16
  if 32 ≤ nbits && (w >>> (nbits - 4)) % 16 == 15 then (ws.take k).reverse ++ ws.drop k else ws
/-- The instruction the decoder reads from a table word, in the XG1 mode of reset. -/
def decodeTableWord (nbits w : Nat) : Option Instr :=
  match decode false (tableWords nbits w) with
  | .ok d => some d.instr
  | .error _ => none

end

end Sys2Proof
end

