-- ==== Sys2Proof/Machine/Lanes.lean ====
section
/-! DEFINITION. What each instruction reads, writes and needs of its lane, and the obligations on a bundle
(30_encoding.md R141, R142; 48_gsv_media.md R671; 49_gfp.md R784; log 16). -/

namespace Sys2Proof.Machine

open Sys2Proof

/-- What R141 (a) speaks of: registers, control registers, and the fields of SR (10_state.md R28), P, Q, R, O as one, since no
instruction takes one of them alone, and each bit of the predicate stack; of GBR the mode field of FPSCR, its sticky status
bits, and the address part; banked registers. The TLB, the ACL cache, the caches and the tripwires are none of these, and the
slots act on them in address order (log 16). -/
inductive Res where
  | reg (r : Reg)
  | ctl (c : CReg)
  | t | s | p
  | u (k : BitVec 3)
  | ipl | wx4 | wx3 | xmca | xmue | wx2 | wxe | bl | rb | md | jq
  | fpscr
  | sticky
  | gbrAddr
  | bank (i : BitVec 8)
deriving DecidableEq, Repr

/-- The predicate stack U0 to U7. -/
def uAll : List Res := [.u 0#3, .u 1#3, .u 2#3, .u 3#3, .u 4#3, .u 5#3, .u 6#3, .u 7#3]
/-- The fields of SR. -/
def srFields : List Res := [.t, .s, .ipl, .p, .wx4, .wx3, .xmca, .xmue, .wx2, .wxe, .bl, .rb, .md, .jq] ++ uAll
/-- The parts of GBR. -/
def gbrParts : List Res := [.fpscr, .sticky, .gbrAddr]
/-- Whether one holds the other: SR its fields, GBR its parts. -/
def Res.holds (a b : Res) : Bool := (a == .ctl 2#6 && srFields.contains b) || (a == .ctl 6#6 && gbrParts.contains b)
/-- Whether two of them share storage. Two operations that only gather sticky bits do not get in each other's way, as the
pairs of R671 show. -/
def Res.clash (a b : Res) : Bool := (a == b && a != .sticky) || a.holds b || b.holds a

/-- Where in a bundle an instruction may stand (R142). -/
inductive Lane where
  /-- In every lane. -/
  | any
  /-- Lanes 1 and 2, Lane 3 where Config.lane3Shift. -/
  | shift
  /-- Lanes 1 and 2. -/
  | two
  /-- Lanes 1 and 2 with FP2, Lane 1 without (48_gsv_media.md R671, 49_gfp.md R784). -/
  | fpu
  /-- Only in Lane 1. -/
  | one
  /-- Only in Lane 1 of a 2-wide bundle. -/
  | oneOfTwo
  /-- In no bundle. -/
  | alone
deriving DecidableEq, Repr

/-- What R141 and R142 ask of an instruction. `pack` numbers the packed-single operations that may pair with
themselves, 0 elsewhere. -/
structure Uses where
  reads  : List Res
  writes : List Res
  mem    : Bool
  lane   : Lane
  fpu    : Bool
  pack   : Nat
  adc    : Bool
deriving DecidableEq, Repr

/-- Uses of the common kinds: plain, memory, ADC-like, floating-point. -/
def useU (r w : List Res) (l : Lane) : Uses :=
  { reads := r, writes := w, mem := false, lane := l, fpu := false, pack := 0, adc := false }
/-- The fields of SR that say in which mode the core is. DESIGN CHOICE (log 16): what Config makes of SR in a translation
(20_memory.md R88) and in the enforcing of bounds (47_system_ttag.md R648, R941) counts as a read of these. -/
def modeRes : List Res := [.md, .rb, .jq]
/-- What the translation of an address reads: the mode, MMCR and KRR (20_memory.md R81, R88). -/
def mmuRes : List Res := modeRes ++ [.ctl 10#6, .ctl 13#6]
def memU (r w : List Res) (l : Lane) : Uses := { useU (r ++ mmuRes) w l with mem := true }
def adcU (r w : List Res) (l : Lane) : Uses := { useU r w l with adc := true }
def fpuU (r w : List Res) (l : Lane) (k : Nat) : Uses := { useU r w l with fpu := true, pack := k }

def pairRes (p : Pair) : List Res := [.reg (pairLo p), .reg (pairHi p)]
def srcRes (s : Src) : List Res :=
  match s with
  | .reg r => [.reg r]
  | .imm _ => []
def fsrcRes (s : FSrc) : List Res :=
  match s with
  | .reg r => [.reg r]
  | .imm _ => []
def targetRes (t : Target) : List Res :=
  match t with
  | .reg r => [.reg r]
  | .disp _ => []
def flagRes (f : Flag) : Res :=
  match f with
  | .t => .t
  | .s => .s
/-- The base of a displacement form, and the registers of an indexed one (44_load_store.md R421). -/
def baseRes (m : Reg) : List Res := if m = 0#6 then [] else if m = 1#6 then [.gbrAddr] else [.reg m]
def indexRes (m o : Reg) : List Res :=
  (if m = 0#6 then [] else if m = 1#6 then [if o = 1#6 then .ctl 7#6 else .gbrAddr] else [.reg m])
    ++ [.reg (if o = 1#6 then dlr else o)]
def addrRes (a : Addr) : List Res :=
  match a with
  | .ind m => [.reg m]
  | .disp m _ => baseRes m
  | .dispByte m _ => baseRes m
  | .index m o => indexRes m o
  | .indexDisp m o _ => indexRes m o
  | .indexSc m o _ _ => indexRes m o
  | .gbr _ => [.gbrAddr]
/-- An XMOV in User mode also asks SR.XMUE (60_exceptions.md R870). -/
def xaddrRes (a : XAddr) : List Res :=
  match a with
  | .disp m _ => .xmue :: pairRes m
  | .index m o => .xmue :: pairRes m ++ [.reg o]
/-- A destination of a load, or the source of a store. -/
def ifLoad (d : Dir) (l : List Res) : List Res := if d = .load then l else []
def ifStore (d : Dir) (l : List Res) : List Res := if d = .store then l else []
/-- The SR bits a link value holds, and those a return restores (46_branch.md R545, R550). -/
def linkRes : List Res := [.t, .s, .p, .wx2, .wxe] ++ uAll
/-- LEA asks SR.JQ (20_memory.md R83); LEAT from the pc also puts SR[7:4] and SR.WX2 into the tag (R660). -/
def leatRes (a : Addr) : List Res :=
  addrRes a ++ [.jq] ++ if addrBase a = 0#6 ∧ indexIsDlr a = false then [.p, .wx2] else []
/-- What TRAP reads beside its operand: all of SR, saved in EXSR, and VBR, SSP and SP; what it writes beside TEA: the SR
fields of an entry, SPC, SSP, EXSR and SP (60_exceptions.md R860). -/
def trapReads : List Res := srFields ++ [.ctl 3#6, .ctl 5#6, .reg sp]
def trapWrites : List Res := [.md, .rb, .bl, .ipl, .wx4, .wx3, .wx2, .wxe, .ctl 4#6, .ctl 5#6, .ctl 11#6, .reg sp]
/-- The mode is asked where not every mode may read or write the control register (47_system_ttag.md R590, R591). -/
def unlessAny (b : Bool) : List Res := if b then [] else [.md]

/-- SRTPROP between T and one bit of the predicate stack (41_compare_flags.md R296). -/
def srtpropUses (i : BitVec 5) : Uses :=
  let x : Res := .u (slice i 2 3)
  match (slice i 0 2 : BitVec 2) with
  | 0#2 => useU [.t] [x] .any
  | 1#2 => useU [x] [.t] .any
  | _ => useU [.t, x] [.t] .any
/-- The commands of SRTTWID (41_compare_flags.md R297): PUSH, the POPs, AND and OR, CLEAR; AND+PUSH, OR+PUSH and the refused
ones of R298 read and write both. -/
def srttwidUses (i : BitVec 5) : Uses :=
  match i with
  | 0#5 => useU (.t :: uAll) uAll .any
  | 1#5 | 2#5 | 3#5 => useU uAll (.t :: uAll) .any
  | 4#5 | 5#5 => useU [.t, .u 0#3] [.t] .any
  | 8#5 => useU [] uAll .any
  | _ => useU (.t :: uAll) (.t :: uAll) .any

/-- The uses of every instruction. A fault's entry is no use: it starts from the state before the bundle (R858). An instruction
that no rule marks stands in every lane (R141 c, d), as MACU.L, DMACS.L, DMACU.L, the tag and bounds compares, the LongDouble
operations but FDIVX, FDIVXA and FSQRTX, and the floating-point ones that neither R671 nor R784 names. DESIGN CHOICE (log 16):
DIV0 and DIV1, whose rules R385 and R386 name no lane, are not among the DIVx of R142, which are the divisions DIVS and DIVU;
the compares FCMPxx, which R830 counts among those of R142, stand in Lane 1; the packed operations with LW and HW count as
Pzzz.W of R671; PMUL.F8H, which multiplies FP8 elements to Halves, counts neither as Pzzz.H of R671 nor as packed FP of R142, and stands
in every lane whatever FP2 says. -/
def uses (i : Instr) : Uses :=
  match i with
  | .add m s' n => useU ([.reg m] ++ srcRes s') [.reg n] .any
  | .adc m n => adcU [.reg m, .reg n, .t] [.reg n, .t] .any
  | .addsL m s' n => useU ([.reg m] ++ srcRes s') [.reg n] .any
  | .adduL m s' n => useU ([.reg m] ++ srcRes s') [.reg n] .any
  | .sub m o n => useU [.reg m, .reg o] [.reg n] .any
  | .subsL m o n => useU [.reg m, .reg o] [.reg n] .any
  | .subuL m o n => useU [.reg m, .reg o] [.reg n] .any
  | .sbb m n => adcU [.reg m, .reg n, .t] [.reg n, .t] .any
  | .subP m o n => useU [.reg m, .reg o] [.reg n] .any
  | .subxP m o n => useU (pairRes m ++ pairRes o) (pairRes n) .any
  | .and m s' n => useU ([.reg m] ++ srcRes s') [.reg n] .any
  | .or m s' n => useU ([.reg m] ++ srcRes s') [.reg n] .any
  | .xor m s' n => useU ([.reg m] ++ srcRes s') [.reg n] .any
  | .bswapuL m n => useU [.reg m] [.reg n] .any
  | .bswapQ m n => useU [.reg m] [.reg n] .any
  | .not m n => useU [.reg m] [.reg n] .any
  | .neg m n => useU [.reg m] [.reg n] .any
  | .negc n => useU [.reg n, .t] [.reg n, .t] .one
  | .nop => useU [] [] .any
  | .nop3r _ => useU [] [] .any
  | .nop3rrr _ _ _ => useU [] [] .any
  | .mov m n => useU [.reg m] [.reg n] .any
  | .movx m n => useU (pairRes m) (pairRes n) .any
  | .movd m n => useU [.reg m] [.reg n] .any
  | .extsB m n => useU [.reg m] [.reg n] .any
  | .extsW m n => useU [.reg m] [.reg n] .any
  | .extsL m n => useU [.reg m] [.reg n] .any
  | .extuB m n => useU [.reg m] [.reg n] .any
  | .extuW m n => useU [.reg m] [.reg n] .any
  | .extuL m n => useU [.reg m] [.reg n] .any
  | .cselt m o n => useU [.reg m, .reg o, .t] [.reg n] .any
  | .min m o n => useU [.reg m, .reg o] [.reg n] .any
  | .max m o n => useU [.reg m, .reg o] [.reg n] .any
  | .clz m n => useU [.reg m] [.reg n] .one
  | .clzq m n => useU [.reg m] [.reg n] .one
  | .ctz m n => useU [.reg m] [.reg n] .one
  | .ctzq m n => useU [.reg m] [.reg n] .one
  | .btrns m n => useU [.reg m] [.reg n] .one
  | .btrnsq m n => useU [.reg m] [.reg n] .one
  | .bcdadc m n => useU [.reg m, .reg n, .t] [.reg n, .t] .one
  | .bcdsbb m n => useU [.reg m, .reg n, .t] [.reg n, .t] .one
  | .bitnn m o n => useU [.reg m, .reg o, .reg n] [.reg n] .oneOfTwo
  | .pmortL m n => useU [.reg m] [.reg n] .two
  | .pmortQ m n => useU [.reg m] [.reg n] .any
  | .bitsel m o n => useU [.reg m, .reg o, .reg n] [.reg n] .any
  | .bitselx m o n => useU (pairRes m ++ pairRes o ++ pairRes n) (pairRes n) .any
  | .bitmovImm m o n _ => useU [.reg m, .reg o] [.reg n] .any
  | .bitmovReg m o p n => useU [.reg m, .reg o, .reg p] [.reg n] .any
  | .bitmovxImm m o n _ => useU (pairRes m ++ [.reg o]) (pairRes n) .any
  | .bitmovxReg m o p n => useU (pairRes m ++ [.reg o] ++ pairRes p) (pairRes n) .any
  | .bitmovsImm m o n _ => useU [.reg m, .reg o] [.reg n] .any
  | .bitmovsReg m o p n => useU [.reg m, .reg o, .reg p] [.reg n] .any
  | .bitmovsxImm m o n _ => useU (pairRes m ++ [.reg o]) (pairRes n) .any
  | .bitmovsxReg m o p n => useU (pairRes m ++ [.reg o] ++ pairRes p) (pairRes n) .any
  | .adcL m n => adcU [.reg m, .reg n, .t] [.reg n, .t] .any
  | .sbbL m n => adcU [.reg m, .reg n, .t] [.reg n, .t] .any
  | .cmpEQ s' n f => useU (srcRes s' ++ [.reg n]) [flagRes f] .one
  | .cmpEQS m n => useU [.reg m, .reg n] [.s] .one
  | .cmpGT s' n f => useU (srcRes s' ++ [.reg n]) [flagRes f] .one
  | .cmpGTS m n => useU [.reg m, .reg n] [.s] .one
  | .cmpHI s' n f => useU (srcRes s' ++ [.reg n]) [flagRes f] .one
  | .cmpHIS m n => useU [.reg m, .reg n] [.s] .one
  | .cmpGE s' n f => useU (srcRes s' ++ [.reg n]) [flagRes f] .one
  | .cmpGES m n => useU [.reg m, .reg n] [.s] .one
  | .cmpHS s' n f => useU (srcRes s' ++ [.reg n]) [flagRes f] .one
  | .cmpHSS m n => useU [.reg m, .reg n] [.s] .one
  | .cmpQEQ s' n f => useU (srcRes s' ++ [.reg n]) [flagRes f] .one
  | .cmpQEQS m n => useU [.reg m, .reg n] [.s] .one
  | .cmpQGT s' n f => useU (srcRes s' ++ [.reg n]) [flagRes f] .one
  | .cmpQGTS m n => useU [.reg m, .reg n] [.s] .one
  | .cmpQHI s' n f => useU (srcRes s' ++ [.reg n]) [flagRes f] .one
  | .cmpQHIS m n => useU [.reg m, .reg n] [.s] .one
  | .cmpQGE s' n f => useU (srcRes s' ++ [.reg n]) [flagRes f] .one
  | .cmpQGES m n => useU [.reg m, .reg n] [.s] .one
  | .cmpQHS s' n f => useU (srcRes s' ++ [.reg n]) [flagRes f] .one
  | .cmpQHSS m n => useU [.reg m, .reg n] [.s] .one
  | .tst s' n f => useU (srcRes s' ++ [.reg n]) [flagRes f] .one
  | .tstS m n => useU [.reg m, .reg n] [.s] .one
  | .tstQ s' n f => useU (srcRes s' ++ [.reg n]) [flagRes f] .one
  | .tstQS m n => useU [.reg m, .reg n] [.s] .one
  | .cmpPEQ m n => useU [.reg m, .reg n] [.t] .one
  | .cmpPEQX m n => useU (pairRes m ++ pairRes n) [.t] .one
  | .cmpPGT m n => useU [.reg m, .reg n] [.t] .one
  | .cmpPGTX m n => useU (pairRes m ++ pairRes n) [.t] .one
  | .cmp3EQ m s' n => useU ([.reg m] ++ srcRes s') [.reg n] .any
  | .cmp3GT m s' n => useU ([.reg m] ++ srcRes s') [.reg n] .any
  | .cmp3NE m s' n => useU ([.reg m] ++ srcRes s') [.reg n] .any
  | .cmp3LT m _ n => useU [.reg m] [.reg n] .any
  | .cmp3GE m o n => useU [.reg m, .reg o] [.reg n] .any
  | .cmp3HI m _ n => useU [.reg m] [.reg n] .any
  | .cmp3BI m _ n => useU [.reg m] [.reg n] .any
  | .clrT => useU [] [.t] .one
  | .setT => useU [] [.t] .one
  | .clrS => useU [] [.s] .one
  | .setS => useU [] [.s] .any
  | .notT => useU [.t] [.t] .one
  | .notS => useU [.s] [.s] .one
  | .srtprop i => srtpropUses i
  | .srttwid i => srttwidUses i
  | .movT n => useU [.t] [.reg n] .any
  | .movNT n => useU [.t] [.reg n] .any
  | .shad m s' n => useU ([.reg m] ++ srcRes s') [.reg n] .shift
  | .shadq m s' n => useU ([.reg m] ++ srcRes s') [.reg n] .shift
  | .shadx m o n => useU (pairRes m ++ [.reg o]) (pairRes n) .any
  | .shld m s' n => useU ([.reg m] ++ srcRes s') [.reg n] .shift
  | .shldq m s' n => useU ([.reg m] ++ srcRes s') [.reg n] .shift
  | .shldx m o n => useU (pairRes m ++ [.reg o]) (pairRes n) .any
  | .shar m o n => useU [.reg m, .reg o] [.reg n] .shift
  | .sharq m o n => useU [.reg m, .reg o] [.reg n] .shift
  | .sharx m o n => useU (pairRes m ++ [.reg o]) (pairRes n) .any
  | .shlr m o n => useU [.reg m, .reg o] [.reg n] .shift
  | .shlrq m o n => useU [.reg m, .reg o] [.reg n] .shift
  | .shlrx m o n => useU (pairRes m ++ [.reg o]) (pairRes n) .any
  | .rotclL n => useU [.reg n, .t] [.reg n, .t] .one
  | .rotclQ n => useU [.reg n, .t] [.reg n, .t] .one
  | .rotcrL n => useU [.reg n, .t] [.reg n, .t] .one
  | .rotcrQ n => useU [.reg n, .t] [.reg n, .t] .one
  | .rotl n => useU [.reg n] [.reg n] .one
  | .rotr n => useU [.reg n] [.reg n] .one
  | .rotlQ m o n => useU [.reg m, .reg o] [.reg n] .one
  | .rotlL m o n => useU [.reg m, .reg o] [.reg n] .one
  | .rotlx m o n => useU (pairRes m ++ [.reg o]) (pairRes n) .one
  | .rotrQ m o n => useU [.reg m, .reg o] [.reg n] .one
  | .muls m s' n => useU ([.reg m] ++ srcRes s') [.reg n] .one
  | .mulu m s' n => useU ([.reg m] ++ srcRes s') [.reg n] .one
  | .mulsQ m o n => useU [.reg m, .reg o] [.reg n] .one
  | .muluQ m o n => useU [.reg m, .reg o] [.reg n] .one
  | .mulhsQ m o n => useU [.reg m, .reg o] [.reg n] .one
  | .mulhuQ m o n => useU [.reg m, .reg o] [.reg n] .one
  | .dmulsL m o n => useU [.reg m, .reg o] [.reg n] .one
  | .dmuluL m o n => useU [.reg m, .reg o] [.reg n] .one
  | .mulsW m s' n => useU ([.reg m] ++ srcRes s') [.reg n] .any
  | .muluW m s' n => useU ([.reg m] ++ srcRes s') [.reg n] .any
  | .muluX m n => useU (pairRes m ++ pairRes n) (pairRes n) .one
  | .mulhuX m n => useU (pairRes m ++ pairRes n) (pairRes n) .one
  | .macsL m b a n => useU ([.reg m] ++ srcRes b ++ [.reg a]) [.reg n] .one
  | .macuL m b a n => useU ([.reg m] ++ srcRes b ++ [.reg a]) [.reg n] .any
  | .dmacsL m b a n => useU ([.reg m] ++ srcRes b ++ [.reg a]) [.reg n] .any
  | .dmacuL m b a n => useU ([.reg m] ++ srcRes b ++ [.reg a]) [.reg n] .any
  | .divsQ m o n => useU [.reg m, .reg o] [.reg n] .one
  | .divuQ m o n => useU [.reg m, .reg o] [.reg n] .one
  | .divsL m o n => useU [.reg m, .reg o] [.reg n] .one
  | .divuL m o n => useU [.reg m, .reg o] [.reg n] .one
  | .modsQ m o n => useU [.reg m, .reg o] [.reg n] .one
  | .moduQ m o n => useU [.reg m, .reg o] [.reg n] .one
  | .modsL m o n => useU [.reg m, .reg o] [.reg n] .one
  | .moduL m o n => useU [.reg m, .reg o] [.reg n] .one
  | .div0 => useU [] [.t, .s] .any
  | .div1 => useU [.t, .s, .reg dlr, .reg dhr] [.t, .s, .reg dlr] .any
  | .ldiz _ n => useU [] [.reg n] .any
  | .ldin _ n => useU [] [.reg n] .any
  | .ldi8 _ n => useU [] [.reg n] .any
  | .ldi64 _ n => useU [] [.reg n] .any
  | .ldimiz _ n => useU [] [.reg n] .any
  | .ldimin _ n => useU [] [.reg n] .any
  | .ldish _ n => useU [.reg n] [.reg n] .any
  | .ldihi _ n => useU [] [.reg n] .any
  | .ldihiL _ n => useU [] [.reg n] .any
  | .ldihiq _ n => useU [] [.reg n] .any
  | .ldihiQ _ n => useU [] [.reg n] .any
  | .ldish16 _ n => useU [.reg n] [.reg n] .any
  | .ldiroz _ n => useU [] [.reg n] .any
  | .ldirozq _ n => useU [] [.reg n] .any
  | .ldiron _ n => useU [] [.reg n] .any
  | .ldironq _ n => useU [] [.reg n] .any
  | .movB d n a => memU (ifStore d ([.reg n]) ++ addrRes a) (ifLoad d ([.reg n])) .one
  | .movW d n a => memU (ifStore d ([.reg n]) ++ addrRes a) (ifLoad d ([.reg n])) .one
  | .movL d n a => memU (ifStore d ([.reg n]) ++ addrRes a) (ifLoad d ([.reg n])) .one
  | .movQ d n a => memU (ifStore d ([.reg n]) ++ addrRes a) (ifLoad d ([.reg n])) .one
  | .movuB n a => memU (addrRes a) [.reg n] .one
  | .movuW n a => memU (addrRes a) [.reg n] .one
  | .movuL n a => memU (addrRes a) [.reg n] .one
  | .movnL n a => memU (addrRes a) [.reg n] .one
  | .leaB n a => useU (addrRes a ++ [.jq]) [.reg n] .any
  | .leaW n a => useU (addrRes a ++ [.jq]) [.reg n] .any
  | .leaL n a => useU (addrRes a ++ [.jq]) [.reg n] .any
  | .leaQ n a => useU (addrRes a ++ [.jq]) [.reg n] .any
  | .movX d n a => memU (ifStore d (pairRes n) ++ addrRes a) (ifLoad d (pairRes n)) .one
  | .movC d c a => memU (ifStore d [.ctl c] ++ addrRes a) (ifLoad d [.ctl c]) .one
  | .movTW d n a => memU (ifStore d ([.reg n]) ++ addrRes a) (ifLoad d ([.reg n])) .one
  | .movuTW n a => memU (addrRes a) [.reg n] .one
  | .movHTW d n a => memU (ifStore d ([.reg n]) ++ addrRes a) (ifLoad d ([.reg n])) .one
  | .xmovB d n a => memU (ifStore d ([.reg n]) ++ xaddrRes a) (ifLoad d ([.reg n])) .one
  | .xmovW d n a => memU (ifStore d ([.reg n]) ++ xaddrRes a) (ifLoad d ([.reg n])) .one
  | .xmovL d n a => memU (ifStore d ([.reg n]) ++ xaddrRes a) (ifLoad d ([.reg n])) .one
  | .xmovQ d n a => memU (ifStore d ([.reg n]) ++ xaddrRes a) (ifLoad d ([.reg n])) .one
  | .xmovX d n a => memU (ifStore d (pairRes n) ++ xaddrRes a) (ifLoad d (pairRes n)) .one
  | .ldop u d _ n a => memU ([.reg n] ++ addrRes a) (if d = .load ∨ ldopXchg u = true then [.reg n] else []) .one
  | .ldtex m o _ n => memU [.reg m, .reg o] [.reg n] .one
  | .rbsldQ i n => useU [.md, .bank i] [.reg n] .any
  | .rbsldX i n => useU [.md, .bank i, .bank (i ||| 1#8)] (pairRes n) .any
  | .rbsstQ i n => useU [.md, .reg n] [.bank i] .any
  | .rbsstX i n => useU (.md :: pairRes n) [.bank i, .bank (i ||| 1#8)] .any
  | .bra t => useU (targetRes t) [] .one
  | .jmp n => useU [.reg n] (if n = dhr then linkRes else []) .one
  | .jmpAbs _ => useU [] [] .one
  | .bsr t => useU (targetRes t ++ linkRes) [.ctl 1#6] .one
  | .jsr n => useU ([.reg n] ++ linkRes) [.ctl 1#6] .one
  | .jsrAbs _ => useU linkRes [.ctl 1#6] .one
  | .rts => useU [.ctl 1#6] linkRes .one
  | .rtsu => useU [.ctl 1#6] linkRes .one
  | .bt t => useU (targetRes t ++ [.t]) [] .one
  | .bf t => useU (targetRes t ++ [.t]) [] .one
  | .jt n => useU [.reg n, .t] [] .one
  | .jf n => useU [.reg n, .t] [] .one
  | .braL n => useU [.reg n] [] .one
  | .bsrL n => useU ([.reg n] ++ linkRes) [.ctl 1#6] .one
  | .btL n => useU [.reg n, .t] [] .one
  | .bfL n => useU [.reg n, .t] [] .one
  | .jmpmd _ n => useU [.reg n] [.wx4, .wx3, .wx2, .wxe] .one
  | .jsrmd _ n => useU (.reg n :: linkRes) [.ctl 1#6, .wx4, .wx3, .wx2, .wxe] .one
  | .brEQL n _ => useU [.reg n] [] .one
  | .brEQQ n _ => useU [.reg n] [] .one
  | .brNEL n _ => useU [.reg n] [] .one
  | .brNEQ n _ => useU [.reg n] [] .one
  | .brLTL n _ => useU [.reg n] [] .one
  | .brLTQ n _ => useU [.reg n] [] .one
  | .brGEL n _ => useU [.reg n] [] .one
  | .brGEQ n _ => useU [.reg n] [] .one
  | .brLEL n _ => useU [.reg n] [] .one
  | .brLEQ n _ => useU [.reg n] [] .one
  | .brGTL n _ => useU [.reg n] [] .one
  | .brGTQ n _ => useU [.reg n] [] .one
  | .jtstT m n _ => useU [.reg m, .reg n] [] .one
  | .jtstQT m n _ => useU [.reg m, .reg n] [] .one
  | .jtstF m n _ => useU [.reg m, .reg n] [] .one
  | .jtstQF m n _ => useU [.reg m, .reg n] [] .one
  | .jcmpGT m n _ => useU [.reg m, .reg n] [] .one
  | .jcmpQGT m n _ => useU [.reg m, .reg n] [] .one
  | .jcmpLE m n _ => useU [.reg m, .reg n] [] .one
  | .jcmpQLE m n _ => useU [.reg m, .reg n] [] .one
  | .jcmpHI m n _ => useU [.reg m, .reg n] [] .one
  | .jcmpQHI m n _ => useU [.reg m, .reg n] [] .one
  | .jcmpLS m n _ => useU [.reg m, .reg n] [] .one
  | .jcmpQLS m n _ => useU [.reg m, .reg n] [] .one
  | .jcmpEQ m n _ => useU [.reg m, .reg n] [] .one
  | .jcmpQEQ m n _ => useU [.reg m, .reg n] [] .one
  | .jcmpNE m n _ => useU [.reg m, .reg n] [] .one
  | .jcmpQNE m n _ => useU [.reg m, .reg n] [] .one
  | .jcmpz _ _ n _ => useU [.reg n] [] .one
  | .movToC m c => useU (.reg m :: unlessAny (controlWritable c)) [.ctl c] .one
  | .movFromC c n => useU (.ctl c :: unlessAny (controlReadable c)) [.reg n] .any
  | .movToS m _ => useU [.reg m] [] .any
  | .movFromS _ n => useU [] [.reg n] .any
  | .breakOp => useU [] [] .any
  | .break2 => useU [] [] .any
  | .sleep => useU [.bl, .ipl] [] .any
  | .rte => useU [.md, .ctl 4#6, .ctl 5#6, .ctl 11#6, .reg sp] [.ctl 2#6, .ctl 5#6, .reg sp] .one
  | .cpuid _ => useU [] [.reg dlr] .one
  | .invtlb => useU [.md] [] .any
  | .invic n => useU (.reg n :: mmuRes) [] .any
  | .invdc n => useU (.reg n :: mmuRes) [] .any
  | .ldtlb => useU [.md, .rb, .ctl 8#6, .ctl 10#6, .ctl 12#6, .reg dlr, .reg dhr] [] .any
  | .ldxtlb => useU [.md, .rb, .ctl 8#6, .ctl 10#6, .ctl 12#6, .reg 4#6, .reg 5#6, .reg 6#6, .reg 7#6] [] .any
  | .snipedc m n => useU (.reg m :: mmuRes) [.reg n] .any
  | .snipeic m n => useU (.reg m :: mmuRes) [.reg n] .any
  | .ldacl => useU [.md, .reg dlr] [] .any
  | .ldekrr => useU [.reg dlr, .reg dhr] [.ctl 13#6] .alone
  | .svekrr => useU [.ctl 13#6] [.reg dlr, .reg dhr] .alone
  | .ldekey => useU [.md, .reg dlr, .reg dhr] [] .alone
  | .ldeenc => useU [.md, .reg dlr] [.reg dlr, .reg dhr] .alone
  | .sxentr => useU [.md, .rb] [.md, .rb] .any
  | .suentr => useU [.md, .rb] [.md, .rb] .any
  | .sventr => useU [.md, .rb] [.md, .rb] .any
  | .trapImm _ => useU trapReads trapWrites .one
  | .trapReg n => useU (.reg n :: trapReads) (.ctl 9#6 :: trapWrites) .one
  | .trapPair n => useU (pairRes n) [] .one
  | .settrap m n => useU [.reg m, .reg n, .jq] [] .any
  | .vskg m n => useU [.reg m] [.reg n] .any
  | .vskc m n => useU [.reg m, .reg n] [] .any
  | .xbless m n => useU (modeRes ++ pairRes m) (pairRes n) .any
  | .wexmd _ => useU [.md] [.wxe] .alone
  | .bndchkB m n => useU [.reg m, .reg n] [] .any
  | .bndchkW m n => useU [.reg m, .reg n] [] .any
  | .bndchkImm _ n => useU [.reg n] [] .any
  | .bndchkL m n => useU [.reg m, .reg n] [] .any
  | .bndchkQ m n => useU [.reg m, .reg n] [] .any
  | .bndcmpB m n => useU [.reg m, .reg n] [.t] .any
  | .bndcmpW m n => useU [.reg m, .reg n] [.t] .any
  | .bndcmpL m n => useU [.reg m, .reg n] [.t] .any
  | .bndcmpQ m n => useU [.reg m, .reg n] [.t] .any
  | .bndcmpImm _ n => useU [.reg n] [.t] .any
  | .leatB n a => useU (leatRes a) [.reg n] .any
  | .leatW n a => useU (leatRes a) [.reg n] .any
  | .leatL n a => useU (leatRes a) [.reg n] .any
  | .leatQ n a => useU (leatRes a) [.reg n] .any
  | .cmpTAEQ m n => useU [.reg m, .reg n] [.t] .any
  | .cmpTAHI m n => useU [.reg m, .reg n] [.t] .any
  | .cmpTAHS m n => useU [.reg m, .reg n] [.t] .any
  | .cmpTTEQ _ n => useU [.reg n] [.t] .any
  | .convfxi m n => useU [.reg m] [.reg n] .any
  | .convfli m n => useU [.reg m] [.reg n] .any
  | .movST m n => useU [.reg m] [.reg n] .any
  | .xmovST m n => useU (pairRes m) (pairRes n) .any
  | .movZT m n => useU [.reg m] [.reg n] .any
  | .xmovZT m n => useU (pairRes m) (pairRes n) .any
  | .movTTReg m o n => useU [.reg m, .reg o] [.reg n] .any
  | .movTTTag m _ n => useU [.reg m] [.reg n] .any
  | .movTTImm m _ n => useU [.reg m] [.reg n] .any
  | .xmovTTReg m o n => useU (modeRes ++ [.reg o] ++ pairRes m) (pairRes n) .any
  | .xmovTTImm _ n => useU (modeRes ++ pairRes n) (pairRes n) .any
  | .movHD2 m n => useU [.reg m, .reg n] [.reg n] .any
  | .movLD2 m n => useU [.reg m, .reg n] [.reg n] .any
  | .movHLD2 m n => useU [.reg m, .reg n] [.reg n] .any
  | .movLHD2 m n => useU [.reg m, .reg n] [.reg n] .any
  | .movHD m o n => useU [.reg m, .reg o] [.reg n] .any
  | .movLD m o n => useU [.reg m, .reg o] [.reg n] .any
  | .movHLD m o n => useU [.reg m, .reg o] [.reg n] .any
  | .movLHD m o n => useU [.reg m, .reg o] [.reg n] .any
  | .movHW m o n => useU [.reg m, .reg o] [.reg n] .any
  | .movLW m o n => useU [.reg m, .reg o] [.reg n] .any
  | .paddW m o n => useU [.reg m, .reg o] [.reg n] .two
  | .paddL m o n => useU [.reg m, .reg o] [.reg n] .two
  | .paddF m o n => fpuU [.reg m, .reg o] [.reg n, .sticky] .fpu 1
  | .paddxF m o n => fpuU (pairRes m ++ pairRes o) (pairRes n ++ [.sticky]) .one 0
  | .paddH m o n => fpuU [.reg m, .reg o] [.reg n, .sticky] .fpu 0
  | .paddxD m o n => fpuU (pairRes m ++ pairRes o) (pairRes n ++ [.sticky]) .one 0
  | .psubF m o n => fpuU [.reg m, .reg o] [.reg n, .sticky] .fpu 2
  | .psubxF m o n => fpuU (pairRes m ++ pairRes o) (pairRes n ++ [.sticky]) .one 0
  | .psubH m o n => fpuU [.reg m, .reg o] [.reg n, .sticky] .fpu 0
  | .psubxD m o n => fpuU (pairRes m ++ pairRes o) (pairRes n ++ [.sticky]) .one 0
  | .pmulF m o n => fpuU [.reg m, .reg o] [.reg n, .sticky] .fpu 3
  | .pmulxF m o n => fpuU (pairRes m ++ pairRes o) (pairRes n ++ [.sticky]) .one 0
  | .pmulH m o n => fpuU [.reg m, .reg o] [.reg n, .sticky] .fpu 0
  | .pmulxD m o n => fpuU (pairRes m ++ pairRes o) (pairRes n ++ [.sticky]) .one 0
  | .psubW m o n => useU [.reg m, .reg o] [.reg n] .two
  | .psubL m o n => useU [.reg m, .reg o] [.reg n] .two
  | .paddXrm m o n _ => fpuU [.reg m, .reg o] [.reg n, .sticky] .fpu 0
  | .paddxXrm m o n _ => fpuU (pairRes m ++ pairRes o) (pairRes n ++ [.sticky]) .one 0
  | .pmulXrm m o n _ => fpuU [.reg m, .reg o] [.reg n, .sticky] .fpu 0
  | .pmulxXrm m o n _ => fpuU (pairRes m ++ pairRes o) (pairRes n ++ [.sticky]) .one 0
  | .pmulsW m o n => useU [.reg m, .reg o] [.reg n] .two
  | .pmuluW m o n => useU [.reg m, .reg o] [.reg n] .two
  | .pmulsLW m o n => useU [.reg m, .reg o] [.reg n] .two
  | .pmuluLW m o n => useU [.reg m, .reg o] [.reg n] .two
  | .pmulsHW m o n => useU [.reg m, .reg o] [.reg n] .two
  | .pmuluHW m o n => useU [.reg m, .reg o] [.reg n] .two
  | .pcmpEQH m n => fpuU [.reg m, .reg n] [.t, .s, .p] .fpu 0
  | .pcmpEQF m n => fpuU [.reg m, .reg n] [.t, .s, .p] .fpu 0
  | .pcmpGTH m n => fpuU [.reg m, .reg n] [.t, .s, .p] .fpu 0
  | .pcmpGTF m n => fpuU [.reg m, .reg n] [.t, .s, .p] .fpu 0
  | .pcmpEQW m n => useU [.reg m, .reg n] [.t, .s, .p] .two
  | .pcmpEQL m n => useU [.reg m, .reg n] [.t, .s, .p] .two
  | .pcmpHIW m n => useU [.reg m, .reg n] [.t, .s, .p] .two
  | .pcmpHIL m n => useU [.reg m, .reg n] [.t, .s, .p] .two
  | .pcmpGTW m n => useU [.reg m, .reg n] [.t, .s, .p] .two
  | .pcmpGTL m n => useU [.reg m, .reg n] [.t, .s, .p] .two
  | .pcseltW m o n => useU [.reg m, .reg o, .p] [.reg n] .two
  | .pcseltL m o n => useU [.reg m, .reg o, .t, .s] [.reg n] .two
  | .pselTW m n => useU [.reg m, .reg n, .p] [.reg n] .two
  | .pselFW m n => useU [.reg m, .reg n, .p] [.reg n] .two
  | .pselTL m n => useU [.reg m, .reg n, .t, .s] [.reg n] .two
  | .pselFL m n => useU [.reg m, .reg n, .t, .s] [.reg n] .two
  | .pdottH _ n => fpuU [.reg n] [.t] .fpu 0
  | .pdottF _ n => fpuU [.reg n] [.t] .fpu 0
  | .pstcF8H m n => fpuU [.reg m] [.reg n] .any 0
  | .pldcF8H m n => fpuU [.reg m] [.reg n] .any 0
  | .pldcH m n => fpuU [.reg m] [.reg n] .any 0
  | .pldcHH m n => fpuU [.reg m] [.reg n] .any 0
  | .pldcEHL m n => fpuU [.reg m] [.reg n] .any 0
  | .pldcEHH m n => fpuU [.reg m] [.reg n] .any 0
  | .pstcH m n => fpuU [.reg m] [.reg n, .sticky] .any 0
  | .pldcM8SH m n => fpuU [.reg m] [.reg n] .any 0
  | .pldcM8UH m n => fpuU [.reg m] [.reg n] .any 0
  | .pstcM8SH m n => fpuU [.reg m] [.reg n] .any 0
  | .pstcM8UH m n => fpuU [.reg m] [.reg n] .any 0
  | .prcpaH m n => fpuU [.reg m] [.reg n] .fpu 0
  | .prcpaF m n => fpuU [.reg m] [.reg n] .fpu 4
  | .preluH m n => fpuU [.reg m] [.reg n] .fpu 0
  | .preluF m n => fpuU [.reg m] [.reg n] .fpu 5
  | .pshalW m n => useU [.reg m] [.reg n] .two
  | .pshllW m n => useU [.reg m] [.reg n] .two
  | .psharW m n => useU [.reg m] [.reg n] .two
  | .pshlrW m n => useU [.reg m] [.reg n] .two
  | .psqrtaH m n => fpuU [.reg m] [.reg n] .fpu 0
  | .psqrtuaH m n => fpuU [.reg m] [.reg n] .fpu 0
  | .psqrtaF m n => fpuU [.reg m] [.reg n] .fpu 6
  | .psqrtuaF m n => fpuU [.reg m] [.reg n] .fpu 7
  | .pldcHImm _ n => fpuU [] [.reg n] .any 0
  | .pldcM8SHImm _ n => fpuU [] [.reg n] .any 0
  | .pldcM8UHImm _ n => fpuU [] [.reg n] .any 0
  | .pshufB m _ n => useU [.reg m] [.reg n] .any
  | .pshufW m _ n => useU [.reg m] [.reg n] .two
  | .pshufW33 m _ n => useU [.reg m] [.reg n] .two
  | .pshufW17 m _ n => useU [.reg m] [.reg n] .two
  | .pscheqW m o n => useU [.reg m, .reg o] [.reg n, .t] .two
  | .pscheqB m o n => useU [.reg m, .reg o] [.reg n, .t] .any
  | .pschneW m o n => useU [.reg m, .reg o] [.reg n, .t] .two
  | .pschneB m o n => useU [.reg m, .reg o] [.reg n, .t] .any
  | .swapB m n => useU [.reg m] [.reg n] .any
  | .swapW m n => useU [.reg m] [.reg n] .any
  | .swap8B m n => useU [.reg m] [.reg n] .any
  | .swapL m n => useU [.reg m] [.reg n] .any
  | .swapLB m n => useU [.reg m] [.reg n] .any
  | .swapLW m n => useU [.reg m] [.reg n] .any
  | .swcpLB m n => useU [.reg m] [.reg n] .any
  | .swcpLW m n => useU [.reg m] [.reg n] .any
  | .swapMB m n => useU [.reg m] [.reg n] .any
  | .swapMW m n => useU [.reg m] [.reg n] .any
  | .swcpMB m n => useU [.reg m] [.reg n] .any
  | .swcpMW m n => useU [.reg m] [.reg n] .any
  | .swapHB m n => useU [.reg m] [.reg n] .any
  | .swapHW m n => useU [.reg m] [.reg n] .any
  | .swcpHB m n => useU [.reg m] [.reg n] .any
  | .swcpHW m n => useU [.reg m] [.reg n] .any
  | .paddshxX m o _ n => fpuU (pairRes m ++ pairRes o) (pairRes n ++ [.sticky]) .one 0
  | .psubshxX m o _ n => fpuU (pairRes m ++ pairRes o) (pairRes n ++ [.sticky]) .one 0
  | .pmulshxX m o _ n => fpuU (pairRes m ++ pairRes o) (pairRes n ++ [.sticky]) .one 0
  | .paddshH m o _ n => fpuU [.reg m, .reg o] [.reg n, .sticky] .fpu 0
  | .psubshH m o _ n => fpuU [.reg m, .reg o] [.reg n, .sticky] .fpu 0
  | .pmulshH m o _ n => fpuU [.reg m, .reg o] [.reg n, .sticky] .fpu 0
  | .pmacshHV m _ n => fpuU [.reg m, .reg n] [.reg n, .sticky] .fpu 0
  | .pmacshFV m _ n => fpuU (pairRes m ++ pairRes n) (pairRes n ++ [.sticky]) .fpu 0
  | .paddHV m _ n => fpuU [.reg m] [.reg n, .sticky] .fpu 0
  | .paddFV m _ n => fpuU (pairRes m) (pairRes n ++ [.sticky]) .fpu 0
  | .pmulHV m _ n => fpuU [.reg m] [.reg n, .sticky] .fpu 0
  | .pmulFV m _ n => fpuU (pairRes m) (pairRes n ++ [.sticky]) .fpu 0
  | .paddshHV m _ n => fpuU [.reg m] [.reg n, .sticky] .fpu 0
  | .paddshFV m _ n => fpuU (pairRes m) (pairRes n ++ [.sticky]) .fpu 0
  | .pmulshHV m _ n => fpuU [.reg m] [.reg n, .sticky] .fpu 0
  | .pmulshFV m _ n => fpuU (pairRes m) (pairRes n ++ [.sticky]) .fpu 0
  | .pmulF8H m o n => fpuU [.reg m, .reg o] [.reg n, .sticky] .any 0
  | .pmultxL m _ n => useU (pairRes m) (pairRes n) .one
  | .pmultW m _ n => useU [.reg m] [.reg n] .two
  | .rgb5pck32 m n => useU [.reg m] [.reg n] .any
  | .rgb5pck64 m n => useU [.reg m] [.reg n] .any
  | .rgb5upck32 m n => useU [.reg m] [.reg n] .any
  | .rgb5upck64 m n => useU [.reg m] [.reg n] .any
  | .rgb32pck64 m n => useU [.reg m] [.reg n] .any
  | .rgb32upck64 m n => useU [.reg m] [.reg n] .any
  | .rgb5shr1 m n => useU [.reg m] [.reg n] .any
  | .rgb5minmax m n => useU [.reg m] [.reg n] .one
  | .rgb5pcki8 m n => useU [.reg m] [.reg n] .any
  | .rgb5sh3 m n => useU [.reg m] [.reg n] .any
  | .rgb5ush3 m n => useU [.reg m] [.reg n] .any
  | .pldcm30ah m n => useU [.reg m] [.reg n] .any
  | .pstcm30ah m n => useU [.reg m] [.reg n] .any
  | .rgb5ccenc m o n => useU [.reg m, .reg o, .reg n] [.reg n] .one
  | .blerp m o n => useU [.reg m, .reg o, .reg n] [.reg n] .any
  | .blerp4 m o p _ n => useU [.reg m, .reg o, .reg p] [.reg n] .any
  | .blkutx2 m o n => useU [.reg m, .reg o] [.reg n] .any
  | .blkutx1 m o n => useU [.reg m, .reg o] [.reg n] .any
  | .blkutx3h m o n => useU (pairRes m ++ [.reg o]) [.reg n] .any
  | .blkutx3l m o n => useU (pairRes m ++ [.reg o]) [.reg n] .any
  | .blkuvf1VL m o n => useU [.reg m, .reg o] [.reg n] .any
  | .blkuvf1VH m o n => useU [.reg m, .reg o] [.reg n] .any
  | .blkuvf1SL m o n => useU [.reg m, .reg o] [.reg n] .any
  | .blkuvf1SH m o n => useU [.reg m, .reg o] [.reg n] .any
  | .blkuab1 m o n => useU [.reg m, .reg o] [.reg n] .any
  | .blkuab2 m o n => useU [.reg m, .reg o] [.reg n] .any
  | .fabs m n => fpuU [.reg m] [.reg n] .any 0
  | .fneg m n => fpuU [.reg m] [.reg n] .any 0
  | .fmin m o n => fpuU [.reg m, .reg o] [.reg n] .any 0
  | .fmax m o n => fpuU [.reg m, .reg o] [.reg n] .any 0
  | .fadd m b n _ => fpuU ([.reg m] ++ fsrcRes b) [.reg n, .sticky] .fpu 0
  | .faddx m o n _ => fpuU (pairRes m ++ pairRes o) (pairRes n ++ [.sticky]) .any 0
  | .faddg m o n => fpuU [.reg m, .reg o, .fpscr] [.reg n, .sticky] .any 0
  | .fadda m b n => fpuU ([.reg m] ++ fsrcRes b) [.reg n, .sticky] .any 0
  | .fsub m b n _ => fpuU ([.reg m] ++ fsrcRes b) [.reg n, .sticky] .fpu 0
  | .fsubx m o n _ => fpuU (pairRes m ++ pairRes o) (pairRes n ++ [.sticky]) .any 0
  | .fsubg m o n => fpuU [.reg m, .reg o, .fpscr] [.reg n, .sticky] .any 0
  | .fsuba m o n => fpuU [.reg m, .reg o] [.reg n, .sticky] .any 0
  | .fmul m b n _ => fpuU ([.reg m] ++ fsrcRes b) [.reg n, .sticky] .fpu 0
  | .fmulx m o n _ => fpuU (pairRes m ++ pairRes o) (pairRes n ++ [.sticky]) .any 0
  | .fmulg m o n => fpuU [.reg m, .reg o, .fpscr] [.reg n, .sticky] .any 0
  | .fmula m b n => fpuU ([.reg m] ++ fsrcRes b) [.reg n, .sticky] .any 0
  | .fcmpEQ b n => fpuU (fsrcRes b ++ [.reg n]) [.t] .one 0
  | .fcmpXEQ m n => fpuU (pairRes m ++ pairRes n) [.t] .one 0
  | .fcmpGE _ n => fpuU [.reg n] [.t] .one 0
  | .fcmpGT b n => fpuU (fsrcRes b ++ [.reg n]) [.t] .one 0
  | .fcmpXGT m n => fpuU (pairRes m ++ pairRes n) [.t] .one 0
  | .fdiv m o n => fpuU [.reg m, .reg o] [.reg n, .sticky] .one 0
  | .fdivx m o n => fpuU (pairRes m ++ pairRes o) (pairRes n ++ [.sticky]) .one 0
  | .fdiva m o n => fpuU [.reg m, .reg o] [.reg n] .one 0
  | .fdivxa m o n => fpuU (pairRes m ++ pairRes o) (pairRes n) .one 0
  | .fsqrt m n => fpuU [.reg m] [.reg n, .sticky] .one 0
  | .fsqrtx m n => fpuU (pairRes m) (pairRes n ++ [.sticky]) .one 0
  | .fsqrta m n => fpuU [.reg m] [.reg n] .any 0
  | .fsqrtxa m n => fpuU (pairRes m) (pairRes n) .any 0
  | .fldcf m n => fpuU [.reg m] [.reg n] .any 0
  | .fldchf m n => fpuU [.reg m] [.reg n] .any 0
  | .fldci m n => fpuU [.reg m] [.reg n, .sticky] .any 0
  | .fldch m n => fpuU [.reg m] [.reg n] .any 0
  | .fldciu m n => fpuU [.reg m] [.reg n, .sticky] .any 0
  | .fldcisL m n => fpuU [.reg m] [.reg n] .any 0
  | .fldciuL m n => fpuU [.reg m] [.reg n] .any 0
  | .fldchImm _ n => fpuU [] [.reg n] .any 0
  | .fldcfImm _ n => fpuU [] [.reg n] .any 0
  | .fstcf m n => fpuU [.reg m] [.reg n, .sticky] .any 0
  | .fstchf m n => fpuU [.reg m, .reg n] [.reg n, .sticky] .any 0
  | .fstci m n => fpuU [.reg m] [.reg n] .any 0
  | .fstch m n => fpuU [.reg m] [.reg n, .sticky] .any 0
  | .fmac m o p n => fpuU [.reg m, .reg o, .reg p] [.reg n, .sticky] .any 0
  | .fmacx m o p n => fpuU (pairRes m ++ pairRes o ++ pairRes p) (pairRes n ++ [.sticky]) .any 0
  | .fmas m o p n => fpuU [.reg m, .reg o, .reg p] [.reg n, .sticky] .any 0
  | .fmasx m o p n => fpuU (pairRes m ++ pairRes o ++ pairRes p) (pairRes n ++ [.sticky]) .any 0
  | .fmrs m o p n => fpuU [.reg m, .reg o, .reg p] [.reg n, .sticky] .any 0
  | .fmrsx m o p n => fpuU (pairRes m ++ pairRes o ++ pairRes p) (pairRes n ++ [.sticky]) .any 0
  | .fmra m o p n => fpuU [.reg m, .reg o, .reg p] [.reg n, .sticky] .any 0
  | .fmrax m o p n => fpuU (pairRes m ++ pairRes o ++ pairRes p) (pairRes n ++ [.sticky]) .any 0
  | .pmacH m o p n => fpuU [.reg m, .reg o, .reg p] [.reg n, .sticky] .fpu 0
  | .pmacF m o p n => fpuU (pairRes m ++ pairRes o ++ pairRes p) (pairRes n ++ [.sticky]) .fpu 0
  | .pmasH m o p n => fpuU [.reg m, .reg o, .reg p] [.reg n, .sticky] .fpu 0
  | .pmasF m o p n => fpuU (pairRes m ++ pairRes o ++ pairRes p) (pairRes n ++ [.sticky]) .fpu 0
  | .pmrsH m o p n => fpuU [.reg m, .reg o, .reg p] [.reg n, .sticky] .fpu 0
  | .pmrsF m o p n => fpuU (pairRes m ++ pairRes o ++ pairRes p) (pairRes n ++ [.sticky]) .fpu 0
  | .pmraH m o p n => fpuU [.reg m, .reg o, .reg p] [.reg n, .sticky] .fpu 0
  | .pmraF m o p n => fpuU (pairRes m ++ pairRes o ++ pairRes p) (pairRes n ++ [.sticky]) .fpu 0
  | .pconv m _ n => fpuU [.reg m] [.reg n] .any 0
  | .pconvx m _ n => fpuU (pairRes m) (pairRes n) .any 0
  | .pcvtSB2HL m n => fpuU [.reg m] [.reg n] .any 0
  | .pcvtUB2HL m n => fpuU [.reg m] [.reg n] .any 0
  | .pcvtSB2HH m n => fpuU [.reg m] [.reg n] .any 0
  | .pcvtUB2HH m n => fpuU [.reg m] [.reg n] .any 0
  | .pcvtSW2FL m n => fpuU [.reg m] [.reg n] .any 0
  | .pcvtUW2FL m n => fpuU [.reg m] [.reg n] .any 0
  | .pcvtSW2FH m n => fpuU [.reg m] [.reg n] .any 0
  | .pcvtUW2FH m n => fpuU [.reg m] [.reg n] .any 0
  | .pcvtH2SB m n => fpuU [.reg m] [.reg n] .any 0
  | .pcvtH2UB m n => fpuU [.reg m] [.reg n] .any 0
  | .pcvtSW2H m n => fpuU [.reg m] [.reg n] .any 0
  | .pcvtUW2H m n => fpuU [.reg m] [.reg n] .any 0
  | .pcvtF2SW m n => fpuU [.reg m] [.reg n] .any 0
  | .pcvtF2UW m n => fpuU [.reg m] [.reg n] .any 0
  | .pcvtH2SW m n => fpuU [.reg m] [.reg n] .any 0
  | .pcvtH2UW m n => fpuU [.reg m] [.reg n] .any 0
  | .pcvtH2AL m n => fpuU [.reg m] [.reg n] .any 0
  | .pcvtAL2H m n => fpuU [.reg m] [.reg n] .any 0

/-- An instruction of a bundle: its address and what was decoded there. -/
structure Slot where
  addr : VAddr
  d    : Decoded
deriving DecidableEq, Repr

/-- The uses of a slot; a predicated one also reads SR.T (R135). -/
def Slot.uses (x : Slot) : Uses :=
  let v := Sys2Proof.Machine.uses x.d.instr
  if x.d.pred.isSome then { v with reads := .t :: v.reads } else v

/-- R141(a) between an earlier and a later slot. -/
def independent (a b : Uses) : Bool :=
  !(a.writes.any fun w => (b.reads ++ b.writes).any fun r => w.clash r) &&
  !(a.reads.any fun r => b.writes.any fun w => r.clash w)
/-- R784, R671: two floating-point operations only as a pair of one packed-single operation. -/
def fpuPair (a b : Uses) : Bool := !(a.fpu && b.fpu) || (a.pack != 0 && a.pack == b.pack)
/-- Whether an instruction may stand in a lane, 1 the last, of a bundle of a width (R141 c, d; R142). -/
def laneOk (width lane : Nat) (u : Uses) : Bool :=
  match u.lane with
  | .any => true
  | .shift => lane ≤ 2 || Config.lane3Shift
  | .two => lane ≤ 2
  | .fpu => lane == 1 || (lane == 2 && Config.features.fp2)
  | .one => lane == 1
  | .oneOfTwo => lane == 1 && width == 2
  | .alone => false
/-- Every pair of an earlier and a later slot meets a condition. -/
def pairwiseB (f : Uses → Uses → Bool) : List Uses → Bool
  | [] => true
  | a :: t => t.all (f a) && pairwiseB f t
/-- Every slot stands in a lane it may; the list's length and the slots below it give the lane of its head. -/
def lanesOk (width below : Nat) : List Uses → Bool
  | [] => true
  | a :: t => laneOk width (t.length + 1 + below) a && lanesOk width below t
/-- Whether the slots of a bundle meet R141 as far as they show; `below` slots after them could not be fetched. -/
def bundleMay (below : Nat) (l : List Slot) : Bool :=
  let us := l.map Slot.uses
  decide (l.length + below ≤ Config.wexWidth) && (l.all fun x => decide (x.d.len ≤ 4)) &&
    decide ((us.filter fun u => u.mem).length ≤ 1) && pairwiseB independent us && pairwiseB fpuPair us &&
    lanesOk (l.length + below) below us
/-- Whether a bundle of two or more slots meets R141. -/
def bundleOk (l : List Slot) : Bool := bundleMay 0 l

/-! ### Registers there are (00_scope.md R9, R10; 10_state.md R23) -/

/-- Whether a register is there (NGPR). A control register that is not raises UndefinedInstruction in its move (R27, D6). -/
def Res.there (r : Res) : Bool :=
  match r with
  | .reg n => decide (n.toNat < Config.ngpr)
  | _ => true
/-- Whether every register an instruction names is there. -/
def registersExist (i : Instr) : Bool := (uses i).reads.all Res.there && (uses i).writes.all Res.there

end Sys2Proof.Machine
end

