-- ==== Sys2Proof/Machine/Fetch.lean ====
section
/-! DEFINITION. Everything a step does around exec: the clock, interrupts, instruction fetch, predication and WEX
bundles (20_memory.md R97; 30_encoding.md R135, R140, R180; 60_exceptions.md R855, R858, R865, R880). -/

namespace Sys2Proof.Machine

open Sys2Proof

/-! Noncomputable only because the decoder is; see Decode.lean. -/
noncomputable section

/-! ### Counters and interrupts (60_exceptions.md R855, R880; log 11, 12) -/

/-- Whether a TRAP may bring this code to another core: class 0xC or 0xE, the routing bits cleared (R885; the codes a
routed TRAP may name, `trapAllowed`). -/
def routable (c : Half) : Bool := (slice c 12 4 == 0xC#4 || slice c 12 4 == 0xE#4) && slice c 8 4 == 0#4
/-- What becomes pending at the k-th step: the environment's class 0xC codes (R880), and the TRAPs other cores route here,
with their TEA values (R885). -/
def arrivals (k : Nat) : List PendingIrq :=
  (((Config.raiseIrq k).filter fun c => slice c 12 4 == 0xC#4).map fun c => { code := c, tea := none }) ++
    ((Config.routedTraps k).filter fun r => routable r.code).map fun r => { code := r.code, tea := some (r.tea.setWidth 64) }
/-- An interrupt joins the set of pending codes (R855). DESIGN CHOICE (log 11): a code that is pending already stays once, and
a TEA value it then receives replaces the one it had. -/
def addPending (p : List PendingIrq) (x : PendingIrq) : List PendingIrq :=
  if p.any fun y => y.code == x.code then p.map fun y => if y.code == x.code then { y with tea := x.tea.or y.tea } else y
  else p ++ [x]
/-- The counters advance, and what arrives becomes pending, at every instruction boundary (R880, R885). -/
def tick (s : State) : State :=
  { s with
    clock := s.clock + 1
    usec := s.usec + Config.usecStep s.clock
    cycles := s.cycles + 1#64 + BitVec.ofNat 64 (Config.cyclesFor s.clock)
    pending := (arrivals s.clock).foldl addPending s.pending }
/-- Whether an interrupt of a level passes SR.IPL (R855). -/
def levelPasses (ipl : BitVec 2) (level : Config.IrqLevel) : Bool :=
  if ipl == 3#2 then true else if ipl == 2#2 then level != .low else if ipl == 1#2 then level == .high else false
/-- Whether code a is taken before code b: higher level, lower code within a level (R855). -/
def takenBefore (a b : Half) : Bool :=
  decide ((Config.irqLevel b).rank < (Config.irqLevel a).rank) || (Config.irqLevel a == Config.irqLevel b && a ≤ b)
/-- The first of some codes. -/
def firstCode : List Half → Option Half
  | [] => none
  | c :: t =>
    match firstCode t with
    | none => some c
    | some d => some (if takenBefore c d then c else d)
/-- The pending interrupt to take, if one is deliverable (R855). -/
def deliverable (s : State) : Option Half :=
  if srBL s || srIPL s == 0#2 then none
  else firstCode ((s.pending.map PendingIrq.code).filter fun c => levelPasses (srIPL s) (Config.irqLevel c))
/-- The TEA value that came with a pending code, if one did (R885). -/
def pendingTea (code : Half) (s : State) : Option Word := (s.pending.find? fun p => p.code == code).bind PendingIrq.tea
/-- Interrupt(code): entry with the address of the next instruction saved, and the TEA value a routed TRAP brought; a sleeping
core wakes (R855, R860, R885). -/
def takeInterrupt (code : Half) (s : State) : State :=
  enterTrap code (pendingTea code s) s.pc { s with pending := s.pending.filter fun p => p.code != code, sleeping := false }

/-! ### Instruction fetch (20_memory.md R74, R97; 30_encoding.md R110, R180) -/

/-- A byte as fetch sees it: any value it has had since its line last reached the instruction cache (R97). -/
def fetchByte (s : State) (pa : Nat) : Byte × State :=
  match s.stale.find? fun e => e.addr == pa with
  | none => (readByte s pa, s)
  | some e =>
    let vs := readByte s pa :: e.olds
    (vs.getD ((freeWord s).toNat % vs.length) (readByte s pa), drawn s)
/-- Bytes as fetch sees them. -/
def fetchBytes : List Nat → State → List Byte × State
  | [], s => ([], s)
  | a :: as, s =>
    let b := fetchByte s a
    let r := fetchBytes as b.2
    (b.1 :: r.1, r.2)
/-- 16-bit words from bytes, low byte first (20_memory.md R70). -/
def halvesOf : List Byte → List Half
  | lo :: hi :: t => (hi ++ lo) :: halvesOf t
  | _ => []

/-- What fetching answers. -/
inductive Fetched where
  | ok (ws : List Half) (s : State)
  | stop (o : Out State)

/-- The k words at an address, for the instruction at `base`, whose address is that of the fetch (60_exceptions.md R853);
no fetch reaches a device (70_reset_and_hazards.md R921). DESIGN CHOICE (log 54): with VA_BITS = 96 a fetch takes the high 48
address bits from GBH as an ordinary load does, since R82 and R39 speak of loads and stores only. -/
def fetchWords (base : VAddr) (k : Nat) (a : VAddr) (s : State) : Fetched :=
  match resolveAll .fetch (vaOf s (base.setWidth 64)) (spanOf (vaSpace s) (vaOf s (a.setWidth 64)) (2 * k)) s with
  | .stop o => .stop o
  | .ok pas s1 =>
    if pas.any (isMmio s1) then .stop (.refused .mmio)
    else
      let r := fetchBytes pas (evictI s1 pas)
      .ok (halvesOf r.1) r.2
/-- Words already fetched at an address, followed by as many as the instruction still needs. -/
def fetchMore (ws : List Half) (a : VAddr) (s : State) : Fetched :=
  match fetchWords a (wordsNeeded (isXG2 s) ws - ws.length) (a + BitVec.ofNat 48 (2 * ws.length)) s with
  | .stop o => .stop o
  | .ok ws' s' => .ok (ws ++ ws') s'
/-- The words of the instruction at an address: each word decides how many more there are (R110). -/
def fetchInstr (a : VAddr) (s : State) : Fetched :=
  match fetchMore [] a s with
  | .stop o => .stop o
  | .ok w0 s0 =>
    match fetchMore w0 a s0 with
    | .stop o => .stop o
    | .ok w1 s1 => fetchMore w1 a s1

/-- The instruction at an address, or how the step ends instead. -/
inductive Found where
  | ok (x : Slot) (s : State)
  | stop (o : Out State)

/-- Fetch and decode; undefined words raise UndefinedInstruction (30_encoding.md R150), and registers that NGPR leaves out
are refused (10_state.md R23). -/
def findAt (a : VAddr) (s : State) : Found :=
  match fetchInstr a s with
  | .stop o => .stop o
  | .ok ws s1 =>
    match decode (isXG2 s) ws with
    | .ok d => if registersExist d.instr then .ok { addr := a, d := d } s1 else .stop (.refused .forbiddenPair)
    | .error .prefixedPredicate => .stop (.refused .prefixedPredicate)
    | .error _ => .stop (raise .undefinedInstruction s1)

/-! ### One instruction, one bundle (30_encoding.md R135, R140, R141; 60_exceptions.md R858) -/

/-- An instruction at its address: with an unwanted SR.T a predicated one only advances the pc (R135). -/
def runSlot (x : Slot) (s : State) : Out State :=
  let s1 := { s with pc := x.addr, npc := x.addr + BitVec.ofNat 48 x.d.len }
  match x.d.pred with
  | none => exec x.d.instr s1
  | some want => if srT s1 == want then exec x.d.instr s1 else retire s1
/-- ADC and SBB outside Lane 1 leave SR.T free (R142). -/
def adcFree (x : Slot) (s : State) : State := if x.uses.adc then setT (drawn s) (freeBit s) else s
/-- The instructions of a bundle in address order, up to the first fault (R140). -/
def runSlots : List Slot → State → Out State
  | [], s => .next s
  | [x], s => runSlot x s
  | x :: y :: t, s =>
    match runSlot x s with
    | .next s1 => if s1.faults = s.faults then runSlots (y :: t) (adcFree x s1) else .next s1
    | .fault r => .fault r
    | .refused r => .refused r
/-- A fault in any lane abandons the bundle: the trap is entered from the state before it (R858). -/
def abandonOn (start : State) (o : Out State) : Out State :=
  match o with
  | .next s1 =>
    if s1.faults = start.faults then .next s1
    else .next (enterTrap (slice s1.exsr 0 16) s1.faultTea start.pc
      { start with draws := s1.draws, faults := s1.faults, faultTea := s1.faultTea })
  | .fault r => .fault r
  | .refused r => .refused r

/-- The slots of a bundle, or those before the one that cannot be fetched. -/
inductive Gathered where
  | all (l : List Slot) (s : State)
  | cut (l : List Slot) (s : State) (o : Out State)

def Gathered.cons (x : Slot) : Gathered → Gathered
  | .all l s => .all (x :: l) s
  | .cut l s o => .cut (x :: l) s o
/-- A run of flagged instructions ended by the first unflagged one, of at most k; with WXE = 0, or without WEX, one
instruction (R140). -/
def gather : Nat → VAddr → State → Gathered
  | 0, _, s => .cut [] s (.refused .bundleObligation)
  | k + 1, a, s =>
    match findAt a s with
    | .stop o => .cut [] s o
    | .ok x s1 =>
      if x.d.wex && Config.features.wex && srWXE s then (gather k (a + BitVec.ofNat 48 x.d.len) s1).cons x else .all [x] s1

/-- The pc meets the alignment of the decode mode (20_memory.md R74). -/
def pcAligned (s : State) : Bool := !bitAt s.pc 0 && !(wordPC s && bitAt s.pc 1)
/-- The decode modes with a description: 0 and 1, with XG2 also 4 and 5 (00_scope.md R3). -/
def modeKnown (s : State) : Bool :=
  slice (decodeMode s) 1 3 == 0#3 || (slice (decodeMode s) 1 3 == 2#3 && Config.features.xg2)
/-- One more instruction since LR was written; an instruction that faults does not count (70_reset_and_hazards.md R911). -/
def aged (s : State) : State := { s with lrAge := s.lrAge + 1 }
def settle (start : State) (o : Out State) : Out State :=
  match o with
  | .next s' => if s'.faults = start.faults then .next s' else .next { s' with lrAge := start.lrAge }
  | .fault r => .fault r
  | .refused r => .refused r

/-- The instruction or bundle at the pc. Where a later slot cannot be fetched, a fault of an earlier one comes
first (60_exceptions.md R865). -/
def execute (s : State) : Out State :=
  if !modeKnown s then .refused .decodeMode
  else if !pcAligned s then .refused .oddTarget
  else
    match gather Config.wexWidth s.pc s with
    | .all [x] s1 => settle s (runSlot x (aged s1))
    | .all l s1 =>
      if bundleOk l then settle s (abandonOn (aged s1) (runSlots l (aged s1))) else .refused .bundleObligation
    | .cut l s1 (.next t) =>
      if bundleMay 1 l then
        match settle s (abandonOn (aged s1) (runSlots l (aged s1))) with
        | .next u => if u.faults = s.faults then .next t else .next u
        | .fault r => .fault r
        | .refused r => .refused r
      else .refused .bundleObligation
    | .cut _ _ o => o

/-- One step: interrupts first, then, unless the core sleeps, one instruction or bundle (R855, R865). -/
def advance (s : State) : Out State :=
  let s1 := tick s
  match deliverable s1 with
  | some code => .next (takeInterrupt code s1)
  | none => if s1.sleeping then .next s1 else execute s1

/-! ### Placing an instruction (log 38, 39) -/

/-- Write bytes at virtual addresses from va, where fetch translates them. -/
def placeBytes (space va : Nat) : List Byte → State → State
  | [], s => s
  | b :: t, s =>
    let pa := match translateByte s .fetch (va % space) with | .ok pa => pa | _ => va % space
    placeBytes space (va + 1) t { s with mem := Memory.write s.mem pa b, stale := s.stale.filter fun e => e.addr != pa }
/-- The bytes of words, low byte first. -/
def bytesOf : List Half → List Byte
  | [] => []
  | w :: t => slice w 0 8 :: slice w 8 8 :: bytesOf t
/-- Words written where the next fetch reads. -/
def placeWords (ws : List Half) (s : State) : State :=
  placeBytes (vaSpace s) (vaOf s (s.pc.setWidth 64)) (bytesOf ws) s

end

end Sys2Proof.Machine
end

