-- ==== Sys2Proof/Machine/Step.lean ====
section
/-! DEFINITION. The step function, and an instruction placed where it fetches. -/

namespace Sys2Proof.Machine

open Sys2Proof

/-! Noncomputable only because the decoder's constructor numbers exceed what compiled code holds; see Decode.lean. -/
noncomputable section

/-- One step of the machine (60_exceptions.md R865). -/
def step : State → Host.Outcome State Fault Refusal := advance

/-- The state with the instruction of an opcode-table word placed at the next fetch (log 38, 39). -/
def State.withFetchWord (s : State) (nbits w : Nat) : State := placeWords (tableWords nbits w) s

end

end Sys2Proof.Machine
end

