-- ==== Sys2Proof/Safety.lean ====
section
/-! DEFINITION. What counts as a safe step and a safe run, the invariant of the machine, and the next states the
statements name. -/

namespace Sys2Proof.Machine

open Sys2Proof

/-! Noncomputable only because the decoder is; see Decode.lean. -/
noncomputable section

/-- A safe step: it answers a next state (taking an exception is one). -/
def SafeStep (s : State) : Prop := ∃ t, step s = .next t
/-- A safe run of k steps: none of them stops. -/
def SafeRun : Nat → State → Prop
  | 0, _ => True
  | k + 1, s => ∃ t, step s = .next t ∧ SafeRun k t

/-! ### The invariant -/

/-- No row of the TLB holds more than 2^TLB_ASSOC entries (10_state.md R50). -/
def tlbFits (l : List TlbEntry) : Prop :=
  ∀ r, (l.filter fun e => e.row == r).length ≤ 2 ^ Config.tlbAssocLog2.toNat
/-- The pending codes are a set, each of class 0xC or brought by a routed TRAP (60_exceptions.md R855, R885). -/
def pendingSet (l : List PendingIrq) : Prop :=
  (l.map PendingIrq.code).Nodup ∧ ∀ p ∈ l, slice p.code 12 4 = 0xC#4 ∨ routable p.code = true

/-- What every step keeps. -/
structure State.Inv (s : State) : Prop where
  /-- Memory is in canonical form. -/
  memory : Memory.wf s.mem = true
  /-- The SR bits no source defines are clear (10_state.md R28). -/
  reserved : s.sr &&& srReserved = 0#64
  /-- Every TLB row is within its size (10_state.md R50). -/
  tlb : tlbFits s.tlb
  /-- The pending interrupts are a set of interrupt codes (60_exceptions.md R855). -/
  pending : pendingSet s.pending
  /-- At most one record for each byte fetch may see late (20_memory.md R97). -/
  stale : (s.stale.map StaleByte.addr).Nodup
  /-- At most one record of tripwire flags for each line (20_memory.md R91). -/
  wires : (s.tripwires.map Tripwire.line).Nodup

/-! ### Next states -/

/-- Nothing but the pc has changed: it is the next instruction's. -/
def State.done (s : State) : State := { s with pc := s.npc }
/-- Nothing but the pc has changed: it is t. -/
def State.jumped (t : VAddr) (s : State) : State := { s with pc := t }
/-- k free values have been read (log 3). -/
def State.drew (k : Nat) (s : State) : State := { s with draws := s.draws + k }
/-- One register, the pc, and nothing else has changed. -/
def State.wrote (n : Reg) (v : Word) (s : State) : State :=
  { s with regs := s.regs.set n.toNat v n.isLt, pc := s.npc }
/-- The two registers of a pair, the pc, and nothing else have changed (10_state.md R23). -/
def State.wrotePair (p : Pair) (v : Quad) (s : State) : State :=
  { s with
    regs := (s.regs.set (pairLo p).toNat (slice v 0 64) (pairLo p).isLt).set (pairHi p).toNat (slice v 64 64) (pairHi p).isLt
    pc := s.npc }
/-- SR, the pc, and nothing else have changed. -/
def State.wroteSR (v : Word) (s : State) : State := { s with sr := v, pc := s.npc }
/-- w is v with bit i equal to b. -/
def OneBit (i : Nat) (b : Bool) (v w : Word) : Prop := ∀ k, k < 64 → w.getLsbD k = if k = i then b else v.getLsbD k
/-- The state a synchronous exception leaves (60_exceptions.md R860, R861), where `tea` is what TEA receives. -/
def State.trapped (e : Exc) (tea : Option Word) (s : State) : State :=
  { enterTrap e.code tea s.pc s with faults := s.faults + 1, faultTea := tea }
/-- Whether an address may be jumped to in the decode mode: even, and a multiple of 4 in XG2 (20_memory.md R74). -/
def jumpable (s : State) (t : VAddr) : Prop := t.getLsbD 0 = false ∧ (wordPC s = true → t.getLsbD 1 = false)
/-- The physical addresses of n bytes of ordinary memory for an access at a virtual address, and the state after checking
them. -/
def Access (k : Config.Access) (space va n : Nat) (s : State) (pas : List Nat) (s' : State) : Prop :=
  resolveAll k (va % space) (spanOf space va n) s = .ok pas s' ∧ pas.any (isMmio s) = false

/-- The instructions of a bundle from an address: each decodes from its words, all but the last are flagged, and t is the
state after the last fetch (30_encoding.md R140). -/
def FetchesBundle (a : VAddr) (s : State) : List Slot → State → Prop
  | [], _ => False
  | x :: l, t => x.addr = a ∧ ∃ ws s', fetchInstr a s = .ok ws s' ∧ decode (isXG2 s) ws = .ok x.d ∧
      x.d.wex = !l.isEmpty ∧ (if l.isEmpty then t = s' else FetchesBundle (a + BitVec.ofNat 48 x.d.len) s' l t)

/-! ### How an instruction completes -/

/-- From s, i answers a next state in which Rn holds a value with a property and nothing else but the pc has changed. -/
def Gives (i : Instr) (n : Reg) (s : State) (P : Word → Prop) : Prop := ∃ v, exec i s = .next (s.wrote n v) ∧ P v
/-- The same with k free values read. -/
def GivesFree (i : Instr) (k : Nat) (n : Reg) (s : State) (P : Word → Prop) : Prop :=
  ∃ v, exec i s = .next ((s.drew k).wrote n v) ∧ P v
/-- The same of a register pair with k free values read, where every pair named may be used; a forbidden one refuses. -/
def GivesPair (i : Instr) (ps : List Pair) (k : Nat) (n : Pair) (s : State) (P : Quad → Prop) : Prop :=
  (ps.all pairAllowed = true → ∃ v, exec i s = .next ((s.drew k).wrotePair n v) ∧ P v) ∧
    (ps.all pairAllowed = false → exec i s = .refused .forbiddenPair)
/-- From s, i answers a next state in which one SR bit has a value and nothing else but the pc has changed. -/
def SetsBit (i : Instr) (k : Nat) (s : State) (b : Bool) : Prop :=
  ∃ v, exec i s = .next (s.wroteSR v) ∧ OneBit k b s.sr v
/-- From s, i answers a next state in which Rn and SR.T have values with a property and nothing else but the pc has
changed. -/
def GivesT (i : Instr) (n : Reg) (s : State) (P : Word → Bool → Prop) : Prop :=
  ∃ v w c, exec i s = .next { s.wrote n v with sr := w } ∧ OneBit 0 c s.sr w ∧ P v c
/-- y is x shifted left by c mod w, or right by -c mod w where c is negative, the sign entering when `ar`
(42_shift_muldiv.md R320). -/
def Shifted {w : Nat} (ar : Bool) (c : Int) (x y : BitVec w) : Prop :=
  ∀ k, k < w → y.getLsbD k =
    if 0 ≤ c then (if k < c.toNat % w then false else x.getLsbD (k - c.toNat % w))
    else if k + (-c).toNat % w < w then x.getLsbD (k + (-c).toNat % w) else (ar && x.getLsbD (w - 1))
/-- The number 16 decimal digits stand for. -/
def decimal (v : Word) : Nat := (List.range 16).foldr (fun i acc => bcdDigit v i + 10 * acc) 0

/-- A value the byte at a had before a store, which instruction fetch may still see (20_memory.md R97). -/
def Older (l : List StaleByte) (a : Nat) (b : Byte) : Prop := ∃ e, l.find? (fun e => e.addr == a) = some e ∧ b ∈ e.olds
/-- Two lists record the same bytes with the same older values; how far the flush of each has come may differ. -/
def SameOlder (l m : List StaleByte) : Prop := l.map (fun e => (e.addr, e.olds)) = m.map (fun e => (e.addr, e.olds))
/-- What a store at some addresses leaves of a state's records (20_memory.md R97, R98): each byte stored is dirty, its
older values are those it had and the one it has lost; the older values of every other byte are as they were. -/
def Recorded (s : State) (pas : List Nat) (l : List StaleByte) : Prop :=
  (∀ a b, a ∉ pas → (Older l a b ↔ Older s.stale a b)) ∧
  ∀ a ∈ pas, (∃ e, l.find? (fun e => e.addr == a) = some e ∧ e.stage = .dirty) ∧ Older l a (Memory.read s.mem a) ∧
    (∀ b, Older s.stale a b → Older l a b) ∧
    (pas.Nodup → ∀ b, Older l a b → b = Memory.read s.mem a ∨ Older s.stale a b)

/-- Wherever the n bytes at a virtual address can be read, i answers a next state in which Rn holds a value in a relation
to their little-endian number; only the way of a flushed line to memory and the free values read may change besides. -/
def Loads (i : Instr) (r : Reg) (space va n : Nat) (s : State) (P : Nat → Word → Prop) : Prop :=
  ∀ pas s', Access .read space va n s pas s' →
    ∃ k l v, s' = s.drew k ∧ exec i s = .next { (s.drew k).wrote r v with stale := l } ∧ SameOlder l s.stale ∧ P (bytesLE s pas) v
/-- Wherever the n bytes at a virtual address can be written, i answers a next state in which they hold a number, every
other byte is as it was, no register has changed, and fetch may see the bytes late. (A number is read back from a memory in
canonical form.) -/
def Stores (i : Instr) (space va n : Nat) (s : State) (x : Nat) : Prop :=
  ∀ pas s', Access .write space va n s pas s' →
    ∃ k l M, s' = s.drew k ∧ exec i s = .next { (s.drew k).done with mem := M, stale := l } ∧ Recorded s pas l ∧
      (∀ a, a ∉ pas → Memory.read M a = Memory.read s.mem a) ∧ (Memory.wf s.mem = true → pas.Nodup → bytesLE { s with mem := M } pas = x % 256 ^ n)

/-- i goes to an address, leaving the rest as in s': where the decode mode of s' allows the address, and it is refused
where it does not (20_memory.md R74). -/
def Goes (i : Instr) (s : State) (t : VAddr) (s' : State) : Prop :=
  (jumpable s' t → exec i s = .next (s'.jumped t)) ∧ (¬ jumpable s' t → exec i s = .refused .oddTarget)
/-- i goes to an address if a condition holds and to the next instruction if not, and changes nothing else. -/
def Branches (i : Instr) (s : State) (cond : Prop) (t : VAddr) : Prop :=
  (cond → Goes i s t s) ∧ (¬ cond → exec i s = .next s.done)

/-! ### Floating point -/

/-- How many binary places lie below 1 in a format: its smallest value is 2^-fpScale. -/
def fpScale (f : Fmt) : Nat := fpBias f - 1 + f.frac
/-- The value of a pattern that is normal or zero, times 2^fpScale: a whole number. -/
def fpScaled (f : Fmt) (v : Nat) : Int :=
  (if fpSign f v then -1 else 1) * (if fpExp f v = 0 then 0 else (2 ^ f.frac + fpFrac f v) * 2 ^ (fpExp f v - 1) : Nat)
/-- A pattern that is normal or zero. -/
def fpPlain (f : Fmt) (v : Nat) : Prop := fpSpecial f v = false ∧ fpDenormal f v = false
/-- From s, i answers a next state in which k free values have been read, Rn holds a value with a property, the sticky
status bits GBR[59:56] may have gathered more, and nothing else but the pc has changed (49_gfp.md R788). -/
def GivesFp (i : Instr) (k : Nat) (n : Reg) (s : State) (P : Word → Prop) : Prop :=
  ∃ (v : Word) (b : BitVec 4), exec i s = .next { (s.drew k).wrote n v with gbr := s.gbr ||| b.setWidth 64 <<< 56 } ∧ P v
/-- The same of a register pair. -/
def GivesFpPair (i : Instr) (k : Nat) (n : Pair) (s : State) (P : Quad → Prop) : Prop :=
  ∃ (v : Quad) (b : BitVec 4), exec i s = .next { (s.drew k).wrotePair n v with gbr := s.gbr ||| b.setWidth 64 <<< 56 } ∧ P v
/-- The same, where every pair named may be used; a forbidden one refuses. -/
def GivesPairFp (i : Instr) (ps : List Pair) (k : Nat) (n : Pair) (s : State) (P : Quad → Prop) : Prop :=
  (ps.all pairAllowed = true → GivesFpPair i k n s P) ∧ (ps.all pairAllowed = false → exec i s = .refused .forbiddenPair)
/-- A value fpElem gives for some free bits. -/
def IsElem {w : Nat} (n : Config.FpFmt) (op : Config.FpOp) (rm : Byte) (ins : List Nat) (v : BitVec w) : Prop :=
  ∃ free, v = BitVec.ofNat w (fpElem n op rm ins free)
/-- A value in a register given by its four Words, or two DWords, as numbers, lane 0 the lowest. -/
def Words (v : Word) (f : Nat → Nat) : Prop := ∀ k, k < 4 → (lane16 v k).toNat = f k
def DWords (v : Word) (f : Nat → Nat) : Prop := ∀ k, k < 2 → (lane32 v k).toNat = f k
/-- Four bytes in the low half, zeros above. -/
def LowBytes (v : Word) (f : Nat → Nat) : Prop := v.toNat < 2 ^ 32 ∧ ∀ k, k < 4 → (lane8 v k).toNat = f k

end

end Sys2Proof.Machine
end

