-- ==== Sys2Proof/Certificates/Slice0/Obligations.lean ====
section
/-! DEFINITION. The statements for the provers, each a proposition about the model. Where a rule of the spec is
its own decision (92_eei_decisions.md) or a value is the model's, the statement is derived and its docstring says so. -/

open Sys2Proof Sys2Proof.Machine

/-! ### Decoding, encoding, one step -/

/-- Words written out from the spec's encodings decode to the instructions the spec names: 16-bit (30_encoding.md
R111), 32-bit (R112), the T- and F-predicated and WEX copies (R135, R140), Jumbo with one prefix and with two (R155,
R157), Op64 (R161, by the field order this spec fixes there, log 17), XG2 (R170). The examples are those of the rules of
each instruction. -/
def Obligations.DecodeReadsTheSpecsExampleWords : Prop :=
  decode false [0x3000#16] = .ok { len := 2, pred := none, wex := false, instr := .nop } ∧
  decode false [0xD4FF#16] =
    .ok { len := 2, pred := none, wex := false, instr := .ldi8 0xFFFFFFFFFFFFFFFF#64 4#6 } ∧
  decode false [0xF043#16, 0x185C#16] = .ok { len := 4, pred := none, wex := false, instr := .extuL 3#6 4#6 } ∧
  decode false [0xE043#16, 0x1050#16] =
    .ok { len := 4, pred := some true, wex := false, instr := .add 3#6 (.reg 5#6) 4#6 } ∧
  decode false [0xE443#16, 0x1050#16] =
    .ok { len := 4, pred := some false, wex := false, instr := .add 3#6 (.reg 5#6) 4#6 } ∧
  decode false [0xF443#16, 0x1050#16] =
    .ok { len := 4, pred := none, wex := true, instr := .add 3#6 (.reg 5#6) 4#6 } ∧
  decode false [0xF243#16, 0x0005#16] =
    .ok { len := 4, pred := none, wex := false, instr := .add 3#6 (.imm 5#64) 4#6 } ∧
  decode false [0xF824#16, 0xFFFE#16] =
    .ok { len := 4, pred := none, wex := false, instr := .ldin 0xFFFFFFFFFFFFFFFE#64 4#6 } ∧
  decode false [0xFE12#16, 0x3456#16, 0xF243#16, 0x0078#16] =
    .ok { len := 8, pred := none, wex := false, instr := .add 3#6 (.imm 0x000000002468AC78#64) 4#6 } ∧
  decode false [0xFE12#16, 0x3456#16, 0xFE78#16, 0x9ABC#16, 0xF804#16, 0xDEF0#16] =
    .ok { len := 12, pred := none, wex := false, instr := .ldi64 0x123456789ABCDEF0#64 4#6 } ∧
  decode false [0xFF00#16, 0x0012#16, 0xF043#16, 0x0050#16] =
    .ok { len := 8, pred := none, wex := false, instr := .movB .store 4#6 (.disp 3#6 0x245#64) } ∧
  decode true [0xF043#16, 0x185C#16] = .ok { len := 4, pred := none, wex := false, instr := .extuL 3#6 4#6 } ∧
  decode true [0x7043#16, 0x185C#16] = .ok { len := 4, pred := none, wex := false, instr := .extuL 3#6 36#6 }

/-- Decode and encode agree: every well-formed instruction has an encoding, and decoding it gives the instruction
back, with its length, unpredicated and without the WEX flag. -/
def Obligations.EncodedInstructionDecodesBack : Prop :=
  ∀ i : Instr, wellFormed i = true →
    ∃ ws, encode i = some ws ∧ wordsNeeded false ws = ws.length ∧
      decode false ws = .ok { len := 2 * ws.length, pred := none, wex := false, instr := i }

/-- A step runs the instruction the bytes at the pc decode to: with the pc of the instruction and npc behind it, one more
instruction counted since LR was written (undone by a fault), after the clock has ticked. A predicated one whose wish
SR.T does not meet only advances the pc (R135). Words no row of the table matches raise UndefinedInstruction
(30_encoding.md R150), whose entry saves the pc. -/
def Obligations.StepRunsTheDecodedInstruction : Prop :=
  (∀ (s s1 : State) (ws : List Half) (d : Decoded),
    deliverable (tick s) = none → s.sleeping = false → modeKnown s = true → pcAligned s = true →
    fetchInstr s.pc (tick s) = .ok ws s1 → decode (isXG2 s) ws = .ok d → (d.wex = true → srWXE s = false) →
    ((∀ want, d.pred = some want → srT s = want) →
      step s = settle (tick s) (exec d.instr { aged s1 with pc := s.pc, npc := s.pc + BitVec.ofNat 48 d.len })) ∧
    (∀ want, d.pred = some want → srT s ≠ want →
      step s = .next { aged s1 with pc := s.pc + BitVec.ofNat 48 d.len, npc := s.pc + BitVec.ofNat 48 d.len })) ∧
  (∀ (s s1 : State) (ws : List Half),
    deliverable (tick s) = none → s.sleeping = false → modeKnown s = true → pcAligned s = true →
    fetchInstr s.pc (tick s) = .ok ws s1 → decode (isXG2 s) ws = .error .undefined →
    step s = .next (s1.trapped .undefinedInstruction none))

/-- With translation off, no tripwire and no byte stored since the caches last agreed, fetch reads 16-bit words
from memory, low byte at the lower address (20_memory.md R70, decision D2, log 50), wherever the map has RAM, ROM, a ZERO or
an RTS page (20_memory.md R86; the bytes of the last two are decision D8 and log 59). Of a device no word is fetched
(70_reset_and_hazards.md R921; the refusal is log 60). Translation is off while MMCR is zero (log 8).
Whatever has been stored since, fetch sees each byte as memory holds it or as one of the older values on record for it, and
changes nothing but how many free values have been read and, by dropping some, the records (20_memory.md R97, R100; which of the
values it sees is free, log 14). -/
def Obligations.FetchReadsWordsFromMemory : Prop :=
  ∀ (base : VAddr) (k : Nat) (a : VAddr) (s : State), s.mmcr = 0#64 → s.tripwires = [] →
    let at' (j : Nat) : Nat := (vaOf s (a.setWidth 64) + j) % vaSpace s
    let there := ∀ j, j < 2 * k → regionOf s.map (at' j) ≠ .unmapped
    let byte (pa : Nat) : Byte := match regionOf s.map pa with
      | .zeroPage => 0#8 | .rtsPage => if pa % 2 = 0 then slice Config.rtsWord 0 8 else slice Config.rtsWord 8 8
      | _ => Memory.read s.mem pa
    (there → (∀ j, j < 2 * k → regionOf s.map (at' j) ≠ .mmio) →
      (s.stale = [] → fetchWords base k a s = .ok ((List.range k).map fun j => byte (at' (2 * j + 1)) ++ byte (at' (2 * j))) s) ∧
      let sees (j : Nat) (b : Byte) : Prop := b = byte (at' j) ∨ ∃ e ∈ s.stale, e.addr = at' j ∧ b ∈ e.olds
      ∃ ws d l, fetchWords base k a s = .ok ws { (s.drew d) with stale := l } ∧ l.Sublist s.stale ∧ ws.length = k ∧
        ∀ j, j < k → ∃ hi lo, ws[j]? = some (hi ++ lo) ∧ sees (2 * j) lo ∧ sees (2 * j + 1) hi) ∧
    (there → (∃ j, j < 2 * k ∧ regionOf s.map (at' j) = .mmio) → fetchWords base k a s = .stop (.refused .mmio))

/-! ### Interrupts, sleep, bundles -/

/-- A deliverable interrupt is taken instead of an instruction (60_exceptions.md R855, R865): the address of the next
instruction, the old SR and the code are saved, the core wakes, the code is pending no longer; memory and the
general registers but R15 keep their values. TEA receives the value that a TRAP routed here by another core brought with the code
(R885), and keeps its own where none did. The entry sequence is the spec's decision D31. -/
def Obligations.InterruptIsTakenBeforeTheInstruction : Prop :=
  ∀ (s : State) (c : Half), deliverable (tick s) = some c →
    ∃ t, step s = .next t ∧ t.spc = s.pc.setWidth 64 ∧ slice t.exsr 0 16 = c ∧ slice t.exsr 32 32 = slice s.sr 0 32 ∧
      t.pc = trapVector s c ∧ t.sleeping = false ∧ t.pending = (tick s).pending.filter (fun p => p.code != c) ∧
      (∃ l p r, (tick s).pending = l ++ p :: r ∧ (∀ q ∈ l, q.code ≠ c) ∧ p.code = c ∧ t.tea = p.tea.getD s.tea) ∧
      t.mem = s.mem ∧ t.ssp = getReg s sp ∧ getReg t sp = s.ssp ∧
      ∀ r, r ≠ sp → getReg t r = getReg s r

/-- The interrupt delivered is pending, passes SR.IPL with SR.BL clear, and none that passes has a higher level, nor the
same level with a lower code (60_exceptions.md R855, decision D35). With SR.BL = 1 or SR.IPL = 00 nothing is
delivered, whatever is pending; with BL = 0 and IPL = 11 something is, if anything is pending (60_exceptions.md R855).
A sleeping core with nothing to deliver executes nothing: only its clocks and what is pending advance
(60_exceptions.md R855; 47_system_ttag.md R597). Before every instruction the counters advance, the cycle counter by at least 1,
and the class 0xC codes the environment raises and the class 0xC and 0xE codes of the TRAPs routed here become pending beside
those that are, each with the TEA value a routed TRAP of that code brings, else as it was, else with none, and nothing else
changes; no instruction and no entry moves the counters further (60_exceptions.md R880, R885; the amounts and the codes are free,
log 11, 12; that a code already pending stays once and takes the new TEA value is the model's choice, log 11). -/
def Obligations.InterruptSelectionAndSleep : Prop :=
  (∀ (s : State) (c : Half), deliverable s = some c →
    srBL s = false ∧ srIPL s ≠ 0#2 ∧ c ∈ s.pending.map PendingIrq.code ∧ levelPasses (srIPL s) (Config.irqLevel c) = true ∧
      ∀ d ∈ s.pending.map PendingIrq.code, levelPasses (srIPL s) (Config.irqLevel d) = true →
        (Config.irqLevel d).rank < (Config.irqLevel c).rank ∨ (Config.irqLevel d = Config.irqLevel c ∧ c.toNat ≤ d.toNat)) ∧
  (∀ s : State, (srBL s = true ∨ srIPL s = 0#2 → deliverable s = none) ∧
    (srBL s = false → srIPL s = 3#2 → s.pending ≠ [] → ∃ c, deliverable s = some c)) ∧
  (∀ s : State, s.sleeping = true → deliverable (tick s) = none →
    step s = .next (tick s)) ∧
  (∀ s : State,
    tick s = { s with
      clock := s.clock + 1, usec := s.usec + Config.usecStep s.clock,
      cycles := s.cycles + BitVec.ofNat 64 (1 + Config.cyclesFor s.clock), pending := (tick s).pending } ∧
    (let raised (c : Half) : Prop := c ∈ Config.raiseIrq s.clock ∧ slice c 12 4 = 0xC#4
      let routed (c : Half) (v : BitVec 48) : Prop := ⟨c, v⟩ ∈ Config.routedTraps s.clock ∧
        (slice c 12 4 = 0xC#4 ∨ slice c 12 4 = 0xE#4) ∧ slice c 8 4 = 0#4
      let was (c : Half) : Prop := c ∈ s.pending.map PendingIrq.code
      (∀ c, c ∈ (tick s).pending.map PendingIrq.code ↔ was c ∨ raised c ∨ ∃ v, routed c v) ∧
      ((s.pending.map PendingIrq.code).Nodup → ((tick s).pending.map PendingIrq.code).Nodup) ∧
      ∀ p ∈ (tick s).pending, (∃ v, routed p.code v ∧ p.tea = some (v.setWidth 64)) ∨
        ((∀ v, ¬ routed p.code v) ∧ (p ∈ s.pending ∨ (p.tea = none ∧ ¬ was p.code)))) ∧
    ∀ t, step s = .next t → t.clock = (tick s).clock ∧ t.usec = (tick s).usec ∧ t.cycles = (tick s).cycles)

/-- A fault in any lane abandons the whole bundle (60_exceptions.md R858, decisions D7 and D11): the state that follows is
that of the entry of its exception from the state before the bundle, and differs in nothing else but how many free values have
been read. The code and TEA are those of the lane that faulted; without a fault the bundle leaves what its last slot left. -/
def Obligations.FaultAbandonsTheWholeBundle : Prop :=
  ∀ (l : List Slot) (s u : State), runSlots l s = .next u →
    (u.faults = s.faults → abandonOn s (runSlots l s) = .next u) ∧
    (u.faults ≠ s.faults → ∃ (e : Exc) (tea : Option Word) (x : Slot) (v : State),
      abandonOn s (runSlots l s) = .next ({ s with draws := u.draws }.trapped e tea) ∧
      x ∈ l ∧ runSlot x v = .next u ∧ v.faults = s.faults ∧ u.faults = s.faults + 1 ∧ slice u.exsr 0 16 = e.code ∧ u.faultTea = tea)

/-! ### Reset and the invariant -/

/-- What the spec's own reset state gives (70_reset_and_hazards.md R900, its decision D20; the values it leaves open
are log 1's and are not stated here). -/
def Obligations.ResetLeavesWhatTheSpecGives : Prop :=
  State.reset.pc = 0#48 ∧ State.reset.sr = 0x50000000#64 ∧ State.reset.vbr = 0#64 ∧ State.reset.tlb = [] ∧
    State.reset.acl = [] ∧ State.reset.ldekrrEnabled = false ∧ State.reset.sleeping = false ∧
    State.reset.pending = [] ∧ State.reset.stale = [] ∧ State.reset.tripwires = [] ∧
    supervisor State.reset = true ∧ srBL State.reset = true ∧ srIPL State.reset = 0#2 ∧ decodeMode State.reset = 0#4

/-- The invariant holds at reset. -/
def Obligations.InvariantHoldsAtReset : Prop := State.reset.Inv

/-- Every step from a state that meets the invariant gives a state that meets it: memory in canonical form, the SR
bits no source defines clear, no TLB row overfull, the pending interrupts a set, the model's records of stale bytes
and tripwires single. No step changes the memory map, a parameter of the platform (20_memory.md R86; log 7). -/
def Obligations.EveryStepKeepsTheInvariant : Prop := ∀ s t : State, s.Inv → step s = .next t → t.Inv ∧ t.map = s.map

/-! ### Exceptions and privilege -/

/-- The entry sequence (60_exceptions.md R860, the spec's decision D31): what is saved, what SR becomes bit by bit, where
the pc goes by class, and that nothing else changes. A synchronous fault saves its own address and happens whatever
SR.BL is (R861); TRAP saves the address of the next instruction. The codes of the synchronous exceptions differ, their
routing field is zero, and their class is 0x8 or, for the MMU, 0xA (60_exceptions.md R852; which class a cause has is log 9). -/
def Obligations.ExceptionEntrySavesAndRedirects : Prop :=
  (∀ (e : Exc) (c : Half) (tea : Option Word) (s : State),
    raiseWith e tea s = .next { enterTrap e.code tea s.pc s with faults := s.faults + 1, faultTea := tea } ∧
    trapTo c tea s = .next (enterTrap c tea s.npc s) ∧
    ∀ p : VAddr, let t := enterTrap c tea p s
      t = { s with
        spc := p.setWidth 64, exsr := slice s.sr 0 32 ++ 0#16 ++ c, tea := tea.getD s.tea, ssp := getReg s 15#6,
        regs := s.regs.set 15 s.ssp (by decide), sr := t.sr, pc := t.pc } ∧
      (∀ k, k < 64 → t.sr.getLsbD k =
        if k = 28 ∨ k = 29 ∨ k = 30 then true
        else if k = 2 ∨ k = 3 ∨ k = 22 ∨ k = 23 ∨ k = 26 ∨ k = 27 then false else s.sr.getLsbD k) ∧
      (slice c 12 4 = 0x8#4 → t.pc = slice s.vbr 0 48 + 0x08#48) ∧
      (slice c 12 4 = 0xC#4 → t.pc = slice s.vbr 0 48 + 0x10#48) ∧
      (slice c 12 4 = 0xA#4 → t.pc = slice s.vbr 0 48 + 0x18#48) ∧
      (slice c 12 4 = 0xE#4 → t.pc = slice s.vbr 0 48 + 0x20#48)) ∧
  ((∀ e e' : Exc, e.code = e'.code → e = e') ∧
    ∀ e : Exc, slice e.code 8 4 = 0#4 ∧ slice e.code 12 4 = if e = .tlbMiss ∨ e = .aclCheck then 0xA#4 else 0x8#4)

/-- RTE in Supervisor mode (47_system_ttag.md R598; the return sequence is the spec's decision D31, 60_exceptions.md
R862): SPC to the pc, the saved image to SR[31:0], R15 and SSP exchanged, nothing else. The premises are those of
10_state.md R28 (no reserved SR bit set) and 20_memory.md R74 (an aligned target in the restored mode). Entering an
exception and returning from it at once restores the pc, SR, SSP and every register (60_exceptions.md R860, R862,
decision D31). -/
def Obligations.ReturnRestoresWhatEntrySaved : Prop :=
  (∀ s : State, supervisor s = true →
    let sr : Word := slice s.sr 32 32 ++ slice s.exsr 32 32
    sr &&& srReserved = 0#64 → jumpable { s with sr := sr } (slice s.spc 0 48) →
    exec .rte s =
      .next { s with pc := slice s.spc 0 48, sr := sr, ssp := getReg s 15#6, regs := s.regs.set 15 s.ssp (by decide) }) ∧
  (∀ (e : Exc) (tea : Option Word) (s : State), s.sr &&& srReserved = 0#64 → jumpable s s.pc →
    ∃ t u, raiseWith e tea s = .next t ∧ exec .rte t = .next u ∧ u.pc = s.pc ∧ u.sr = s.sr ∧ u.ssp = s.ssp ∧
      u.regs = s.regs ∧ u.mem = s.mem)

/-- Exceptions are precise (60_exceptions.md R858, R853, decision D7): an instruction that raises one has written no
register, no flag, no control register and no memory; SPC holds its address and EXSR the SR it saw. The entry, its exchange
of R15 and SSP and its vector are decision D31 (log 10); besides it only the count of free values read and how far a
flushed line has come (log 14) may differ. -/
def Obligations.FaultingInstructionWritesNothing : Prop :=
  ∀ (i : Instr) (s t : State), exec i s = .next t → t.faults ≠ s.faults →
    t.mem = s.mem ∧ (∀ r, r ≠ sp → getReg t r = getReg s r) ∧ t.ssp = getReg s sp ∧ getReg t sp = s.ssp ∧
      t.lr = s.lr ∧ t.gbr = s.gbr ∧ t.krr = s.krr ∧ t.vbr = s.vbr ∧ t.tbr = s.tbr ∧ t.ttb = s.ttb ∧ t.sttb = s.sttb ∧
      t.mmcr = s.mmcr ∧ t.tlb = s.tlb ∧ t.acl = s.acl ∧ t.ekey = s.ekey ∧ t.canarySeed = s.canarySeed ∧ t.gbh = s.gbh ∧
      t.rbs = s.rbs ∧ t.tripwires = s.tripwires ∧ t.spc = s.pc.setWidth 64 ∧ slice t.exsr 32 32 = slice s.sr 0 32 ∧
      t.faults = s.faults + 1 ∧
      ∃ (e : Exc) (tea : Option Word) (d : Nat) (l : List StaleByte), l.map StaleByte.addr = s.stale.map StaleByte.addr ∧
        slice t.exsr 0 16 = e.code ∧ t.pc = trapVector s e.code ∧ t = { s with draws := d, stale := l }.trapped e tea

/-- Outside Supervisor mode the supervisor-only instructions raise PrivilegeViolation (60_exceptions.md R852, R870,
decisions D6 and D28): RTE, INVTLB, LDACL, LDEKEY, LDEENC, the banked-register moves, and the moves to and from the
control registers of 10_state.md R27 that are not open to the mode. -/
def Obligations.SupervisorInstructionsTrapInUserMode : Prop :=
  ∀ s : State, supervisor s = false →
    (∀ i ∈ [Instr.rte, .invtlb, .ldacl, .ldekey, .ldeenc], exec i s = .next (s.trapped .privilegeViolation none)) ∧
    (∀ k n p, exec (.rbsldQ k n) s = .next (s.trapped .privilegeViolation none) ∧
      exec (.rbsstQ k n) s = .next (s.trapped .privilegeViolation none) ∧
      exec (.rbsldX k p) s = .next (s.trapped .privilegeViolation none) ∧
      exec (.rbsstX k p) s = .next (s.trapped .privilegeViolation none)) ∧
    (∀ (c : CReg) (n : Reg) (a : Addr), c ∈ [3#6, 4#6, 5#6, 8#6, 9#6, 10#6, 11#6, 12#6, 13#6] →
      exec (.movFromC c n) s = .next (s.trapped .privilegeViolation none) ∧
      exec (.movC .store c a) s = .next (s.trapped .privilegeViolation none)) ∧
    (∀ (c : CReg) (n : Reg) (a : Addr), c ∈ [2#6, 3#6, 4#6, 5#6, 7#6, 8#6, 9#6, 10#6, 11#6, 12#6, 13#6] →
      exec (.movToC n c) s = .next (s.trapped .privilegeViolation none) ∧
      exec (.movC .load c a) s = .next (s.trapped .privilegeViolation none))

/-- No instruction executed outside Supervisor mode changes what only Supervisor mode may: VBR, TBR, TTB, STTB, MMCR,
the TLB, the ACL cache, the banked registers, the keyring key and the canary seed (10_state.md R27, 60_exceptions.md
R870, R871). -/
def Obligations.UserModeKeepsSupervisorState : Prop :=
  ∀ (i : Instr) (s t : State), supervisor s = false → exec i s = .next t →
    t.vbr = s.vbr ∧ t.tbr = s.tbr ∧ t.ttb = s.ttb ∧ t.sttb = s.sttb ∧ t.mmcr = s.mmcr ∧ t.tlb = s.tlb ∧
      t.acl = s.acl ∧ t.rbs = s.rbs ∧ t.ekey = s.ekey ∧ t.ldekrrEnabled = s.ldekrrEnabled ∧
      t.canarySeed = s.canarySeed ∧ t.gbh = s.gbh ∧ t.map = s.map

/-- Entry to Supervisor mode happens by trap entry or SVENTR (60_exceptions.md R870): an instruction that leaves
MD = 0 for MD = 1 is SVENTR in Superuser mode, or has taken an exception, so that the pc is at the handler's address
and EXSR holds the SR it left (the entry sequence is decision D31, log 10). -/
def Obligations.SupervisorModeIsEnteredByTrapOrSventr : Prop :=
  ∀ (i : Instr) (s t : State), supervisor s = false → exec i s = .next t → supervisor t = true →
    (i = .sventr ∧ superuserMode s = true) ∨
      (slice t.exsr 32 32 = slice s.sr 0 32 ∧ t.pc = trapVector s (slice t.exsr 0 16))

/-- BREAK raises Breakpoint at its own address, in both spellings (47_system_ttag.md R596): the entry is the instruction's
whole effect. TRAP (47_system_ttag.md R640; 60_exceptions.md R851, R852, R885; the patterns a mode allows are decision
D30, log 36): a system call, class 0xE, in every mode, and in Supervisor mode also the immediate form, class 0xC and the
exceptions' own codes (log 9), take the exception with the next instruction's address saved; the register form gives TEA
its high 48 bits. A pattern whose bits 11:8 name another core goes there and this core continues (log 13). Every other
pattern is refused, class 0xF in every mode, and so is TRAP Xn, the use of whose second register R640 does not describe. -/
def Obligations.BreakAndTrapTakeTheirExceptions : Prop :=
  (∀ s : State, exec .breakOp s = .next (s.trapped .breakpoint none) ∧ exec .break2 s = .next (s.trapped .breakpoint none)) ∧
  (∀ (s : State),
    (∀ k : BitVec 5, supervisor s = true → exec (.trapImm k) s = .next (enterTrap (0xC080#16 ||| k.setWidth 16) none s.npc s)) ∧
    (∀ n : Reg, let c : Half := slice (getReg s n) 0 16
      let allowed : Prop := slice c 12 4 = 0xE#4 ∨ supervisor s = true ∧ (slice c 12 4 = 0xC#4 ∨ ∃ e : Exc, c = e.code)
      (allowed → slice c 8 4 = 0#4 →
        exec (.trapReg n) s = .next (enterTrap c (some (getReg s n >>> 16)) s.npc s)) ∧
      (allowed → slice c 8 4 ≠ 0#4 →
        exec (.trapReg n) s = .next { s.done with
          remote := s.remote ++ [{ core := slice c 8 4, code := c &&& 0xF0FF#16, tea := some (getReg s n >>> 16) }] }) ∧
      (¬ allowed → exec (.trapReg n) s = .refused .trapPattern) ∧
      (slice c 12 4 = 0xF#4 → exec (.trapReg n) s = .refused .trapPattern)) ∧
    (∀ k : BitVec 5, supervisor s = false → exec (.trapImm k) s = .refused .trapPattern) ∧
    ∀ p : Pair, exec (.trapPair p) s = .refused .trapPair)

/-- The S register moves are refused by name (10_state.md R46, 47_system_ttag.md R592, R593): each of their four encodings, with
any register numbers, decodes to its move, and the move is refused in every state. -/
def Obligations.InstructionsWithoutAMeaningAreRefused : Prop :=
  (∀ n m : BitVec 4,
    decode false [0x4A#8 ++ n ++ m] = .ok { len := 2, pred := none, wex := false, instr := .movToS (m.setWidth 6) (n.setWidth 6) } ∧
    decode false [0x4B#8 ++ n ++ m] = .ok { len := 2, pred := none, wex := false, instr := .movFromS (m.setWidth 6) (n.setWidth 6) } ∧
    ∀ q n4 m4 : Bool, let e : BitVec 4 := BitVec.ofBool q ++ BitVec.ofBool n4 ++ BitVec.ofBool m4 ++ 0#1
      let rn : BitVec 6 := (BitVec.ofBool n4 ++ n).setWidth 6
      let rm : BitVec 6 := (BitVec.ofBool m4 ++ m).setWidth 6
      decode false [0xF0#8 ++ n ++ m, 0x1#4 ++ e ++ 0xAC#8] = .ok { len := 4, pred := none, wex := false, instr := .movToS rm rn } ∧
      decode false [0xF0#8 ++ n ++ m, 0x1#4 ++ e ++ 0xBC#8] = .ok { len := 4, pred := none, wex := false, instr := .movFromS rm rn }) ∧
  ∀ (m : Reg) (k : CReg) (s : State), exec (.movToS m k) s = .refused .sRegister ∧ exec (.movFromS k m) s = .refused .sRegister

/-! ### Integer arithmetic, logic, bits (40_alu.md) -/

/-- ADD, ADDS.L, ADDU.L, SUB, SUBS.L, SUBU.L, SUB.P, SUBX.P (40_alu.md R200, R202 to R206, R208, R209): the sum or
difference modulo 2^64, or its low 32 or 48 bits extended; for SUBX.P of the two 96-bit addresses, laid out flat (log 46).
One register, or the pair, changes and nothing else: no flag, no memory. -/
def Obligations.AddAndSubtractResults : Prop :=
  ∀ (m o n : Reg) (src : Src) (pm po pn : Pair) (s : State),
    let a := getReg s m
    let b := getReg s o
    let c := srcVal s src
    Gives (.add m src n) n s (fun v => v.toNat = (a.toNat + c.toNat) % 2 ^ 64) ∧
    Gives (.addsL m src n) n s (fun v => v.toInt = (a.toInt + c.toInt).bmod (2 ^ 32)) ∧
    Gives (.adduL m src n) n s (fun v => v.toNat = (a.toNat + c.toNat) % 2 ^ 32) ∧
    Gives (.sub m o n) n s (fun v => (v.toNat + b.toNat) % 2 ^ 64 = a.toNat) ∧
    Gives (.subsL m o n) n s (fun v => v.toInt = (a.toInt - b.toInt).bmod (2 ^ 32)) ∧
    Gives (.subuL m o n) n s (fun v => v.toNat < 2 ^ 32 ∧ (v.toNat + b.toNat) % 2 ^ 32 = a.toNat % 2 ^ 32) ∧
    Gives (.subP m o n) n s (fun v => v.toInt = (a.toInt - b.toInt).bmod (2 ^ 48)) ∧
    GivesPair (.subxP pm po pn) [pm, po, pn] 0 pn s (fun v =>
      let at96 (p : Pair) : Int := (getReg s (pairHi p)).toNat % 2 ^ 48 * 2 ^ 48 + (getReg s (pairLo p)).toNat % 2 ^ 48
      v.toInt = at96 pm - at96 po)

/-- ADC, SBB, NEGC, ADC.L, SBB.L (40_alu.md R201, R207, R217, R254; the last two by the spec's decision D16): the result
and the new T together are the unbounded sum with T, T being the carry, or the borrow. Nothing else changes. BCDADC
and BCDSBB on decimal digits (40_alu.md R237, R238): the 16-digit sum or difference with T, T the carry or borrow.
With another digit the register and T are free and nothing else changes (U-40-1, log 3). -/
def Obligations.CarriesBinaryAndDecimal : Prop :=
  (∀ (m n : Reg) (s : State),
    let a := (getReg s n).toNat
    let b := (getReg s m).toNat
    let t := (srT s).toNat
    GivesT (.adc m n) n s (fun v c => v.toNat + 2 ^ 64 * c.toNat = a + b + t) ∧
    GivesT (.sbb m n) n s (fun v c => v.toNat + b + t = a + 2 ^ 64 * c.toNat) ∧
    GivesT (.negc n) n s (fun v c => v.toNat + a + t = 2 ^ 64 * c.toNat) ∧
    GivesT (.adcL m n) n s (fun v c =>
      v.toInt = (low32 v).toInt ∧ (low32 v).toNat + 2 ^ 32 * c.toNat = a % 2 ^ 32 + b % 2 ^ 32 + t) ∧
    GivesT (.sbbL m n) n s (fun v c =>
      v.toInt = (low32 v).toInt ∧ (low32 v).toNat + b % 2 ^ 32 + t = a % 2 ^ 32 + 2 ^ 32 * c.toNat)) ∧
  (∀ (m n : Reg) (s : State),
    let a := getReg s n
    let b := getReg s m
    let t := (srT s).toNat
    let digits := bcdValid b = true ∧ bcdValid a = true
    (digits →
      GivesT (.bcdadc m n) n s (fun v c => bcdValid v = true ∧ decimal v + 10 ^ 16 * c.toNat = decimal a + decimal b + t) ∧
      GivesT (.bcdsbb m n) n s (fun v c => bcdValid v = true ∧ decimal v + decimal b + t = decimal a + 10 ^ 16 * c.toNat)) ∧
    (¬ digits → ∀ i ∈ [Instr.bcdadc m n, .bcdsbb m n],
      ∃ w, exec i s = .next { (s.drew 2).wrote n (Config.draw s.draws) with sr := w } ∧
        OneBit 0 ((Config.draw (s.draws + 1)).getLsbD 0) s.sr w))

/-- AND, OR, XOR, NOT, NEG, MOV, MOVD, MOVX, CSELT, BITSEL, BITSELX, NOP (40_alu.md R210 to R212, R215, R216, R218 to R221,
R228, R242, R243): bit by bit, and nothing but the destination changes. -/
def Obligations.LogicAndMovesBitByBit : Prop :=
  ∀ (m o n : Reg) (src : Src) (pm po pn : Pair) (s : State),
    let a := getReg s m
    let b := getReg s o
    let c := srcVal s src
    Gives (.and m src n) n s (fun v => ∀ k, k < 64 → v.getLsbD k = (a.getLsbD k && c.getLsbD k)) ∧
    Gives (.or m src n) n s (fun v => ∀ k, k < 64 → v.getLsbD k = (a.getLsbD k || c.getLsbD k)) ∧
    Gives (.xor m src n) n s (fun v => ∀ k, k < 64 → v.getLsbD k = (a.getLsbD k != c.getLsbD k)) ∧
    Gives (.not m n) n s (fun v => ∀ k, k < 64 → v.getLsbD k = !a.getLsbD k) ∧
    Gives (.neg m n) n s (fun v => (v.toNat + a.toNat) % 2 ^ 64 = 0) ∧
    Gives (.mov m n) n s (fun v => v = a) ∧ Gives (.movd m n) n s (fun v => v.toNat = a.toNat % 2 ^ 32) ∧
    GivesPair (.movx pm pn) [pm, pn] 0 pn s (fun v => v = getReg s (pairHi pm) ++ getReg s (pairLo pm)) ∧
    Gives (.cselt m o n) n s (fun v => v = if s.sr.getLsbD 0 then a else b) ∧
    Gives (.bitsel m o n) n s (fun v => ∀ k, k < 64 → v.getLsbD k = if b.getLsbD k then a.getLsbD k else (getReg s n).getLsbD k) ∧
    GivesPair (.bitselx pm po pn) [pm, po, pn] 0 pn s (fun v =>
      ∀ k, k < 128 → v.getLsbD k = if (getPair s po).getLsbD k then (getPair s pm).getLsbD k else (getPair s pn).getLsbD k) ∧
    (∀ i ∈ [Instr.nop, .nop3r n, .nop3rrr m o n], exec i s = .next s.done)

/-- EXTS.B, EXTS.W, EXTS.L, EXTU.B, EXTU.W, EXTU.L (40_alu.md R222 to R227): bit k of the result is the
source's below the width, the sign or zero above it; nothing else changes. -/
def Obligations.ExtensionsBitByBit : Prop :=
  ∀ (m n : Reg) (s : State), let a := getReg s m
    (∀ e ∈ [(Instr.extsB m n, 8), (.extsW m n, 16), (.extsL m n, 32)],
      Gives e.1 n s (fun v => ∀ k, k < 64 → v.getLsbD k = if k < e.2 then a.getLsbD k else a.getLsbD (e.2 - 1))) ∧
    (∀ e ∈ [(Instr.extuB m n, 8), (.extuW m n, 16), (.extuL m n, 32)],
      Gives e.1 n s (fun v => ∀ k, k < 64 → v.getLsbD k = (decide (k < e.2) && a.getLsbD k)))

/-- MIN, MAX, CLZ, CLZQ, CTZ, CTZQ, BTRNS, BTRNSQ, BSWAPU.L, BSWAP.Q, PMORT.L, PMORT.Q (40_alu.md R213, R214, R229 to
R236, R240, R241; the zero extensions of BTRNS and PMORT.L are decision D15): a count is the number of zeros before
the first one; a reversal moves bit or byte k to the opposite end; the Morton value interleaves the halves. -/
def Obligations.CountsReversalsMinimum : Prop :=
  ∀ (m o n : Reg) (s : State),
    let a := getReg s m
    let b := getReg s o
    Gives (.min m o n) n s (fun v => (v = a ∨ v = b) ∧ v.toInt ≤ a.toInt ∧ v.toInt ≤ b.toInt) ∧
    Gives (.max m o n) n s (fun v => (v = a ∨ v = b) ∧ a.toInt ≤ v.toInt ∧ b.toInt ≤ v.toInt) ∧
    (∀ e ∈ [(Instr.clz m n, 32), (.clzq m n, 64)], Gives e.1 n s (fun v => v.toNat ≤ e.2 ∧
      (∀ k, k < v.toNat → a.getLsbD (e.2 - 1 - k) = false) ∧ (v.toNat < e.2 → a.getLsbD (e.2 - 1 - v.toNat) = true))) ∧
    (∀ e ∈ [(Instr.ctz m n, 32), (.ctzq m n, 64)], Gives e.1 n s (fun v => v.toNat ≤ e.2 ∧
      (∀ k, k < v.toNat → a.getLsbD k = false) ∧ (v.toNat < e.2 → a.getLsbD v.toNat = true))) ∧
    Gives (.btrns m n) n s (fun v => ∀ k, k < 64 → v.getLsbD k = (decide (k < 32) && a.getLsbD (31 - k))) ∧
    Gives (.btrnsq m n) n s (fun v => ∀ k, k < 64 → v.getLsbD k = a.getLsbD (63 - k)) ∧
    Gives (.bswapuL m n) n s (fun v => ∀ k, k < 8 → lane8 v k = if k < 4 then lane8 a (3 - k) else 0#8) ∧
    Gives (.bswapQ m n) n s (fun v => ∀ k, k < 8 → lane8 v k = lane8 a (7 - k)) ∧
    ∃ M : Word, (∀ k, k < 32 → M.getLsbD (2 * k + 1) = a.getLsbD (if Config.pmortUIsHigh then 32 + k else k) ∧
        M.getLsbD (2 * k) = a.getLsbD (if Config.pmortUIsHigh then k else 32 + k)) ∧
      Gives (.pmortQ m n) n s (fun v => v = M) ∧ Gives (.pmortL m n) n s (fun v => v.toNat = M.toNat / 2 ^ 32)

/-- BITNN (40_alu.md R239): the weighted sum of 16 inputs and the bias enters Rn as one or two bits, the old bits moving
up. With the range flag clear and the sum outside 8 bits, the value tested is a free 8-bit one. Ro[63:59] not zero is
refused. BITMOV, BITMOVX, BITMOVS, BITMOVSX in both forms (40_alu.md R250 to R253): inside the mask the source shifted
by the signed count, outside it the background, which the S forms invert where the field's top bit is set. A control
word outside the stated ranges is refused. What fills the 128-bit background of the immediate pair forms is free (log
42). -/
def Obligations.NeuronAndBitFields : Prop :=
  (∀ (m o n : Reg) (s : State),
    let c := getReg s o
    let input (i : Nat) : Int :=
      if c.getLsbD 56 then
        (if (getReg s m).getLsbD (2 * i) then (if (getReg s m).getLsbD (2 * i + 1) then -1 else 1) else 0)
      else if (getReg s m).getLsbD i then 1 else -1
    let weight (i : Nat) : Int :=
      (if c.getLsbD (3 * i + 2) then -1 else 1) *
        (match c.getLsbD (3 * i + 1), c.getLsbD (3 * i) with
          | false, false => 0 | false, true => 1 | true, false => 3 | true, true => 7)
    let sum : Int := ((List.range 16).map fun i => input i * weight i).sum + (c.extractLsb' 48 8).toInt
    (c.extractLsb' 59 5 = 0#5 → ∃ k res,
      (c.getLsbD 58 = true ∨ (-128 ≤ sum ∧ sum ≤ 127) → k = 0 ∧ res = sum) ∧ (-240 ≤ res ∧ res ≤ 239) ∧
      (k ≠ 0 → k = 1 ∧ -128 ≤ res ∧ res ≤ 127) ∧
      GivesFree (.bitnn m o n) k n s (fun v =>
        if c.getLsbD 57 then v = getReg s n <<< 2 ||| (if res < 0 then 3#64 else 1#64)
        else v = getReg s n <<< 1 ||| (if res < 0 then 0#64 else 1#64))) ∧
    (c.extractLsb' 59 5 ≠ 0#5 → exec (.bitnn m o n) s = .refused .bitnnReserved)) ∧
  (∀ (m o q n : Reg) (pm pq pn : Pair) (c : BitVec 24) (s : State),
    let ok (w : Nat) (c : BitVec 24) : Prop :=
      (-(w : Int) < (slice c 0 8).toInt ∧ (slice c 0 8).toInt < w) ∧ (slice c 8 8).toNat ≤ w ∧ (slice c 16 8).toNat ≤ w
    let above (c : BitVec 24) : Prop := (slice c 8 8).toNat < (slice c 16 8).toNat
    let field (w : Nat) (c : BitVec 24) (x bg v : BitVec w) (signed : Bool) : Prop :=
      let sh := (slice c 0 8).toInt
      let moved (k : Nat) : Bool := decide (sh ≤ k) && x.getLsbD (k - sh).toNat
      ∀ k, k < w → v.getLsbD k =
        if (if (slice c 8 8).toNat < (slice c 16 8).toNat then (slice c 8 8).toNat ≤ k ∧ k < (slice c 16 8).toNat
            else (slice c 8 8).toNat ≤ k ∨ k < (slice c 16 8).toNat)
        then moved k else (bg.getLsbD k != (signed && moved ((slice c 16 8).toNat - 1)))
    let cr : BitVec 24 := slice (getReg s o) 0 24
    (ok 64 c → Gives (.bitmovImm m o n c) n s (fun v => field 64 c (getReg s m) (getReg s o) v false)) ∧
    (ok 64 cr → Gives (.bitmovReg m o q n) n s (fun v => field 64 cr (getReg s m) (getReg s q) v false)) ∧
    (ok 64 c → above c → Gives (.bitmovsImm m o n c) n s (fun v => field 64 c (getReg s m) (getReg s o) v true)) ∧
    (ok 64 cr → above cr → Gives (.bitmovsReg m o q n) n s (fun v => field 64 cr (getReg s m) (getReg s q) v true)) ∧
    (ok 128 c → GivesPair (.bitmovxImm pm o pn c) [pm, pn] 0 pn s (fun v =>
      field 128 c (getPair s pm) (Config.bitmovxBackground (getReg s o)) v false)) ∧
    (ok 128 cr → GivesPair (.bitmovxReg pm o pq pn) [pm, pq, pn] 0 pn s (fun v =>
      field 128 cr (getPair s pm) (getPair s pq) v false)) ∧
    (ok 128 c → above c → GivesPair (.bitmovsxImm pm o pn c) [pm, pn] 0 pn s (fun v =>
      field 128 c (getPair s pm) (Config.bitmovxBackground (getReg s o)) v true)) ∧
    (ok 128 cr → above cr → GivesPair (.bitmovsxReg pm o pq pn) [pm, pq, pn] 0 pn s (fun v =>
      field 128 cr (getPair s pm) (getPair s pq) v true)) ∧
    (¬ ok 64 c → exec (.bitmovImm m o n c) s = .refused .bitmovControl) ∧
    (¬ ok 64 cr → exec (.bitmovReg m o q n) s = .refused .bitmovControl) ∧
    (¬ (ok 64 c ∧ above c) → exec (.bitmovsImm m o n c) s = .refused .bitmovControl) ∧
    (¬ (ok 64 cr ∧ above cr) → exec (.bitmovsReg m o q n) s = .refused .bitmovControl) ∧
    ([pm, pq, pn].all pairAllowed = true →
      (¬ ok 128 c → exec (.bitmovxImm pm o pn c) s = .refused .bitmovControl) ∧
      (¬ ok 128 cr → exec (.bitmovxReg pm o pq pn) s = .refused .bitmovControl) ∧
      (¬ (ok 128 c ∧ above c) → exec (.bitmovsxImm pm o pn c) s = .refused .bitmovControl) ∧
      (¬ (ok 128 cr ∧ above cr) → exec (.bitmovsxReg pm o pq pn) s = .refused .bitmovControl)))

/-! ### Compares and flags (41_compare_flags.md) -/

/-- The two-operand compares and tests (41_compare_flags.md R260, R263 to R275): one of T and S takes the relation Rn op
source, on bits 31:0 for CMPxx and TST (R261, derived), on 64 bits for CMPQxx and TSTQ; nothing else changes. The
pointer compares (41_compare_flags.md R276 to R279) read 48 bits of each register and write T alone; the compares into
a register (R280 to R286) write 1 or 0 and no flag. -/
def Obligations.ComparesOfEveryKind : Prop :=
  (∀ (src : Src) (m n : Reg) (f : Flag) (s : State),
    let a := getReg s n
    let c := srcVal s src
    let b := getReg s m
    let lo (v : Word) : BitVec 32 := v.setWidth 32
    let bit := match f with | .t => 0 | .s => 1
    (SetsBit (.cmpEQ src n f) bit s (lo a == lo c) ∧ SetsBit (.cmpEQS m n) 1 s (lo a == lo b)) ∧
    (SetsBit (.cmpGT src n f) bit s (decide ((lo c).toInt < (lo a).toInt)) ∧ SetsBit (.cmpGTS m n) 1 s (decide ((lo b).toInt < (lo a).toInt))) ∧
    (SetsBit (.cmpHI src n f) bit s (decide ((lo c).toNat < (lo a).toNat)) ∧ SetsBit (.cmpHIS m n) 1 s (decide ((lo b).toNat < (lo a).toNat))) ∧
    (SetsBit (.cmpGE src n f) bit s (decide ((lo c).toInt ≤ (lo a).toInt)) ∧ SetsBit (.cmpGES m n) 1 s (decide ((lo b).toInt ≤ (lo a).toInt))) ∧
    (SetsBit (.cmpHS src n f) bit s (decide ((lo c).toNat ≤ (lo a).toNat)) ∧ SetsBit (.cmpHSS m n) 1 s (decide ((lo b).toNat ≤ (lo a).toNat))) ∧
    (SetsBit (.tst src n f) bit s (lo a &&& lo c == 0#32) ∧
      SetsBit (.tstS m n) 1 s (lo a &&& lo b == 0#32)) ∧
    (SetsBit (.cmpQEQ src n f) bit s (a == c) ∧ SetsBit (.cmpQEQS m n) 1 s (a == b)) ∧
    (SetsBit (.cmpQGT src n f) bit s (decide (c.toInt < a.toInt)) ∧ SetsBit (.cmpQGTS m n) 1 s (decide (b.toInt < a.toInt))) ∧
    (SetsBit (.cmpQHI src n f) bit s (decide (c.toNat < a.toNat)) ∧ SetsBit (.cmpQHIS m n) 1 s (decide (b.toNat < a.toNat))) ∧
    (SetsBit (.cmpQGE src n f) bit s (decide (c.toInt ≤ a.toInt)) ∧ SetsBit (.cmpQGES m n) 1 s (decide (b.toInt ≤ a.toInt))) ∧
    (SetsBit (.cmpQHS src n f) bit s (decide (c.toNat ≤ a.toNat)) ∧ SetsBit (.cmpQHSS m n) 1 s (decide (b.toNat ≤ a.toNat))) ∧
    (SetsBit (.tstQ src n f) bit s (a &&& c == 0#64) ∧
      SetsBit (.tstQS m n) 1 s (a &&& b == 0#64))) ∧
  (∀ (src : Src) (m o n : Reg) (x : Word) (pm pn : Pair) (s : State),
    let a := getReg s m
    let c := srcVal s src
    let adr (r : Reg) : Nat := (getReg s r).toNat % 2 ^ 48
    let adrx (p : Pair) : Nat := adr (pairHi p) * 2 ^ 48 + adr (pairLo p)
    SetsBit (.cmpPEQ m n) 0 s (decide (adr n = adr m)) ∧ SetsBit (.cmpPGT m n) 0 s (decide (adr m < adr n)) ∧
    ([pm, pn].all pairAllowed = true → SetsBit (.cmpPEQX pm pn) 0 s (decide (adrx pn = adrx pm)) ∧
      SetsBit (.cmpPGTX pm pn) 0 s (decide (adrx pm < adrx pn))) ∧
    ([pm, pn].all pairAllowed = false → exec (.cmpPEQX pm pn) s = .refused .forbiddenPair ∧
      exec (.cmpPGTX pm pn) s = .refused .forbiddenPair) ∧
    Gives (.cmp3EQ m src n) n s (fun v => v = if a = c then 1#64 else 0#64) ∧
    Gives (.cmp3NE m src n) n s (fun v => v = if a = c then 0#64 else 1#64) ∧
    Gives (.cmp3GT m src n) n s (fun v => v = if c.toInt < a.toInt then 1#64 else 0#64) ∧
    Gives (.cmp3GE m o n) n s (fun v => v = if (getReg s o).toInt ≤ a.toInt then 1#64 else 0#64) ∧
    Gives (.cmp3LT m x n) n s (fun v => v = if a.toInt < x.toInt then 1#64 else 0#64) ∧
    Gives (.cmp3HI m x n) n s (fun v => v = if x.toNat < a.toNat then 1#64 else 0#64) ∧
    Gives (.cmp3BI m x n) n s (fun v => v = if a.toNat < x.toNat then 1#64 else 0#64))

/-- CLRT, SETT, CLRS, SETS, NOTT, NOTS (41_compare_flags.md R290 to R295): each sets, clears or inverts its own flag,
and neither another SR bit nor anything else changes. Both spellings of each decode to it; CLRT is not predicable; all but
SETS stand in Lane 1 only (SETT by R291's own reading, which treats it like CLRT). -/
def Obligations.FlagInstructionsChangeTheirFlag : Prop :=
  (∀ s : State, SetsBit .clrT 0 s false ∧ SetsBit .setT 0 s true ∧ SetsBit .clrS 1 s false ∧ SetsBit .setS 1 s true ∧
    SetsBit .notT 0 s (!s.sr.getLsbD 0) ∧ SetsBit .notS 1 s (!s.sr.getLsbD 1)) ∧
  (∀ e ∈ [(0x3040#16, Instr.clrT), (0x3050#16, .setT), (0x3060#16, .clrS), (0x3070#16, .setS), (0x3080#16, .notT), (0x3090#16, .notS)],
    decode false [e.1] = .ok { len := 2, pred := none, wex := false, instr := e.2 } ∧
      decode false [0xF000#16, e.1] = .ok { len := 4, pred := none, wex := false, instr := e.2 }) ∧
  (∀ w ∈ [0xE000#16, 0xE400#16], decode false [w, 0x3040#16] = .error .undefined) ∧
  ∀ i ∈ [Instr.clrT, .setT, .clrS, .notT, .notS], ∀ width lane, laneOk width lane (uses i) = true ↔ lane = 1

/-- The predicate stack (41_compare_flags.md R296 to R298), MOVT and MOVNT (R300; the values they write are general
knowledge G-41-1, log 19), DIV0 (42_shift_muldiv.md R385): T and
U7..U0 after each command, every other SR bit unchanged; the IF and ELSE commands, whose counters no source gives, are
refused, and the others raise UndefinedInstruction. -/
def Obligations.PredicateStackCommands : Prop :=
  ∀ (s : State) (i : BitVec 5) (n : Reg),
    let t := s.sr.getLsbD 0
    let u (k : Nat) : Bool := decide (k < 8) && s.sr.getLsbD (8 + k)
    let result (j : Instr) (t' : Bool) (u' : Nat → Bool) : Prop := ∃ v, exec j s = .next (s.wroteSR v) ∧
      ∀ k, k < 64 → v.getLsbD k = if k = 0 then t' else if 8 ≤ k ∧ k < 16 then u' (k - 8) else s.sr.getLsbD k
    let x := i.toNat / 4
    (i.toNat % 4 = 0 → result (.srtprop i) t (fun k => if k = x then t else u k)) ∧
    (i.toNat % 4 = 1 → result (.srtprop i) (u x) u) ∧
    (i.toNat % 4 = 2 → result (.srtprop i) (t && u x) u) ∧
    (i.toNat % 4 = 3 → result (.srtprop i) (t || u x) u) ∧
    result (.srttwid 0#5) t (fun k => if k = 0 then t else u (k - 1)) ∧
    result (.srttwid 1#5) (u 0) (fun k => u (k + 1)) ∧
    result (.srttwid 2#5) (u 1) (fun k => u (k + 2)) ∧
    result (.srttwid 3#5) (u 2) (fun k => u (k + 3)) ∧
    result (.srttwid 4#5) (t && u 0) u ∧
    result (.srttwid 5#5) (t || u 0) u ∧
    result (.srttwid 6#5) (t && u 0) (fun k => if k = 0 then t && u 0 else u (k - 1)) ∧
    result (.srttwid 7#5) (t || u 0) (fun k => if k = 0 then t || u 0 else u (k - 1)) ∧
    result (.srttwid 8#5) t (fun _ => false) ∧
    (0x0E ≤ i.toNat ∧ i.toNat ≤ 0x17 → exec (.srttwid i) s = .refused .srttwid) ∧
    ((0x09 ≤ i.toNat ∧ i.toNat ≤ 0x0D) ∨ 0x18 ≤ i.toNat → exec (.srttwid i) s = .next (s.trapped .undefinedInstruction none)) ∧
    Gives (.movT n) n s (fun v => v = if t then 1#64 else 0#64) ∧
    Gives (.movNT n) n s (fun v => v = if t then 0#64 else 1#64) ∧
    (∃ v, exec .div0 s = .next (s.wroteSR v) ∧ ∀ k, k < 64 → v.getLsbD k = (decide (2 ≤ k) && s.sr.getLsbD k))

/-! ### Shifts, rotates, multiply, divide (42_shift_muldiv.md) -/

/-- The barrel shifts (42_shift_muldiv.md R320 to R333): left by a signed byte modulo the width, right where it is
negative; a 32-bit result is cut and extended (R321, decision D21). SHAR, SHLR and their kin shift right, and a
negative count leaves a free value. -/
def Obligations.BarrelShifts : Prop :=
  ∀ (m o n : Reg) (src : Src) (pm pn : Pair) (s : State),
    let a := getReg s m
    let c : Int := (BitVec.ofNat 8 (srcVal s src).toNat).toInt
    let r : Int := (BitVec.ofNat 8 (getReg s o).toNat).toInt
    let signed (v : Word) : Prop := v.toInt = (low32 v).toInt
    let zeroed (v : Word) : Prop := v.toNat = (low32 v).toNat
    Gives (.shad m src n) n s (fun v => Shifted true c (low32 a) (low32 v) ∧ signed v) ∧
    Gives (.shld m src n) n s (fun v => Shifted false c (low32 a) (low32 v) ∧ zeroed v) ∧
    Gives (.shadq m src n) n s (Shifted true c a) ∧ Gives (.shldq m src n) n s (Shifted false c a) ∧
    GivesPair (.shadx pm o pn) [pm, pn] 0 pn s (Shifted true r (getPair s pm)) ∧
    GivesPair (.shldx pm o pn) [pm, pn] 0 pn s (Shifted false r (getPair s pm)) ∧
    (0 ≤ r →
      Gives (.shar m o n) n s (fun v => Shifted true (-r) (low32 a) (low32 v) ∧ signed v) ∧
      Gives (.shlr m o n) n s (fun v => Shifted false (-r) (low32 a) (low32 v) ∧ zeroed v) ∧
      Gives (.sharq m o n) n s (Shifted true (-r) a) ∧ Gives (.shlrq m o n) n s (Shifted false (-r) a) ∧
      GivesPair (.sharx pm o pn) [pm, pn] 0 pn s (Shifted true (-r) (getPair s pm)) ∧
      GivesPair (.shlrx pm o pn) [pm, pn] 0 pn s (Shifted false (-r) (getPair s pm))) ∧
    (r < 0 →
      (∀ i ∈ [Instr.shar m o n, .shlr m o n, .sharq m o n, .shlrq m o n],
        GivesFree i 1 n s (fun v => v = Config.draw s.draws)) ∧
      (∀ i ∈ [Instr.sharx pm o pn, .shlrx pm o pn],
        GivesPair i [pm, pn] 2 pn s (fun v => v = Config.draw (s.draws + 1) ++ Config.draw s.draws)))

/-- The rotates (42_shift_muldiv.md R340 to R349), bit by bit; those through the carry take T in at one end and put
the bit that leaves at the other into T. The upper half after a 32-bit rotate is the sign (R339, decision D21).
The four contested rotated load-immediates (43_load_immediate.md R412 to R415, decision D21) likewise; that ones stand above the
25-bit field of the Jumbo form of LDIRON and LDIRONQ, of which R414 and R415 give the base form only, is the model's choice
(log 17). -/
def Obligations.RotatesBitByBit : Prop :=
  ∀ (m o n : Reg) (pm pn : Pair) (i10 : BitVec 10) (i33 : BitVec 33) (s : State),
    let x := getReg s n
    let a := getReg s m
    let b := (getReg s o).toNat
    let t := s.sr.getLsbD 0
    let signed (v : Word) : Prop := v.toInt = (low32 v).toInt
    GivesT (.rotclL n) n s (fun v c => (∀ k, k < 32 → v.getLsbD k = if k = 0 then t else x.getLsbD (k - 1)) ∧ signed v ∧ c = x.getLsbD 31) ∧
    GivesT (.rotclQ n) n s (fun v c => (∀ k, k < 64 → v.getLsbD k = if k = 0 then t else x.getLsbD (k - 1)) ∧ c = x.getLsbD 63) ∧
    GivesT (.rotcrL n) n s (fun v c => (∀ k, k < 32 → v.getLsbD k = if k = 31 then t else x.getLsbD (k + 1)) ∧ signed v ∧ c = x.getLsbD 0) ∧
    GivesT (.rotcrQ n) n s (fun v c => (∀ k, k < 64 → v.getLsbD k = if k = 63 then t else x.getLsbD (k + 1)) ∧ c = x.getLsbD 0) ∧
    Gives (.rotl n) n s (fun v => (∀ k, k < 32 → v.getLsbD ((k + 1) % 32) = x.getLsbD k) ∧ signed v) ∧
    Gives (.rotr n) n s (fun v => (∀ k, k < 32 → v.getLsbD k = x.getLsbD ((k + 1) % 32)) ∧ signed v) ∧
    Gives (.rotlL m o n) n s (fun v => (∀ k, k < 32 → v.getLsbD ((k + b) % 32) = a.getLsbD k) ∧ signed v) ∧
    Gives (.rotlQ m o n) n s (fun v => ∀ k, k < 64 → v.getLsbD ((k + b) % 64) = a.getLsbD k) ∧
    Gives (.rotrQ m o n) n s (fun v => ∀ k, k < 64 → v.getLsbD k = a.getLsbD ((k + b) % 64)) ∧
    GivesPair (.rotlx pm o pn) [pm, pn] 0 pn s (fun v => ∀ k, k < 128 → v.getLsbD ((k + b) % 128) = (getPair s pm).getLsbD k) ∧
    (∀ e ∈ [(RotImm.short i10, i10.toNat / 16, 6, i10.toNat % 16, true), (.jumbo i33, i33.toNat / 256, 25, i33.toNat % 256, false)],
      let (i, field, width, turn, short) := e
      let k32 := if short then 2 * turn else turn
      let k64 := if short then 4 * turn else turn
      let bit (ones : Bool) (k : Nat) : Bool := if k < width then field.testBit k else ones
      Gives (.ldiroz i n) n s (fun v => (∀ k, k < 32 → v.getLsbD ((k + k32) % 32) = bit false k) ∧ v.toNat < 2 ^ 32) ∧
      Gives (.ldiron i n) n s (fun v => (∀ k, k < 32 → v.getLsbD ((k + k32) % 32) = bit true k) ∧ 2 ^ 64 - 2 ^ 32 ≤ v.toNat) ∧
      Gives (.ldirozq i n) n s (fun v => ∀ k, k < 64 → v.getLsbD ((k + k64) % 64) = bit false k) ∧
      Gives (.ldironq i n) n s (fun v => ∀ k, k < 64 → v.getLsbD ((k + k64) % 64) = bit true k))

/-- The multiplies and multiply-accumulates (42_shift_muldiv.md R355 to R366, R370 to R373): the exact product, or the
accumulator plus it, or its high part, cut to the result's width. The extension of MULS.W is the spec's choice. -/
def Obligations.ProductsAndSums : Prop :=
  ∀ (m o n acc : Reg) (src : Src) (pm pn : Pair) (s : State),
    let a := getReg s m
    let b := getReg s o
    let c := srcVal s src
    let d := getReg s acc
    let lo (v : Word) : BitVec 32 := v.setWidth 32
    let w (v : Word) : BitVec 16 := v.setWidth 16
    Gives (.muls m src n) n s (fun v => v.toInt = (a.toInt * c.toInt).bmod (2 ^ 32)) ∧
    Gives (.mulu m src n) n s (fun v => v.toNat = a.toNat * c.toNat % 2 ^ 32) ∧
    Gives (.mulsQ m o n) n s (fun v => v.toInt = (a.toInt * b.toInt).bmod (2 ^ 64)) ∧
    Gives (.muluQ m o n) n s (fun v => v.toNat = a.toNat * b.toNat % 2 ^ 64) ∧
    Gives (.mulhsQ m o n) n s (fun v => v.toInt = a.toInt * b.toInt / 2 ^ 64) ∧
    Gives (.mulhuQ m o n) n s (fun v => v.toNat = a.toNat * b.toNat / 2 ^ 64) ∧
    Gives (.dmulsL m o n) n s (fun v => v.toInt = (lo a).toInt * (lo b).toInt) ∧
    Gives (.dmuluL m o n) n s (fun v => v.toNat = (lo a).toNat * (lo b).toNat) ∧
    Gives (.mulsW m src n) n s (fun v => v.toInt = (w a).toInt * (w c).toInt) ∧
    Gives (.muluW m src n) n s (fun v => v.toNat = (w a).toNat * (w c).toNat) ∧
    GivesPair (.muluX pm pn) [pm, pn, pn] 0 pn s (fun v => v.toNat = (getPair s pn).toNat * (getPair s pm).toNat % 2 ^ 128) ∧
    GivesPair (.mulhuX pm pn) [pm, pn, pn] 0 pn s (fun v => v.toNat = (getPair s pn).toNat * (getPair s pm).toNat / 2 ^ 128) ∧
    Gives (.macsL m src acc n) n s (fun v => v.toInt = (d.toInt + a.toInt * c.toInt).bmod (2 ^ 32)) ∧
    Gives (.macuL m src acc n) n s (fun v => v.toNat = (d.toNat + a.toNat * c.toNat) % 2 ^ 32) ∧
    Gives (.dmacsL m src acc n) n s (fun v => v.toInt = (d.toInt + (lo a).toInt * (lo c).toInt).bmod (2 ^ 64)) ∧
    Gives (.dmacuL m src acc n) n s (fun v => v.toNat = (d.toNat + (lo a).toNat * (lo c).toNat) % 2 ^ 64)

/-- Divide and modulo obey the division law (42_shift_muldiv.md R375 to R383): dividend = quotient * divisor + remainder,
the remainder smaller than the divisor and of the dividend's sign (truncation is the spec's choice, decision D22).
Division by zero, the signed overflow case and 32-bit operands out of range leave a free value and trap nowhere
(42_shift_muldiv.md R375, the spec's decision D22; log 21). DIV1 is one step of R386, in 64-bit arithmetic (D21). -/
def Obligations.DivisionLawAndItsGaps : Prop :=
  (∀ (m o n : Reg) (s : State),
    let a := getReg s m
    let b := getReg s o
    let lo (v : Word) : BitVec 32 := v.setWidth 32
    let law (x y q r : Int) : Prop := x = q * y + r ∧ r.natAbs < y.natAbs ∧ 0 ≤ x * r
    (b ≠ 0#64 → (a.toInt ≠ -(2 ^ 63) ∨ b.toInt ≠ -1) → ∃ q r : Word, law a.toInt b.toInt q.toInt r.toInt ∧
      Gives (.divsQ m o n) n s (fun v => v = q) ∧ Gives (.modsQ m o n) n s (fun v => v = r)) ∧
    (b ≠ 0#64 → ∃ q r : Word, a.toNat = q.toNat * b.toNat + r.toNat ∧ r.toNat < b.toNat ∧
      Gives (.divuQ m o n) n s (fun v => v = q) ∧ Gives (.moduQ m o n) n s (fun v => v = r)) ∧
    (a.toInt = (lo a).toInt → b.toInt = (lo b).toInt → b ≠ 0#64 → (a.toInt ≠ -(2 ^ 31) ∨ b.toInt ≠ -1) →
      ∃ q r : Word, law a.toInt b.toInt q.toInt r.toInt ∧ q.toInt = (lo q).toInt ∧ r.toInt = (lo r).toInt ∧
        Gives (.divsL m o n) n s (fun v => v = q) ∧ Gives (.modsL m o n) n s (fun v => v = r)) ∧
    (a.toNat < 2 ^ 32 → b.toNat < 2 ^ 32 → b ≠ 0#64 → ∃ q r : Word, a.toNat = q.toNat * b.toNat + r.toNat ∧ r.toNat < b.toNat ∧
      Gives (.divuL m o n) n s (fun v => v = q) ∧ Gives (.moduL m o n) n s (fun v => v = r))) ∧
  (∀ (m o n : Reg) (s : State),
    let a := getReg s m
    let b := getReg s o
    let free (i : Instr) : Prop := GivesFree i 1 n s (fun v => v = Config.draw s.draws)
    let lo (v : Word) : BitVec 32 := v.setWidth 32
    (b = 0#64 → ∀ i ∈ [Instr.divsQ m o n, .modsQ m o n, .divuQ m o n, .moduQ m o n, .divsL m o n, .modsL m o n, .divuL m o n, .moduL m o n],
      free i) ∧
    (a.toInt = -(2 ^ 63) → b.toInt = -1 → free (.divsQ m o n) ∧ free (.modsQ m o n)) ∧
    (a.toInt ≠ (lo a).toInt ∨ b.toInt ≠ (lo b).toInt ∨ (a.toInt = -(2 ^ 31) ∧ b.toInt = -1) →
      free (.divsL m o n) ∧ free (.modsL m o n)) ∧
    (2 ^ 32 ≤ a.toNat ∨ 2 ^ 32 ≤ b.toNat → free (.divuL m o n) ∧ free (.moduL m o n)) ∧
    let d := getReg s dlr + getReg s dlr + (if s.sr.getLsbD 0 then 1#64 else 0#64)
    let e := if s.sr.getLsbD 1 then d + getReg s dhr else d - getReg s dhr
    let q := (getReg s dlr).getLsbD 31 != e.getLsbD 32
    ∃ w, exec .div1 s = .next { s.wrote dlr e with sr := w } ∧
      ∀ k, k < 64 → w.getLsbD k = if k = 0 then !q else if k = 1 then q else s.sr.getLsbD k)

/-! ### Load immediate (43_load_immediate.md) -/

/-- The load-immediate instructions (43_load_immediate.md R391 to R402): the value of Rn, and nothing else changes. All but
the 32-bit forms carry their immediate as the decoder has extended it (which of them XG2, Op64 and Jumbo extend is log 17);
of the 32-bit encodings that is with zeros, or with ones in LDIMIN. What LDIHI, LDIHIQ, LDIMIZ, LDISH and LDISH16 do with a wider
immediate than their base forms print, and so each clause for every word x, is the model's choice (log 17). -/
def Obligations.LoadImmediateValues : Prop :=
  ∀ (x : Word) (i10 : BitVec 10) (i32 : BitVec 32) (n : Reg) (s : State),
    let r := (getReg s n).toNat
    (∀ i ∈ [Instr.ldiz x n, .ldin x n, .ldi8 x n, .ldi64 x n], Gives i n s (fun v => v = x)) ∧
    Gives (.ldimiz x n) n s (fun v => v.toNat = x.toNat * 2 ^ 16 % 2 ^ 64) ∧
    Gives (.ldimin x n) n s (fun v => v.toNat = x.toNat * 2 ^ 16 % 2 ^ 64) ∧
    Gives (.ldimin (BitVec.allOnes 54 ++ i10) n) n s (fun v => v.toInt = (i10.toNat - 2 ^ 10) * 2 ^ 16) ∧
    (∀ e ∈ [(Instr.ldimiz (i10.setWidth 64) n, 16), (.ldihi (i10.setWidth 64) n, 22), (.ldihiq (i10.setWidth 64) n, 54)],
      Gives e.1 n s (fun v => v.toNat = i10.toNat * 2 ^ e.2)) ∧
    (∀ e ∈ [(Instr.ldish x n, 8), (.ldish16 x n, 16)], Gives e.1 n s (fun v =>
      (x.toNat < 2 ^ e.2 → v.toNat = (r * 2 ^ e.2 + x.toNat) % 2 ^ 64) ∧
        ∀ k, k < 64 → v.getLsbD k = (x.getLsbD k || decide (e.2 ≤ k) && (getReg s n).getLsbD (k - e.2)))) ∧
    Gives (.ldihi x n) n s (fun v => v.toNat = x.toNat * 2 ^ 22 % 2 ^ 64) ∧
    Gives (.ldihiL i32 n) n s (fun v => v.toNat = i32.toNat * 2 ^ 16) ∧
    Gives (.ldihiq x n) n s (fun v => v.toNat = x.toNat * 2 ^ 54 % 2 ^ 64) ∧
    Gives (.ldihiQ i32 n) n s (fun v => v.toNat = i32.toNat * 2 ^ 32)

/-! ### Addresses, loads, stores (44_load_store.md, 45_load_store_ext.md) -/

/-- Effective addresses through LEA (44_load_store.md R421, R422, R426, R430, R445 to R449; 20_memory.md R81, R83; the
displacements of Jumbo and Op64 forms by decision D23, log 40): R0 and R1 as bases are the next pc and GBR, or TBR,
with a byte scale, any other base, DLR in the form (R0, R1) among them, is scaled by the size; the explicit scale of an Op64 form applies to every index but DLR
(log 40). LEA writes the low 48 bits, or 32 where SR.JQ is clear (that polarity is G-10-1, log 54), with the tag cleared.
LEAT (47_system_ttag.md R660, R664 to R667): the address as LEA forms it under a tag; a base whose tag is 1111 keeps its 16
high bits, GBR and TBR give none, the pc gives a link register's; a bounded pointer keeps its bound or loses its tag, as a
free bias says (log 29). -/
def Obligations.EffectiveAddressesAndTheirTags : Prop :=
  (∀ (m o n : Reg) (d : Word) (d11 : BitVec 11) (d9 : BitVec 9) (sc : BitVec 2) (s : State),
    let pc : Word := s.npc.setWidth 64
    let gbr : Word := (s.gbr.setWidth 48).setWidth 64
    let r (x : Reg) : Word := getReg s x
    let is (i : Instr) (ea : Word) : Prop :=
      Gives i n s (fun v => v.toNat = if s.sr.getLsbD 31 then ea.toNat % 2 ^ 48 else ea.toNat % 2 ^ 32)
    ∀ e ∈ [(Instr.leaB n, 1), (.leaW n, 2), (.leaL n, 4), (.leaQ n, 8)],
      let (f, S) := e
      let k : Word := BitVec.ofNat 64 S
      is (f (.ind m)) (r m) ∧ is (f (.gbr d)) (gbr + k * d) ∧
      is (f (.disp 0#6 d)) (pc + d) ∧ is (f (.disp 1#6 d)) (gbr + d) ∧
      is (f (.dispByte 0#6 d)) (pc + d) ∧ is (f (.dispByte 1#6 d)) (gbr + d) ∧
      is (f (.index 0#6 0#6)) (pc + r 0#6) ∧ is (f (.index 0#6 1#6)) (r 0#6) ∧ is (f (.index 1#6 0#6)) (gbr + r 0#6) ∧
      is (f (.index 1#6 1#6)) (s.tbr + r 0#6) ∧
      (2 ≤ m.toNat → is (f (.disp m d)) (r m + k * d) ∧ is (f (.dispByte m d)) (r m + d) ∧ is (f (.index m 1#6)) (r m + r 0#6)) ∧
      (2 ≤ o.toNat → is (f (.index 0#6 o)) (pc + r o) ∧ is (f (.index 1#6 o)) (gbr + r o)) ∧
      (2 ≤ m.toNat → o ≠ 1#6 → is (f (.index m o)) (r m + k * r o) ∧
        is (f (.indexDisp m o d11)) (r m + k * r o + k * d11.setWidth 64) ∧
        is (f (.indexSc m o sc d9)) (r m + r o <<< sc.toNat + k * d9.setWidth 64)) ∧
      (m.toNat < 2 ∨ o = 1#6 →
        let base : Word := if m = 0#6 then (if o = 1#6 then r 0#6 else pc) else if m = 1#6 then (if o = 1#6 then s.tbr else gbr)
          else r m
        let index : Word := if o = 1#6 then (if m = 0#6 then 0#64 else r 0#6) else r o
        let unit : Word := if m = 0#6 ∧ o = 1#6 then k else 1#64
        is (f (.index m o)) (base + index) ∧ is (f (.indexDisp m o d11)) (base + index + unit * d11.setWidth 64) ∧
        is (f (.indexSc m o sc d9)) (base + (if o = 1#6 then index else index <<< sc.toNat) + unit * d9.setWidth 64))) ∧
  (∀ (n : Reg) (a : Addr) (s : State),
    ∀ e ∈ [(Instr.leatB n a, 1), (.leatW n a, 2), (.leatL n a, 4), (.leatQ n a, 8)],
      let ea := effAddr s e.2 a
      let dlrAlone : Bool := match a with
        | .index m o => m == 0#6 && o == 1#6 | .indexDisp m o _ => m == 0#6 && o == 1#6
        | .indexSc m o _ _ => m == 0#6 && o == 1#6 | _ => false
      let under (b : Word) (v : Word) : Prop :=
        (slice b 60 4 = 0xF#4 → (slice v 48 16 : BitVec 16) = slice b 48 16) ∧
        (slice b 60 4 = 3#4 → (slice v 60 4 = 3#4 ∧ (slice v 48 8 : BitVec 8) = slice b 48 8) ∨ slice v 48 16 = 0#16) ∧
        (slice b 60 4 ≠ 0xF#4 → slice b 60 4 ≠ 3#4 → slice v 48 16 = 0#16)
      Gives e.1 n s (fun v =>
        v.toNat % 2 ^ 48 = (if s.sr.getLsbD 31 then ea.toNat % 2 ^ 48 else ea.toNat % 2 ^ 32) ∧
        (addrBase a = 0#6 → dlrAlone = false → slice v 48 16 = 0#8 ++ slice s.sr 4 4 ++ 0#1 ++ slice s.sr 26 1 ++ 0#2) ∧
        (addrBase a = 0#6 → dlrAlone = true → under (getReg s 0#6) v) ∧
        (addrBase a = 1#6 → slice v 48 16 = 0#16) ∧
        (addrBase a ≠ 0#6 → addrBase a ≠ 1#6 → under (getReg s (addrBase a)) v)))

/-- With translation off and no tripwire, an access reaches the bytes from the effective address, reduced to the mode's
space and wrapping at its end, where the map has RAM at all of them, or for a read or a fetch ROM, a ZERO or an RTS page
(20_memory.md R81, R86, decision D8; the wrap is the model's, log 7; translation is off while MMCR is zero, log 8; which
value of SR.JQ means 48 bits is G-10-1, log 54). Nothing is drawn. -/
def Obligations.UntranslatedAccessReachesItsBytes : Prop :=
  ∀ (k : Config.Access) (ea : Word) (n : Nat) (s : State), s.mmcr = 0#64 → s.tripwires = [] →
    let space := if s.sr.getLsbD 31 then 2 ^ 48 else 2 ^ 32
    let pas := (List.range n).map fun j => (ea.toNat % space + j) % space
    (∀ pa ∈ pas, regionOf s.map pa = .ram ∨ (k ≠ .write ∧ regionOf s.map pa ∈ [Config.Region.rom, .zeroPage, .rtsPage])) →
    Access k (vaSpace s) (vaOf s ea) n s pas s

/-- The loads (44_load_store.md R424, R435 to R442; 45_load_store_ext.md R480, R510 to R512): the bytes at the effective
address, least significant first (decision D2, log 50), extended; MOV.TW and MOV.X need an aligned address. MOV.HTW clears
bits 15:0, a reading of R512 (log 40). Nothing else changes: no memory, no flag, no other register, and no older value fetch may
see; only how far a flushed line has come may (20_memory.md R98, R100; log 14). -/
def Obligations.LoadsExtendTheirBytes : Prop :=
  ∀ (n : Reg) (p : Pair) (a : Addr) (s : State),
    let at' (size : Nat) : Nat := vaOf s (effAddr s size a)
    let S := vaSpace s
    Loads (.movB .load n a) n S (at' 1) 1 s (fun x v => v.toInt = (BitVec.ofNat 8 x).toInt) ∧
    Loads (.movW .load n a) n S (at' 2) 2 s (fun x v => v.toInt = (BitVec.ofNat 16 x).toInt) ∧
    Loads (.movL .load n a) n S (at' 4) 4 s (fun x v => v.toInt = (BitVec.ofNat 32 x).toInt) ∧
    Loads (.movQ .load n a) n S (at' 8) 8 s (fun x v => v.toNat = x) ∧
    Loads (.movuB n a) n S (at' 1) 1 s (fun x v => v.toNat = x) ∧
    Loads (.movuW n a) n S (at' 2) 2 s (fun x v => v.toNat = x) ∧
    Loads (.movuL n a) n S (at' 4) 4 s (fun x v => v.toNat = x) ∧
    Loads (.movnL n a) n S (at' 4) 4 s (fun x v => v.toNat = 2 ^ 64 - 2 ^ 32 + x) ∧
    ((effAddr s 2 a).toNat % 2 = 0 →
      Loads (.movTW .load n a) n S (at' 2) 6 s (fun x v => v.toInt = (BitVec.ofNat 48 x).toInt) ∧
      Loads (.movuTW n a) n S (at' 2) 6 s (fun x v => v.toNat = x) ∧
      Loads (.movHTW .load n a) n S (at' 2) 6 s (fun x v => v.toNat = 2 ^ 16 * x)) ∧
    ((effAddr s 2 a).toNat % 2 ≠ 0 → ∀ i ∈ [Instr.movTW .load n a, .movuTW n a, .movHTW .load n a], exec i s = .refused .misaligned) ∧
    (pairAllowed p = true → (effAddr s 8 a).toNat % 8 = 0 → ∀ pas s', Access .read S (at' 8) 16 s pas s' →
      ∃ k l v, s' = s.drew k ∧ exec (.movX .load p a) s = .next { (s.drew k).wrotePair p v with stale := l } ∧
        SameOlder l s.stale ∧ v.toNat = bytesLE s pas) ∧
    (pairAllowed p = true → (effAddr s 8 a).toNat % 8 ≠ 0 → exec (.movX .load p a) s = .refused .misaligned) ∧
    (pairAllowed p = false → exec (.movX .load p a) s = .refused .forbiddenPair)

/-- The stores (44_load_store.md R424, R425, R435 to R438; 45_load_store_ext.md R480, R510, R512): the low bytes of the
register, least significant first (decision D2, log 50), at the effective address; every byte outside those is as it was,
and no register and no flag changes. Fetch may go on seeing the values the stored bytes had, and its older values of every other
byte stay (20_memory.md R97; the record is log 14). MOV.HTW stores bits 63:16, a reading of R512 (log 40). -/
def Obligations.StoresWriteOnlyTheirBytes : Prop :=
  ∀ (n : Reg) (p : Pair) (a : Addr) (s : State),
    let at' (size : Nat) : Nat := vaOf s (effAddr s size a)
    let S := vaSpace s
    let x := (getReg s n).toNat
    Stores (.movB .store n a) S (at' 1) 1 s x ∧ Stores (.movW .store n a) S (at' 2) 2 s x ∧
    Stores (.movL .store n a) S (at' 4) 4 s x ∧ Stores (.movQ .store n a) S (at' 8) 8 s x ∧
    ((effAddr s 2 a).toNat % 2 = 0 → Stores (.movTW .store n a) S (at' 2) 6 s x ∧
      Stores (.movHTW .store n a) S (at' 2) 6 s (x / 2 ^ 16)) ∧
    ((effAddr s 2 a).toNat % 2 ≠ 0 → exec (.movTW .store n a) s = .refused .misaligned ∧
      exec (.movHTW .store n a) s = .refused .misaligned) ∧
    (pairAllowed p = true → (effAddr s 8 a).toNat % 8 = 0 → Stores (.movX .store p a) S (at' 8) 16 s (getPair s p).toNat) ∧
    (pairAllowed p = true → (effAddr s 8 a).toNat % 8 ≠ 0 → exec (.movX .store p a) s = .refused .misaligned) ∧
    (pairAllowed p = false → exec (.movX .store p a) s = .refused .forbiddenPair)

/-- A load after a store to the same address gives the value stored, cut and extended, at any alignment (20_memory.md R70,
R73, R93; 44_load_store.md R424), here with translation off (MMCR zero, log 8), no tripwire, memory in its canonical form
and RAM at the bytes stored. -/
def Obligations.LoadAfterStoreGivesTheValue : Prop :=
  ∀ (n k : Reg) (a : Addr) (s : State), s.mmcr = 0#64 → s.tripwires = [] → Memory.wf s.mem = true →
    let x := getReg s n
    let trip (size : Nat) (st ld : Instr) (v : Word) : Prop :=
      (∀ j, j < size → regionOf s.map ((vaOf s (effAddr s size a) + j) % vaSpace s) = .ram) →
      ∃ t u, exec st s = .next t ∧ exec ld t = .next u ∧ getReg u k = v
    trip 1 (.movB .store n a) (.movB .load k a) ((x.setWidth 8).signExtend 64) ∧
    trip 1 (.movB .store n a) (.movuB k a) ((x.setWidth 8).setWidth 64) ∧
    trip 2 (.movW .store n a) (.movW .load k a) ((x.setWidth 16).signExtend 64) ∧
    trip 2 (.movW .store n a) (.movuW k a) ((x.setWidth 16).setWidth 64) ∧
    trip 4 (.movL .store n a) (.movL .load k a) ((x.setWidth 32).signExtend 64) ∧
    trip 4 (.movL .store n a) (.movuL k a) ((x.setWidth 32).setWidth 64) ∧
    trip 8 (.movQ .store n a) (.movQ .load k a) x

/-- The first byte of an access that does not translate decides (44_load_store.md R425; 60_exceptions.md R853, decisions
D8 and D31; what a TLB entry answers is free, log 8): its exception is taken, TEA holds the access's own address, or where
the byte lies in another page the first address of that page, and no register or byte is written; where it refuses, the
instruction is refused; where every byte translates, the instruction completes, and where all of them, aligned, are a
device's, that device sees this one access (20_memory.md R72, R75, R76; 70_reset_and_hazards.md R921): the log of device accesses
grows by it and memory stays. An access to a device that is misaligned or only partly the device's is refused, which
20_memory.md R73 leaves implementation-defined (log 60). Stated where no tripwire is set. What the translation of a byte answers
(20_memory.md R86, R88, R89, R99): the address itself while MMCR is zero, and else what the newest TLB entry that matches says,
TlbMiss where none does; AccessFault where the entry denies the access, where nothing stands at the physical address, and for a
store to ROM, a ZERO or an RTS page; where the entry asks the ACL, AclCheck without an entry of its VUGID under one of the four
keys, an entry of mode 000 being ignored, else what the User flags of the first one grant in mode 001, and a refusal in the
other modes. Which entry is asked first, and where the mode and the flags stand, are the model's choice (log 8). That a store to
ROM, a ZERO or an RTS page is an AccessFault is the model's choice too (logs 7 and 59): R86 and D8 speak of unmapped
addresses only. -/
def Obligations.MemoryFaultNamesItsFirstAddress : Prop :=
  (∀ (k : Config.Access) (va : Nat) (s : State),
    let fault : Xlat := .bad (.exc .accessFault)
    let there (pa : Nat) : Xlat := match regionOf s.map pa with
      | .unmapped => fault | .ram => .ok pa | .mmio => .ok pa
      | .rom => if k = .write then fault else .ok pa
      | .zeroPage => if k = .write then fault else .ok pa
      | .rtsPage => if k = .write then fault else .ok pa
    let keyed (vugid : Half) (e : Word) : Bool :=
      slice e 0 16 == vugid && [slice s.krr 0 16, slice s.krr 16 16, slice s.krr 32 16, slice s.krr 48 16].contains (slice e 16 16)
    let mode (e : Word) : BitVec 3 := Config.aclMode (slice e 32 12)
    let newest := s.tlb.reverse.findSome? fun e => Config.tlbHit e.ext e.bits e.regs s.krr s.sr va k
    (s.mmcr = 0#64 → translateByte s k va = there va) ∧
    (s.mmcr ≠ 0#64 → translateByte s k va = match newest with
      | none => .bad (.exc .tlbMiss)
      | some .denied => fault
      | some (.ok pa) => there pa
      | some (.acl pa vugid) =>
        match s.acl.find? fun e => keyed vugid e && mode e != 0#3 with
        | none => .bad (.exc .aclCheck)
        | some e =>
          if mode e ≠ 1#3 then .bad (.refuse .aclMode)
          else if Config.aclGrants (slice e 32 12) s.sr k = true then there pa else fault)) ∧
  ∀ (n : Reg) (a : Addr) (s : State), s.tripwires = [] →
    ∀ e ∈ [(Instr.movB .load n a, Config.Access.read, 1), (.movuB n a, .read, 1), (.movB .store n a, .write, 1), (.movW .load n a, .read, 2),
      (.movuW n a, .read, 2), (.movW .store n a, .write, 2), (.movL .load n a, .read, 4), (.movuL n a, .read, 4), (.movnL n a, .read, 4),
      (.movL .store n a, .write, 4), (.movQ .load n a, .read, 8), (.movQ .store n a, .write, 8)],
      let (i, k, size) := e
      let va (j : Nat) : Nat := (vaOf s (effAddr s size a) + j) % vaSpace s
      let page : Nat := 2 ^ Config.pageBytesLog2
      let first := ((List.range size).map fun j => (va j, translateByte s k (va j))).find? fun x =>
        match x.2 with | .ok _ => false | .bad _ => true
      match first with
      | none =>
        let pas := (List.range size).filterMap fun j => match translateByte s k (va j) with | .ok pa => some pa | .bad _ => none
        if ∀ pa ∈ pas, regionOf s.map pa ≠ .mmio then ∃ t, exec i s = .next t ∧ t.faults = s.faults ∧ t.device = s.device
        else if (∀ pa ∈ pas, regionOf s.map pa = .mmio) ∧ pas.headD 0 % size = 0 then
          ∃ t, exec i s = .next t ∧ t.faults = s.faults ∧ t.mem = s.mem ∧ t.device = s.device ++
            [{ addr := pas.headD 0, size := size, stored := if k = .write then some ((getReg s n).toNat % 256 ^ size) else none }]
        else exec i s = .refused .mmio
      | some (x, .bad (.exc e)) =>
        exec i s = .next (s.trapped e (some (BitVec.ofNat 64 (if x / page = va 0 / page then va 0 else x / page * page))))
      | some (_, .bad (.refuse r)) => exec i s = .refused r
      | some (_, .ok _) => False

/-- LDOP (45_load_store_ext.md R525, decision D24, log 41): a load combines the extended value with Rn into Rn, or exchanges
them; a store combines them in memory. Both accesses of a form that writes use the one effective address, and fetch may go
on seeing the values the stored bytes had (20_memory.md R97; log 14). -/
def Obligations.LoadOpAndStoreOp : Prop :=
  ∀ (u : BitVec 4) (k : LdOpSize) (n : Reg) (a : Addr) (s : State),
    let size := match k with | .b => 1 | .ub => 1 | .w => 2 | .uw => 2 | .l => 4 | .ul => 4 | .q => 8
    let va := vaOf s (effAddr s size a)
    let S := vaSpace s
    let r := getReg s n
    let op := u.toNat % 8
    let ext (x : Nat) : Word := match k with
      | .b => (BitVec.ofNat 8 x).signExtend 64 | .w => (BitVec.ofNat 16 x).signExtend 64
      | .l => (BitVec.ofNat 32 x).signExtend 64 | _ => BitVec.ofNat 64 x
    let alu (x y : Word) : Word :=
      if op = 2 then x + y else if op = 3 then x - y else if op = 4 then y - x else if op = 5 then x &&& y
      else if op = 6 then x ||| y else if op = 7 then x ^^^ y else y
    (op ≠ 1 → Loads (.ldop u .load k n a) n S va size s (fun x v => v = alu r (ext x))) ∧
    ∀ pas s1 pas' s2, Access .read S va size s pas s1 → Access .write S va size s1 pas' s2 →
      let new (i : Instr) (reg : Option Word) (x : Word) : Prop := ∃ (j : Nat) (l : List StaleByte) (M : List Host.Cell), s2 = s.drew j ∧
        exec i s = .next { (match reg with | none => (s.drew j).done | some v => (s.drew j).wrote n v) with mem := M, stale := l } ∧ Recorded s pas' l ∧
        (∀ b, b ∉ pas' → Memory.read M b = Memory.read s.mem b) ∧ (Memory.wf s.mem = true → pas'.Nodup → bytesLE { s with mem := M } pas' = x.toNat % 256 ^ size)
      let v := ext (bytesLE s pas)
      (op = 1 → new (.ldop u .load k n a) (some v) r ∧ new (.ldop u .store k n a) (some v) r) ∧
      (op ≠ 1 → new (.ldop u .store k n a) none (alu v r))

/-- MOV.C and the banked registers (45_load_store_ext.md R485, R530 to R533; 10_state.md R47; the privilege of both is
decision D6): in Supervisor mode a bank word moves to or from a register or pair, and a control register to or from
the 8 bytes at the effective address. Nothing but the register or bank words and the pc changes of the whole state for the
banked registers, and but the bytes, their record for fetch and the pc for a store of MOV.C; of a load of MOV.C the words cover the control registers, the general
registers, memory, the stale bytes and the pc only. An odd id of a pair form is refused (log 35). XMOV and
LDTEX (45_load_store_ext.md R516 to R522, R528; XMOV is contested and has no encoding, TEA takes the low 64 bits of its
address, and what enables bounds checks and what they find are free, log 31; texel address and texel are free, log 26): an
index is added to the 96-bit base times the scale, as the unsigned value it is, modulo 2^96; an
access through a pair whose tag is 0000 reaches its 96-bit address, and one whose tag is 0001 where bounds checks are off,
or 0010 or 0011 where the check passes; 0010 and 0011 raise BoundsCheck where it does not, 0001 where checks are on and
0100 and up raise XmovTagFault; User mode needs XMUE; LDTEX writes its texel, from an aligned base, once the texel's
address reads. -/
def Obligations.ControlMemoryBanksAndExtendedPointers : Prop :=
  (∀ (i : BitVec 8) (n : Reg) (p : Pair) (c : CReg) (a : Addr) (s : State) (v : Word), supervisor s = true →
    (Gives (.rbsldQ i n) n s (fun v => v = s.rbs[i.toNat]'i.isLt) ∧
      exec (.rbsstQ i n) s = .next { s.done with rbs := s.rbs.set i.toNat (getReg s n) i.isLt }) ∧
    (i.getLsbD 0 = false → GivesPair (.rbsldX i p) [p] 0 p s (fun v =>
        v = s.rbs[(i ||| 1#8).toNat]'(i ||| 1#8).isLt ++ s.rbs[i.toNat]'i.isLt) ∧
      (pairAllowed p = true → exec (.rbsstX i p) s = .next { s.done with
        rbs := (s.rbs.set i.toNat (getReg s (pairLo p)) i.isLt).set (i ||| 1#8).toNat (getReg s (pairHi p)) (i ||| 1#8).isLt })) ∧
    (i.getLsbD 0 = true → pairAllowed p = true → exec (.rbsldX i p) s = .refused .rbsPair ∧ exec (.rbsstX i p) s = .refused .rbsPair) ∧
    (controlValue s c = some v → Stores (.movC .store c a) (vaSpace s) (vaOf s (effAddr s 8 a)) 8 s v.toNat) ∧
    (controlValue s c = some v → c ≠ 0#6 → ∀ pas s', Access .read (vaSpace s) (vaOf s (effAddr s 8 a)) 8 s pas s' →
      (c = 2#6 → BitVec.ofNat 64 (bytesLE s pas) &&& srReserved = 0#64) →
      ∃ t, exec (.movC .load c a) s = .next t ∧ controlValue t c = some (BitVec.ofNat 64 (bytesLE s pas)) ∧
        (∀ c', c' ≠ c → c' ≠ 0#6 → controlValue t c' = controlValue s c') ∧ t.regs = s.regs ∧ t.mem = s.mem ∧
        SameOlder t.stale s.stale ∧ t.pc = s.npc) ∧
    exec (.movC .load 0#6 a) s = .refused .writeToPC ∧
    (controlValue s c = none → exec (.movC .load c a) s = .next (s.trapped .undefinedInstruction none) ∧
      exec (.movC .store c a) s = .next (s.trapped .undefinedInstruction none))) ∧
  (∀ (n m o : Reg) (p : Pair) (a : XAddr) (d : TexDisp) (s : State),
    let base := match a with | .disp q _ => q | .index q _ => q
    let tag : BitVec 4 := slice (getReg s (pairLo base)) 60 4
    let open' := supervisor s = true ∨ s.sr.getLsbD 25 = true
    let low48 (r : Reg) : Nat := (getReg s r).toNat % 2 ^ 48
    (∀ q k, xmovAddr s k (.index q o) = (low48 (pairHi q) * 2 ^ 48 + low48 (pairLo q) + k * (getReg s o).toNat) % 2 ^ 96) ∧
    let all := [(Instr.xmovB .load n a, 1), (.xmovW .load n a, 2), (.xmovL .load n a, 4), (.xmovQ .load n a, 8),
      (.xmovB .store n a, 1), (.xmovW .store n a, 2), (.xmovL .store n a, 4), (.xmovQ .store n a, 8)]
    (pairAllowed base = true →
      (¬ open' → ∀ e ∈ all, exec e.1 s = .next (s.trapped .privilegeViolation none)) ∧
      (open' → (tag = 1#4 ∨ 4#4 ≤ tag) → ∀ e ∈ all, (tag = 1#4 ∧ boundsOn s = false) ∨
        exec e.1 s = .next (s.trapped .xmovTagFault (some (BitVec.ofNat 64 (xmovAddr s e.2 a))))) ∧
      (open' → (tag = 2#4 ∨ tag = 3#4) → ∀ e ∈ all, Config.xmovBoundsOk (getPair s base) (xmovAddr s e.2 a) e.2 = true ∨
        exec e.1 s = .next (s.trapped .boundsCheck none)) ∧
      (open' →
        let passes (size n : Nat) : Prop := tag = 0#4 ∨ (tag = 1#4 ∧ boundsOn s = false) ∨
          ((tag = 2#4 ∨ tag = 3#4) ∧ Config.xmovBoundsOk (getPair s base) (xmovAddr s size a) n = true)
        (∀ e ∈ [(Instr.xmovB .load n a, 1), (.xmovW .load n a, 2), (.xmovL .load n a, 4), (.xmovQ .load n a, 8)],
          passes e.2 e.2 → Loads e.1 n (2 ^ 96) (xmovAddr s e.2 a) e.2 s (fun x v => v.toNat % 256 ^ e.2 = x)) ∧
        (∀ e ∈ [(Instr.xmovB .store n a, 1), (.xmovW .store n a, 2), (.xmovL .store n a, 4), (.xmovQ .store n a, 8)],
          passes e.2 e.2 → Stores e.1 (2 ^ 96) (xmovAddr s e.2 a) e.2 s (getReg s n).toNat) ∧
        (pairAllowed p = true → passes 8 16 → xmovAddr s 8 a % 8 = 0 →
          Stores (.xmovX .store p a) (2 ^ 96) (xmovAddr s 8 a) 16 s (getPair s p).toNat ∧
          ∀ pas s', Access .read (2 ^ 96) (xmovAddr s 8 a) 16 s pas s' → ∃ k l v, s' = s.drew k ∧
            exec (.xmovX .load p a) s = .next { (s.drew k).wrotePair p v with stale := l } ∧ SameOlder l s.stale ∧ v.toNat = bytesLE s pas))) ∧
    (pairAllowed base = false → ∀ e ∈ all, exec e.1 s = .refused .forbiddenPair) ∧
    let disp : Word := match d with | .none => 0#64 | .disp x => x.setWidth 64 | .scaled _ x => x.setWidth 64
    ((getReg s m).toNat % 8 = 0 →
      Loads (.ldtex m o d n) n (vaSpace s) (vaOf s (Config.ldtexAddr (getReg s m) (getReg s o) disp)) 1 s
        (fun _ v => v = Config.ldtex s.mem (getReg s m) (getReg s o) disp)) ∧
    ((getReg s m).toNat % 8 ≠ 0 → exec (.ldtex m o d n) s = .refused .misaligned))

/-! ### Branches, calls, returns (46_branch.md) -/

/-- The unconditional jumps (46_branch.md R541 to R544, R546, R547, R556, R561, R563): the target in 16-bit words from the
next instruction, or absolute; only the pc changes, but that JMP DHR restores the user flags as RTS does and JMPMD
writes the decode mode bits, in every mode (decision D25, log 52). An address the decode mode does not allow is refused. The
conditional branches (46_branch.md R552 to R555, R558, R559, R566 to R589): taken exactly when the condition on T, or of Rn
against Rm or zero, holds, on 64 bits in the Q forms and on the low 32 elsewhere (decision D17, log 19); only the pc
changes. -/
def Obligations.JumpsAndConditionalBranches : Prop :=
  (∀ (n : Reg) (d : Word) (a : VAddr) (i : BitVec 4) (s : State),
    let r : VAddr := (getReg s n).setWidth 48
    let modes (sr v : Word) : Prop := ∀ k, k < 64 → v.getLsbD k =
      if k = 22 then i.getLsbD 3 else if k = 23 then i.getLsbD 2 else if k = 26 then i.getLsbD 1
      else if k = 27 then i.getLsbD 0 else sr.getLsbD k
    let flags (x sr v : Word) : Prop := ∀ k, k < 64 → v.getLsbD k =
      if k < 2 then x.getLsbD (48 + k) else if 4 ≤ k ∧ k < 16 then x.getLsbD (48 + k)
      else if k = 26 ∨ k = 27 then x.getLsbD (24 + k) else sr.getLsbD k
    Goes (.bra (.disp d)) s (s.npc + 2#48 * d.setWidth 48) s ∧
    Goes (.bra (.reg n)) s (s.npc + 2#48 * r) s ∧
    Goes (.braL n) s (s.npc + 4#48 * r) s ∧
    Goes (.jmpAbs a) s a s ∧
    (n ≠ 1#6 → Goes (.jmp n) s r s) ∧
    (∃ v, flags (getReg s 1#6) s.sr v ∧ Goes (.jmp 1#6) s ((getReg s 1#6).setWidth 48) { s with sr := v }) ∧
    (∃ v, modes s.sr v ∧ Goes (.jmpmd i n) s r { s with sr := v })) ∧
  (∀ (m n : Reg) (d : Word) (t : Target) (s : State),
    let a := getReg s n
    let b := getReg s m
    let lo (v : Word) : BitVec 32 := v.setWidth 32
    let near : VAddr := s.npc + 2#48 * d.setWidth 48
    let far : VAddr := match t with | .disp x => s.npc + 2#48 * x.setWidth 48 | .reg r => s.npc + 2#48 * (getReg s r).setWidth 48
    let T : Prop := s.sr.getLsbD 0 = true
    (∀ e ∈ [(Instr.bt t, T, far), (.bf t, ¬ T, far), (.jt n, T, a.setWidth 48), (.jf n, ¬ T, a.setWidth 48),
      (.btL n, T, s.npc + 4#48 * a.setWidth 48), (.bfL n, ¬ T, s.npc + 4#48 * a.setWidth 48)], Branches e.1 s e.2.1 e.2.2) ∧
    (∀ e ∈ [(Instr.jtstT m n d, lo (a &&& b) = 0#32), (.jtstQT m n d, a &&& b = 0#64), (.jtstF m n d, lo (a &&& b) ≠ 0#32),
      (.jtstQF m n d, a &&& b ≠ 0#64), (.jcmpGT m n d, (lo b).toInt < (lo a).toInt), (.jcmpQGT m n d, b.toInt < a.toInt),
      (.jcmpLE m n d, (lo a).toInt ≤ (lo b).toInt), (.jcmpQLE m n d, a.toInt ≤ b.toInt), (.jcmpHI m n d, (lo b).toNat < (lo a).toNat),
      (.jcmpQHI m n d, b.toNat < a.toNat), (.jcmpLS m n d, (lo a).toNat ≤ (lo b).toNat), (.jcmpQLS m n d, a.toNat ≤ b.toNat),
      (.jcmpEQ m n d, lo a = lo b), (.jcmpQEQ m n d, a = b), (.jcmpNE m n d, lo a ≠ lo b), (.jcmpQNE m n d, a ≠ b)],
      Branches e.1 s e.2 near) ∧
    (∀ e ∈ [(Instr.brEQL n d, (lo a).toInt = 0), (.brEQQ n d, a.toInt = 0), (.brNEL n d, (lo a).toInt ≠ 0), (.brNEQ n d, a.toInt ≠ 0),
      (.brLTL n d, (lo a).toInt < 0), (.brLTQ n d, a.toInt < 0), (.brGEL n d, 0 ≤ (lo a).toInt), (.brGEQ n d, 0 ≤ a.toInt),
      (.brLEL n d, (lo a).toInt ≤ 0), (.brLEQ n d, a.toInt ≤ 0), (.brGTL n d, 0 < (lo a).toInt), (.brGTQ n d, 0 < a.toInt)],
      Branches e.1 s e.2 near) ∧
    ∀ q : Bool, let z : Int := if q then a.toInt else (lo a).toInt
      ∀ e ∈ [(ZCond.eq, z = 0), (.ne, z ≠ 0), (.le, z ≤ 0), (.gt, 0 < z), (.lt, z < 0), (.ge, 0 ≤ z)],
        Branches (.jcmpz q e.1 n d) s e.2 near)

/-- The calls (46_branch.md R545, R548, R549, R557, R562, R565): LR receives the next pc in bits 47:0 and SR[15:4],
SR[27:26], SR[1:0] above it, then the pc is the target; SR keeps its value but for the mode bits JSRMD writes, which it does
in every mode, and whose alignment its target then meets (decision D25, log 52). LR was
written by this instruction, so that the window of RTSU begins again (70_reset_and_hazards.md R911). RTS and RTSU
(46_branch.md R550, R551): the pc from LR[47:0], SR[15:4], SR[27:26] and SR[1:0] from its high bits, the other SR bits
and everything else kept; RTSU is refused while LR is younger than the window (70_reset_and_hazards.md R911). A return
right after a call continues behind it with the flags it had. -/
def Obligations.CallsAndReturns : Prop :=
  (∀ (n : Reg) (d : Word) (a : VAddr) (i : BitVec 4) (s : State), ∃ link : Word,
    slice link 0 48 = s.npc ∧ slice link 52 12 = slice s.sr 4 12 ∧ slice link 50 2 = slice s.sr 26 2 ∧
    slice link 48 2 = slice s.sr 0 2 ∧
    let s' : State := { s with lr := link, lrAge := 0 }
    let r : VAddr := (getReg s n).setWidth 48
    Goes (.bsr (.disp d)) s (s.npc + 2#48 * d.setWidth 48) s' ∧
    Goes (.bsr (.reg n)) s (s.npc + 2#48 * r) s' ∧
    Goes (.bsrL n) s (s.npc + 4#48 * r) s' ∧
    Goes (.jsr n) s r s' ∧
    Goes (.jsrAbs a) s a s' ∧
    ∃ v, (∀ k, k < 64 → v.getLsbD k = if k = 22 then i.getLsbD 3 else if k = 23 then i.getLsbD 2
        else if k = 26 then i.getLsbD 1 else if k = 27 then i.getLsbD 0 else s.sr.getLsbD k) ∧
      Goes (.jsrmd i n) s r { s' with sr := v }) ∧
  (∀ (n : Reg) (s : State),
    (∃ v, (∀ k, k < 64 → v.getLsbD k =
        if k < 2 then s.lr.getLsbD (48 + k) else if 4 ≤ k ∧ k < 16 then s.lr.getLsbD (48 + k)
        else if k = 26 ∨ k = 27 then s.lr.getLsbD (24 + k) else s.sr.getLsbD k) ∧
      Goes .rts s (s.lr.setWidth 48) { s with sr := v } ∧
      (Config.rtsuWindow < s.lrAge → Goes .rtsu s (s.lr.setWidth 48) { s with sr := v })) ∧
    (s.lrAge ≤ Config.rtsuWindow → exec .rtsu s = .refused .rtsuWindow) ∧
    (jumpable s ((getReg s n).setWidth 48) → jumpable s s.npc →
      ∃ t u, exec (.jsr n) s = .next t ∧ exec .rts t = .next u ∧ u.pc = s.npc ∧ u.sr = s.sr ∧ u.regs = s.regs ∧ u.mem = s.mem))

/-! ### System instructions (47_system_ttag.md) -/

/-- Control-register moves (47_system_ttag.md R590, R591; 10_state.md R26 to R28): where the mode may, a read gives the
register's value, C0 that of the next pc, and a write leaves it there and every other control register as it was. A
write to C0 and one that would set a reserved SR bit are refused; a number with no register is undefined (decision D6). -/
def Obligations.ControlRegisterMoves : Prop :=
  ∀ (c : CReg) (m n : Reg) (s : State),
    (∀ e ∈ [(0#6, (s.npc.setWidth 64 : Word)), (1#6, s.lr), (2#6, s.sr), (3#6, s.vbr), (4#6, s.spc), (5#6, s.ssp), (6#6, s.gbr), (7#6, s.tbr),
        (8#6, s.ttb), (9#6, s.tea), (10#6, s.mmcr), (11#6, s.exsr), (12#6, s.sttb), (13#6, s.krr)],
      (supervisor s = true ∨ e.1 ∈ [0#6, 1#6, 2#6, 6#6, 7#6] → Gives (.movFromC e.1 n) n s (fun v => v = e.2))) ∧
    (1 ≤ c.toNat → c.toNat ≤ 13 → (supervisor s = true ∨ c ∈ [1#6, 6#6]) → (c = 2#6 → getReg s m &&& srReserved = 0#64) →
      ∃ t, exec (.movToC m c) s = .next t ∧ controlValue t c = some (getReg s m) ∧
        (∀ c', c' ≠ c → controlValue t c' = controlValue s c') ∧ t.regs = s.regs ∧ t.mem = s.mem ∧ t.pc = s.npc ∧
        t.tlb = s.tlb ∧ t.rbs = s.rbs) ∧
    exec (.movToC m 0#6) s = .refused .writeToPC ∧
    (supervisor s = true → getReg s m &&& srReserved ≠ 0#64 → exec (.movToC m 2#6) s = .refused .reservedSRBit) ∧
    (14 ≤ c.toNat → exec (.movToC m c) s = .next (s.trapped .undefinedInstruction none) ∧
      exec (.movFromC c n) s = .next (s.trapped .undefinedInstruction none))

/-- CPUID, SLEEP, WEXMD, the canary and sniper instructions (47_system_ttag.md R597, R600 to R604, R612, R613, R646, R647,
R650): each changes the named field alone. Index 0 is BJX2 and the profile letter A (log 5), B in the low byte (decision D2,
log 50); bits 55:32 of index 1 read 0. The version, the canary, the sniper addresses, the supported profiles and index 31 are free; the counters read the
clocks (log 12, 28, 32). A sniper address belongs to the physical line of Rm's address and is 0 where it would lie in no
ZERO or RTS page or Rm's address does not translate (log 59). None of them but WEXMD 31 looks at the mode (decision D28, log 48), and that one outside Supervisor mode is
the NOP the source's "NOP or undefined" allows (log 49). -/
def Obligations.IdentificationSleepAndCanary : Prop :=
  ∀ (m n : Reg) (i : BitVec 5) (s : State),
    Gives (.cpuid 0#5) dlr s (fun v => slice v 0 40 = 0x4132584A42#40) ∧
    Gives (.cpuid 1#5) dlr s (fun v => slice v 0 8 = Config.coreId ∧ slice v 8 24 = Config.featureBits ∧ slice v 32 24 = 0#24 ∧
      slice v 56 5 = Config.tlbRowsLog2 ∧ slice v 61 3 = Config.tlbAssocLog2) ∧
    Gives (.cpuid 28#5) dlr s (fun v => v = s.usec) ∧ Gives (.cpuid 30#5) dlr s (fun v => v = s.cycles) ∧
    GivesFree (.cpuid 31#5) 1 dlr s (fun v => v = Config.draw s.draws) ∧
    (i ∉ [0#5, 1#5, 28#5, 30#5, 31#5] → Gives (.cpuid i) dlr s (fun v => v = Config.cpuid i)) ∧
    (srBL s = false → srIPL s ≠ 0#2 → exec .sleep s = .next { s.done with sleeping := true }) ∧
    (srBL s = true ∨ srIPL s = 0#2 →
      exec .sleep s = .next (if Config.sleepFaults then s.trapped .sleepFault none else { s.done with sleeping := true })) ∧
    (let usable (x : Word) : Word := if regionOf s.map x.toNat ∈ [Config.Region.zeroPage, .rtsPage] then x else 0#64;
      (∀ pa, translateByte s .read (vaOf s (getReg s m)) = .ok pa →
        Gives (.snipedc m n) n s (fun v => v = usable (Config.snipeDC (pa / 2 ^ Config.lineBytesLog2))) ∧
        Gives (.snipeic m n) n s (fun v => v = usable (Config.snipeIC (pa / 2 ^ Config.lineBytesLog2)))) ∧
      (∀ x, translateByte s .read (vaOf s (getReg s m)) = .bad x →
        Gives (.snipedc m n) n s (fun v => v = 0#64) ∧ Gives (.snipeic m n) n s (fun v => v = 0#64))) ∧
    Gives (.vskg m n) n s (fun v => v = Config.canary s.canarySeed (getReg s m)) ∧
    (getReg s n = Config.canary s.canarySeed (getReg s m) → exec (.vskc m n) s = .next s.done) ∧
    (getReg s n ≠ Config.canary s.canarySeed (getReg s m) → exec (.vskc m n) s = .next (s.trapped .canaryCheck none)) ∧
    (i ≠ 31#5 → SetsBit (.wexmd i) 27 s (Config.wexProfileSupported i)) ∧
    (supervisor s = true → ∃ v, exec (.wexmd 31#5) s = .next { (s.drew 1).wroteSR v with canarySeed := Config.draw s.draws } ∧
      OneBit 27 false s.sr v) ∧
    (supervisor s = false → exec (.wexmd 31#5) s = .next s.done)

/-- Cache, TLB and ACL maintenance and tripwires (47_system_ttag.md R606 to R614, R645; 20_memory.md R91, R97 to R99):
INVTLB empties the TLB; LDTLB and LDXTLB insert their entry, first in first out in its row, in an interrupt handler and
break elsewhere; LDACL inserts (what it displaces is free). INVIC drops the records of the bytes of its line, or of all,
that have reached L2, so that fetch sees those bytes as memory holds them, and keeps every other record; INVDC moves the
bytes of its line, or of all, one stage on: a dirty byte is marked, a byte written back reaches L2 (log 14, which also names
both forms of -1 and -2); a line of a device is refused (log 60). An entry keeps TTB, STTB and MMCR as they were when it was
loaded (70_reset_and_hazards.md R912; log 8). SETTRAP sets the selected flags of its line's record, which it makes where there is none, and
keeps every other; whether a tripwire is in force at an access is a free bit (log 15), and where it is not the access goes on. -/
def Obligations.CacheTlbAndTripwires : Prop :=
  (∀ (n : Reg) (s : State),
    (supervisor s = true → exec .invtlb s = .next { s.done with tlb := [] }) ∧
    (supervisor s = true → exec .ldacl s = .next { s.done with acl := Config.aclInsert s.acl (getReg s dlr) }) ∧
    (inISR s = false → ∀ i ∈ [Instr.ldtlb, .ldxtlb], exec i s = .next (s.trapped .breakpoint none)) ∧
    (inISR s = true → ∀ e ∈ [(Instr.ldtlb, false, (getReg s dhr ++ getReg s dlr : BitVec 128).setWidth 256),
        (.ldxtlb, true, getReg s 7#6 ++ getReg s 6#6 ++ getReg s 5#6 ++ getReg s 4#6)],
      ∃ l row, exec e.1 s = .next { s.done with tlb := l ++ [{ row := row, ext := e.2.1, bits := e.2.2, regs := { ttb := s.ttb, sttb := s.sttb, mmcr := s.mmcr } }] } ∧
        row = Config.tlbRow e.2.1 e.2.2 % 2 ^ Config.tlbRowsLog2.toNat ∧
        (l = s.tlb ∧ (s.tlb.filter fun x => x.row == row).length < 2 ^ Config.tlbAssocLog2.toNat ∨
          ∃ old before after, old.row = row ∧ s.tlb = before ++ old :: after ∧ l = before ++ after ∧ (∀ x ∈ before, x.row ≠ row) ∧
            2 ^ Config.tlbAssocLog2.toNat ≤ (s.tlb.filter fun x => x.row == row).length)) ∧
    (let v := getReg s n
      let invic (l : List StaleByte) : Prop := exec (.invic n) s = .next { s.done with stale := l }
      let all : Prop := v = 0xFFFFFFFF#64 ∨ v = BitVec.allOnes 64
      let two : Prop := v = 0xFFFFFFFE#64 ∨ v = BitVec.allOnes 64 - 1#64
      let onward (e : StaleByte) : StaleByte := { e with stage := flushStep e.stage }
      (flushStep .dirty = .flushed ∧ flushStep .flushed = .flushed ∧ flushStep .writtenBack = .inL2 ∧ flushStep .inL2 = .inL2) ∧
      (all → invic (s.stale.filter fun e => e.stage != .inL2) ∧
        exec (.invdc n) s = .next { s.done with stale := s.stale.map onward }) ∧
      (two → exec (.invdc n) s = .next s.done) ∧
      (∀ pa, translateByte s .read (vaOf s v) = .ok pa → ¬ all → regionOf s.map pa = .mmio →
        exec (.invic n) s = .refused .mmio ∧ (¬ two → exec (.invdc n) s = .refused .mmio)) ∧
      ∀ pa, translateByte s .read (vaOf s v) = .ok pa → ¬ all → regionOf s.map pa ≠ .mmio →
        invic (s.stale.filter fun e => !(inSel (.one (lineOf pa)) e && e.stage == .inL2)) ∧
        (¬ two → exec (.invdc n) s = .next { s.done with
          stale := s.stale.map fun e => if inSel (.one (lineOf pa)) e then onward e else e })) ∧
    (∀ x, translateByte s .read (vaOf s (getReg s n)) = .bad x → getReg s n ≠ 0xFFFFFFFF#64 → getReg s n ≠ BitVec.allOnes 64 →
      exec (.invic n) s = .next s.done ∧ exec (.invdc n) s = .next s.done)) ∧
  (∀ (m n : Reg) (s : State),
    let line := lineOf (vaOf s (getReg s m))
    let mode := getReg s n
    ∃ l, exec (.settrap m n) s = .next { s.done with tripwires := l } ∧ l = setWire line (slice mode 0 4) s.tripwires ∧
      (∀ w, w.line ≠ line → (w ∈ l ↔ w ∈ s.tripwires)) ∧
      (∃ w ∈ l, w.line = line ∧ ∃ old : Tripwire, old.line = line ∧
        (old ∈ s.tripwires ∨
          (∀ x ∈ s.tripwires, x.line ≠ line) ∧ old.noRead = false ∧ old.noWrite = false ∧ old.noFetch = false) ∧
        w.noRead = (if mode.getLsbD 3 then mode.getLsbD 0 else old.noRead) ∧
        w.noFetch = (if mode.getLsbD 2 then mode.getLsbD 0 else old.noFetch) ∧
        w.noWrite = (if mode.getLsbD 1 then mode.getLsbD 0 else old.noWrite))) ∧
  (∀ (n : Reg) (a : Addr) (pa : Nat) (s : State),
    let va := vaOf s (effAddr s 1 a) % vaSpace s
    let stops (i : Instr) : Prop := exec i s = .next ((s.drew 1).trapped .tripwire (some (BitVec.ofNat 64 va)))
    let inForce := (Config.draw s.draws).getLsbD 0
    ((∃ w ∈ s.tripwires, w.line = lineOf va ∧ w.noRead = true) → translateByte s .read va = .ok pa →
      regionOf s.map pa ≠ .mmio →
      if inForce then stops (.movuB n a)
      else ∃ l, exec (.movuB n a) s = .next { (s.drew 1).wrote n ((readByte s pa).setWidth 64) with stale := l } ∧ SameOlder l s.stale) ∧
    ((∃ w ∈ s.tripwires, w.line = lineOf va ∧ w.noWrite = true) → translateByte s .write va = .ok pa →
      regionOf s.map pa ≠ .mmio →
      if inForce then stops (.movB .store n a)
      else ∃ M l, exec (.movB .store n a) s = .next { (s.drew 1).done with mem := M, stale := l } ∧ Recorded s [pa] l ∧
        (∀ b, b ≠ pa → Memory.read M b = Memory.read s.mem b) ∧
        (Memory.wf s.mem = true → Memory.read M pa = (getReg s n).setWidth 8)))

/-- The keyring (47_system_ttag.md R620 to R623; the transforms are free, log 27): LDEKRR loads KRR where it is enabled
and the decoded value is valid, and faults elsewhere; SVEKRR and LDEENC write DHR:DLR; LDEKEY takes the key from
there. Nothing else changes. The local mode transitions (47_system_ttag.md R630 to R632; 60_exceptions.md R870; which
page is secure is free): SXENTR enters Superuser mode, SUENTR User mode, SVENTR Supervisor mode, from the modes that
may in a secure page, and from Supervisor mode the first two anywhere; MD and RB change alone. Elsewhere
PrivilegeViolation (which modes may, and that fault, are decision D29). -/
def Obligations.KeyringAndModeTransitions : Prop :=
  (∀ s : State, let x : Quad := getReg s dhr ++ getReg s dlr
    let both (q : Quad) : State :=
      { s.done with regs := (s.regs.set 0 (slice q 0 64) (by decide)).set 1 (slice q 64 64) (by decide) }
    (s.ldekrrEnabled = true → exec .ldekrr s =
      .next (match Config.keyDecode s.ekey x with | some k => { s.done with krr := k } | none => s.trapped .keyFault none)) ∧
    (s.ldekrrEnabled = false → exec .ldekrr s = .next (s.trapped .keyFault none)) ∧
    exec .svekrr s = .next (both (Config.keyEncode s.ekey s.krr)) ∧
    (supervisor s = true → exec .ldeenc s = .next (both (Config.keyEncode s.ekey (getReg s dlr)))) ∧
    (supervisor s = true → ∃ b, exec .ldekey s = .next { s.done with ekey := x, ldekrrEnabled := b } ∧
      (b = true ↔ x &&& Config.ekeyLowBits ≠ 0#128))) ∧
  (∀ s : State,
    let md := s.sr.getLsbD 30
    let rb := s.sr.getLsbD 29
    let secure := Config.secureExecutePage s.pc
    let enters (i : Instr) (md' rb' : Bool) : Prop := ∃ v, exec i s = .next (s.wroteSR v) ∧
      ∀ k, k < 64 → v.getLsbD k = if k = 30 then md' else if k = 29 then rb' else s.sr.getLsbD k
    let traps (i : Instr) : Prop := exec i s = .next (s.trapped .privilegeViolation none)
    (if md || (!rb && secure) then enters .sxentr false true else traps .sxentr) ∧
    (if md || (rb && secure) then enters .suentr false false else traps .suentr) ∧
    (if !md && rb && secure then enters .sventr true false else traps .sventr))

/-! ### Tags, bounds, capabilities (47_system_ttag.md) -/

/-- Bounds checks (47_system_ttag.md R652 to R663; the bounds of R652, the arithmetic by decision D26, log 29): an index into
a bounded pointer is inside when the biased offset is at least 0 and below the bound; BNDCHK continues or raises
BoundsCheck, and a pointer tagged 0000 passes; BNDCMP sets T. The offset is the register times the element size.
Capabilities (47_system_ttag.md R648, R941, R942; the operations are free, log 30): XBLESS blesses a pair, and where
bounds are enforced outside Supervisor mode moves a pair already blessed as MOVX does and faults on one not blessed; XMOVTT
replaces both tags, and blesses the result or not or faults as the enforcement says; without the group it is the copy with its
tags replaced alone. Only the pair changes. -/
def Obligations.BoundsAndCapabilities : Prop :=
  (∀ (m n : Reg) (i : Word) (s : State),
    let p := getReg s n
    let x : Int := (getReg s m).toInt
    let tag : BitVec 4 := slice p 60 4
    let e := (slice p 51 5 : BitVec 5).toNat
    let f := (slice p 48 3 : BitVec 3).toNat
    let bound : Nat := if e = 0 then f else (8 + f) * 2 ^ (e - 1)
    let bias : Nat := (slice p 56 4 : BitVec 4).toNat * 2 ^ (e - 1)
    let inside (off : Int) : Prop := 0 ≤ off + bias ∧ off + bias < bound
    (∀ e ∈ [(Instr.bndchkB m n, x), (.bndchkW m n, x * 2), (.bndchkL m n, x * 4), (.bndchkQ m n, x * 8), (.bndchkImm i n, i.toInt)],
      (tag = 0#4 ∨ (tag = 3#4 ∧ inside e.2) → exec e.1 s = .next s.done) ∧
      (¬ (tag = 0#4 ∨ (tag = 3#4 ∧ inside e.2)) → exec e.1 s = .next (s.trapped .boundsCheck none))) ∧
    ∀ e ∈ [(Instr.bndcmpB m n, x), (.bndcmpW m n, x * 2), (.bndcmpL m n, x * 4), (.bndcmpQ m n, x * 8), (.bndcmpImm i n, i.toInt)],
      ∃ b, SetsBit e.1 0 s b ∧ (b = true ↔ ((slice p 48 16 : BitVec 16) = 0#16 ∨ (tag = 3#4 ∧ inside e.2)))) ∧
  (∀ (o : Reg) (i : BitVec 32) (pm pn : Pair) (s : State),
    let x := getPair s pm
    let tagged (v : Quad) (t : BitVec 32) : Quad := slice t 16 16 ++ (slice v 64 48 : BitVec 48) ++ slice t 0 16 ++ (slice v 0 48 : BitVec 48)
    let enforced := Config.bceEnabled s.sr
    let open' := supervisor s || !enforced
    ([pm, pn].all pairAllowed = false → exec (.xbless pm pn) s = .refused .forbiddenPair) ∧
    ([pm, pn].all pairAllowed = true →
      exec (.xbless pm pn) s = .next (if open' then s.wrotePair pn (Config.bless x)
        else if Config.isBlessed x then s.wrotePair pn x else s.trapped .xblessFault none)) ∧
    ∀ e ∈ [(Instr.xmovTTReg pm o pn, [pm, pn], x, (getReg s o).setWidth 32), (.xmovTTImm i pn, [pn], getPair s pn, i)],
      let (j, ps, v, t) := e
      (ps.all pairAllowed = false → exec j s = .refused .forbiddenPair) ∧
      (ps.all pairAllowed = true →
        match if Config.features.bce = false then some false
          else if enforced then Config.bceSetBounds v t (!supervisor s) else some true with
        | some true => exec j s = .next (s.wrotePair pn (Config.bless (tagged v t)))
        | some false => exec j s = .next (s.wrotePair pn (tagged v t))
        | none => exec j s = .next (s.trapped .xblessFault none)))

/-- Tag compares (47_system_ttag.md R668, R669, R930, R931): T alone, from the 12-bit object tag Rn[59:48] against
Rm[31:0], or from the top or bottom bits a pattern names; a pattern of ones is no pattern. Tag moves
(47_system_ttag.md R932 to R940): the tag bits replaced and the others copied, in a register or in both of a pair;
nothing else changes. MOVTT takes the high 16 bits of its register (log 45). -/
def Obligations.TagComparesAndMoves : Prop :=
  (∀ (m n : Reg) (i : BitVec 6) (s : State),
    let tag := (slice (getReg s n) 48 12 : BitVec 12).toNat
    let ref := (slice (getReg s m) 0 32 : BitVec 32).toNat
    let top (k : Nat) : Nat := (getReg s n).toNat / 2 ^ (64 - k)
    let low (k : Nat) : Nat := (getReg s n).toNat % 2 ^ k
    let pat (k : Nat) : Nat := i.toNat % 32 / 2 ^ (5 - k)
    SetsBit (.cmpTAEQ m n) 0 s (decide (tag = ref)) ∧ SetsBit (.cmpTAHI m n) 0 s (decide (ref < tag)) ∧
    SetsBit (.cmpTAHS m n) 0 s (decide (ref ≤ tag)) ∧
    (∀ e ∈ [(2, 0, 4), (4, 1, 3), (8, 3, 2), (16, 7, 1)], i.toNat % e.1 = e.2.1 →
      SetsBit (.cmpTTEQ i n) 0 s (decide ((if i.toNat < 32 then top e.2.2 else low e.2.2) = pat e.2.2))) ∧
    (i.toNat % 16 = 15 → exec (.cmpTTEQ i n) s = .next (s.trapped .undefinedInstruction none))) ∧
  (∀ (m o n : Reg) (pm pn : Pair) (x : Word) (i : BitVec 5) (s : State),
    let a := getReg s m
    let adr (v : Word) : BitVec 48 := slice v 0 48
    Gives (.convfxi m n) n s (fun v => slice v 62 2 = 1#2 ∧ (slice v 0 62 : BitVec 62) = slice a 0 62) ∧
    Gives (.convfli m n) n s (fun v => slice v 62 2 = 2#2 ∧ (slice v 0 62 : BitVec 62) = slice a 2 62) ∧
    Gives (.movST m n) n s (fun v => v.toInt = (adr a).toInt) ∧ Gives (.movZT m n) n s (fun v => v.toNat = (adr a).toNat) ∧
    GivesPair (.xmovST pm pn) [pm, pn] 0 pn s (fun v =>
      (loWord v).toInt = (adr (getReg s (pairLo pm))).toInt ∧ (hiWord v).toInt = (adr (getReg s (pairHi pm))).toInt) ∧
    GivesPair (.xmovZT pm pn) [pm, pn] 0 pn s (fun v =>
      (loWord v).toNat = (adr (getReg s (pairLo pm))).toNat ∧ (hiWord v).toNat = (adr (getReg s (pairHi pm))).toNat) ∧
    Gives (.movTTReg m o n) n s (fun v => adr v = adr a ∧ (slice v 48 16 : BitVec 16) = slice (getReg s o) 48 16) ∧
    Gives (.movTTImm m x n) n s (fun v => adr v = adr a ∧ (slice v 48 16 : BitVec 16) = slice x 0 16) ∧
    (∀ e ∈ [(2, 0, 4), (4, 1, 3), (8, 3, 2), (16, 7, 1)], i.toNat % e.1 = e.2.1 → Gives (.movTTTag m i n) n s (fun v =>
      v.toNat / 2 ^ (64 - e.2.2) = i.toNat / 2 ^ (5 - e.2.2) ∧ v.toNat % 2 ^ (64 - e.2.2) = a.toNat % 2 ^ (64 - e.2.2))) ∧
    (i.toNat % 16 = 15 → exec (.movTTTag m i n) s = .next (s.trapped .undefinedInstruction none)))

/-! ### Packed integers, moves, compares (48_gsv_media.md) -/

/-- The packed integer operations (48_gsv_media.md R684, R685, R756 to R759, R761 to R774, R775, R776; the formulas of
R764 and R773 are the spec's construction, log 53; that PMULS.W and PMULU.W read Words 0 and 1 is decision D32, log 24):
each lane of the result is its own function of the same lane of the
sources, carries staying inside the lane; nothing else changes. -/
def Obligations.PackedIntegerLanes : Prop :=
  ∀ (m o n : Reg) (s : State),
    let a := getReg s m
    let b := getReg s o
    let w (v : Word) (k : Nat) : Nat := (lane16 v k).toNat
    let l (v : Word) (k : Nat) : Nat := (lane32 v k).toNat
    let wi (v : Word) (k : Nat) : Int := (lane16 v k).toInt
    let flip (v one off : Nat) : Nat := v / one * one + (v % one / 2 + off)
    Gives (.paddW m o n) n s (fun v => Words v fun k => (w a k + w b k) % 2 ^ 16) ∧
    Gives (.paddL m o n) n s (fun v => DWords v fun k => (l a k + l b k) % 2 ^ 32) ∧
    Gives (.psubW m o n) n s (fun v => ∀ k, k < 4 → (w v k + w b k) % 2 ^ 16 = w a k) ∧
    Gives (.psubL m o n) n s (fun v => ∀ k, k < 2 → (l v k + l b k) % 2 ^ 32 = l a k) ∧
    Gives (.pmulsW m o n) n s (fun v => ∀ k, k < 2 → (lane32 v k).toInt = wi a k * wi b k) ∧
    Gives (.pmuluW m o n) n s (fun v => DWords v fun k => w a k * w b k) ∧
    Gives (.pmulsLW m o n) n s (fun v => ∀ k, k < 4 → wi v k = (wi a k * wi b k).bmod (2 ^ 16)) ∧
    Gives (.pmuluLW m o n) n s (fun v => Words v fun k => w a k * w b k % 2 ^ 16) ∧
    Gives (.pmulsHW m o n) n s (fun v => ∀ k, k < 4 → wi v k = wi a k * wi b k / 2 ^ 16) ∧
    Gives (.pmuluHW m o n) n s (fun v => Words v fun k => w a k * w b k / 2 ^ 16) ∧
    Gives (.pshalW m n) n s (fun v => ∀ k, k < 4 → wi v k = max (-32768) (min 32767 (2 * wi a k))) ∧
    Gives (.pshllW m n) n s (fun v => Words v fun k => min 65535 (2 * w a k)) ∧
    Gives (.psharW m n) n s (fun v => ∀ k, k < 4 → wi v k = wi a k / 2) ∧
    Gives (.pshlrW m n) n s (fun v => Words v fun k => w a k / 2) ∧
    Gives (.preluH m n) n s (fun v => Words v fun k => if w a k < 2 ^ 15 then w a k else 0) ∧
    Gives (.preluF m n) n s (fun v => DWords v fun k => if l a k < 2 ^ 31 then l a k else 0) ∧
    Gives (.prcpaH m n) n s (fun v => ∀ k, k < 4 → (w v k + w a k) % 2 ^ 16 = 0x77FF) ∧
    Gives (.prcpaF m n) n s (fun v => ∀ k, k < 2 → (l v k + l a k) % 2 ^ 32 = 0x7EFFFFFF) ∧
    Gives (.psqrtaH m n) n s (fun v => Words v fun k => flip (w a k) (2 ^ 15) 0x1E00) ∧
    Gives (.psqrtaF m n) n s (fun v => DWords v fun k => flip (l a k) (2 ^ 31) 0x1FC00000) ∧
    Gives (.psqrtuaH m n) n s (fun v => Words v fun k => if w a k < 2 ^ 15 then w a k / 2 + 0x1E00 else 0) ∧
    Gives (.psqrtuaF m n) n s (fun v => DWords v fun k => if l a k < 2 ^ 31 then l a k / 2 + 0x1FC00000 else 0)

/-- Partial moves, shuffles and swaps (48_gsv_media.md R674 to R683, R957 to R960, R966 to R981, R1000, R1001): where
each lane of the result comes from. PSHUF.W with Imm33 needs bits 32:16 set (log 24); PMULT is contested (log 6). -/
def Obligations.PartialMovesShufflesAndSwaps : Prop :=
  ∀ (m o n : Reg) (p q : Pair) (i : BitVec 8) (i17 : BitVec 17) (i33 : BitVec 33) (s : State),
    let a := getReg s m
    let b := getReg s o
    let d := getReg s n
    let two (h l : BitVec 32) (v : Word) : Prop := lane32 v 1 = h ∧ lane32 v 0 = l
    let pick {w : Nat} (c : BitVec w) (at' k : Nat) : Nat := (c.extractLsb' (at' + 2 * k) 2).toNat
    let tri {w : Nat} (c : Nat) (x y : BitVec w) : Prop :=
      ∀ j, j < w → y.getLsbD j = if c = 0 then false else if c = 1 then x.getLsbD j else if c = 2 then !x.getLsbD j
        else (x.getLsbD j != decide (j = w - 1))
    Gives (.movHD2 m n) n s (two (lane32 a 1) (lane32 d 0)) ∧ Gives (.movLD2 m n) n s (two (lane32 d 1) (lane32 a 0)) ∧
    Gives (.movHLD2 m n) n s (two (lane32 d 1) (lane32 a 1)) ∧ Gives (.movLHD2 m n) n s (two (lane32 a 0) (lane32 d 0)) ∧
    Gives (.movHD m o n) n s (two (lane32 a 1) (lane32 b 1)) ∧ Gives (.movLD m o n) n s (two (lane32 a 0) (lane32 b 0)) ∧
    Gives (.movHLD m o n) n s (two (lane32 a 1) (lane32 b 0)) ∧ Gives (.movLHD m o n) n s (two (lane32 a 0) (lane32 b 1)) ∧
    Gives (.movHW m o n) n s (two 0#32 (lane16 a 1 ++ lane16 b 1)) ∧ Gives (.movLW m o n) n s (two 0#32 (lane16 a 0 ++ lane16 b 0)) ∧
    Gives (.pshufB m i n) n s (fun v => ∀ k, k < 8 → lane8 v k = lane8 a (if k < 4 then pick i 0 k else k)) ∧
    Gives (.pshufW m i n) n s (fun v => ∀ k, k < 4 → lane16 v k = lane16 a (pick i 0 k)) ∧
    Gives (.pshufW17 m i17 n) n s (fun v => ∀ k, k < 4 → tri (pick i17 8 k) (lane16 a (pick i17 0 k)) (lane16 v k)) ∧
    ((∀ k, 16 ≤ k → k < 33 → i33.getLsbD k = true) →
      Gives (.pshufW33 m i33 n) n s (fun v => ∀ k, k < 4 → tri (pick i33 8 k) (lane16 a (pick i33 0 k)) (lane16 v k))) ∧
    (¬ (∀ k, 16 ≤ k → k < 33 → i33.getLsbD k = true) → exec (.pshufW33 m i33 n) s = .refused .pshufReserved) ∧
    Gives (.pmultW m i n) n s (fun v => ∀ k, k < 4 → tri (pick i 0 k) (lane16 a k) (lane16 v k)) ∧
    GivesPair (.pmultxL p i q) [p, q] 0 q s (fun v =>
      ∀ k, k < 4 → tri (pick i 0 k) ((getPair s p).extractLsb' (32 * k) 32) (v.extractLsb' (32 * k) 32)) ∧
    Gives (.swap8B m n) n s (fun v => ∀ k, k < 4 → lane8 v (2 * k) = lane8 a (2 * k + 1) ∧ lane8 v (2 * k + 1) = lane8 a (2 * k)) ∧
    (∀ e ∈ [(Instr.swapB m n, [1, 0, 3, 2]), (.swapLB m n, [1, 0, 2, 3]), (.swcpLB m n, [0, 0, 2, 3]), (.swapMB m n, [2, 1, 0, 3]),
        (.swcpMB m n, [0, 1, 0, 3]), (.swapHB m n, [3, 1, 2, 0]), (.swcpHB m n, [0, 1, 2, 0])],
      Gives e.1 n s (fun v => ∀ k, k < 8 → lane8 v k = lane8 a (e.2.getD k k))) ∧
    (∀ e ∈ [(Instr.swapW m n, [1, 0, 3, 2]), (.swapL m n, [2, 3, 0, 1]), (.swapLW m n, [1, 0, 2, 3]), (.swcpLW m n, [0, 0, 2, 3]),
        (.swapMW m n, [2, 1, 0, 3]), (.swcpMW m n, [0, 1, 0, 3]), (.swapHW m n, [3, 1, 2, 0]), (.swcpHW m n, [0, 1, 2, 0])],
      Gives e.1 n s (fun v => ∀ k, k < 4 → lane16 v k = lane16 a (e.2.getD k k)))

/-- Packed compares, selects and searches (48_gsv_media.md R690 to R704, R953 to R956, R962 to R965): Word and Half
compares write P, Q, R, O and leave T and S free, the others write T and S and leave P to O free; other SR bits keep. A
search writes T; what it writes where nothing is found is free. PDOTT is T wherever
its predicate holds exactly of the sum, a denormal taken as its own value and infinities of one sign as that infinity (log 43). -/
def Obligations.PackedComparesSelectsAndSearches : Prop :=
  ∀ (m o n : Reg) (i : BitVec 2) (s : State),
    let a := getReg s m
    let b := getReg s o
    let d := getReg s n
    let key {w : Nat} (x : BitVec w) : Int := if x.toNat < 2 ^ (w - 1) then x.toNat else (2 ^ (w - 1) : Nat) - (x.toNat : Int)
    let zeroes {w : Nat} (x y : BitVec w) : Prop := key x = 0 ∧ key y = 0 ∧ Config.pcmpZeroEq = true
    let words (j : Instr) (f : Half → Half → Prop) : Prop := ∃ w, exec j s = .next ((s.drew 1).wroteSR w) ∧
      (∀ k, k < 4 → (w.getLsbD (4 + k) = true ↔ f (lane16 d k) (lane16 a k))) ∧
      ∀ k, k = 2 ∨ k = 3 ∨ (8 ≤ k ∧ k < 64) → w.getLsbD k = s.sr.getLsbD k
    let dwords (j : Instr) (f : BitVec 32 → BitVec 32 → Prop) : Prop := ∃ w, exec j s = .next ((s.drew 1).wroteSR w) ∧
      (∀ k, k < 2 → (w.getLsbD k = true ↔ f (lane32 d k) (lane32 a k))) ∧
      ∀ k, k = 2 ∨ k = 3 ∨ (8 ≤ k ∧ k < 64) → w.getLsbD k = s.sr.getLsbD k
    let mixW (x y v : Word) : Prop := ∀ k, k < 4 → lane16 v k = if s.sr.getLsbD (4 + k) then lane16 x k else lane16 y k
    let mixL (x y v : Word) : Prop := ∀ k, k < 2 → lane32 v k = if s.sr.getLsbD k then lane32 x k else lane32 y k
    let found (j : Instr) (c : Nat) (f : Nat → Prop) : Prop := GivesT j n s (fun v t =>
      (t = true ↔ ∃ k, k < c ∧ f k) ∧ (t = true → v.toNat < c ∧ f v.toNat ∧ ∀ k, k < v.toNat → ¬ f k) ∧ (t = false → v = Config.pschNone c))
    let number (e f v : Nat) : Int := (if v < 2 ^ (e + f) then 1 else -1) *
      (if v / 2 ^ f % 2 ^ e = 0 then (v % 2 ^ f : Nat) else ((2 ^ f + v % 2 ^ f) * 2 ^ (v / 2 ^ f % 2 ^ e - 1) : Nat))
    let finite (e f v : Nat) : Prop := v / 2 ^ f % 2 ^ e ≠ 2 ^ e - 1
    let top (e f : Nat) : Nat := (if i.getLsbD 0 then 2 ^ (e + f) else 0) + (2 ^ e - 1) * 2 ^ f
    let holds (x one : Int) : Prop := match i with | 0#2 => 0 ≤ x | 1#2 => x ≤ 0 | 2#2 => one ≤ x | _ => x ≤ one
    let h (k : Nat) : Nat := (lane16 d k).toNat
    let l (k : Nat) : Nat := (lane32 d k).toNat
    words (.pcmpEQW m n) (fun x y => x = y) ∧ words (.pcmpHIW m n) (fun x y => y.toNat < x.toNat) ∧
    words (.pcmpGTW m n) (fun x y => y.toInt < x.toInt) ∧ words (.pcmpEQH m n) (fun x y => x = y ∨ zeroes x y) ∧
    words (.pcmpGTH m n) (fun x y => key y < key x) ∧
    dwords (.pcmpEQL m n) (fun x y => x = y) ∧ dwords (.pcmpHIL m n) (fun x y => y.toNat < x.toNat) ∧
    dwords (.pcmpGTL m n) (fun x y => y.toInt < x.toInt) ∧ dwords (.pcmpEQF m n) (fun x y => x = y ∨ zeroes x y) ∧
    dwords (.pcmpGTF m n) (fun x y => key y < key x) ∧
    Gives (.pcseltW m o n) n s (mixW a b) ∧ Gives (.pselTW m n) n s (mixW a d) ∧ Gives (.pselFW m n) n s (mixW d a) ∧
    Gives (.pcseltL m o n) n s (mixL a b) ∧ Gives (.pselTL m n) n s (mixL a d) ∧ Gives (.pselFL m n) n s (mixL d a) ∧
    found (.pscheqW m o n) 4 (fun k => lane16 a k = lane16 b k) ∧ found (.pschneW m o n) 4 (fun k => lane16 a k ≠ lane16 b k) ∧
    found (.pscheqB m o n) 8 (fun k => lane8 a k = lane8 b k) ∧ found (.pschneB m o n) 8 (fun k => lane8 a k ≠ lane8 b k) ∧
    (∃ t, SetsBit (.pdottH i n) 0 s t ∧ ((∀ k, k < 4 → finite 5 10 (h k)) →
      holds (number 5 10 (h 0) + number 5 10 (h 1) + number 5 10 (h 2) + number 5 10 (h 3)) (2 ^ 24) → t = true) ∧
      ((∃ k, k < 4 ∧ h k = top 5 10) → (∀ k, k < 4 → finite 5 10 (h k) ∨ h k = top 5 10) → t = true)) ∧
    (∃ t, SetsBit (.pdottF i n) 0 s t ∧ ((∀ k, k < 2 → finite 8 23 (l k)) →
      holds (number 8 23 (l 0) + number 8 23 (l 1)) (2 ^ 149) → t = true) ∧
      ((∃ k, k < 2 ∧ l k = top 8 23) → (∀ k, k < 2 → finite 8 23 (l k) ∨ l k = top 8 23) → t = true))

/-! ### Floating point (48_gsv_media.md, 49_gfp.md) -/

/-- The result model of floating point (49_gfp.md R781, R782, R785, R787, R1013 to R1015, R1024 to R1042; the tolerance as the
spec's decision D34 gives it, log 22), in exact integers: a sum, difference, product, quotient, square root,
multiply-accumulate, narrowing or converted integer, of normal values and zeros, is Inf of its sign above the largest finite
value, a zero at 0 or below the smallest normal value, else a normal value within 2 last places of the exact one (0.51 for
LongDouble, but 2 of Binary32 in modes 08 to 0B in every format). A multiply-accumulate counts the last place from the
larger of the product and the addend, so that cancellation may leave a zero; where a LongDouble sum is too coarse for
that, it is the nearest value. The integer 0 gives +0. In mode 04 the precision is two bits less, and the two bits below
are 00 exactly where the result is exact and the inputs' are 00 (of a zero and an Inf too, log 23); R782 states the mode for Double
only, and the two bits less of Single and Half, and the 78 bits of LongDouble with the mark in fraction bits 33:32, are the model's
choice (log 55). -/
def Obligations.ArithmeticStaysWithinTolerance : Prop :=
  ∀ (n : Config.FpFmt) (rm : Byte) (x y z free : Nat) (k : Int), roundingListed rm = true →
    let f : Fmt := { fmtOf n with keep := (fmtOf n).keep - if rm = 4#8 then 2 else 0 }
    let places := if 8 ≤ rm.toNat then min f.keep 23 else f.keep
    let tol := if n = .long ∧ rm.toNat < 8 then 51 else 200
    let unit := 2 ^ (f.frac - f.keep)
    let value (r : Nat) : Nat := r / unit * unit
    let largest := (2 ^ (f.keep + 1) - 1) * unit * 2 ^ (2 ^ f.exp - 3)
    let one : Int := (2 ^ fpScale f : Nat)
    -- what lies below the last place of r: nothing, or in mode 04 the status of R782
    let marked (r : Nat) (ins : List Nat) (exact : Prop) : Prop := r < 2 ^ fpWidth f ∧
      (rm ≠ 4#8 → r = value r) ∧
      (rm = 4#8 → r % (unit / 4) = 0 ∧
        (r = value r ↔ fpSpecial f r = false ∧ exact ∧ ∀ v ∈ ins, v / (unit / 4) % 4 = 0))
    -- r for the exact result (num / den) / 2^fpScale, its last place counted from big / den
    let good (mac : Prop) (r : Nat) (ins : List Nat) (num : Int) (den big : Nat) : Prop :=
      let err := (fpScaled f (value r) * den - num).natAbs
      let near := ∀ g : Nat, 2 ^ g * den ≤ big → big < 2 ^ (g + 1) * den →
        err * 100 ≤ tol * 2 ^ (g - places) * den ∨
          (n = .long ∧ ∃ h : Nat, 2 ^ h * den ≤ num.natAbs ∧ err * 2 ≤ 2 ^ (h - places) * den)
      marked r ins (fpScaled f (value r) * den = num) ∧
      (largest * den < num.natAbs → value r = fpInf f (decide (num < 0))) ∧
      (num.natAbs < 2 ^ f.frac * den → fpZero f (value r) = true ∨ mac ∧ fpNormal f (value r) = true ∧ near) ∧
      (2 ^ f.frac * den ≤ num.natAbs → num.natAbs ≤ largest * den →
        (fpNormal f (value r) = true ∨ mac ∧ fpZero f (value r) = true) ∧ near)
    let plain (op : Config.FpOp) (num : Int) (den : Nat) : Prop := good False (fpElem n op rm [x, y] free) [x, y] num den num.natAbs
    (fpPlain f x → fpPlain f y →
      let a := fpScaled f x
      let b := fpScaled f y
      plain .add (a + b) 1 ∧ plain .sub (a - b) 1 ∧ plain .mul (a * b) (2 ^ fpScale f) ∧
      (b ≠ 0 → plain .div (if b < 0 then -(a * one) else a * one) b.natAbs) ∧
      (fpPlain f z →
        let c := fpScaled f z
        ∀ e ∈ [(Config.FpOp.mac, a * b + c * one), (.mas, a * b - c * one), (.mrs, c * one - a * b), (.mra, -(a * b) - c * one)],
          good True (fpElem n e.1 rm [x, y, z] free) [x, y, z] e.2 (2 ^ fpScale f) (max (a * b).natAbs (c * one).natAbs))) ∧
    (fpPlain f x →
      let r := fpElem n .sqrt rm [x] free
      let root := fpScaled f (value r)
      let square : Int := ((fpScaled f x).natAbs : Int) * one
      marked r [x] (root * root = square) ∧ (square = 0 → fpZero f (value r) = true) ∧
      (square ≠ 0 → fpNormal f (value r) = true ∧ 0 ≤ root ∧
        ∀ g : Nat, (2 ^ g * 2 ^ g : Nat) ≤ square → square < (2 ^ (g + 1) * 2 ^ (g + 1) : Nat) →
          let t : Int := (tol * 2 ^ (g - places) : Nat)
          t ≤ 100 * root ∧ (100 * root - t) * (100 * root - t) ≤ 10000 * square ∧
            10000 * square ≤ (100 * root + t) * (100 * root + t))) ∧
    (rm = 0#8 → n = .single ∨ n = .half → fpPlain (fmtOf .double) x →
      let a := fpScaled (fmtOf .double) x
      good False (fpElemFrom .double n .convert 0#8 [x] free) [x] a (2 ^ (fpScale (fmtOf .double) - fpScale f)) a.natAbs) ∧
    (rm = 0#8 → ∀ op ∈ [Config.FpOp.fromInt, .fromUInt],
      (k = 0 → fpFromInt n op x k free = 0) ∧
      (k ≠ 0 → good False (fpFromInt n op x k free) [] (k * one) 1 (k * one).natAbs))

/-- Scalar arithmetic (49_gfp.md R792 to R828, R846 to R849, R1024 to R1045): Rn, or the pair, takes a result fpElem
allows for those operands in that order in the stated rounding mode; FSQRT keeps the sign; the approximations are free
functions. An unlisted mode is refused (R782). The only other change is a status bit that may be set (R788). -/
def Obligations.ScalarFloatingPointArithmetic : Prop :=
  ∀ (m o p n : Reg) (x y z q : Pair) (src : FSrc) (r : Byte) (s : State),
    let a := getReg s m
    let b := getReg s o
    let c := match src with | .reg k => getReg s k | .imm v => v
    let abs (v : Word) : Nat := v.toNat % 2 ^ 63
    let top (v : Quad) : Quad := (v.extractLsb' 32 96 : BitVec 96) ++ 0#32
    let dyn : Byte := (s.gbr.extractLsb' 48 4).setWidth 8
    let single (i : Instr) (op : Config.FpOp) (rm : Byte) (ins : List Word) : Prop :=
      (roundingListed rm = true → GivesFp i 1 n s (fun v => IsElem .double op rm (ins.map BitVec.toNat) v)) ∧
      (roundingListed rm = false → exec i s = .refused .roundingMode)
    let pair (i : Instr) (ps : List Pair) (op : Config.FpOp) (rm : Byte) (ins : List Pair) : Prop :=
      (ps.all pairAllowed = true → roundingListed rm = true →
        GivesFpPair i 2 q s (fun v => IsElem .long op rm (ins.map fun k => (getPair s k).toNat) v)) ∧
      (ps.all pairAllowed = true → roundingListed rm = false → exec i s = .refused .roundingMode) ∧
      (ps.all pairAllowed = false → exec i s = .refused .forbiddenPair)
    (single (.fadd m src n r) .add r [a, c] ∧ single (.fsub m src n r) .sub r [a, c] ∧ single (.fmul m src n r) .mul r [a, c]) ∧
    (single (.faddg m o n) .add dyn [a, b] ∧ single (.fsubg m o n) .sub dyn [a, b] ∧ single (.fmulg m o n) .mul dyn [a, b]) ∧
    (single (.fadda m src n) .add Config.faddaMode [a, c] ∧ single (.fsuba m o n) .sub Config.faddaMode [a, b] ∧
      single (.fmula m src n) .mul Config.faddaMode [a, c]) ∧
    (pair (.faddx x y q r) [x, y, q] .add r [x, y] ∧ pair (.fsubx x y q r) [x, y, q] .sub r [x, y] ∧
      pair (.fmulx x y q r) [x, y, q] .mul r [x, y]) ∧
    single (.fdiv m o n) .div 0#8 [a, b] ∧ pair (.fdivx x y q) [x, y, q] .div 0#8 [x, y] ∧
    (∀ e ∈ [(Instr.fmac m o p n, Instr.fmacx x y z q, Config.FpOp.mac), (.fmas m o p n, .fmasx x y z q, .mas),
        (.fmrs m o p n, .fmrsx x y z q, .mrs), (.fmra m o p n, .fmrax x y z q, .mra)],
      single e.1 e.2.2 0#8 [a, b, getReg s p] ∧ pair e.2.1 [x, y, z, q] e.2.2 0#8 [x, y, z]) ∧
    GivesFp (.fsqrt m n) 1 n s (fun v => v.getLsbD 63 = a.getLsbD 63 ∧
      ∃ u : Word, IsElem .double .sqrt 0#8 [abs a] u ∧ abs v = abs u) ∧
    ([x, q].all pairAllowed = true → GivesFpPair (.fsqrtx x q) 2 q s (fun v => v.getLsbD 127 = (getPair s x).getLsbD 127 ∧
      ∃ u : Quad, IsElem .long .sqrt 0#8 [(getPair s x).toNat % 2 ^ 127] u ∧ v.toNat % 2 ^ 127 = u.toNat % 2 ^ 127)) ∧
    ([x, q].all pairAllowed = false → exec (.fsqrtx x q) s = .refused .forbiddenPair) ∧
    Gives (.fdiva m o n) n s (fun v => v = Config.fdivApprox a b) ∧
    GivesPair (.fdivxa x y q) [x, y, q] 0 q s (fun v => v = top (Config.fdivApproxX (top (getPair s x)) (top (getPair s y)))) ∧
    Gives (.fsqrta m n) n s (fun v => v.getLsbD 63 = a.getLsbD 63 ∧ abs v = abs (Config.fsqrtApprox a)) ∧
    GivesPair (.fsqrtxa x q) [x, q] 0 q s (fun v => v.getLsbD 127 = (getPair s x).getLsbD 127 ∧
      v.toNat % 2 ^ 127 = (top (Config.fsqrtApproxX (top (getPair s x)))).toNat % 2 ^ 127)

/-- Sign operations, minimum, maximum and compares (49_gfp.md R790, R791, R800, R801, R829 to R845): the order of signed
magnitudes; a NaN clears T of FCMPEQ and leaves T of the others free, and a selection gives one of its operands. Zeros of
either sign are equal (R830's default), and the 32 low bits of a LongDouble take no part (log 55). The model's choice (log 22):
a non-zero denormal, which R780 leaves open, takes part in every compare with the tiny value its bits stand for, and FMIN and
FMAX order an Inf beyond every finite value of its sign. Nothing but the register, or T, changes. -/
def Obligations.FloatingPointOrderAndSign : Prop :=
  ∀ (m o n : Reg) (src : FSrc) (x : Word) (p q : Pair) (s : State),
    let a := getReg s m
    let b := getReg s o
    let c := match src with | .reg k => getReg s k | .imm v => v
    let d := getReg s n
    let key (one v : Nat) : Int := if v < one then v else one - (v : Int)
    let k64 (v : Word) : Int := key (2 ^ 63) v.toNat
    let nan (v : Word) : Prop := v.extractLsb' 52 11 = 0x7FF#11 ∧ v.extractLsb' 0 52 ≠ 0#52
    let sure (v : Word) : Prop := v.extractLsb' 52 11 = 0x7FF#11 ∧ v.extractLsb' 48 4 ≠ 0#4
    let cut (v : Quad) : Nat := v.toNat / 2 ^ 32
    let k96 (v : Quad) : Int := key (2 ^ 95) (cut v)
    let nanX (v : Quad) : Prop := v.extractLsb' 112 15 = 0x7FFF#15 ∧ v.extractLsb' 32 80 ≠ 0#80
    let sureX (v : Quad) : Prop := v.extractLsb' 112 15 = 0x7FFF#15 ∧ v.extractLsb' 108 4 ≠ 0#4
    let test (i : Instr) (P : Bool → Prop) : Prop := ∃ t w, exec i s = .next ((s.drew 1).wroteSR w) ∧ OneBit 0 t s.sr w ∧ P t
    Gives (.fabs m n) n s (fun v => ∀ k, k < 64 → v.getLsbD k = (decide (k ≠ 63) && a.getLsbD k)) ∧
    Gives (.fneg m n) n s (fun v => ∀ k, k < 64 → v.getLsbD k = (decide (k = 63) != a.getLsbD k)) ∧
    GivesFree (.fmin m o n) 1 n s (fun v => (v = a ∨ v = b) ∧ (¬ nan a → ¬ nan b → k64 v ≤ k64 a ∧ k64 v ≤ k64 b)) ∧
    GivesFree (.fmax m o n) 1 n s (fun v => (v = a ∨ v = b) ∧ (¬ nan a → ¬ nan b → k64 a ≤ k64 v ∧ k64 b ≤ k64 v)) ∧
    test (.fcmpEQ src n) (fun t => (sure d ∨ sure c → t = false) ∧ (¬ nan d → ¬ nan c → (t = true ↔ k64 d = k64 c))) ∧
    test (.fcmpGE x n) (fun t => ¬ nan d → ¬ nan x → (t = true ↔ k64 x ≤ k64 d)) ∧
    test (.fcmpGT src n) (fun t => ¬ nan d → ¬ nan c → (t = true ↔ k64 c < k64 d)) ∧
    ([p, q].all pairAllowed = true →
      test (.fcmpXEQ p q) (fun t => (sureX (getPair s q) ∨ sureX (getPair s p) → t = false) ∧
        (¬ nanX (getPair s q) → ¬ nanX (getPair s p) → (t = true ↔ k96 (getPair s q) = k96 (getPair s p)))) ∧
      test (.fcmpXGT p q) (fun t => ¬ nanX (getPair s q) → ¬ nanX (getPair s p) → (t = true ↔ k96 (getPair s p) < k96 (getPair s q)))) ∧
    ([p, q].all pairAllowed = false → exec (.fcmpXEQ p q) s = .refused .forbiddenPair ∧ exec (.fcmpXGT p q) s = .refused .forbiddenPair)

/-- Load and store conversions and PCONV (49_gfp.md R833, R834, R1010 to R1023, R1046 to R1050; PCONV is dropped and has no
encoding, log 44): widening and 32-bit integers are exact, 64-bit integers and narrowing take a result fpElem allows (log
22), FSTCI truncates a normal value or a zero, and is free out of range and for a denormal, a NaN or an Inf. The extended immediate
of FLDCH, whose 24 more bits stand below the fraction and are ignored where the exponent is 0, is the model's choice
(log 17). -/
def Obligations.FloatingPointConversions : Prop :=
  ∀ (m n : Reg) (h : BitVec 40) (f : BitVec 32) (i : BitVec 8) (p q : Pair) (s : State),
    let a := getReg s m
    let ofS (x : BitVec 32) (v : Word) : Prop := let e := x.toNat / 2 ^ 23 % 2 ^ 8
      v.toNat = x.toNat / 2 ^ 31 * 2 ^ 63 + (if e = 0 then 0 else if e = 255 then 2047 else e + 896) * 2 ^ 52 + x.toNat % 2 ^ 23 * 2 ^ 29
    let ofH (x : Half) (v : Word) : Prop := let e := x.toNat / 2 ^ 10 % 2 ^ 5
      v.toNat = x.toNat / 2 ^ 15 * 2 ^ 63 + (if e = 0 then 0 else if e = 31 then 2047 else e + 1008) * 2 ^ 52 + x.toNat % 2 ^ 10 * 2 ^ 42
    let exact (z : Int) (v : Word) : Prop := fpPlain (fmtOf .double) v.toNat ∧ fpScaled (fmtOf .double) v.toNat = z * (2 ^ 1074 : Nat) ∧ (z = 0 → v = 0#64)
    let near (op : Config.FpOp) (z : Int) (v : Word) : Prop := ∃ free, v = BitVec.ofNat 64 (fpFromInt .double op a.toNat z free)
    let e := a.toNat / 2 ^ 52 % 2 ^ 11
    let whole : Nat := 2 ^ 52 + a.toNat % 2 ^ 52
    let kind (c : BitVec 4) : Nat := if c = 7#4 ∨ c = 11#4 ∨ c = 15#4 then 0 else
      match (c.extractLsb' 0 2 : BitVec 2) with | 0#2 => 16 | 1#2 => 32 | 2#2 => 64 | _ => 128
    let ok (bits : Nat) : Prop := let x := kind (i.extractLsb' 0 4)
      let y := kind (i.extractLsb' 4 4)
      x ≠ 0 ∧ y ≠ 0 ∧ 1 ≤ min (bits / x) (bits / y) ∧ min (bits / x) (bits / y) ≤ 4
    Gives (.fldcf m n) n s (ofS (lane32 a 0)) ∧ Gives (.fldchf m n) n s (ofS (lane32 a 1)) ∧ Gives (.fldch m n) n s (ofH (lane16 a 0)) ∧
    Gives (.fldchImm h n) n s (fun v => ∃ w : Word, ofH (h.extractLsb' 24 16) w ∧
      v.toNat = w.toNat + if h.toNat / 2 ^ 34 % 2 ^ 5 = 0 then 0 else h.toNat % 2 ^ 24 * 2 ^ 18) ∧ Gives (.fldcfImm f n) n s (ofS f) ∧
    GivesFp (.fldci m n) 1 n s (near .fromInt a.toInt) ∧ GivesFp (.fldciu m n) 1 n s (near .fromUInt a.toNat) ∧
    Gives (.fldcisL m n) n s (exact (lane32 a 0).toInt) ∧ Gives (.fldciuL m n) n s (exact (lane32 a 0).toNat) ∧
    GivesFp (.fstcf m n) 1 n s (fun v => v.toNat < 2 ^ 32 ∧ ∃ free, lane32 v 0 = BitVec.ofNat 32 (fpElemFrom .double .single .convert 0#8 [a.toNat] free)) ∧
    GivesFp (.fstchf m n) 1 n s (fun v => lane32 v 0 = lane32 (getReg s n) 0 ∧
      ∃ free, lane32 v 1 = BitVec.ofNat 32 (fpElemFrom .double .single .convert 0#8 [a.toNat] free)) ∧
    GivesFp (.fstch m n) 1 n s (fun v => v.toNat < 2 ^ 16 ∧ ∃ free, lane16 v 0 = BitVec.ofNat 16 (fpElemFrom .double .half .convert 0#8 [a.toNat] free)) ∧
    (e < 1086 → (e = 0 → a.toNat % 2 ^ 52 = 0) → Gives (.fstci m n) n s (fun v => v.toInt = (if a.getLsbD 63 then -1 else 1) *
      (if e < 1023 then 0 else if e < 1075 then whole / 2 ^ (1075 - e) else whole * 2 ^ (e - 1075) : Nat))) ∧
    (1086 ≤ e ∨ (e = 0 ∧ a.toNat % 2 ^ 52 ≠ 0) → GivesFree (.fstci m n) 1 n s (fun v => v = Config.draw s.draws)) ∧
    (ok 64 → GivesFree (.pconv m i n) 1 n s (fun v => ∃ free, some v.toNat = convLanes (i.extractLsb' 0 4) (i.extractLsb' 4 4) 64 a.toNat free)) ∧
    (¬ ok 64 → exec (.pconv m i n) s = .next (s.trapped .undefinedInstruction none)) ∧
    (ok 128 → GivesPair (.pconvx p i q) [p, q] 2 q s (fun v => ∃ free, some v.toNat = convLanes (i.extractLsb' 0 4) (i.extractLsb' 4 4) 128 (getPair s p).toNat free)) ∧
    ([p, q].all pairAllowed = true → ¬ ok 128 → exec (.pconvx p i q) s = .next (s.trapped .undefinedInstruction none))

/-- Packed floating point (48_gsv_media.md R672, R684 to R689, R750 to R755, R775 to R779, R950 to R952, R982 to R999; 49_gfp.md
R1034 to R1041): each lane takes a result fpElem allows for the lanes of the sources, by default in mode 01 (log 24). The
shuffled forms choose lanes by 2-bit selectors, the vector immediates hold one short float a lane. Besides the destination
only the sticky status bits may gather more (R788, log 23). -/
def Obligations.PackedFloatingPointLanes : Prop :=
  ∀ (m o p n : Reg) (x y z q : Pair) (r : Byte) (i : BitVec 11) (v56 : BitVec 56) (s : State),
    let w (k : Reg) (j : Nat) : Nat := (lane16 (getReg s k) j).toNat
    let l (k : Reg) (j : Nat) : Nat := (lane32 (getReg s k) j).toNat
    let lx (k : Pair) (j : Nat) : Nat := ((getPair s k).extractLsb' (32 * j) 32).toNat
    let dx (k : Pair) (j : Nat) : Nat := ((getPair s k).extractLsb' (64 * j) 64).toNat
    let H (op : Config.FpOp) (ins : Nat → List Nat) (v : Word) : Prop := ∀ j, j < 4 → IsElem .half op 1#8 (ins j) (lane16 v j)
    let F (op : Config.FpOp) (rm : Byte) (ins : Nat → List Nat) (v : Word) : Prop := ∀ j, j < 2 → IsElem .single op rm (ins j) (lane32 v j)
    let X (op : Config.FpOp) (rm : Byte) (ins : Nat → List Nat) (v : Quad) : Prop :=
      ∀ j, j < 4 → IsElem .single op rm (ins j) (v.extractLsb' (32 * j) 32)
    let D (op : Config.FpOp) (ins : Nat → List Nat) (v : Quad) : Prop := ∀ j, j < 2 → IsElem .double op 1#8 (ins j) (v.extractLsb' (64 * j) 64)
    let sel (b j : Nat) : Nat := if i.getLsbD b then (i.extractLsb' (2 * j) 2).toNat else j
    let wide (x : Half) : Nat := let e := x.toNat / 2 ^ 10 % 2 ^ 5
      x.toNat / 2 ^ 15 * 2 ^ 31 + (if e = 0 then 0 else if e = 31 then 255 else e + 112) * 2 ^ 23 + x.toNat % 2 ^ 10 * 2 ^ 13
    let im (j : Nat) : Half := v56.extractLsb' (14 * j) 14 ++ 0#2
    let ims (j : Nat) : Half := v56.extractLsb' (14 * j + 2) 12 ++ 0#4
    let at' (j : Nat) : Nat := (v56.extractLsb' (14 * j) 2).toNat
    let f8 (k : Reg) (j : Nat) : Nat := let b := (lane8 (getReg s k) j).toNat
      if b = 0 then 0 else b / 128 * 2 ^ 15 + (b / 8 % 16 + 8) * 2 ^ 10 + b % 8 * 2 ^ 7
    (∀ e ∈ [(Instr.paddH m o n, Config.FpOp.add), (.psubH m o n, .sub), (.pmulH m o n, .mul)],
      GivesFp e.1 4 n s (H e.2 fun j => [w m j, w o j])) ∧
    (∀ e ∈ [(Instr.paddF m o n, Config.FpOp.add), (.psubF m o n, .sub), (.pmulF m o n, .mul)],
      GivesFp e.1 2 n s (F e.2 1#8 fun j => [l m j, l o j])) ∧
    (∀ e ∈ [(Instr.paddxF x y q, Config.FpOp.add), (.psubxF x y q, .sub), (.pmulxF x y q, .mul)],
      GivesPairFp e.1 [x, y, q] 4 q s (X e.2 1#8 fun j => [lx x j, lx y j])) ∧
    (∀ e ∈ [(Instr.paddxD x y q, Config.FpOp.add), (.psubxD x y q, .sub), (.pmulxD x y q, .mul)],
      GivesPairFp e.1 [x, y, q] 2 q s (D e.2 fun j => [dx x j, dx y j])) ∧
    (∀ e ∈ [(Instr.paddXrm m o n r, Instr.paddxXrm x y q r, Config.FpOp.add), (.pmulXrm m o n r, .pmulxXrm x y q r, .mul)],
      (roundingListed r = true → GivesFp e.1 2 n s (F e.2.2 r fun j => [l m j, l o j]) ∧
        GivesPairFp e.2.1 [x, y, q] 4 q s (X e.2.2 r fun j => [lx x j, lx y j])) ∧
      (roundingListed r = false → exec e.1 s = .refused .roundingMode ∧ exec e.2.1 s = .refused .roundingMode)) ∧
    (∀ e ∈ [(Instr.paddshH m o i n, Instr.paddshxX x y i q, Config.FpOp.add), (.psubshH m o i n, .psubshxX x y i q, .sub),
        (.pmulshH m o i n, .pmulshxX x y i q, .mul)],
      GivesFp e.1 4 n s (H e.2.2 fun j => [w m (sel 9 j), w o (sel 10 j)]) ∧
      GivesPairFp e.2.1 [x, y, q] 4 q s (X e.2.2 1#8 fun j => [lx x (sel 9 j), lx y (sel 10 j)])) ∧
    (∀ e ∈ [(Instr.paddHV m v56 n, Instr.paddFV x v56 q, Config.FpOp.add), (.pmulHV m v56 n, .pmulFV x v56 q, .mul)],
      GivesFp e.1 4 n s (H e.2.2 fun j => [w m j, (im j).toNat]) ∧
      GivesPairFp e.2.1 [x, q] 4 q s (X e.2.2 1#8 fun j => [lx x j, wide (im j)])) ∧
    (∀ e ∈ [(Instr.paddshHV m v56 n, Instr.paddshFV x v56 q, Config.FpOp.add), (.pmulshHV m v56 n, .pmulshFV x v56 q, .mul)],
      GivesFp e.1 4 n s (H e.2.2 fun j => [w m (at' j), (ims j).toNat]) ∧
      GivesPairFp e.2.1 [x, q] 4 q s (X e.2.2 1#8 fun j => [lx x (at' j), wide (ims j)])) ∧
    GivesFp (.pmacshHV m v56 n) 4 n s (H .mac fun j => [w m (at' j), (ims j).toNat, w n j]) ∧
    GivesPairFp (.pmacshFV x v56 q) [x, q] 4 q s (X .mac 1#8 fun j => [lx x (at' j), wide (ims j), lx q j]) ∧
    GivesFp (.pmulF8H m o n) 4 n s (H .mul fun j => [f8 m j, f8 o j]) ∧
    (∀ e ∈ [(Instr.pmacH m o p n, Instr.pmacF x y z q, Config.FpOp.mac), (.pmasH m o p n, .pmasF x y z q, .mas),
        (.pmrsH m o p n, .pmrsF x y z q, .mrs), (.pmraH m o p n, .pmraF x y z q, .mra)],
      GivesFp e.1 4 n s (H e.2.2 fun j => [w m j, w o j, w p j]) ∧
      GivesPairFp e.2.1 [x, y, z, q] 4 q s (X e.2.2 1#8 fun j => [lx x j, lx y j, lx z j]))

/-- Packed conversions (48_gsv_media.md R705 to R718; 49_gfp.md R1051 to R1069): the fields of each lane of the result as
numbers of the fields of its source; the 8-bit floats saturate above their range and are 0 below it (decision D32, log 24),
and PCVT to integers takes the fraction bits whatever the exponent is (log 53). PSTC.H truncates, and is free where the
source is special or denormal (R711, log 53); it alone may gather sticky status bits (R787, R788, log 23). The lowest binade of A-Law is free (R1068, R1069, log 53). -/
def Obligations.PackedConversions : Prop :=
  ∀ (m n : Reg) (i : BitVec 32) (s : State),
    let a := getReg s m
    let w (k : Nat) : Nat := (lane16 a k).toNat
    let l (k : Nat) : Nat := (lane32 a k).toNat
    let b (k : Nat) : Nat := (lane8 a k).toNat
    let ex (h : Nat) : Nat := h / 2 ^ 10 % 2 ^ 5
    let half (g e f : Nat) : Nat := g * 2 ^ 15 + e * 2 ^ 10 + f
    let wide (h : Nat) : Nat :=
      h / 2 ^ 15 * 2 ^ 31 + (if ex h = 0 then 0 else if ex h = 31 then 255 else ex h + 112) * 2 ^ 23 + h % 2 ^ 10 * 2 ^ 13
    let fp8s (x : Nat) : Nat := if x / 2 = 0 then 0 else half (x % 2) (x / 16 + 8) (x / 2 % 8 * 2 ^ 7)
    let fp8u (x : Nat) : Nat := if x = 0 then 0 else half 0 (x / 16 + 8) (x % 16 * 2 ^ 6)
    let byte (k : Nat) : Nat := i.toNat / 2 ^ (8 * k) % 2 ^ 8
    let flip8 (x : Nat) : Nat := (x + 2 ^ 7) % 2 ^ 8
    let flip16 (x : Nat) : Nat := (x + 2 ^ 15) % 2 ^ 16
    Gives (.pstcF8H m n) n s (fun v => LowBytes v fun k => let h := w k
      if ex h < 8 then 0 else h / 2 ^ 15 * 2 ^ 7 + if 23 < ex h then 127 else (ex h - 8) * 8 + h % 2 ^ 10 / 2 ^ 7) ∧
    Gives (.pldcF8H m n) n s (fun v => Words v fun k => if b k = 0 then 0 else half (b k / 2 ^ 7) (b k / 8 % 16 + 8) (b k % 8 * 2 ^ 7)) ∧
    Gives (.pldcH m n) n s (fun v => DWords v fun k => wide (w k)) ∧ Gives (.pldcHH m n) n s (fun v => DWords v fun k => wide (w (k + 2))) ∧
    Gives (.pldcEHL m n) n s (fun v => DWords v fun k => wide (w k) + a.toNat / 2 ^ (48 + 5 * k) % 2 ^ 5 * 2 ^ 8) ∧
    Gives (.pldcEHH m n) n s (fun v => v.toNat = wide (w 2) + a.toNat / 2 ^ 58 % 2 ^ 5 * 2 ^ 8) ∧
    GivesFp (.pstcH m n) 2 n s (fun v => v.toNat < 2 ^ 32 ∧ ∀ k, k < 2 → let x := l k
      let e := x / 2 ^ 23 % 2 ^ 8
      let h := (lane16 v k).toNat
      let big : Prop := 142 < e ∨ (e = 142 ∧ 0x7FE000 < x % 2 ^ 23)
      (112 < e → ¬ big → h = half (x / 2 ^ 31) (e - 112) (x % 2 ^ 23 / 2 ^ 13)) ∧
      (big → e ≠ 255 → h = half (x / 2 ^ 31) 31 0) ∧ (e ≤ 112 → (e = 0 → x % 2 ^ 23 = 0) → h % 2 ^ 15 = 0)) ∧
    Gives (.pldcHImm i n) n s (fun v => DWords v fun k => wide (i.toNat / 2 ^ (16 * k) % 2 ^ 16)) ∧
    Gives (.pldcM8SH m n) n s (fun v => Words v fun k => fp8s (b k)) ∧ Gives (.pldcM8UH m n) n s (fun v => Words v fun k => fp8u (b k)) ∧
    Gives (.pldcM8SHImm i n) n s (fun v => Words v fun k => fp8s (byte k)) ∧ Gives (.pldcM8UHImm i n) n s (fun v => Words v fun k => fp8u (byte k)) ∧
    Gives (.pstcM8SH m n) n s (fun v => LowBytes v fun k => let h := w k
      if ex h < 8 then 0 else h / 2 ^ 15 + if 23 < ex h then 254 else 2 * ((ex h - 8) * 8 + h % 2 ^ 10 / 2 ^ 7)) ∧
    Gives (.pstcM8UH m n) n s (fun v => LowBytes v fun k => let h := w k
      if 2 ^ 15 ≤ h ∨ ex h < 8 then 0 else if 23 < ex h then 255 else (ex h - 8) * 16 + h % 2 ^ 10 / 2 ^ 6) ∧
    (∀ e ∈ [(Instr.pcvtSB2HL m n, 0), (.pcvtSB2HH m n, 4)], Gives e.1 n s (fun v => Words v fun k => 0x4000 + 4 * flip8 (b (e.2 + k)))) ∧
    (∀ e ∈ [(Instr.pcvtUB2HL m n, 0), (.pcvtUB2HH m n, 4)], Gives e.1 n s (fun v => Words v fun k => 0x3C00 + 4 * b (e.2 + k))) ∧
    (∀ e ∈ [(Instr.pcvtSW2FL m n, 0), (.pcvtSW2FH m n, 2)], Gives e.1 n s (fun v => DWords v fun k => 0x40000000 + 128 * flip16 (w (e.2 + k)))) ∧
    (∀ e ∈ [(Instr.pcvtUW2FL m n, 0), (.pcvtUW2FH m n, 2)], Gives e.1 n s (fun v => DWords v fun k => 0x3F800000 + 128 * w (e.2 + k))) ∧
    Gives (.pcvtH2SB m n) n s (fun v => LowBytes v fun k => flip8 (w k / 4)) ∧ Gives (.pcvtH2UB m n) n s (fun v => LowBytes v fun k => w k / 4 % 2 ^ 8) ∧
    Gives (.pcvtSW2H m n) n s (fun v => Words v fun k => 0x4000 + flip16 (w k) / 64) ∧ Gives (.pcvtUW2H m n) n s (fun v => Words v fun k => 0x3C00 + w k / 64) ∧
    Gives (.pcvtF2SW m n) n s (fun v => v.toNat < 2 ^ 32 ∧ ∀ k, k < 2 → (lane16 v k).toNat = flip16 (l k / 128)) ∧
    Gives (.pcvtF2UW m n) n s (fun v => v.toNat < 2 ^ 32 ∧ ∀ k, k < 2 → (lane16 v k).toNat = l k / 128 % 2 ^ 16) ∧
    Gives (.pcvtH2SW m n) n s (fun v => Words v fun k => flip16 (w k * 64)) ∧ Gives (.pcvtH2UW m n) n s (fun v => Words v fun k => w k * 64 % 2 ^ 16) ∧
    Gives (.pcvtH2AL m n) n s (fun v => LowBytes v fun k => let h := w k
      if ex h = 7 then (Config.alawEncodeLow (lane16 a k)).toNat else if ex h < 7 then (if Config.alawTinySigned then h / 2 ^ 15 * 2 ^ 7 else 0)
      else h / 2 ^ 15 * 2 ^ 7 + if 15 ≤ ex h then 127 else (ex h - 7) * 16 + h % 2 ^ 10 / 2 ^ 6) ∧
    Gives (.pcvtAL2H m n) n s (fun v => Words v fun k =>
      if b k / 16 % 8 = 0 then (Config.alawDecodeLow (lane8 a k)).toNat else half (b k / 2 ^ 7) (b k / 16 % 8 + 7) (b k % 16 * 2 ^ 6))

/-! ### Pixels and blocks (48_rgb_blocks.md) -/

/-- The pixel instructions (48_rgb_blocks.md R720 to R738; the order of the components, A highest, is decision D33, and the
layout PSTCM30AH writes is its default 00, log 25): components packed, unpacked, halved, interleaved, and the darkest and brightest of four by a free luminance. Nothing else changes. -/
def Obligations.PixelFormats : Prop :=
  ∀ (m o n : Reg) (s : State),
    let a := getReg s m
    let w (k : Nat) : Nat := (lane16 a k).toNat
    let b (k : Nat) : Nat := (lane8 a k).toNat
    let bit (x k : Nat) : Nat := x / 2 ^ k % 2
    let comp (p k : Nat) : Nat := if k = 3 then (if p < 2 ^ 15 then 255 else 128 * bit p 10 + 64 * bit p 5 + 32 * bit p 0)
      else 8 * (p / 2 ^ (5 * k) % 32) + p / 2 ^ (5 * k) % 32 / 4
    let pack (c : Nat → Nat) : Nat := if c 3 / 16 = 15 then c 2 / 8 * 2 ^ 10 + c 1 / 8 * 2 ^ 5 + c 0 / 8
      else 2 ^ 15 + c 2 / 16 * 2 ^ 11 + bit (c 3) 7 * 2 ^ 10 + c 1 / 16 * 2 ^ 6 + bit (c 3) 6 * 2 ^ 5 + c 0 / 16 * 2 + bit (c 3) 5
    let half (g e f : Nat) : Nat := g * 2 ^ 15 + e * 2 ^ 10 + f
    let luma (k : Nat) : Nat := Config.rgb5Luma (lane16 a k)
    let sel (k : Nat) : Nat := (Config.rgb5Classify (lane16 a k) (lane16 (getReg s o) 1) (lane16 (getReg s o) 0)).toNat
    Gives (.rgb5upck32 m n) n s (fun v => ∀ j, j < 8 → (lane8 v j).toNat = comp (w (j / 4)) (j % 4)) ∧
    Gives (.rgb5upck64 m n) n s (fun v => Words v fun k => 257 * comp (w 0) k) ∧
    Gives (.rgb5pck32 m n) n s (fun v => v.toNat = pack (fun k => b (4 + k)) * 2 ^ 16 + pack b) ∧
    Gives (.rgb5pck64 m n) n s (fun v => v.toNat = pack fun k => w k / 2 ^ 8) ∧
    Gives (.rgb32pck64 m n) n s (fun v => LowBytes v fun k => w k / 2 ^ 8) ∧ Gives (.rgb32upck64 m n) n s (fun v => Words v fun k => 257 * b k) ∧
    Gives (.rgb5shr1 m n) n s (fun v => Words v fun k => (w k / 2 ^ 10 % 32 / 2) * 2 ^ 10 + (w k / 2 ^ 5 % 32 / 2) * 2 ^ 5 + w k % 32 / 2) ∧
    Gives (.rgb5minmax m n) n s (fun v => v.toNat < 2 ^ 32 ∧ ∃ i j, i < 4 ∧ j < 4 ∧ lane16 v 1 = lane16 a i ∧ lane16 v 0 = lane16 a j ∧
      ∀ k, k < 4 → luma i ≤ luma k ∧ luma k ≤ luma j) ∧
    Gives (.rgb5ccenc m o n) n s (fun v =>
      v.toNat = ((getReg s n).toNat * 2 ^ 8 + sel 3 * 2 ^ 6 + sel 2 * 2 ^ 4 + sel 1 * 2 ^ 2 + sel 0) % 2 ^ 32) ∧
    Gives (.rgb5pcki8 m n) n s (fun v => LowBytes v fun k => let c := (Config.rgb5ToIndex8 (lane16 a k)).toNat
      if c / 2 % 8 = 1 then c - 2 else c) ∧
    Gives (.rgb5sh3 m n) n s (fun v => ∀ k, k < 4 → (lane16 v k).getLsbD 15 = (lane16 a k).getLsbD 15 ∧ ∀ i, i < 5 →
      (lane16 v k).getLsbD (3 * i) = (lane16 a k).getLsbD i ∧ (lane16 v k).getLsbD (3 * i + 1) = (lane16 a k).getLsbD (10 + i) ∧
      (lane16 v k).getLsbD (3 * i + 2) = (lane16 a k).getLsbD (5 + i)) ∧
    Gives (.rgb5ush3 m n) n s (fun v => ∀ k, k < 4 → (lane16 v k).getLsbD 15 = (lane16 a k).getLsbD 15 ∧ ∀ i, i < 5 →
      (lane16 a k).getLsbD (3 * i) = (lane16 v k).getLsbD i ∧ (lane16 a k).getLsbD (3 * i + 1) = (lane16 v k).getLsbD (10 + i) ∧
      (lane16 a k).getLsbD (3 * i + 2) = (lane16 v k).getLsbD (5 + i)) ∧
    Gives (.pldcm30ah m n) n s (fun v => Words v fun k =>
      if a.getLsbD 31 then
        let f := a.toNat / 2 ^ (match k with | 0 => 0 | 1 => 7 | 2 => 15 | _ => 22) % 2 ^ (7 + k % 2)
        if a.getLsbD 30 then (if f / 2 = 0 then 0 else half (f % 2) (f / 2 / 2 ^ (2 + k % 2) + 8) (f / 2 % 2 ^ (2 + k % 2) * 2 ^ (8 - k % 2)))
        else if f = 0 then 0 else half 0 (f / 2 ^ (3 + k % 2) + 8) (f % 2 ^ (3 + k % 2) * 2 ^ (7 - k % 2))
      else if k = 3 then 0x3C00 else
        let f := a.toNat / 2 ^ (10 * k) % 2 ^ 10
        if a.getLsbD 30 then f % 2 * 2 ^ 15 + f / 2 * 2 ^ 6 else f * 2 ^ 5) ∧
    GivesFree (.pstcm30ah m n) 4 n s (fun v => v.toNat < 2 ^ 30 ∧ ∀ k, k < 3 → w k < 2 ^ 15 → v.toNat / 2 ^ (10 * k) % 2 ^ 10 = w k / 2 ^ 5)

/-- Interpolation and block extraction (48_rgb_blocks.md R739 to R749, R1002, R1003; the scale of BLERP and what is free,
log 25): every component of the pixel selected, from the end points the block holds; a reserved mode, and a component
an end point of which leaves its range, are free values; of the thirds all that is stated is that they lie between the end
points, in UTX3's FP8U form between the end points widened; the decoded audio sample and what a bias byte stands for are free,
the bias is taken from the right channel and added to the left. -/
def Obligations.InterpolationAndBlocks : Prop :=
  ∀ (m o p n : Reg) (j : BitVec 2) (x : Pair) (s : State),
    let a := getReg s m
    let i : Nat := (getReg s o).toNat % 16
    let w (v : Word) (k : Nat) : Nat := (lane16 v k).toNat
    let lerp (u v t : Nat) : Nat := (u * (65535 - t) + v * t) / 2 ^ 16
    let bit (v k : Nat) : Nat := v / 2 ^ k % 2
    let comp (opq : Bool) (c k : Nat) : Nat := if k = 3 then (if opq then 255 else 128 * bit c 10 + 64 * bit c 5 + 32 * bit c 0)
      else 8 * (c / 2 ^ (5 * k) % 32) + c / 2 ^ (5 * k) % 32 / 4
    let mid (u v : Nat) : Nat := max (min u v) (min (max u v) (Config.third u v))
    let mix (c u v : Nat) : Nat := if c = 0 then v else if c = 1 then mid v u else if c = 2 then mid u v else u
    let sel := a.toNat / 2 ^ (32 + 2 * i) % 4
    let A := w a 0
    let B := w a 1
    let y := (getPair s x).toNat
    let field (k : Nat) : Nat := y / 2 ^ ((if k = 3 then 96 else 64) + 2 * i) % 4
    let U (k : Nat) : Nat := y / 2 ^ (8 * k) % 256
    let V (k : Nat) : Nat := y / 2 ^ (32 + 8 * k) % 256
    let fp8u (c : Nat) : Nat := if c = 0 then 0 else (c / 16 + 8) * 2 ^ 10 + c % 16 * 2 ^ 6
    let interp (u v : Nat) : Nat := max (min (fp8u u) (fp8u v)) (min (max (fp8u u) (fp8u v))
      (Config.utx3hInterp (BitVec.ofNat 8 u) (BitVec.ofNat 8 v)).toNat)
    Gives (.blerp m o n) n s (fun v => Words v fun k => lerp (w a k) (w (getReg s o) k) (w (getReg s n) 0)) ∧
    Gives (.blerp4 m o p j n) n s (fun v => Words v fun k => lerp (w a k) (w (getReg s o) k) (w (getReg s p) j.toNat)) ∧
    GivesFree (.blkutx2 m o n) 1 n s (fun v =>
      (A < 2 ^ 15 → B < 2 ^ 15 → Words v fun k => mix sel (257 * comp true A k) (257 * comp true B k)) ∧
      (2 ^ 15 ≤ A → 2 ^ 15 ≤ B → Words v fun k => mix sel (257 * comp false A k) (257 * comp false B k)) ∧
      (A < 2 ^ 15 → 2 ^ 15 ≤ B → Words v fun k => 257 * comp false (if (if k = 3 then sel % 2 else sel / 2) = 1 then A else B) k)) ∧
    GivesFree (.blkutx1 m o n) 3 n s (fun v => w v 3 = 0xFFFF ∧ ∀ k, k < 3 →
      let d := 17 * (a.toNat / 2 ^ 12 % 16)
      let low : Int := (17 * (a.toNat / 2 ^ (4 * k) % 16) : Nat) - (d / 2 : Nat)
      0 ≤ low → low + d ≤ 255 → (w v k : Int) = 257 * (low + (if a.getLsbD (16 + i) then d else 0 : Nat))) ∧
    (pairAllowed x = true →
      Gives (.blkutx3l x o n) n s (fun v => Words v fun k => 257 * mix (field k) (U k) (V k)) ∧
      Gives (.blkutx3h x o n) n s (fun v => Words v fun k => if field k = 0 then fp8u (V k) else if field k = 1 then interp (V k) (U k)
        else if field k = 2 then interp (U k) (V k) else fp8u (U k))) ∧
    (pairAllowed x = false → exec (.blkutx3l x o n) s = .refused .forbiddenPair ∧ exec (.blkutx3h x o n) s = .refused .forbiddenPair) ∧
    (∀ e ∈ [(Instr.blkuvf1VL m o n, 0#2), (.blkuvf1VH m o n, 1#2), (.blkuvf1SL m o n, 2#2), (.blkuvf1SH m o n, 3#2)],
      Gives e.1 n s (fun v => v = Config.blkuvf1 e.2 a (getReg s o))) ∧
    Gives (.blkuab1 m o n) n s (fun v => v.toNat < 2 ^ 32 ∧ lane16 v 1 = lane16 v 0 ∧
      ∃ u, lane16 v 0 = Config.uabDecode false u (BitVec.ofNat 4 i) ∧ u.toNat = a.toNat % 2 ^ 32) ∧
    GivesFree (.blkuab2 m o n) 1 n s (fun v => v.toNat < 2 ^ 32 ∧
      (a.getLsbD 23 = false → ∃ (block : Word) (x bias : Half), (∀ k, k < 64 → block.getLsbD k =
          (decide (k < 24 ∨ 32 ≤ k) && a.getLsbD k)) ∧ x = Config.uabDecode true block (BitVec.ofNat 4 i) ∧
        bias = (if lane8 a 3 = 0#8 then 0#16 else Config.uabBias (lane8 a 3)) ∧ lane16 v 0 = x + bias ∧ lane16 v 1 = x - bias))

/-! ### WEX bundles (30_encoding.md) -/

/-- With SR.WXE = 1 flagged instructions and the first unflagged one behind them are one step (30_encoding.md R140 to R142,
60_exceptions.md R858, decision D11, log 16): refused where they are more than the width or break R141, else run one after
another in address order, abandoned as a whole by a fault. What R141 asks of two plain instructions: neither writes what the
other reads or writes; a load, store, branch or compare, a rotate and a 32- or 64-bit multiply stand in Lane 1 only, the
last; the first of three is no shift unless the core lets Lane 3 shift; a prefixed instruction stands in no bundle. -/
def Obligations.WexBundleIsOneStep : Prop :=
  (∀ (s t : State) (l : List Slot),
    deliverable (tick s) = none → s.sleeping = false → modeKnown s = true → pcAligned s = true → srWXE s = true →
    FetchesBundle s.pc (tick s) l t → 2 ≤ l.length →
    (Config.wexWidth < l.length ∨ bundleOk l = false → step s = .refused .bundleObligation) ∧
    (bundleOk l = true → step s = settle (tick s) (abandonOn (aged t) (runSlots l (aged t))))) ∧
  (∀ (x y : Slot) (l : List Slot) (s u : State), x.d.pred = none → x.uses.adc = false → u.faults = s.faults →
    exec x.d.instr { s with pc := x.addr, npc := x.addr + BitVec.ofNat 48 x.d.len } = .next u →
      runSlots (x :: y :: l) s = runSlots (y :: l) u) ∧
  (∀ (x : Slot) (s : State), x.d.pred = none →
    runSlots [x] s = exec x.d.instr { s with pc := x.addr, npc := x.addr + BitVec.ofNat 48 x.d.len }) ∧
  (∀ (a b c : VAddr) (wx wy wz : Bool) (m o n p q r : Reg) (src : Src) (t : Target) (e : Addr) (i j k : Instr),
    let at' (a : VAddr) (w : Bool) (i : Instr) : Slot := { addr := a, d := { len := 4, pred := none, wex := w, instr := i } }
    (bundleOk [at' a wx (.add m (.reg o) n), at' b wy (.sub p q r)] = true ↔ n ≠ p ∧ n ≠ q ∧ n ≠ r ∧ r ≠ m ∧ r ≠ o) ∧
    (i ∈ [Instr.movB .load n e, .movL .load n e, .movQ .load n e, .movB .store n e, .movL .store n e, .movQ .store n e, .bra t,
        .bsr t, .bt t, .bf t, .rts, .cmpEQ src n .t, .cmpQGT src n .s, .tstQ src n .t, .rotlL m o n, .muls m src n, .muluQ m o n,
        .divsQ m o n, .cpuid 1#5] →
      bundleOk [at' a wx i, at' b wy j] = false) ∧
    (i ∈ [Instr.shad m src n, .shld m src n, .shadq m src n, .shldq m src n] →
      bundleOk [at' a wx i, at' b wy j, at' c wz k] = true → Config.lane3Shift = true) ∧
    (∀ x y : Slot, 4 < x.d.len ∨ 4 < y.d.len → bundleOk [x, y] = false))
end

