-- ==== Sys2Proof/Laws/Bits.lean ====
section
/-! SUPPORT. The bits of a value after a field of it has been replaced. -/

namespace Sys2Proof.Machine

open Sys2Proof

theorem getLsbD_setSlice {w len : Nat} (v : BitVec w) (lo : Nat) (x : BitVec len) (k : Nat) :
    (setSlice v lo len x).getLsbD k = if lo ≤ k ∧ k < lo + len ∧ k < w then x.getLsbD (k - lo) else v.getLsbD k := by
  simp only [setSlice, BitVec.getLsbD_or, BitVec.getLsbD_and, BitVec.getLsbD_not, BitVec.getLsbD_shiftLeft,
    BitVec.getLsbD_setWidth, BitVec.getLsbD_allOnes]
  by_cases h1 : k < w
  · by_cases h2 : k < lo
    · have h4 : ¬ (lo ≤ k ∧ k < lo + len ∧ k < w) := by omega
      rw [if_neg h4]; simp [h1, h2]
    · by_cases h3 : k < lo + len
      · have h4 : lo ≤ k ∧ k < lo + len ∧ k < w := by omega
        have h5 : k - lo < w := by omega
        have h6 : k - lo < len := by omega
        rw [if_pos h4]; simp [h1, h2, h5, h6]
      · have h4 : ¬ (lo ≤ k ∧ k < lo + len ∧ k < w) := by omega
        have h6 : ¬ (k - lo < len) := by omega
        rw [if_neg h4]; simp [h1, h2, h6, BitVec.getLsbD_of_ge x (k - lo) (by omega)]
  · have h4 : ¬ (lo ≤ k ∧ k < lo + len ∧ k < w) := by omega
    rw [if_neg h4]; simp [h1, BitVec.getLsbD_of_ge v k (by omega)]
theorem getLsbD_setBit {w : Nat} (v : BitVec w) (i : Nat) (b : Bool) (k : Nat) :
    (setBit v i b).getLsbD k = if k = i ∧ k < w then b else v.getLsbD k := by
  rw [setBit, getLsbD_setSlice]
  by_cases h : k = i
  · subst h; by_cases hw : k < w <;> simp [hw]
  · have : ¬ (i ≤ k ∧ k < i + 1 ∧ k < w) := by omega
    rw [if_neg this]; simp [h]

/-- A bit outside what is replaced is as it was. -/
theorem getLsbD_setBit_ne {w : Nat} (v : BitVec w) (i : Nat) (b : Bool) {k : Nat} (h : k ≠ i) :
    (setBit v i b).getLsbD k = v.getLsbD k := by
  rw [getLsbD_setBit, if_neg fun g => h g.1]
theorem getLsbD_setSlice_out {w len : Nat} (v : BitVec w) (lo : Nat) (x : BitVec len) {k : Nat} (h : k < lo ∨ lo + len ≤ k) :
    (setSlice v lo len x).getLsbD k = v.getLsbD k := by
  rw [getLsbD_setSlice, if_neg fun g => by omega]

@[simp] theorem bitAt_setBit_same (v : Word) (i : Nat) (b : Bool) (h : i < 64) : bitAt (setBit v i b) i = b := by
  rw [bitAt, getLsbD_setBit]; simp [h]
theorem bitAt_setBit_ne (v : Word) (i k : Nat) (b : Bool) (h : k ≠ i) : bitAt (setBit v i b) k = bitAt v k := by
  rw [bitAt, getLsbD_setBit]; simp [bitAt, h]
@[simp] theorem srT_setT (s : State) (b : Bool) : srT (setT s b) = b := bitAt_setBit_same s.sr 0 b (by decide)
@[simp] theorem srS_setS (s : State) (b : Bool) : srS (setS s b) = b := bitAt_setBit_same s.sr 1 b (by decide)
@[simp] theorem srT_setS (s : State) (b : Bool) : srT (setS s b) = srT s := bitAt_setBit_ne s.sr 1 0 b (by decide)
@[simp] theorem srS_setT (s : State) (b : Bool) : srS (setT s b) = srS s := bitAt_setBit_ne s.sr 0 1 b (by decide)

end Sys2Proof.Machine
end

