-- ==== Sys2Proof/Laws/State.lean ====
section
/-! SUPPORT. What each named update of the state does to each field, so that no proof unfolds a record update. -/

namespace Sys2Proof.Machine

open Sys2Proof

/-! setReg -/
@[simp] theorem setReg_regs (s : State) (r : Reg) (v : Word) : (setReg s r v).regs = s.regs.set r.toNat v r.isLt := rfl
@[simp] theorem setReg_pc (s : State) (r : Reg) (v : Word) : (setReg s r v).pc = s.pc := rfl
@[simp] theorem setReg_npc (s : State) (r : Reg) (v : Word) : (setReg s r v).npc = s.npc := rfl
@[simp] theorem setReg_lr (s : State) (r : Reg) (v : Word) : (setReg s r v).lr = s.lr := rfl
@[simp] theorem setReg_sr (s : State) (r : Reg) (v : Word) : (setReg s r v).sr = s.sr := rfl
@[simp] theorem setReg_vbr (s : State) (r : Reg) (v : Word) : (setReg s r v).vbr = s.vbr := rfl
@[simp] theorem setReg_spc (s : State) (r : Reg) (v : Word) : (setReg s r v).spc = s.spc := rfl
@[simp] theorem setReg_ssp (s : State) (r : Reg) (v : Word) : (setReg s r v).ssp = s.ssp := rfl
@[simp] theorem setReg_gbr (s : State) (r : Reg) (v : Word) : (setReg s r v).gbr = s.gbr := rfl
@[simp] theorem setReg_tbr (s : State) (r : Reg) (v : Word) : (setReg s r v).tbr = s.tbr := rfl
@[simp] theorem setReg_ttb (s : State) (r : Reg) (v : Word) : (setReg s r v).ttb = s.ttb := rfl
@[simp] theorem setReg_tea (s : State) (r : Reg) (v : Word) : (setReg s r v).tea = s.tea := rfl
@[simp] theorem setReg_mmcr (s : State) (r : Reg) (v : Word) : (setReg s r v).mmcr = s.mmcr := rfl
@[simp] theorem setReg_exsr (s : State) (r : Reg) (v : Word) : (setReg s r v).exsr = s.exsr := rfl
@[simp] theorem setReg_sttb (s : State) (r : Reg) (v : Word) : (setReg s r v).sttb = s.sttb := rfl
@[simp] theorem setReg_krr (s : State) (r : Reg) (v : Word) : (setReg s r v).krr = s.krr := rfl
@[simp] theorem setReg_gbh (s : State) (r : Reg) (v : Word) : (setReg s r v).gbh = s.gbh := rfl
@[simp] theorem setReg_rbs (s : State) (r : Reg) (v : Word) : (setReg s r v).rbs = s.rbs := rfl
@[simp] theorem setReg_tlb (s : State) (r : Reg) (v : Word) : (setReg s r v).tlb = s.tlb := rfl
@[simp] theorem setReg_acl (s : State) (r : Reg) (v : Word) : (setReg s r v).acl = s.acl := rfl
@[simp] theorem setReg_ekey (s : State) (r : Reg) (v : Word) : (setReg s r v).ekey = s.ekey := rfl
@[simp] theorem setReg_ldekrrEnabled (s : State) (r : Reg) (v : Word) : (setReg s r v).ldekrrEnabled = s.ldekrrEnabled := rfl
@[simp] theorem setReg_canarySeed (s : State) (r : Reg) (v : Word) : (setReg s r v).canarySeed = s.canarySeed := rfl
@[simp] theorem setReg_stale (s : State) (r : Reg) (v : Word) : (setReg s r v).stale = s.stale := rfl
@[simp] theorem setReg_tripwires (s : State) (r : Reg) (v : Word) : (setReg s r v).tripwires = s.tripwires := rfl
@[simp] theorem setReg_usec (s : State) (r : Reg) (v : Word) : (setReg s r v).usec = s.usec := rfl
@[simp] theorem setReg_cycles (s : State) (r : Reg) (v : Word) : (setReg s r v).cycles = s.cycles := rfl
@[simp] theorem setReg_pending (s : State) (r : Reg) (v : Word) : (setReg s r v).pending = s.pending := rfl
@[simp] theorem setReg_sleeping (s : State) (r : Reg) (v : Word) : (setReg s r v).sleeping = s.sleeping := rfl
@[simp] theorem setReg_lrAge (s : State) (r : Reg) (v : Word) : (setReg s r v).lrAge = s.lrAge := rfl
@[simp] theorem setReg_remote (s : State) (r : Reg) (v : Word) : (setReg s r v).remote = s.remote := rfl
@[simp] theorem setReg_mem (s : State) (r : Reg) (v : Word) : (setReg s r v).mem = s.mem := rfl
@[simp] theorem setReg_draws (s : State) (r : Reg) (v : Word) : (setReg s r v).draws = s.draws := rfl
@[simp] theorem setReg_clock (s : State) (r : Reg) (v : Word) : (setReg s r v).clock = s.clock := rfl
@[simp] theorem setReg_faults (s : State) (r : Reg) (v : Word) : (setReg s r v).faults = s.faults := rfl
@[simp] theorem setReg_faultTea (s : State) (r : Reg) (v : Word) : (setReg s r v).faultTea = s.faultTea := rfl
@[simp] theorem setReg_device (s : State) (r : Reg) (v : Word) : (setReg s r v).device = s.device := rfl
@[simp] theorem setReg_map (s : State) (r : Reg) (v : Word) : (setReg s r v).map = s.map := rfl

/-! setPair -/
@[simp] theorem setPair_pc (s : State) (p : Pair) (v : Quad) : (setPair s p v).pc = s.pc := rfl
@[simp] theorem setPair_npc (s : State) (p : Pair) (v : Quad) : (setPair s p v).npc = s.npc := rfl
@[simp] theorem setPair_lr (s : State) (p : Pair) (v : Quad) : (setPair s p v).lr = s.lr := rfl
@[simp] theorem setPair_sr (s : State) (p : Pair) (v : Quad) : (setPair s p v).sr = s.sr := rfl
@[simp] theorem setPair_vbr (s : State) (p : Pair) (v : Quad) : (setPair s p v).vbr = s.vbr := rfl
@[simp] theorem setPair_spc (s : State) (p : Pair) (v : Quad) : (setPair s p v).spc = s.spc := rfl
@[simp] theorem setPair_ssp (s : State) (p : Pair) (v : Quad) : (setPair s p v).ssp = s.ssp := rfl
@[simp] theorem setPair_gbr (s : State) (p : Pair) (v : Quad) : (setPair s p v).gbr = s.gbr := rfl
@[simp] theorem setPair_tbr (s : State) (p : Pair) (v : Quad) : (setPair s p v).tbr = s.tbr := rfl
@[simp] theorem setPair_ttb (s : State) (p : Pair) (v : Quad) : (setPair s p v).ttb = s.ttb := rfl
@[simp] theorem setPair_tea (s : State) (p : Pair) (v : Quad) : (setPair s p v).tea = s.tea := rfl
@[simp] theorem setPair_mmcr (s : State) (p : Pair) (v : Quad) : (setPair s p v).mmcr = s.mmcr := rfl
@[simp] theorem setPair_exsr (s : State) (p : Pair) (v : Quad) : (setPair s p v).exsr = s.exsr := rfl
@[simp] theorem setPair_sttb (s : State) (p : Pair) (v : Quad) : (setPair s p v).sttb = s.sttb := rfl
@[simp] theorem setPair_krr (s : State) (p : Pair) (v : Quad) : (setPair s p v).krr = s.krr := rfl
@[simp] theorem setPair_gbh (s : State) (p : Pair) (v : Quad) : (setPair s p v).gbh = s.gbh := rfl
@[simp] theorem setPair_rbs (s : State) (p : Pair) (v : Quad) : (setPair s p v).rbs = s.rbs := rfl
@[simp] theorem setPair_tlb (s : State) (p : Pair) (v : Quad) : (setPair s p v).tlb = s.tlb := rfl
@[simp] theorem setPair_acl (s : State) (p : Pair) (v : Quad) : (setPair s p v).acl = s.acl := rfl
@[simp] theorem setPair_ekey (s : State) (p : Pair) (v : Quad) : (setPair s p v).ekey = s.ekey := rfl
@[simp] theorem setPair_ldekrrEnabled (s : State) (p : Pair) (v : Quad) : (setPair s p v).ldekrrEnabled = s.ldekrrEnabled := rfl
@[simp] theorem setPair_canarySeed (s : State) (p : Pair) (v : Quad) : (setPair s p v).canarySeed = s.canarySeed := rfl
@[simp] theorem setPair_stale (s : State) (p : Pair) (v : Quad) : (setPair s p v).stale = s.stale := rfl
@[simp] theorem setPair_tripwires (s : State) (p : Pair) (v : Quad) : (setPair s p v).tripwires = s.tripwires := rfl
@[simp] theorem setPair_usec (s : State) (p : Pair) (v : Quad) : (setPair s p v).usec = s.usec := rfl
@[simp] theorem setPair_cycles (s : State) (p : Pair) (v : Quad) : (setPair s p v).cycles = s.cycles := rfl
@[simp] theorem setPair_pending (s : State) (p : Pair) (v : Quad) : (setPair s p v).pending = s.pending := rfl
@[simp] theorem setPair_sleeping (s : State) (p : Pair) (v : Quad) : (setPair s p v).sleeping = s.sleeping := rfl
@[simp] theorem setPair_lrAge (s : State) (p : Pair) (v : Quad) : (setPair s p v).lrAge = s.lrAge := rfl
@[simp] theorem setPair_remote (s : State) (p : Pair) (v : Quad) : (setPair s p v).remote = s.remote := rfl
@[simp] theorem setPair_mem (s : State) (p : Pair) (v : Quad) : (setPair s p v).mem = s.mem := rfl
@[simp] theorem setPair_draws (s : State) (p : Pair) (v : Quad) : (setPair s p v).draws = s.draws := rfl
@[simp] theorem setPair_clock (s : State) (p : Pair) (v : Quad) : (setPair s p v).clock = s.clock := rfl
@[simp] theorem setPair_faults (s : State) (p : Pair) (v : Quad) : (setPair s p v).faults = s.faults := rfl
@[simp] theorem setPair_faultTea (s : State) (p : Pair) (v : Quad) : (setPair s p v).faultTea = s.faultTea := rfl
@[simp] theorem setPair_device (s : State) (p : Pair) (v : Quad) : (setPair s p v).device = s.device := rfl
@[simp] theorem setPair_map (s : State) (p : Pair) (v : Quad) : (setPair s p v).map = s.map := rfl

/-! setDhrDlr -/
@[simp] theorem setDhrDlr_pc (s : State) (v : Quad) : (setDhrDlr s v).pc = s.pc := rfl
@[simp] theorem setDhrDlr_npc (s : State) (v : Quad) : (setDhrDlr s v).npc = s.npc := rfl
@[simp] theorem setDhrDlr_lr (s : State) (v : Quad) : (setDhrDlr s v).lr = s.lr := rfl
@[simp] theorem setDhrDlr_sr (s : State) (v : Quad) : (setDhrDlr s v).sr = s.sr := rfl
@[simp] theorem setDhrDlr_vbr (s : State) (v : Quad) : (setDhrDlr s v).vbr = s.vbr := rfl
@[simp] theorem setDhrDlr_spc (s : State) (v : Quad) : (setDhrDlr s v).spc = s.spc := rfl
@[simp] theorem setDhrDlr_ssp (s : State) (v : Quad) : (setDhrDlr s v).ssp = s.ssp := rfl
@[simp] theorem setDhrDlr_gbr (s : State) (v : Quad) : (setDhrDlr s v).gbr = s.gbr := rfl
@[simp] theorem setDhrDlr_tbr (s : State) (v : Quad) : (setDhrDlr s v).tbr = s.tbr := rfl
@[simp] theorem setDhrDlr_ttb (s : State) (v : Quad) : (setDhrDlr s v).ttb = s.ttb := rfl
@[simp] theorem setDhrDlr_tea (s : State) (v : Quad) : (setDhrDlr s v).tea = s.tea := rfl
@[simp] theorem setDhrDlr_mmcr (s : State) (v : Quad) : (setDhrDlr s v).mmcr = s.mmcr := rfl
@[simp] theorem setDhrDlr_exsr (s : State) (v : Quad) : (setDhrDlr s v).exsr = s.exsr := rfl
@[simp] theorem setDhrDlr_sttb (s : State) (v : Quad) : (setDhrDlr s v).sttb = s.sttb := rfl
@[simp] theorem setDhrDlr_krr (s : State) (v : Quad) : (setDhrDlr s v).krr = s.krr := rfl
@[simp] theorem setDhrDlr_gbh (s : State) (v : Quad) : (setDhrDlr s v).gbh = s.gbh := rfl
@[simp] theorem setDhrDlr_rbs (s : State) (v : Quad) : (setDhrDlr s v).rbs = s.rbs := rfl
@[simp] theorem setDhrDlr_tlb (s : State) (v : Quad) : (setDhrDlr s v).tlb = s.tlb := rfl
@[simp] theorem setDhrDlr_acl (s : State) (v : Quad) : (setDhrDlr s v).acl = s.acl := rfl
@[simp] theorem setDhrDlr_ekey (s : State) (v : Quad) : (setDhrDlr s v).ekey = s.ekey := rfl
@[simp] theorem setDhrDlr_ldekrrEnabled (s : State) (v : Quad) : (setDhrDlr s v).ldekrrEnabled = s.ldekrrEnabled := rfl
@[simp] theorem setDhrDlr_canarySeed (s : State) (v : Quad) : (setDhrDlr s v).canarySeed = s.canarySeed := rfl
@[simp] theorem setDhrDlr_stale (s : State) (v : Quad) : (setDhrDlr s v).stale = s.stale := rfl
@[simp] theorem setDhrDlr_tripwires (s : State) (v : Quad) : (setDhrDlr s v).tripwires = s.tripwires := rfl
@[simp] theorem setDhrDlr_usec (s : State) (v : Quad) : (setDhrDlr s v).usec = s.usec := rfl
@[simp] theorem setDhrDlr_cycles (s : State) (v : Quad) : (setDhrDlr s v).cycles = s.cycles := rfl
@[simp] theorem setDhrDlr_pending (s : State) (v : Quad) : (setDhrDlr s v).pending = s.pending := rfl
@[simp] theorem setDhrDlr_sleeping (s : State) (v : Quad) : (setDhrDlr s v).sleeping = s.sleeping := rfl
@[simp] theorem setDhrDlr_lrAge (s : State) (v : Quad) : (setDhrDlr s v).lrAge = s.lrAge := rfl
@[simp] theorem setDhrDlr_remote (s : State) (v : Quad) : (setDhrDlr s v).remote = s.remote := rfl
@[simp] theorem setDhrDlr_mem (s : State) (v : Quad) : (setDhrDlr s v).mem = s.mem := rfl
@[simp] theorem setDhrDlr_draws (s : State) (v : Quad) : (setDhrDlr s v).draws = s.draws := rfl
@[simp] theorem setDhrDlr_clock (s : State) (v : Quad) : (setDhrDlr s v).clock = s.clock := rfl
@[simp] theorem setDhrDlr_faults (s : State) (v : Quad) : (setDhrDlr s v).faults = s.faults := rfl
@[simp] theorem setDhrDlr_faultTea (s : State) (v : Quad) : (setDhrDlr s v).faultTea = s.faultTea := rfl
@[simp] theorem setDhrDlr_device (s : State) (v : Quad) : (setDhrDlr s v).device = s.device := rfl
@[simp] theorem setDhrDlr_map (s : State) (v : Quad) : (setDhrDlr s v).map = s.map := rfl

/-! setT -/
@[simp] theorem setT_regs (s : State) (b : Bool) : (setT s b).regs = s.regs := rfl
@[simp] theorem setT_pc (s : State) (b : Bool) : (setT s b).pc = s.pc := rfl
@[simp] theorem setT_npc (s : State) (b : Bool) : (setT s b).npc = s.npc := rfl
@[simp] theorem setT_lr (s : State) (b : Bool) : (setT s b).lr = s.lr := rfl
@[simp] theorem setT_sr (s : State) (b : Bool) : (setT s b).sr = setBit s.sr 0 b := rfl
@[simp] theorem setT_vbr (s : State) (b : Bool) : (setT s b).vbr = s.vbr := rfl
@[simp] theorem setT_spc (s : State) (b : Bool) : (setT s b).spc = s.spc := rfl
@[simp] theorem setT_ssp (s : State) (b : Bool) : (setT s b).ssp = s.ssp := rfl
@[simp] theorem setT_gbr (s : State) (b : Bool) : (setT s b).gbr = s.gbr := rfl
@[simp] theorem setT_tbr (s : State) (b : Bool) : (setT s b).tbr = s.tbr := rfl
@[simp] theorem setT_ttb (s : State) (b : Bool) : (setT s b).ttb = s.ttb := rfl
@[simp] theorem setT_tea (s : State) (b : Bool) : (setT s b).tea = s.tea := rfl
@[simp] theorem setT_mmcr (s : State) (b : Bool) : (setT s b).mmcr = s.mmcr := rfl
@[simp] theorem setT_exsr (s : State) (b : Bool) : (setT s b).exsr = s.exsr := rfl
@[simp] theorem setT_sttb (s : State) (b : Bool) : (setT s b).sttb = s.sttb := rfl
@[simp] theorem setT_krr (s : State) (b : Bool) : (setT s b).krr = s.krr := rfl
@[simp] theorem setT_gbh (s : State) (b : Bool) : (setT s b).gbh = s.gbh := rfl
@[simp] theorem setT_rbs (s : State) (b : Bool) : (setT s b).rbs = s.rbs := rfl
@[simp] theorem setT_tlb (s : State) (b : Bool) : (setT s b).tlb = s.tlb := rfl
@[simp] theorem setT_acl (s : State) (b : Bool) : (setT s b).acl = s.acl := rfl
@[simp] theorem setT_ekey (s : State) (b : Bool) : (setT s b).ekey = s.ekey := rfl
@[simp] theorem setT_ldekrrEnabled (s : State) (b : Bool) : (setT s b).ldekrrEnabled = s.ldekrrEnabled := rfl
@[simp] theorem setT_canarySeed (s : State) (b : Bool) : (setT s b).canarySeed = s.canarySeed := rfl
@[simp] theorem setT_stale (s : State) (b : Bool) : (setT s b).stale = s.stale := rfl
@[simp] theorem setT_tripwires (s : State) (b : Bool) : (setT s b).tripwires = s.tripwires := rfl
@[simp] theorem setT_usec (s : State) (b : Bool) : (setT s b).usec = s.usec := rfl
@[simp] theorem setT_cycles (s : State) (b : Bool) : (setT s b).cycles = s.cycles := rfl
@[simp] theorem setT_pending (s : State) (b : Bool) : (setT s b).pending = s.pending := rfl
@[simp] theorem setT_sleeping (s : State) (b : Bool) : (setT s b).sleeping = s.sleeping := rfl
@[simp] theorem setT_lrAge (s : State) (b : Bool) : (setT s b).lrAge = s.lrAge := rfl
@[simp] theorem setT_remote (s : State) (b : Bool) : (setT s b).remote = s.remote := rfl
@[simp] theorem setT_mem (s : State) (b : Bool) : (setT s b).mem = s.mem := rfl
@[simp] theorem setT_draws (s : State) (b : Bool) : (setT s b).draws = s.draws := rfl
@[simp] theorem setT_clock (s : State) (b : Bool) : (setT s b).clock = s.clock := rfl
@[simp] theorem setT_faults (s : State) (b : Bool) : (setT s b).faults = s.faults := rfl
@[simp] theorem setT_faultTea (s : State) (b : Bool) : (setT s b).faultTea = s.faultTea := rfl
@[simp] theorem setT_device (s : State) (b : Bool) : (setT s b).device = s.device := rfl
@[simp] theorem setT_map (s : State) (b : Bool) : (setT s b).map = s.map := rfl

/-! setS -/
@[simp] theorem setS_regs (s : State) (b : Bool) : (setS s b).regs = s.regs := rfl
@[simp] theorem setS_pc (s : State) (b : Bool) : (setS s b).pc = s.pc := rfl
@[simp] theorem setS_npc (s : State) (b : Bool) : (setS s b).npc = s.npc := rfl
@[simp] theorem setS_lr (s : State) (b : Bool) : (setS s b).lr = s.lr := rfl
@[simp] theorem setS_sr (s : State) (b : Bool) : (setS s b).sr = setBit s.sr 1 b := rfl
@[simp] theorem setS_vbr (s : State) (b : Bool) : (setS s b).vbr = s.vbr := rfl
@[simp] theorem setS_spc (s : State) (b : Bool) : (setS s b).spc = s.spc := rfl
@[simp] theorem setS_ssp (s : State) (b : Bool) : (setS s b).ssp = s.ssp := rfl
@[simp] theorem setS_gbr (s : State) (b : Bool) : (setS s b).gbr = s.gbr := rfl
@[simp] theorem setS_tbr (s : State) (b : Bool) : (setS s b).tbr = s.tbr := rfl
@[simp] theorem setS_ttb (s : State) (b : Bool) : (setS s b).ttb = s.ttb := rfl
@[simp] theorem setS_tea (s : State) (b : Bool) : (setS s b).tea = s.tea := rfl
@[simp] theorem setS_mmcr (s : State) (b : Bool) : (setS s b).mmcr = s.mmcr := rfl
@[simp] theorem setS_exsr (s : State) (b : Bool) : (setS s b).exsr = s.exsr := rfl
@[simp] theorem setS_sttb (s : State) (b : Bool) : (setS s b).sttb = s.sttb := rfl
@[simp] theorem setS_krr (s : State) (b : Bool) : (setS s b).krr = s.krr := rfl
@[simp] theorem setS_gbh (s : State) (b : Bool) : (setS s b).gbh = s.gbh := rfl
@[simp] theorem setS_rbs (s : State) (b : Bool) : (setS s b).rbs = s.rbs := rfl
@[simp] theorem setS_tlb (s : State) (b : Bool) : (setS s b).tlb = s.tlb := rfl
@[simp] theorem setS_acl (s : State) (b : Bool) : (setS s b).acl = s.acl := rfl
@[simp] theorem setS_ekey (s : State) (b : Bool) : (setS s b).ekey = s.ekey := rfl
@[simp] theorem setS_ldekrrEnabled (s : State) (b : Bool) : (setS s b).ldekrrEnabled = s.ldekrrEnabled := rfl
@[simp] theorem setS_canarySeed (s : State) (b : Bool) : (setS s b).canarySeed = s.canarySeed := rfl
@[simp] theorem setS_stale (s : State) (b : Bool) : (setS s b).stale = s.stale := rfl
@[simp] theorem setS_tripwires (s : State) (b : Bool) : (setS s b).tripwires = s.tripwires := rfl
@[simp] theorem setS_usec (s : State) (b : Bool) : (setS s b).usec = s.usec := rfl
@[simp] theorem setS_cycles (s : State) (b : Bool) : (setS s b).cycles = s.cycles := rfl
@[simp] theorem setS_pending (s : State) (b : Bool) : (setS s b).pending = s.pending := rfl
@[simp] theorem setS_sleeping (s : State) (b : Bool) : (setS s b).sleeping = s.sleeping := rfl
@[simp] theorem setS_lrAge (s : State) (b : Bool) : (setS s b).lrAge = s.lrAge := rfl
@[simp] theorem setS_remote (s : State) (b : Bool) : (setS s b).remote = s.remote := rfl
@[simp] theorem setS_mem (s : State) (b : Bool) : (setS s b).mem = s.mem := rfl
@[simp] theorem setS_draws (s : State) (b : Bool) : (setS s b).draws = s.draws := rfl
@[simp] theorem setS_clock (s : State) (b : Bool) : (setS s b).clock = s.clock := rfl
@[simp] theorem setS_faults (s : State) (b : Bool) : (setS s b).faults = s.faults := rfl
@[simp] theorem setS_faultTea (s : State) (b : Bool) : (setS s b).faultTea = s.faultTea := rfl
@[simp] theorem setS_device (s : State) (b : Bool) : (setS s b).device = s.device := rfl
@[simp] theorem setS_map (s : State) (b : Bool) : (setS s b).map = s.map := rfl

/-! setU -/
@[simp] theorem setU_regs (s : State) (u : BitVec 8) : (setU s u).regs = s.regs := rfl
@[simp] theorem setU_pc (s : State) (u : BitVec 8) : (setU s u).pc = s.pc := rfl
@[simp] theorem setU_npc (s : State) (u : BitVec 8) : (setU s u).npc = s.npc := rfl
@[simp] theorem setU_lr (s : State) (u : BitVec 8) : (setU s u).lr = s.lr := rfl
@[simp] theorem setU_sr (s : State) (u : BitVec 8) : (setU s u).sr = setSlice s.sr 8 8 u := rfl
@[simp] theorem setU_vbr (s : State) (u : BitVec 8) : (setU s u).vbr = s.vbr := rfl
@[simp] theorem setU_spc (s : State) (u : BitVec 8) : (setU s u).spc = s.spc := rfl
@[simp] theorem setU_ssp (s : State) (u : BitVec 8) : (setU s u).ssp = s.ssp := rfl
@[simp] theorem setU_gbr (s : State) (u : BitVec 8) : (setU s u).gbr = s.gbr := rfl
@[simp] theorem setU_tbr (s : State) (u : BitVec 8) : (setU s u).tbr = s.tbr := rfl
@[simp] theorem setU_ttb (s : State) (u : BitVec 8) : (setU s u).ttb = s.ttb := rfl
@[simp] theorem setU_tea (s : State) (u : BitVec 8) : (setU s u).tea = s.tea := rfl
@[simp] theorem setU_mmcr (s : State) (u : BitVec 8) : (setU s u).mmcr = s.mmcr := rfl
@[simp] theorem setU_exsr (s : State) (u : BitVec 8) : (setU s u).exsr = s.exsr := rfl
@[simp] theorem setU_sttb (s : State) (u : BitVec 8) : (setU s u).sttb = s.sttb := rfl
@[simp] theorem setU_krr (s : State) (u : BitVec 8) : (setU s u).krr = s.krr := rfl
@[simp] theorem setU_gbh (s : State) (u : BitVec 8) : (setU s u).gbh = s.gbh := rfl
@[simp] theorem setU_rbs (s : State) (u : BitVec 8) : (setU s u).rbs = s.rbs := rfl
@[simp] theorem setU_tlb (s : State) (u : BitVec 8) : (setU s u).tlb = s.tlb := rfl
@[simp] theorem setU_acl (s : State) (u : BitVec 8) : (setU s u).acl = s.acl := rfl
@[simp] theorem setU_ekey (s : State) (u : BitVec 8) : (setU s u).ekey = s.ekey := rfl
@[simp] theorem setU_ldekrrEnabled (s : State) (u : BitVec 8) : (setU s u).ldekrrEnabled = s.ldekrrEnabled := rfl
@[simp] theorem setU_canarySeed (s : State) (u : BitVec 8) : (setU s u).canarySeed = s.canarySeed := rfl
@[simp] theorem setU_stale (s : State) (u : BitVec 8) : (setU s u).stale = s.stale := rfl
@[simp] theorem setU_tripwires (s : State) (u : BitVec 8) : (setU s u).tripwires = s.tripwires := rfl
@[simp] theorem setU_usec (s : State) (u : BitVec 8) : (setU s u).usec = s.usec := rfl
@[simp] theorem setU_cycles (s : State) (u : BitVec 8) : (setU s u).cycles = s.cycles := rfl
@[simp] theorem setU_pending (s : State) (u : BitVec 8) : (setU s u).pending = s.pending := rfl
@[simp] theorem setU_sleeping (s : State) (u : BitVec 8) : (setU s u).sleeping = s.sleeping := rfl
@[simp] theorem setU_lrAge (s : State) (u : BitVec 8) : (setU s u).lrAge = s.lrAge := rfl
@[simp] theorem setU_remote (s : State) (u : BitVec 8) : (setU s u).remote = s.remote := rfl
@[simp] theorem setU_mem (s : State) (u : BitVec 8) : (setU s u).mem = s.mem := rfl
@[simp] theorem setU_draws (s : State) (u : BitVec 8) : (setU s u).draws = s.draws := rfl
@[simp] theorem setU_clock (s : State) (u : BitVec 8) : (setU s u).clock = s.clock := rfl
@[simp] theorem setU_faults (s : State) (u : BitVec 8) : (setU s u).faults = s.faults := rfl
@[simp] theorem setU_faultTea (s : State) (u : BitVec 8) : (setU s u).faultTea = s.faultTea := rfl
@[simp] theorem setU_device (s : State) (u : BitVec 8) : (setU s u).device = s.device := rfl
@[simp] theorem setU_map (s : State) (u : BitVec 8) : (setU s u).map = s.map := rfl

/-! drawn -/
@[simp] theorem drawn_regs (s : State) : (drawn s).regs = s.regs := rfl
@[simp] theorem drawn_pc (s : State) : (drawn s).pc = s.pc := rfl
@[simp] theorem drawn_npc (s : State) : (drawn s).npc = s.npc := rfl
@[simp] theorem drawn_lr (s : State) : (drawn s).lr = s.lr := rfl
@[simp] theorem drawn_sr (s : State) : (drawn s).sr = s.sr := rfl
@[simp] theorem drawn_vbr (s : State) : (drawn s).vbr = s.vbr := rfl
@[simp] theorem drawn_spc (s : State) : (drawn s).spc = s.spc := rfl
@[simp] theorem drawn_ssp (s : State) : (drawn s).ssp = s.ssp := rfl
@[simp] theorem drawn_gbr (s : State) : (drawn s).gbr = s.gbr := rfl
@[simp] theorem drawn_tbr (s : State) : (drawn s).tbr = s.tbr := rfl
@[simp] theorem drawn_ttb (s : State) : (drawn s).ttb = s.ttb := rfl
@[simp] theorem drawn_tea (s : State) : (drawn s).tea = s.tea := rfl
@[simp] theorem drawn_mmcr (s : State) : (drawn s).mmcr = s.mmcr := rfl
@[simp] theorem drawn_exsr (s : State) : (drawn s).exsr = s.exsr := rfl
@[simp] theorem drawn_sttb (s : State) : (drawn s).sttb = s.sttb := rfl
@[simp] theorem drawn_krr (s : State) : (drawn s).krr = s.krr := rfl
@[simp] theorem drawn_gbh (s : State) : (drawn s).gbh = s.gbh := rfl
@[simp] theorem drawn_rbs (s : State) : (drawn s).rbs = s.rbs := rfl
@[simp] theorem drawn_tlb (s : State) : (drawn s).tlb = s.tlb := rfl
@[simp] theorem drawn_acl (s : State) : (drawn s).acl = s.acl := rfl
@[simp] theorem drawn_ekey (s : State) : (drawn s).ekey = s.ekey := rfl
@[simp] theorem drawn_ldekrrEnabled (s : State) : (drawn s).ldekrrEnabled = s.ldekrrEnabled := rfl
@[simp] theorem drawn_canarySeed (s : State) : (drawn s).canarySeed = s.canarySeed := rfl
@[simp] theorem drawn_stale (s : State) : (drawn s).stale = s.stale := rfl
@[simp] theorem drawn_tripwires (s : State) : (drawn s).tripwires = s.tripwires := rfl
@[simp] theorem drawn_usec (s : State) : (drawn s).usec = s.usec := rfl
@[simp] theorem drawn_cycles (s : State) : (drawn s).cycles = s.cycles := rfl
@[simp] theorem drawn_pending (s : State) : (drawn s).pending = s.pending := rfl
@[simp] theorem drawn_sleeping (s : State) : (drawn s).sleeping = s.sleeping := rfl
@[simp] theorem drawn_lrAge (s : State) : (drawn s).lrAge = s.lrAge := rfl
@[simp] theorem drawn_remote (s : State) : (drawn s).remote = s.remote := rfl
@[simp] theorem drawn_mem (s : State) : (drawn s).mem = s.mem := rfl
@[simp] theorem drawn_draws (s : State) : (drawn s).draws = s.draws + 1 := rfl
@[simp] theorem drawn_clock (s : State) : (drawn s).clock = s.clock := rfl
@[simp] theorem drawn_faults (s : State) : (drawn s).faults = s.faults := rfl
@[simp] theorem drawn_faultTea (s : State) : (drawn s).faultTea = s.faultTea := rfl
@[simp] theorem drawn_device (s : State) : (drawn s).device = s.device := rfl
@[simp] theorem drawn_map (s : State) : (drawn s).map = s.map := rfl

/-! drawn2 -/
@[simp] theorem drawn2_regs (s : State) : (drawn2 s).regs = s.regs := rfl
@[simp] theorem drawn2_pc (s : State) : (drawn2 s).pc = s.pc := rfl
@[simp] theorem drawn2_npc (s : State) : (drawn2 s).npc = s.npc := rfl
@[simp] theorem drawn2_lr (s : State) : (drawn2 s).lr = s.lr := rfl
@[simp] theorem drawn2_sr (s : State) : (drawn2 s).sr = s.sr := rfl
@[simp] theorem drawn2_vbr (s : State) : (drawn2 s).vbr = s.vbr := rfl
@[simp] theorem drawn2_spc (s : State) : (drawn2 s).spc = s.spc := rfl
@[simp] theorem drawn2_ssp (s : State) : (drawn2 s).ssp = s.ssp := rfl
@[simp] theorem drawn2_gbr (s : State) : (drawn2 s).gbr = s.gbr := rfl
@[simp] theorem drawn2_tbr (s : State) : (drawn2 s).tbr = s.tbr := rfl
@[simp] theorem drawn2_ttb (s : State) : (drawn2 s).ttb = s.ttb := rfl
@[simp] theorem drawn2_tea (s : State) : (drawn2 s).tea = s.tea := rfl
@[simp] theorem drawn2_mmcr (s : State) : (drawn2 s).mmcr = s.mmcr := rfl
@[simp] theorem drawn2_exsr (s : State) : (drawn2 s).exsr = s.exsr := rfl
@[simp] theorem drawn2_sttb (s : State) : (drawn2 s).sttb = s.sttb := rfl
@[simp] theorem drawn2_krr (s : State) : (drawn2 s).krr = s.krr := rfl
@[simp] theorem drawn2_gbh (s : State) : (drawn2 s).gbh = s.gbh := rfl
@[simp] theorem drawn2_rbs (s : State) : (drawn2 s).rbs = s.rbs := rfl
@[simp] theorem drawn2_tlb (s : State) : (drawn2 s).tlb = s.tlb := rfl
@[simp] theorem drawn2_acl (s : State) : (drawn2 s).acl = s.acl := rfl
@[simp] theorem drawn2_ekey (s : State) : (drawn2 s).ekey = s.ekey := rfl
@[simp] theorem drawn2_ldekrrEnabled (s : State) : (drawn2 s).ldekrrEnabled = s.ldekrrEnabled := rfl
@[simp] theorem drawn2_canarySeed (s : State) : (drawn2 s).canarySeed = s.canarySeed := rfl
@[simp] theorem drawn2_stale (s : State) : (drawn2 s).stale = s.stale := rfl
@[simp] theorem drawn2_tripwires (s : State) : (drawn2 s).tripwires = s.tripwires := rfl
@[simp] theorem drawn2_usec (s : State) : (drawn2 s).usec = s.usec := rfl
@[simp] theorem drawn2_cycles (s : State) : (drawn2 s).cycles = s.cycles := rfl
@[simp] theorem drawn2_pending (s : State) : (drawn2 s).pending = s.pending := rfl
@[simp] theorem drawn2_sleeping (s : State) : (drawn2 s).sleeping = s.sleeping := rfl
@[simp] theorem drawn2_lrAge (s : State) : (drawn2 s).lrAge = s.lrAge := rfl
@[simp] theorem drawn2_remote (s : State) : (drawn2 s).remote = s.remote := rfl
@[simp] theorem drawn2_mem (s : State) : (drawn2 s).mem = s.mem := rfl
@[simp] theorem drawn2_draws (s : State) : (drawn2 s).draws = s.draws + 2 := rfl
@[simp] theorem drawn2_clock (s : State) : (drawn2 s).clock = s.clock := rfl
@[simp] theorem drawn2_faults (s : State) : (drawn2 s).faults = s.faults := rfl
@[simp] theorem drawn2_faultTea (s : State) : (drawn2 s).faultTea = s.faultTea := rfl
@[simp] theorem drawn2_device (s : State) : (drawn2 s).device = s.device := rfl
@[simp] theorem drawn2_map (s : State) : (drawn2 s).map = s.map := rfl

/-! setLR -/
@[simp] theorem setLR_regs (s : State) (v : Word) : (setLR s v).regs = s.regs := rfl
@[simp] theorem setLR_pc (s : State) (v : Word) : (setLR s v).pc = s.pc := rfl
@[simp] theorem setLR_npc (s : State) (v : Word) : (setLR s v).npc = s.npc := rfl
@[simp] theorem setLR_lr (s : State) (v : Word) : (setLR s v).lr = v := rfl
@[simp] theorem setLR_sr (s : State) (v : Word) : (setLR s v).sr = s.sr := rfl
@[simp] theorem setLR_vbr (s : State) (v : Word) : (setLR s v).vbr = s.vbr := rfl
@[simp] theorem setLR_spc (s : State) (v : Word) : (setLR s v).spc = s.spc := rfl
@[simp] theorem setLR_ssp (s : State) (v : Word) : (setLR s v).ssp = s.ssp := rfl
@[simp] theorem setLR_gbr (s : State) (v : Word) : (setLR s v).gbr = s.gbr := rfl
@[simp] theorem setLR_tbr (s : State) (v : Word) : (setLR s v).tbr = s.tbr := rfl
@[simp] theorem setLR_ttb (s : State) (v : Word) : (setLR s v).ttb = s.ttb := rfl
@[simp] theorem setLR_tea (s : State) (v : Word) : (setLR s v).tea = s.tea := rfl
@[simp] theorem setLR_mmcr (s : State) (v : Word) : (setLR s v).mmcr = s.mmcr := rfl
@[simp] theorem setLR_exsr (s : State) (v : Word) : (setLR s v).exsr = s.exsr := rfl
@[simp] theorem setLR_sttb (s : State) (v : Word) : (setLR s v).sttb = s.sttb := rfl
@[simp] theorem setLR_krr (s : State) (v : Word) : (setLR s v).krr = s.krr := rfl
@[simp] theorem setLR_gbh (s : State) (v : Word) : (setLR s v).gbh = s.gbh := rfl
@[simp] theorem setLR_rbs (s : State) (v : Word) : (setLR s v).rbs = s.rbs := rfl
@[simp] theorem setLR_tlb (s : State) (v : Word) : (setLR s v).tlb = s.tlb := rfl
@[simp] theorem setLR_acl (s : State) (v : Word) : (setLR s v).acl = s.acl := rfl
@[simp] theorem setLR_ekey (s : State) (v : Word) : (setLR s v).ekey = s.ekey := rfl
@[simp] theorem setLR_ldekrrEnabled (s : State) (v : Word) : (setLR s v).ldekrrEnabled = s.ldekrrEnabled := rfl
@[simp] theorem setLR_canarySeed (s : State) (v : Word) : (setLR s v).canarySeed = s.canarySeed := rfl
@[simp] theorem setLR_stale (s : State) (v : Word) : (setLR s v).stale = s.stale := rfl
@[simp] theorem setLR_tripwires (s : State) (v : Word) : (setLR s v).tripwires = s.tripwires := rfl
@[simp] theorem setLR_usec (s : State) (v : Word) : (setLR s v).usec = s.usec := rfl
@[simp] theorem setLR_cycles (s : State) (v : Word) : (setLR s v).cycles = s.cycles := rfl
@[simp] theorem setLR_pending (s : State) (v : Word) : (setLR s v).pending = s.pending := rfl
@[simp] theorem setLR_sleeping (s : State) (v : Word) : (setLR s v).sleeping = s.sleeping := rfl
@[simp] theorem setLR_lrAge (s : State) (v : Word) : (setLR s v).lrAge = 0 := rfl
@[simp] theorem setLR_remote (s : State) (v : Word) : (setLR s v).remote = s.remote := rfl
@[simp] theorem setLR_mem (s : State) (v : Word) : (setLR s v).mem = s.mem := rfl
@[simp] theorem setLR_draws (s : State) (v : Word) : (setLR s v).draws = s.draws := rfl
@[simp] theorem setLR_clock (s : State) (v : Word) : (setLR s v).clock = s.clock := rfl
@[simp] theorem setLR_faults (s : State) (v : Word) : (setLR s v).faults = s.faults := rfl
@[simp] theorem setLR_faultTea (s : State) (v : Word) : (setLR s v).faultTea = s.faultTea := rfl
@[simp] theorem setLR_device (s : State) (v : Word) : (setLR s v).device = s.device := rfl
@[simp] theorem setLR_map (s : State) (v : Word) : (setLR s v).map = s.map := rfl

/-! storeByte -/
@[simp] theorem storeByte_regs (s : State) (a : Nat) (b : Byte) : (storeByte s a b).regs = s.regs := rfl
@[simp] theorem storeByte_pc (s : State) (a : Nat) (b : Byte) : (storeByte s a b).pc = s.pc := rfl
@[simp] theorem storeByte_npc (s : State) (a : Nat) (b : Byte) : (storeByte s a b).npc = s.npc := rfl
@[simp] theorem storeByte_lr (s : State) (a : Nat) (b : Byte) : (storeByte s a b).lr = s.lr := rfl
@[simp] theorem storeByte_sr (s : State) (a : Nat) (b : Byte) : (storeByte s a b).sr = s.sr := rfl
@[simp] theorem storeByte_vbr (s : State) (a : Nat) (b : Byte) : (storeByte s a b).vbr = s.vbr := rfl
@[simp] theorem storeByte_spc (s : State) (a : Nat) (b : Byte) : (storeByte s a b).spc = s.spc := rfl
@[simp] theorem storeByte_ssp (s : State) (a : Nat) (b : Byte) : (storeByte s a b).ssp = s.ssp := rfl
@[simp] theorem storeByte_gbr (s : State) (a : Nat) (b : Byte) : (storeByte s a b).gbr = s.gbr := rfl
@[simp] theorem storeByte_tbr (s : State) (a : Nat) (b : Byte) : (storeByte s a b).tbr = s.tbr := rfl
@[simp] theorem storeByte_ttb (s : State) (a : Nat) (b : Byte) : (storeByte s a b).ttb = s.ttb := rfl
@[simp] theorem storeByte_tea (s : State) (a : Nat) (b : Byte) : (storeByte s a b).tea = s.tea := rfl
@[simp] theorem storeByte_mmcr (s : State) (a : Nat) (b : Byte) : (storeByte s a b).mmcr = s.mmcr := rfl
@[simp] theorem storeByte_exsr (s : State) (a : Nat) (b : Byte) : (storeByte s a b).exsr = s.exsr := rfl
@[simp] theorem storeByte_sttb (s : State) (a : Nat) (b : Byte) : (storeByte s a b).sttb = s.sttb := rfl
@[simp] theorem storeByte_krr (s : State) (a : Nat) (b : Byte) : (storeByte s a b).krr = s.krr := rfl
@[simp] theorem storeByte_gbh (s : State) (a : Nat) (b : Byte) : (storeByte s a b).gbh = s.gbh := rfl
@[simp] theorem storeByte_rbs (s : State) (a : Nat) (b : Byte) : (storeByte s a b).rbs = s.rbs := rfl
@[simp] theorem storeByte_tlb (s : State) (a : Nat) (b : Byte) : (storeByte s a b).tlb = s.tlb := rfl
@[simp] theorem storeByte_acl (s : State) (a : Nat) (b : Byte) : (storeByte s a b).acl = s.acl := rfl
@[simp] theorem storeByte_ekey (s : State) (a : Nat) (b : Byte) : (storeByte s a b).ekey = s.ekey := rfl
@[simp] theorem storeByte_ldekrrEnabled (s : State) (a : Nat) (b : Byte) : (storeByte s a b).ldekrrEnabled = s.ldekrrEnabled := rfl
@[simp] theorem storeByte_canarySeed (s : State) (a : Nat) (b : Byte) : (storeByte s a b).canarySeed = s.canarySeed := rfl
@[simp] theorem storeByte_stale (s : State) (a : Nat) (b : Byte) : (storeByte s a b).stale = noteStale s.mem s.stale a := rfl
@[simp] theorem storeByte_tripwires (s : State) (a : Nat) (b : Byte) : (storeByte s a b).tripwires = s.tripwires := rfl
@[simp] theorem storeByte_usec (s : State) (a : Nat) (b : Byte) : (storeByte s a b).usec = s.usec := rfl
@[simp] theorem storeByte_cycles (s : State) (a : Nat) (b : Byte) : (storeByte s a b).cycles = s.cycles := rfl
@[simp] theorem storeByte_pending (s : State) (a : Nat) (b : Byte) : (storeByte s a b).pending = s.pending := rfl
@[simp] theorem storeByte_sleeping (s : State) (a : Nat) (b : Byte) : (storeByte s a b).sleeping = s.sleeping := rfl
@[simp] theorem storeByte_lrAge (s : State) (a : Nat) (b : Byte) : (storeByte s a b).lrAge = s.lrAge := rfl
@[simp] theorem storeByte_remote (s : State) (a : Nat) (b : Byte) : (storeByte s a b).remote = s.remote := rfl
@[simp] theorem storeByte_mem (s : State) (a : Nat) (b : Byte) : (storeByte s a b).mem = Memory.write s.mem a b := rfl
@[simp] theorem storeByte_draws (s : State) (a : Nat) (b : Byte) : (storeByte s a b).draws = s.draws := rfl
@[simp] theorem storeByte_clock (s : State) (a : Nat) (b : Byte) : (storeByte s a b).clock = s.clock := rfl
@[simp] theorem storeByte_faults (s : State) (a : Nat) (b : Byte) : (storeByte s a b).faults = s.faults := rfl
@[simp] theorem storeByte_faultTea (s : State) (a : Nat) (b : Byte) : (storeByte s a b).faultTea = s.faultTea := rfl
@[simp] theorem storeByte_device (s : State) (a : Nat) (b : Byte) : (storeByte s a b).device = s.device := rfl
@[simp] theorem storeByte_map (s : State) (a : Nat) (b : Byte) : (storeByte s a b).map = s.map := rfl

/-! touched -/
@[simp] theorem touched_regs (s : State) (l : List Nat) : (touched s l).regs = s.regs := rfl
@[simp] theorem touched_pc (s : State) (l : List Nat) : (touched s l).pc = s.pc := rfl
@[simp] theorem touched_npc (s : State) (l : List Nat) : (touched s l).npc = s.npc := rfl
@[simp] theorem touched_lr (s : State) (l : List Nat) : (touched s l).lr = s.lr := rfl
@[simp] theorem touched_sr (s : State) (l : List Nat) : (touched s l).sr = s.sr := rfl
@[simp] theorem touched_vbr (s : State) (l : List Nat) : (touched s l).vbr = s.vbr := rfl
@[simp] theorem touched_spc (s : State) (l : List Nat) : (touched s l).spc = s.spc := rfl
@[simp] theorem touched_ssp (s : State) (l : List Nat) : (touched s l).ssp = s.ssp := rfl
@[simp] theorem touched_gbr (s : State) (l : List Nat) : (touched s l).gbr = s.gbr := rfl
@[simp] theorem touched_tbr (s : State) (l : List Nat) : (touched s l).tbr = s.tbr := rfl
@[simp] theorem touched_ttb (s : State) (l : List Nat) : (touched s l).ttb = s.ttb := rfl
@[simp] theorem touched_tea (s : State) (l : List Nat) : (touched s l).tea = s.tea := rfl
@[simp] theorem touched_mmcr (s : State) (l : List Nat) : (touched s l).mmcr = s.mmcr := rfl
@[simp] theorem touched_exsr (s : State) (l : List Nat) : (touched s l).exsr = s.exsr := rfl
@[simp] theorem touched_sttb (s : State) (l : List Nat) : (touched s l).sttb = s.sttb := rfl
@[simp] theorem touched_krr (s : State) (l : List Nat) : (touched s l).krr = s.krr := rfl
@[simp] theorem touched_gbh (s : State) (l : List Nat) : (touched s l).gbh = s.gbh := rfl
@[simp] theorem touched_rbs (s : State) (l : List Nat) : (touched s l).rbs = s.rbs := rfl
@[simp] theorem touched_tlb (s : State) (l : List Nat) : (touched s l).tlb = s.tlb := rfl
@[simp] theorem touched_acl (s : State) (l : List Nat) : (touched s l).acl = s.acl := rfl
@[simp] theorem touched_ekey (s : State) (l : List Nat) : (touched s l).ekey = s.ekey := rfl
@[simp] theorem touched_ldekrrEnabled (s : State) (l : List Nat) : (touched s l).ldekrrEnabled = s.ldekrrEnabled := rfl
@[simp] theorem touched_canarySeed (s : State) (l : List Nat) : (touched s l).canarySeed = s.canarySeed := rfl
@[simp] theorem touched_tripwires (s : State) (l : List Nat) : (touched s l).tripwires = s.tripwires := rfl
@[simp] theorem touched_usec (s : State) (l : List Nat) : (touched s l).usec = s.usec := rfl
@[simp] theorem touched_cycles (s : State) (l : List Nat) : (touched s l).cycles = s.cycles := rfl
@[simp] theorem touched_pending (s : State) (l : List Nat) : (touched s l).pending = s.pending := rfl
@[simp] theorem touched_sleeping (s : State) (l : List Nat) : (touched s l).sleeping = s.sleeping := rfl
@[simp] theorem touched_lrAge (s : State) (l : List Nat) : (touched s l).lrAge = s.lrAge := rfl
@[simp] theorem touched_remote (s : State) (l : List Nat) : (touched s l).remote = s.remote := rfl
@[simp] theorem touched_mem (s : State) (l : List Nat) : (touched s l).mem = s.mem := rfl
@[simp] theorem touched_draws (s : State) (l : List Nat) : (touched s l).draws = s.draws := rfl
@[simp] theorem touched_clock (s : State) (l : List Nat) : (touched s l).clock = s.clock := rfl
@[simp] theorem touched_faults (s : State) (l : List Nat) : (touched s l).faults = s.faults := rfl
@[simp] theorem touched_faultTea (s : State) (l : List Nat) : (touched s l).faultTea = s.faultTea := rfl
@[simp] theorem touched_device (s : State) (l : List Nat) : (touched s l).device = s.device := rfl
@[simp] theorem touched_map (s : State) (l : List Nat) : (touched s l).map = s.map := rfl

/-! setRbs -/
@[simp] theorem setRbs_regs (s : State) (i : BitVec 8) (v : Word) : (setRbs s i v).regs = s.regs := rfl
@[simp] theorem setRbs_pc (s : State) (i : BitVec 8) (v : Word) : (setRbs s i v).pc = s.pc := rfl
@[simp] theorem setRbs_npc (s : State) (i : BitVec 8) (v : Word) : (setRbs s i v).npc = s.npc := rfl
@[simp] theorem setRbs_lr (s : State) (i : BitVec 8) (v : Word) : (setRbs s i v).lr = s.lr := rfl
@[simp] theorem setRbs_sr (s : State) (i : BitVec 8) (v : Word) : (setRbs s i v).sr = s.sr := rfl
@[simp] theorem setRbs_vbr (s : State) (i : BitVec 8) (v : Word) : (setRbs s i v).vbr = s.vbr := rfl
@[simp] theorem setRbs_spc (s : State) (i : BitVec 8) (v : Word) : (setRbs s i v).spc = s.spc := rfl
@[simp] theorem setRbs_ssp (s : State) (i : BitVec 8) (v : Word) : (setRbs s i v).ssp = s.ssp := rfl
@[simp] theorem setRbs_gbr (s : State) (i : BitVec 8) (v : Word) : (setRbs s i v).gbr = s.gbr := rfl
@[simp] theorem setRbs_tbr (s : State) (i : BitVec 8) (v : Word) : (setRbs s i v).tbr = s.tbr := rfl
@[simp] theorem setRbs_ttb (s : State) (i : BitVec 8) (v : Word) : (setRbs s i v).ttb = s.ttb := rfl
@[simp] theorem setRbs_tea (s : State) (i : BitVec 8) (v : Word) : (setRbs s i v).tea = s.tea := rfl
@[simp] theorem setRbs_mmcr (s : State) (i : BitVec 8) (v : Word) : (setRbs s i v).mmcr = s.mmcr := rfl
@[simp] theorem setRbs_exsr (s : State) (i : BitVec 8) (v : Word) : (setRbs s i v).exsr = s.exsr := rfl
@[simp] theorem setRbs_sttb (s : State) (i : BitVec 8) (v : Word) : (setRbs s i v).sttb = s.sttb := rfl
@[simp] theorem setRbs_krr (s : State) (i : BitVec 8) (v : Word) : (setRbs s i v).krr = s.krr := rfl
@[simp] theorem setRbs_gbh (s : State) (i : BitVec 8) (v : Word) : (setRbs s i v).gbh = s.gbh := rfl
@[simp] theorem setRbs_rbs (s : State) (i : BitVec 8) (v : Word) : (setRbs s i v).rbs = s.rbs.set i.toNat v i.isLt := rfl
@[simp] theorem setRbs_tlb (s : State) (i : BitVec 8) (v : Word) : (setRbs s i v).tlb = s.tlb := rfl
@[simp] theorem setRbs_acl (s : State) (i : BitVec 8) (v : Word) : (setRbs s i v).acl = s.acl := rfl
@[simp] theorem setRbs_ekey (s : State) (i : BitVec 8) (v : Word) : (setRbs s i v).ekey = s.ekey := rfl
@[simp] theorem setRbs_ldekrrEnabled (s : State) (i : BitVec 8) (v : Word) : (setRbs s i v).ldekrrEnabled = s.ldekrrEnabled := rfl
@[simp] theorem setRbs_canarySeed (s : State) (i : BitVec 8) (v : Word) : (setRbs s i v).canarySeed = s.canarySeed := rfl
@[simp] theorem setRbs_stale (s : State) (i : BitVec 8) (v : Word) : (setRbs s i v).stale = s.stale := rfl
@[simp] theorem setRbs_tripwires (s : State) (i : BitVec 8) (v : Word) : (setRbs s i v).tripwires = s.tripwires := rfl
@[simp] theorem setRbs_usec (s : State) (i : BitVec 8) (v : Word) : (setRbs s i v).usec = s.usec := rfl
@[simp] theorem setRbs_cycles (s : State) (i : BitVec 8) (v : Word) : (setRbs s i v).cycles = s.cycles := rfl
@[simp] theorem setRbs_pending (s : State) (i : BitVec 8) (v : Word) : (setRbs s i v).pending = s.pending := rfl
@[simp] theorem setRbs_sleeping (s : State) (i : BitVec 8) (v : Word) : (setRbs s i v).sleeping = s.sleeping := rfl
@[simp] theorem setRbs_lrAge (s : State) (i : BitVec 8) (v : Word) : (setRbs s i v).lrAge = s.lrAge := rfl
@[simp] theorem setRbs_remote (s : State) (i : BitVec 8) (v : Word) : (setRbs s i v).remote = s.remote := rfl
@[simp] theorem setRbs_mem (s : State) (i : BitVec 8) (v : Word) : (setRbs s i v).mem = s.mem := rfl
@[simp] theorem setRbs_draws (s : State) (i : BitVec 8) (v : Word) : (setRbs s i v).draws = s.draws := rfl
@[simp] theorem setRbs_clock (s : State) (i : BitVec 8) (v : Word) : (setRbs s i v).clock = s.clock := rfl
@[simp] theorem setRbs_faults (s : State) (i : BitVec 8) (v : Word) : (setRbs s i v).faults = s.faults := rfl
@[simp] theorem setRbs_faultTea (s : State) (i : BitVec 8) (v : Word) : (setRbs s i v).faultTea = s.faultTea := rfl
@[simp] theorem setRbs_device (s : State) (i : BitVec 8) (v : Word) : (setRbs s i v).device = s.device := rfl
@[simp] theorem setRbs_map (s : State) (i : BitVec 8) (v : Word) : (setRbs s i v).map = s.map := rfl

/-! fpSticky -/
@[simp] theorem fpSticky_regs (v : BitVec 4) (s : State) : (fpSticky v s).regs = s.regs := rfl
@[simp] theorem fpSticky_pc (v : BitVec 4) (s : State) : (fpSticky v s).pc = s.pc := rfl
@[simp] theorem fpSticky_npc (v : BitVec 4) (s : State) : (fpSticky v s).npc = s.npc := rfl
@[simp] theorem fpSticky_lr (v : BitVec 4) (s : State) : (fpSticky v s).lr = s.lr := rfl
@[simp] theorem fpSticky_sr (v : BitVec 4) (s : State) : (fpSticky v s).sr = s.sr := rfl
@[simp] theorem fpSticky_vbr (v : BitVec 4) (s : State) : (fpSticky v s).vbr = s.vbr := rfl
@[simp] theorem fpSticky_spc (v : BitVec 4) (s : State) : (fpSticky v s).spc = s.spc := rfl
@[simp] theorem fpSticky_ssp (v : BitVec 4) (s : State) : (fpSticky v s).ssp = s.ssp := rfl
@[simp] theorem fpSticky_gbr (v : BitVec 4) (s : State) : (fpSticky v s).gbr = s.gbr ||| (v.setWidth 64 <<< 56) := rfl
@[simp] theorem fpSticky_tbr (v : BitVec 4) (s : State) : (fpSticky v s).tbr = s.tbr := rfl
@[simp] theorem fpSticky_ttb (v : BitVec 4) (s : State) : (fpSticky v s).ttb = s.ttb := rfl
@[simp] theorem fpSticky_tea (v : BitVec 4) (s : State) : (fpSticky v s).tea = s.tea := rfl
@[simp] theorem fpSticky_mmcr (v : BitVec 4) (s : State) : (fpSticky v s).mmcr = s.mmcr := rfl
@[simp] theorem fpSticky_exsr (v : BitVec 4) (s : State) : (fpSticky v s).exsr = s.exsr := rfl
@[simp] theorem fpSticky_sttb (v : BitVec 4) (s : State) : (fpSticky v s).sttb = s.sttb := rfl
@[simp] theorem fpSticky_krr (v : BitVec 4) (s : State) : (fpSticky v s).krr = s.krr := rfl
@[simp] theorem fpSticky_gbh (v : BitVec 4) (s : State) : (fpSticky v s).gbh = s.gbh := rfl
@[simp] theorem fpSticky_rbs (v : BitVec 4) (s : State) : (fpSticky v s).rbs = s.rbs := rfl
@[simp] theorem fpSticky_tlb (v : BitVec 4) (s : State) : (fpSticky v s).tlb = s.tlb := rfl
@[simp] theorem fpSticky_acl (v : BitVec 4) (s : State) : (fpSticky v s).acl = s.acl := rfl
@[simp] theorem fpSticky_ekey (v : BitVec 4) (s : State) : (fpSticky v s).ekey = s.ekey := rfl
@[simp] theorem fpSticky_ldekrrEnabled (v : BitVec 4) (s : State) : (fpSticky v s).ldekrrEnabled = s.ldekrrEnabled := rfl
@[simp] theorem fpSticky_canarySeed (v : BitVec 4) (s : State) : (fpSticky v s).canarySeed = s.canarySeed := rfl
@[simp] theorem fpSticky_stale (v : BitVec 4) (s : State) : (fpSticky v s).stale = s.stale := rfl
@[simp] theorem fpSticky_tripwires (v : BitVec 4) (s : State) : (fpSticky v s).tripwires = s.tripwires := rfl
@[simp] theorem fpSticky_usec (v : BitVec 4) (s : State) : (fpSticky v s).usec = s.usec := rfl
@[simp] theorem fpSticky_cycles (v : BitVec 4) (s : State) : (fpSticky v s).cycles = s.cycles := rfl
@[simp] theorem fpSticky_pending (v : BitVec 4) (s : State) : (fpSticky v s).pending = s.pending := rfl
@[simp] theorem fpSticky_sleeping (v : BitVec 4) (s : State) : (fpSticky v s).sleeping = s.sleeping := rfl
@[simp] theorem fpSticky_lrAge (v : BitVec 4) (s : State) : (fpSticky v s).lrAge = s.lrAge := rfl
@[simp] theorem fpSticky_remote (v : BitVec 4) (s : State) : (fpSticky v s).remote = s.remote := rfl
@[simp] theorem fpSticky_mem (v : BitVec 4) (s : State) : (fpSticky v s).mem = s.mem := rfl
@[simp] theorem fpSticky_draws (v : BitVec 4) (s : State) : (fpSticky v s).draws = s.draws := rfl
@[simp] theorem fpSticky_clock (v : BitVec 4) (s : State) : (fpSticky v s).clock = s.clock := rfl
@[simp] theorem fpSticky_faults (v : BitVec 4) (s : State) : (fpSticky v s).faults = s.faults := rfl
@[simp] theorem fpSticky_faultTea (v : BitVec 4) (s : State) : (fpSticky v s).faultTea = s.faultTea := rfl
@[simp] theorem fpSticky_device (v : BitVec 4) (s : State) : (fpSticky v s).device = s.device := rfl
@[simp] theorem fpSticky_map (v : BitVec 4) (s : State) : (fpSticky v s).map = s.map := rfl

/-! drawnN -/
@[simp] theorem drawnN_regs (k : Nat) (s : State) : (drawnN k s).regs = s.regs := rfl
@[simp] theorem drawnN_pc (k : Nat) (s : State) : (drawnN k s).pc = s.pc := rfl
@[simp] theorem drawnN_npc (k : Nat) (s : State) : (drawnN k s).npc = s.npc := rfl
@[simp] theorem drawnN_lr (k : Nat) (s : State) : (drawnN k s).lr = s.lr := rfl
@[simp] theorem drawnN_sr (k : Nat) (s : State) : (drawnN k s).sr = s.sr := rfl
@[simp] theorem drawnN_vbr (k : Nat) (s : State) : (drawnN k s).vbr = s.vbr := rfl
@[simp] theorem drawnN_spc (k : Nat) (s : State) : (drawnN k s).spc = s.spc := rfl
@[simp] theorem drawnN_ssp (k : Nat) (s : State) : (drawnN k s).ssp = s.ssp := rfl
@[simp] theorem drawnN_gbr (k : Nat) (s : State) : (drawnN k s).gbr = s.gbr := rfl
@[simp] theorem drawnN_tbr (k : Nat) (s : State) : (drawnN k s).tbr = s.tbr := rfl
@[simp] theorem drawnN_ttb (k : Nat) (s : State) : (drawnN k s).ttb = s.ttb := rfl
@[simp] theorem drawnN_tea (k : Nat) (s : State) : (drawnN k s).tea = s.tea := rfl
@[simp] theorem drawnN_mmcr (k : Nat) (s : State) : (drawnN k s).mmcr = s.mmcr := rfl
@[simp] theorem drawnN_exsr (k : Nat) (s : State) : (drawnN k s).exsr = s.exsr := rfl
@[simp] theorem drawnN_sttb (k : Nat) (s : State) : (drawnN k s).sttb = s.sttb := rfl
@[simp] theorem drawnN_krr (k : Nat) (s : State) : (drawnN k s).krr = s.krr := rfl
@[simp] theorem drawnN_gbh (k : Nat) (s : State) : (drawnN k s).gbh = s.gbh := rfl
@[simp] theorem drawnN_rbs (k : Nat) (s : State) : (drawnN k s).rbs = s.rbs := rfl
@[simp] theorem drawnN_tlb (k : Nat) (s : State) : (drawnN k s).tlb = s.tlb := rfl
@[simp] theorem drawnN_acl (k : Nat) (s : State) : (drawnN k s).acl = s.acl := rfl
@[simp] theorem drawnN_ekey (k : Nat) (s : State) : (drawnN k s).ekey = s.ekey := rfl
@[simp] theorem drawnN_ldekrrEnabled (k : Nat) (s : State) : (drawnN k s).ldekrrEnabled = s.ldekrrEnabled := rfl
@[simp] theorem drawnN_canarySeed (k : Nat) (s : State) : (drawnN k s).canarySeed = s.canarySeed := rfl
@[simp] theorem drawnN_stale (k : Nat) (s : State) : (drawnN k s).stale = s.stale := rfl
@[simp] theorem drawnN_tripwires (k : Nat) (s : State) : (drawnN k s).tripwires = s.tripwires := rfl
@[simp] theorem drawnN_usec (k : Nat) (s : State) : (drawnN k s).usec = s.usec := rfl
@[simp] theorem drawnN_cycles (k : Nat) (s : State) : (drawnN k s).cycles = s.cycles := rfl
@[simp] theorem drawnN_pending (k : Nat) (s : State) : (drawnN k s).pending = s.pending := rfl
@[simp] theorem drawnN_sleeping (k : Nat) (s : State) : (drawnN k s).sleeping = s.sleeping := rfl
@[simp] theorem drawnN_lrAge (k : Nat) (s : State) : (drawnN k s).lrAge = s.lrAge := rfl
@[simp] theorem drawnN_remote (k : Nat) (s : State) : (drawnN k s).remote = s.remote := rfl
@[simp] theorem drawnN_mem (k : Nat) (s : State) : (drawnN k s).mem = s.mem := rfl
@[simp] theorem drawnN_draws (k : Nat) (s : State) : (drawnN k s).draws = s.draws + k := rfl
@[simp] theorem drawnN_clock (k : Nat) (s : State) : (drawnN k s).clock = s.clock := rfl
@[simp] theorem drawnN_faults (k : Nat) (s : State) : (drawnN k s).faults = s.faults := rfl
@[simp] theorem drawnN_faultTea (k : Nat) (s : State) : (drawnN k s).faultTea = s.faultTea := rfl
@[simp] theorem drawnN_device (k : Nat) (s : State) : (drawnN k s).device = s.device := rfl
@[simp] theorem drawnN_map (k : Nat) (s : State) : (drawnN k s).map = s.map := rfl

/-! evictI -/
@[simp] theorem evictI_regs (s : State) (l : List Nat) : (evictI s l).regs = s.regs := rfl
@[simp] theorem evictI_pc (s : State) (l : List Nat) : (evictI s l).pc = s.pc := rfl
@[simp] theorem evictI_npc (s : State) (l : List Nat) : (evictI s l).npc = s.npc := rfl
@[simp] theorem evictI_lr (s : State) (l : List Nat) : (evictI s l).lr = s.lr := rfl
@[simp] theorem evictI_sr (s : State) (l : List Nat) : (evictI s l).sr = s.sr := rfl
@[simp] theorem evictI_vbr (s : State) (l : List Nat) : (evictI s l).vbr = s.vbr := rfl
@[simp] theorem evictI_spc (s : State) (l : List Nat) : (evictI s l).spc = s.spc := rfl
@[simp] theorem evictI_ssp (s : State) (l : List Nat) : (evictI s l).ssp = s.ssp := rfl
@[simp] theorem evictI_gbr (s : State) (l : List Nat) : (evictI s l).gbr = s.gbr := rfl
@[simp] theorem evictI_tbr (s : State) (l : List Nat) : (evictI s l).tbr = s.tbr := rfl
@[simp] theorem evictI_ttb (s : State) (l : List Nat) : (evictI s l).ttb = s.ttb := rfl
@[simp] theorem evictI_tea (s : State) (l : List Nat) : (evictI s l).tea = s.tea := rfl
@[simp] theorem evictI_mmcr (s : State) (l : List Nat) : (evictI s l).mmcr = s.mmcr := rfl
@[simp] theorem evictI_exsr (s : State) (l : List Nat) : (evictI s l).exsr = s.exsr := rfl
@[simp] theorem evictI_sttb (s : State) (l : List Nat) : (evictI s l).sttb = s.sttb := rfl
@[simp] theorem evictI_krr (s : State) (l : List Nat) : (evictI s l).krr = s.krr := rfl
@[simp] theorem evictI_gbh (s : State) (l : List Nat) : (evictI s l).gbh = s.gbh := rfl
@[simp] theorem evictI_rbs (s : State) (l : List Nat) : (evictI s l).rbs = s.rbs := rfl
@[simp] theorem evictI_tlb (s : State) (l : List Nat) : (evictI s l).tlb = s.tlb := rfl
@[simp] theorem evictI_acl (s : State) (l : List Nat) : (evictI s l).acl = s.acl := rfl
@[simp] theorem evictI_ekey (s : State) (l : List Nat) : (evictI s l).ekey = s.ekey := rfl
@[simp] theorem evictI_ldekrrEnabled (s : State) (l : List Nat) : (evictI s l).ldekrrEnabled = s.ldekrrEnabled := rfl
@[simp] theorem evictI_canarySeed (s : State) (l : List Nat) : (evictI s l).canarySeed = s.canarySeed := rfl
@[simp] theorem evictI_tripwires (s : State) (l : List Nat) : (evictI s l).tripwires = s.tripwires := rfl
@[simp] theorem evictI_usec (s : State) (l : List Nat) : (evictI s l).usec = s.usec := rfl
@[simp] theorem evictI_cycles (s : State) (l : List Nat) : (evictI s l).cycles = s.cycles := rfl
@[simp] theorem evictI_pending (s : State) (l : List Nat) : (evictI s l).pending = s.pending := rfl
@[simp] theorem evictI_sleeping (s : State) (l : List Nat) : (evictI s l).sleeping = s.sleeping := rfl
@[simp] theorem evictI_lrAge (s : State) (l : List Nat) : (evictI s l).lrAge = s.lrAge := rfl
@[simp] theorem evictI_remote (s : State) (l : List Nat) : (evictI s l).remote = s.remote := rfl
@[simp] theorem evictI_mem (s : State) (l : List Nat) : (evictI s l).mem = s.mem := rfl
@[simp] theorem evictI_draws (s : State) (l : List Nat) : (evictI s l).draws = s.draws := rfl
@[simp] theorem evictI_clock (s : State) (l : List Nat) : (evictI s l).clock = s.clock := rfl
@[simp] theorem evictI_faults (s : State) (l : List Nat) : (evictI s l).faults = s.faults := rfl
@[simp] theorem evictI_faultTea (s : State) (l : List Nat) : (evictI s l).faultTea = s.faultTea := rfl
@[simp] theorem evictI_device (s : State) (l : List Nat) : (evictI s l).device = s.device := rfl
@[simp] theorem evictI_map (s : State) (l : List Nat) : (evictI s l).map = s.map := rfl

/-! enterTrap -/
@[simp] theorem enterTrap_regs (c : Half) (a : Option Word) (p : VAddr) (s : State) : (enterTrap c a p s).regs = s.regs.set 15 s.ssp (by decide) := rfl
@[simp] theorem enterTrap_pc (c : Half) (a : Option Word) (p : VAddr) (s : State) : (enterTrap c a p s).pc = trapVector s c := rfl
@[simp] theorem enterTrap_npc (c : Half) (a : Option Word) (p : VAddr) (s : State) : (enterTrap c a p s).npc = s.npc := rfl
@[simp] theorem enterTrap_lr (c : Half) (a : Option Word) (p : VAddr) (s : State) : (enterTrap c a p s).lr = s.lr := rfl
@[simp] theorem enterTrap_sr (c : Half) (a : Option Word) (p : VAddr) (s : State) : (enterTrap c a p s).sr = trapSR s.sr := rfl
@[simp] theorem enterTrap_vbr (c : Half) (a : Option Word) (p : VAddr) (s : State) : (enterTrap c a p s).vbr = s.vbr := rfl
@[simp] theorem enterTrap_spc (c : Half) (a : Option Word) (p : VAddr) (s : State) : (enterTrap c a p s).spc = p.setWidth 64 := rfl
@[simp] theorem enterTrap_ssp (c : Half) (a : Option Word) (p : VAddr) (s : State) : (enterTrap c a p s).ssp = getReg s sp := rfl
@[simp] theorem enterTrap_gbr (c : Half) (a : Option Word) (p : VAddr) (s : State) : (enterTrap c a p s).gbr = s.gbr := rfl
@[simp] theorem enterTrap_tbr (c : Half) (a : Option Word) (p : VAddr) (s : State) : (enterTrap c a p s).tbr = s.tbr := rfl
@[simp] theorem enterTrap_ttb (c : Half) (a : Option Word) (p : VAddr) (s : State) : (enterTrap c a p s).ttb = s.ttb := rfl
@[simp] theorem enterTrap_tea (c : Half) (a : Option Word) (p : VAddr) (s : State) : (enterTrap c a p s).tea = a.getD s.tea := rfl
@[simp] theorem enterTrap_mmcr (c : Half) (a : Option Word) (p : VAddr) (s : State) : (enterTrap c a p s).mmcr = s.mmcr := rfl
@[simp] theorem enterTrap_exsr (c : Half) (a : Option Word) (p : VAddr) (s : State) : (enterTrap c a p s).exsr = trapEXSR s.sr c := rfl
@[simp] theorem enterTrap_sttb (c : Half) (a : Option Word) (p : VAddr) (s : State) : (enterTrap c a p s).sttb = s.sttb := rfl
@[simp] theorem enterTrap_krr (c : Half) (a : Option Word) (p : VAddr) (s : State) : (enterTrap c a p s).krr = s.krr := rfl
@[simp] theorem enterTrap_gbh (c : Half) (a : Option Word) (p : VAddr) (s : State) : (enterTrap c a p s).gbh = s.gbh := rfl
@[simp] theorem enterTrap_rbs (c : Half) (a : Option Word) (p : VAddr) (s : State) : (enterTrap c a p s).rbs = s.rbs := rfl
@[simp] theorem enterTrap_tlb (c : Half) (a : Option Word) (p : VAddr) (s : State) : (enterTrap c a p s).tlb = s.tlb := rfl
@[simp] theorem enterTrap_acl (c : Half) (a : Option Word) (p : VAddr) (s : State) : (enterTrap c a p s).acl = s.acl := rfl
@[simp] theorem enterTrap_ekey (c : Half) (a : Option Word) (p : VAddr) (s : State) : (enterTrap c a p s).ekey = s.ekey := rfl
@[simp] theorem enterTrap_ldekrrEnabled (c : Half) (a : Option Word) (p : VAddr) (s : State) : (enterTrap c a p s).ldekrrEnabled = s.ldekrrEnabled := rfl
@[simp] theorem enterTrap_canarySeed (c : Half) (a : Option Word) (p : VAddr) (s : State) : (enterTrap c a p s).canarySeed = s.canarySeed := rfl
@[simp] theorem enterTrap_stale (c : Half) (a : Option Word) (p : VAddr) (s : State) : (enterTrap c a p s).stale = s.stale := rfl
@[simp] theorem enterTrap_tripwires (c : Half) (a : Option Word) (p : VAddr) (s : State) : (enterTrap c a p s).tripwires = s.tripwires := rfl
@[simp] theorem enterTrap_usec (c : Half) (a : Option Word) (p : VAddr) (s : State) : (enterTrap c a p s).usec = s.usec := rfl
@[simp] theorem enterTrap_cycles (c : Half) (a : Option Word) (p : VAddr) (s : State) : (enterTrap c a p s).cycles = s.cycles := rfl
@[simp] theorem enterTrap_pending (c : Half) (a : Option Word) (p : VAddr) (s : State) : (enterTrap c a p s).pending = s.pending := rfl
@[simp] theorem enterTrap_sleeping (c : Half) (a : Option Word) (p : VAddr) (s : State) : (enterTrap c a p s).sleeping = s.sleeping := rfl
@[simp] theorem enterTrap_lrAge (c : Half) (a : Option Word) (p : VAddr) (s : State) : (enterTrap c a p s).lrAge = s.lrAge := rfl
@[simp] theorem enterTrap_remote (c : Half) (a : Option Word) (p : VAddr) (s : State) : (enterTrap c a p s).remote = s.remote := rfl
@[simp] theorem enterTrap_mem (c : Half) (a : Option Word) (p : VAddr) (s : State) : (enterTrap c a p s).mem = s.mem := rfl
@[simp] theorem enterTrap_draws (c : Half) (a : Option Word) (p : VAddr) (s : State) : (enterTrap c a p s).draws = s.draws := rfl
@[simp] theorem enterTrap_clock (c : Half) (a : Option Word) (p : VAddr) (s : State) : (enterTrap c a p s).clock = s.clock := rfl
@[simp] theorem enterTrap_faults (c : Half) (a : Option Word) (p : VAddr) (s : State) : (enterTrap c a p s).faults = s.faults := rfl
@[simp] theorem enterTrap_faultTea (c : Half) (a : Option Word) (p : VAddr) (s : State) : (enterTrap c a p s).faultTea = s.faultTea := rfl
@[simp] theorem enterTrap_device (c : Half) (a : Option Word) (p : VAddr) (s : State) : (enterTrap c a p s).device = s.device := rfl
@[simp] theorem enterTrap_map (c : Half) (a : Option Word) (p : VAddr) (s : State) : (enterTrap c a p s).map = s.map := rfl

/-! aged -/
@[simp] theorem aged_regs (s : State) : (aged s).regs = s.regs := rfl
@[simp] theorem aged_pc (s : State) : (aged s).pc = s.pc := rfl
@[simp] theorem aged_npc (s : State) : (aged s).npc = s.npc := rfl
@[simp] theorem aged_lr (s : State) : (aged s).lr = s.lr := rfl
@[simp] theorem aged_sr (s : State) : (aged s).sr = s.sr := rfl
@[simp] theorem aged_vbr (s : State) : (aged s).vbr = s.vbr := rfl
@[simp] theorem aged_spc (s : State) : (aged s).spc = s.spc := rfl
@[simp] theorem aged_ssp (s : State) : (aged s).ssp = s.ssp := rfl
@[simp] theorem aged_gbr (s : State) : (aged s).gbr = s.gbr := rfl
@[simp] theorem aged_tbr (s : State) : (aged s).tbr = s.tbr := rfl
@[simp] theorem aged_ttb (s : State) : (aged s).ttb = s.ttb := rfl
@[simp] theorem aged_tea (s : State) : (aged s).tea = s.tea := rfl
@[simp] theorem aged_mmcr (s : State) : (aged s).mmcr = s.mmcr := rfl
@[simp] theorem aged_exsr (s : State) : (aged s).exsr = s.exsr := rfl
@[simp] theorem aged_sttb (s : State) : (aged s).sttb = s.sttb := rfl
@[simp] theorem aged_krr (s : State) : (aged s).krr = s.krr := rfl
@[simp] theorem aged_gbh (s : State) : (aged s).gbh = s.gbh := rfl
@[simp] theorem aged_rbs (s : State) : (aged s).rbs = s.rbs := rfl
@[simp] theorem aged_tlb (s : State) : (aged s).tlb = s.tlb := rfl
@[simp] theorem aged_acl (s : State) : (aged s).acl = s.acl := rfl
@[simp] theorem aged_ekey (s : State) : (aged s).ekey = s.ekey := rfl
@[simp] theorem aged_ldekrrEnabled (s : State) : (aged s).ldekrrEnabled = s.ldekrrEnabled := rfl
@[simp] theorem aged_canarySeed (s : State) : (aged s).canarySeed = s.canarySeed := rfl
@[simp] theorem aged_stale (s : State) : (aged s).stale = s.stale := rfl
@[simp] theorem aged_tripwires (s : State) : (aged s).tripwires = s.tripwires := rfl
@[simp] theorem aged_usec (s : State) : (aged s).usec = s.usec := rfl
@[simp] theorem aged_cycles (s : State) : (aged s).cycles = s.cycles := rfl
@[simp] theorem aged_pending (s : State) : (aged s).pending = s.pending := rfl
@[simp] theorem aged_sleeping (s : State) : (aged s).sleeping = s.sleeping := rfl
@[simp] theorem aged_lrAge (s : State) : (aged s).lrAge = s.lrAge + 1 := rfl
@[simp] theorem aged_remote (s : State) : (aged s).remote = s.remote := rfl
@[simp] theorem aged_mem (s : State) : (aged s).mem = s.mem := rfl
@[simp] theorem aged_draws (s : State) : (aged s).draws = s.draws := rfl
@[simp] theorem aged_clock (s : State) : (aged s).clock = s.clock := rfl
@[simp] theorem aged_faults (s : State) : (aged s).faults = s.faults := rfl
@[simp] theorem aged_faultTea (s : State) : (aged s).faultTea = s.faultTea := rfl
@[simp] theorem aged_device (s : State) : (aged s).device = s.device := rfl
@[simp] theorem aged_map (s : State) : (aged s).map = s.map := rfl

/-! tick -/
@[simp] theorem tick_regs (s : State) : (tick s).regs = s.regs := rfl
@[simp] theorem tick_pc (s : State) : (tick s).pc = s.pc := rfl
@[simp] theorem tick_npc (s : State) : (tick s).npc = s.npc := rfl
@[simp] theorem tick_lr (s : State) : (tick s).lr = s.lr := rfl
@[simp] theorem tick_sr (s : State) : (tick s).sr = s.sr := rfl
@[simp] theorem tick_vbr (s : State) : (tick s).vbr = s.vbr := rfl
@[simp] theorem tick_spc (s : State) : (tick s).spc = s.spc := rfl
@[simp] theorem tick_ssp (s : State) : (tick s).ssp = s.ssp := rfl
@[simp] theorem tick_gbr (s : State) : (tick s).gbr = s.gbr := rfl
@[simp] theorem tick_tbr (s : State) : (tick s).tbr = s.tbr := rfl
@[simp] theorem tick_ttb (s : State) : (tick s).ttb = s.ttb := rfl
@[simp] theorem tick_tea (s : State) : (tick s).tea = s.tea := rfl
@[simp] theorem tick_mmcr (s : State) : (tick s).mmcr = s.mmcr := rfl
@[simp] theorem tick_exsr (s : State) : (tick s).exsr = s.exsr := rfl
@[simp] theorem tick_sttb (s : State) : (tick s).sttb = s.sttb := rfl
@[simp] theorem tick_krr (s : State) : (tick s).krr = s.krr := rfl
@[simp] theorem tick_gbh (s : State) : (tick s).gbh = s.gbh := rfl
@[simp] theorem tick_rbs (s : State) : (tick s).rbs = s.rbs := rfl
@[simp] theorem tick_tlb (s : State) : (tick s).tlb = s.tlb := rfl
@[simp] theorem tick_acl (s : State) : (tick s).acl = s.acl := rfl
@[simp] theorem tick_ekey (s : State) : (tick s).ekey = s.ekey := rfl
@[simp] theorem tick_ldekrrEnabled (s : State) : (tick s).ldekrrEnabled = s.ldekrrEnabled := rfl
@[simp] theorem tick_canarySeed (s : State) : (tick s).canarySeed = s.canarySeed := rfl
@[simp] theorem tick_stale (s : State) : (tick s).stale = s.stale := rfl
@[simp] theorem tick_tripwires (s : State) : (tick s).tripwires = s.tripwires := rfl
@[simp] theorem tick_usec (s : State) : (tick s).usec = s.usec + Config.usecStep s.clock := rfl
@[simp] theorem tick_sleeping (s : State) : (tick s).sleeping = s.sleeping := rfl
@[simp] theorem tick_lrAge (s : State) : (tick s).lrAge = s.lrAge := rfl
@[simp] theorem tick_remote (s : State) : (tick s).remote = s.remote := rfl
@[simp] theorem tick_mem (s : State) : (tick s).mem = s.mem := rfl
@[simp] theorem tick_draws (s : State) : (tick s).draws = s.draws := rfl
@[simp] theorem tick_clock (s : State) : (tick s).clock = s.clock + 1 := rfl
@[simp] theorem tick_faults (s : State) : (tick s).faults = s.faults := rfl
@[simp] theorem tick_faultTea (s : State) : (tick s).faultTea = s.faultTea := rfl
@[simp] theorem tick_device (s : State) : (tick s).device = s.device := rfl
@[simp] theorem tick_map (s : State) : (tick s).map = s.map := rfl

/-! setFlag -/
@[simp] theorem setFlag_regs (g : Flag) (b : Bool) (s : State) : (setFlag g b s).regs = s.regs := by cases g <;> rfl
@[simp] theorem setFlag_pc (g : Flag) (b : Bool) (s : State) : (setFlag g b s).pc = s.pc := by cases g <;> rfl
@[simp] theorem setFlag_npc (g : Flag) (b : Bool) (s : State) : (setFlag g b s).npc = s.npc := by cases g <;> rfl
@[simp] theorem setFlag_lr (g : Flag) (b : Bool) (s : State) : (setFlag g b s).lr = s.lr := by cases g <;> rfl
@[simp] theorem setFlag_vbr (g : Flag) (b : Bool) (s : State) : (setFlag g b s).vbr = s.vbr := by cases g <;> rfl
@[simp] theorem setFlag_spc (g : Flag) (b : Bool) (s : State) : (setFlag g b s).spc = s.spc := by cases g <;> rfl
@[simp] theorem setFlag_ssp (g : Flag) (b : Bool) (s : State) : (setFlag g b s).ssp = s.ssp := by cases g <;> rfl
@[simp] theorem setFlag_gbr (g : Flag) (b : Bool) (s : State) : (setFlag g b s).gbr = s.gbr := by cases g <;> rfl
@[simp] theorem setFlag_tbr (g : Flag) (b : Bool) (s : State) : (setFlag g b s).tbr = s.tbr := by cases g <;> rfl
@[simp] theorem setFlag_ttb (g : Flag) (b : Bool) (s : State) : (setFlag g b s).ttb = s.ttb := by cases g <;> rfl
@[simp] theorem setFlag_tea (g : Flag) (b : Bool) (s : State) : (setFlag g b s).tea = s.tea := by cases g <;> rfl
@[simp] theorem setFlag_mmcr (g : Flag) (b : Bool) (s : State) : (setFlag g b s).mmcr = s.mmcr := by cases g <;> rfl
@[simp] theorem setFlag_exsr (g : Flag) (b : Bool) (s : State) : (setFlag g b s).exsr = s.exsr := by cases g <;> rfl
@[simp] theorem setFlag_sttb (g : Flag) (b : Bool) (s : State) : (setFlag g b s).sttb = s.sttb := by cases g <;> rfl
@[simp] theorem setFlag_krr (g : Flag) (b : Bool) (s : State) : (setFlag g b s).krr = s.krr := by cases g <;> rfl
@[simp] theorem setFlag_gbh (g : Flag) (b : Bool) (s : State) : (setFlag g b s).gbh = s.gbh := by cases g <;> rfl
@[simp] theorem setFlag_rbs (g : Flag) (b : Bool) (s : State) : (setFlag g b s).rbs = s.rbs := by cases g <;> rfl
@[simp] theorem setFlag_tlb (g : Flag) (b : Bool) (s : State) : (setFlag g b s).tlb = s.tlb := by cases g <;> rfl
@[simp] theorem setFlag_acl (g : Flag) (b : Bool) (s : State) : (setFlag g b s).acl = s.acl := by cases g <;> rfl
@[simp] theorem setFlag_ekey (g : Flag) (b : Bool) (s : State) : (setFlag g b s).ekey = s.ekey := by cases g <;> rfl
@[simp] theorem setFlag_ldekrrEnabled (g : Flag) (b : Bool) (s : State) : (setFlag g b s).ldekrrEnabled = s.ldekrrEnabled := by cases g <;> rfl
@[simp] theorem setFlag_canarySeed (g : Flag) (b : Bool) (s : State) : (setFlag g b s).canarySeed = s.canarySeed := by cases g <;> rfl
@[simp] theorem setFlag_stale (g : Flag) (b : Bool) (s : State) : (setFlag g b s).stale = s.stale := by cases g <;> rfl
@[simp] theorem setFlag_tripwires (g : Flag) (b : Bool) (s : State) : (setFlag g b s).tripwires = s.tripwires := by cases g <;> rfl
@[simp] theorem setFlag_usec (g : Flag) (b : Bool) (s : State) : (setFlag g b s).usec = s.usec := by cases g <;> rfl
@[simp] theorem setFlag_cycles (g : Flag) (b : Bool) (s : State) : (setFlag g b s).cycles = s.cycles := by cases g <;> rfl
@[simp] theorem setFlag_pending (g : Flag) (b : Bool) (s : State) : (setFlag g b s).pending = s.pending := by cases g <;> rfl
@[simp] theorem setFlag_sleeping (g : Flag) (b : Bool) (s : State) : (setFlag g b s).sleeping = s.sleeping := by cases g <;> rfl
@[simp] theorem setFlag_lrAge (g : Flag) (b : Bool) (s : State) : (setFlag g b s).lrAge = s.lrAge := by cases g <;> rfl
@[simp] theorem setFlag_remote (g : Flag) (b : Bool) (s : State) : (setFlag g b s).remote = s.remote := by cases g <;> rfl
@[simp] theorem setFlag_mem (g : Flag) (b : Bool) (s : State) : (setFlag g b s).mem = s.mem := by cases g <;> rfl
@[simp] theorem setFlag_draws (g : Flag) (b : Bool) (s : State) : (setFlag g b s).draws = s.draws := by cases g <;> rfl
@[simp] theorem setFlag_clock (g : Flag) (b : Bool) (s : State) : (setFlag g b s).clock = s.clock := by cases g <;> rfl
@[simp] theorem setFlag_faults (g : Flag) (b : Bool) (s : State) : (setFlag g b s).faults = s.faults := by cases g <;> rfl
@[simp] theorem setFlag_faultTea (g : Flag) (b : Bool) (s : State) : (setFlag g b s).faultTea = s.faultTea := by cases g <;> rfl
@[simp] theorem setFlag_device (g : Flag) (b : Bool) (s : State) : (setFlag g b s).device = s.device := by cases g <;> rfl
@[simp] theorem setFlag_map (g : Flag) (b : Bool) (s : State) : (setFlag g b s).map = s.map := by cases g <;> rfl
@[simp] theorem setFlag_sr (g : Flag) (b : Bool) (s : State) :
    (setFlag g b s).sr = setBit s.sr (match g with | .t => 0 | .s => 1) b := by cases g <;> rfl

/-! storeLE: only memory and the bytes fetch may see late change -/
@[simp] theorem storeLE_regs (l : List Nat) (v : Nat) (s : State) : (storeLE l v s).regs = s.regs := by
  induction l generalizing v s with
  | nil => rfl
  | cons a t ih => simp [storeLE, ih]
@[simp] theorem storeLE_pc (l : List Nat) (v : Nat) (s : State) : (storeLE l v s).pc = s.pc := by
  induction l generalizing v s with
  | nil => rfl
  | cons a t ih => simp [storeLE, ih]
@[simp] theorem storeLE_npc (l : List Nat) (v : Nat) (s : State) : (storeLE l v s).npc = s.npc := by
  induction l generalizing v s with
  | nil => rfl
  | cons a t ih => simp [storeLE, ih]
@[simp] theorem storeLE_lr (l : List Nat) (v : Nat) (s : State) : (storeLE l v s).lr = s.lr := by
  induction l generalizing v s with
  | nil => rfl
  | cons a t ih => simp [storeLE, ih]
@[simp] theorem storeLE_sr (l : List Nat) (v : Nat) (s : State) : (storeLE l v s).sr = s.sr := by
  induction l generalizing v s with
  | nil => rfl
  | cons a t ih => simp [storeLE, ih]
@[simp] theorem storeLE_vbr (l : List Nat) (v : Nat) (s : State) : (storeLE l v s).vbr = s.vbr := by
  induction l generalizing v s with
  | nil => rfl
  | cons a t ih => simp [storeLE, ih]
@[simp] theorem storeLE_spc (l : List Nat) (v : Nat) (s : State) : (storeLE l v s).spc = s.spc := by
  induction l generalizing v s with
  | nil => rfl
  | cons a t ih => simp [storeLE, ih]
@[simp] theorem storeLE_ssp (l : List Nat) (v : Nat) (s : State) : (storeLE l v s).ssp = s.ssp := by
  induction l generalizing v s with
  | nil => rfl
  | cons a t ih => simp [storeLE, ih]
@[simp] theorem storeLE_gbr (l : List Nat) (v : Nat) (s : State) : (storeLE l v s).gbr = s.gbr := by
  induction l generalizing v s with
  | nil => rfl
  | cons a t ih => simp [storeLE, ih]
@[simp] theorem storeLE_tbr (l : List Nat) (v : Nat) (s : State) : (storeLE l v s).tbr = s.tbr := by
  induction l generalizing v s with
  | nil => rfl
  | cons a t ih => simp [storeLE, ih]
@[simp] theorem storeLE_ttb (l : List Nat) (v : Nat) (s : State) : (storeLE l v s).ttb = s.ttb := by
  induction l generalizing v s with
  | nil => rfl
  | cons a t ih => simp [storeLE, ih]
@[simp] theorem storeLE_tea (l : List Nat) (v : Nat) (s : State) : (storeLE l v s).tea = s.tea := by
  induction l generalizing v s with
  | nil => rfl
  | cons a t ih => simp [storeLE, ih]
@[simp] theorem storeLE_mmcr (l : List Nat) (v : Nat) (s : State) : (storeLE l v s).mmcr = s.mmcr := by
  induction l generalizing v s with
  | nil => rfl
  | cons a t ih => simp [storeLE, ih]
@[simp] theorem storeLE_exsr (l : List Nat) (v : Nat) (s : State) : (storeLE l v s).exsr = s.exsr := by
  induction l generalizing v s with
  | nil => rfl
  | cons a t ih => simp [storeLE, ih]
@[simp] theorem storeLE_sttb (l : List Nat) (v : Nat) (s : State) : (storeLE l v s).sttb = s.sttb := by
  induction l generalizing v s with
  | nil => rfl
  | cons a t ih => simp [storeLE, ih]
@[simp] theorem storeLE_krr (l : List Nat) (v : Nat) (s : State) : (storeLE l v s).krr = s.krr := by
  induction l generalizing v s with
  | nil => rfl
  | cons a t ih => simp [storeLE, ih]
@[simp] theorem storeLE_gbh (l : List Nat) (v : Nat) (s : State) : (storeLE l v s).gbh = s.gbh := by
  induction l generalizing v s with
  | nil => rfl
  | cons a t ih => simp [storeLE, ih]
@[simp] theorem storeLE_rbs (l : List Nat) (v : Nat) (s : State) : (storeLE l v s).rbs = s.rbs := by
  induction l generalizing v s with
  | nil => rfl
  | cons a t ih => simp [storeLE, ih]
@[simp] theorem storeLE_tlb (l : List Nat) (v : Nat) (s : State) : (storeLE l v s).tlb = s.tlb := by
  induction l generalizing v s with
  | nil => rfl
  | cons a t ih => simp [storeLE, ih]
@[simp] theorem storeLE_acl (l : List Nat) (v : Nat) (s : State) : (storeLE l v s).acl = s.acl := by
  induction l generalizing v s with
  | nil => rfl
  | cons a t ih => simp [storeLE, ih]
@[simp] theorem storeLE_ekey (l : List Nat) (v : Nat) (s : State) : (storeLE l v s).ekey = s.ekey := by
  induction l generalizing v s with
  | nil => rfl
  | cons a t ih => simp [storeLE, ih]
@[simp] theorem storeLE_ldekrrEnabled (l : List Nat) (v : Nat) (s : State) : (storeLE l v s).ldekrrEnabled = s.ldekrrEnabled := by
  induction l generalizing v s with
  | nil => rfl
  | cons a t ih => simp [storeLE, ih]
@[simp] theorem storeLE_canarySeed (l : List Nat) (v : Nat) (s : State) : (storeLE l v s).canarySeed = s.canarySeed := by
  induction l generalizing v s with
  | nil => rfl
  | cons a t ih => simp [storeLE, ih]
@[simp] theorem storeLE_tripwires (l : List Nat) (v : Nat) (s : State) : (storeLE l v s).tripwires = s.tripwires := by
  induction l generalizing v s with
  | nil => rfl
  | cons a t ih => simp [storeLE, ih]
@[simp] theorem storeLE_usec (l : List Nat) (v : Nat) (s : State) : (storeLE l v s).usec = s.usec := by
  induction l generalizing v s with
  | nil => rfl
  | cons a t ih => simp [storeLE, ih]
@[simp] theorem storeLE_cycles (l : List Nat) (v : Nat) (s : State) : (storeLE l v s).cycles = s.cycles := by
  induction l generalizing v s with
  | nil => rfl
  | cons a t ih => simp [storeLE, ih]
@[simp] theorem storeLE_pending (l : List Nat) (v : Nat) (s : State) : (storeLE l v s).pending = s.pending := by
  induction l generalizing v s with
  | nil => rfl
  | cons a t ih => simp [storeLE, ih]
@[simp] theorem storeLE_sleeping (l : List Nat) (v : Nat) (s : State) : (storeLE l v s).sleeping = s.sleeping := by
  induction l generalizing v s with
  | nil => rfl
  | cons a t ih => simp [storeLE, ih]
@[simp] theorem storeLE_lrAge (l : List Nat) (v : Nat) (s : State) : (storeLE l v s).lrAge = s.lrAge := by
  induction l generalizing v s with
  | nil => rfl
  | cons a t ih => simp [storeLE, ih]
@[simp] theorem storeLE_remote (l : List Nat) (v : Nat) (s : State) : (storeLE l v s).remote = s.remote := by
  induction l generalizing v s with
  | nil => rfl
  | cons a t ih => simp [storeLE, ih]
@[simp] theorem storeLE_draws (l : List Nat) (v : Nat) (s : State) : (storeLE l v s).draws = s.draws := by
  induction l generalizing v s with
  | nil => rfl
  | cons a t ih => simp [storeLE, ih]
@[simp] theorem storeLE_clock (l : List Nat) (v : Nat) (s : State) : (storeLE l v s).clock = s.clock := by
  induction l generalizing v s with
  | nil => rfl
  | cons a t ih => simp [storeLE, ih]
@[simp] theorem storeLE_faults (l : List Nat) (v : Nat) (s : State) : (storeLE l v s).faults = s.faults := by
  induction l generalizing v s with
  | nil => rfl
  | cons a t ih => simp [storeLE, ih]
@[simp] theorem storeLE_faultTea (l : List Nat) (v : Nat) (s : State) : (storeLE l v s).faultTea = s.faultTea := by
  induction l generalizing v s with
  | nil => rfl
  | cons a t ih => simp [storeLE, ih]
@[simp] theorem storeLE_device (l : List Nat) (v : Nat) (s : State) : (storeLE l v s).device = s.device := by
  induction l generalizing v s with
  | nil => rfl
  | cons a t ih => simp [storeLE, ih]
@[simp] theorem storeLE_map (l : List Nat) (v : Nat) (s : State) : (storeLE l v s).map = s.map := by
  induction l generalizing v s with
  | nil => rfl
  | cons a t ih => simp [storeLE, ih]

/-! ### Registers -/

@[simp] theorem getReg_setReg_same (s : State) (r : Reg) (v : Word) : getReg (setReg s r v) r = v := by
  simp [getReg]
theorem getReg_setReg_ne (s : State) (r q : Reg) (v : Word) (h : q ≠ r) : getReg (setReg s r v) q = getReg s q := by
  have h' : r.toNat ≠ q.toNat := fun e => h (BitVec.eq_of_toNat_eq e.symm)
  simp [getReg, Vector.getElem_set_ne _ _ h']
/-- A register read sees only the register file. -/
theorem getReg_congr {s t : State} (h : t.regs = s.regs) (r : Reg) : getReg t r = getReg s r := by
  simp [getReg, h]

@[simp] theorem getReg_setT (s : State) (b : Bool) (q : Reg) : getReg (setT s b) q = getReg s q := rfl
@[simp] theorem getReg_setS (s : State) (b : Bool) (q : Reg) : getReg (setS s b) q = getReg s q := rfl
@[simp] theorem getReg_setU (s : State) (u : BitVec 8) (q : Reg) : getReg (setU s u) q = getReg s q := rfl
@[simp] theorem getReg_drawn (s : State) (q : Reg) : getReg (drawn s) q = getReg s q := rfl
@[simp] theorem getReg_drawn2 (s : State) (q : Reg) : getReg (drawn2 s) q = getReg s q := rfl
@[simp] theorem getReg_setLR (s : State) (v : Word) (q : Reg) : getReg (setLR s v) q = getReg s q := rfl
@[simp] theorem getReg_storeByte (s : State) (a : Nat) (b : Byte) (q : Reg) : getReg (storeByte s a b) q = getReg s q := rfl
@[simp] theorem getReg_touched (s : State) (l : List Nat) (q : Reg) : getReg (touched s l) q = getReg s q := rfl
@[simp] theorem getReg_setRbs (s : State) (i : BitVec 8) (v : Word) (q : Reg) : getReg (setRbs s i v) q = getReg s q := rfl
@[simp] theorem getReg_fpSticky (v : BitVec 4) (s : State) (q : Reg) : getReg (fpSticky v s) q = getReg s q := rfl
@[simp] theorem getReg_drawnN (k : Nat) (s : State) (q : Reg) : getReg (drawnN k s) q = getReg s q := rfl
@[simp] theorem getReg_evictI (s : State) (l : List Nat) (q : Reg) : getReg (evictI s l) q = getReg s q := rfl
@[simp] theorem getReg_aged (s : State) (q : Reg) : getReg (aged s) q = getReg s q := rfl
@[simp] theorem getReg_tick (s : State) (q : Reg) : getReg (tick s) q = getReg s q := rfl
@[simp] theorem getReg_setFlag (g : Flag) (b : Bool) (s : State) (q : Reg) : getReg (setFlag g b s) q = getReg s q := by
  cases g <;> rfl
@[simp] theorem getReg_storeLE (l : List Nat) (v : Nat) (s : State) (q : Reg) : getReg (storeLE l v s) q = getReg s q :=
  getReg_congr (storeLE_regs l v s) q

/-- The two registers of a pair are different. -/
theorem pairLo_ne_pairHi (p : Pair) : pairLo p ≠ pairHi p := by
  revert p; decide
@[simp] theorem getPair_setPair_same (s : State) (p : Pair) (v : Quad) : getPair (setPair s p v) p = v := by
  have h : getReg (setReg (setReg s (pairLo p) (loWord v)) (pairHi p) (hiWord v)) (pairLo p) = loWord v := by
    rw [getReg_setReg_ne _ _ _ _ (pairLo_ne_pairHi p)]; simp
  simp only [getPair, setPair, h, getReg_setReg_same]
  apply BitVec.eq_of_getLsbD_eq
  intro i hi
  simp only [loWord, hiWord, BitVec.getLsbD_append, BitVec.getLsbD_setWidth, BitVec.getLsbD_ushiftRight]
  split
  · simp_all
  · have h : i - 64 < 64 := by omega
    simp [h]; congr 1; omega
/-- A pair write leaves every other register alone. -/
theorem getReg_setPair_ne (s : State) (p : Pair) (v : Quad) (q : Reg) (h1 : q ≠ pairLo p) (h2 : q ≠ pairHi p) :
    getReg (setPair s p v) q = getReg s q := by
  rw [setPair, getReg_setReg_ne _ _ _ _ h2, getReg_setReg_ne _ _ _ _ h1]

end Sys2Proof.Machine
end

