-- ==== Sys2Proof/Laws/Memory.lean ====
section
/-! SUPPORT. The memory laws: the canonical form is kept by every operation, a byte reads back as written, every
other byte is left alone; the same for stores of several bytes. -/

namespace Sys2Proof.Machine

open Sys2Proof

/-! ### One byte -/

/-- Every address of the list is above a bound. -/
def Memory.above (lo : Nat) (m : List Host.Cell) : Prop := ∀ e ∈ m, lo < e.1

/-- The canonical form of a longer list, said by its head and its tail. -/
theorem Memory.wf_cons (c : Nat) (v : Byte) (t : List Host.Cell) :
    Memory.wf ((c, v) :: t) = true ↔ v ≠ Config.unwritten c ∧ Memory.above c t ∧ Memory.wf t = true := by
  induction t generalizing c v with
  | nil => simp [Memory.wf, Memory.above]
  | cons e t ih =>
    obtain ⟨d, w⟩ := e
    simp only [Memory.wf, Bool.and_eq_true, decide_eq_true_eq, bne_iff_ne, ne_eq]
    rw [ih]
    simp only [Memory.above, List.mem_cons, forall_eq_or_imp]
    constructor
    · rintro ⟨⟨h1, h2⟩, h3, h4, h5⟩
      exact ⟨h2, ⟨h1, fun x hx => Nat.lt_trans h1 (h4 x hx)⟩, h3, h4, h5⟩
    · rintro ⟨h2, ⟨h1, -⟩, h3, h4, h5⟩
      exact ⟨⟨h1, h2⟩, h3, h4, h5⟩

/-- A write adds no address but its own. -/
theorem Memory.mem_write {m : List Host.Cell} {a : Nat} {b : Byte} {e : Host.Cell} (h : e ∈ Memory.write m a b) :
    e ∈ m ∨ e.1 = a := by
  induction m with
  | nil => simp only [Memory.write] at h; split at h <;> simp_all
  | cons x t ih =>
    obtain ⟨c, v⟩ := x
    simp only [Memory.write] at h
    split at h
    · split at h <;> simp_all
      rcases h with rfl | rfl | h <;> simp_all
    · split at h
      · split at h <;> simp_all
        rcases h with rfl | h <;> simp_all
      · simp only [List.mem_cons] at h ⊢
        rcases h with h | h
        · exact .inl (.inl h)
        · rcases ih h with h | h
          · exact .inl (.inr h)
          · exact .inr h

/-- A write keeps the canonical form. -/
theorem Memory.wf_write {m : List Host.Cell} (h : Memory.wf m = true) (a : Nat) (b : Byte) :
    Memory.wf (Memory.write m a b) = true := by
  induction m with
  | nil => simp only [Memory.write]; split <;> simp_all [Memory.wf]
  | cons x t ih =>
    obtain ⟨c, v⟩ := x
    have hc := (Memory.wf_cons c v t).1 h
    simp only [Memory.write]
    split
    · split
      · exact h
      · refine (Memory.wf_cons _ _ _).2 ⟨‹_›, ?_, h⟩
        intro e he
        rcases List.mem_cons.1 he with rfl | he
        · assumption
        · exact Nat.lt_trans ‹_› (hc.2.1 e he)
    · split
      · split
        · exact hc.2.2
        · exact (Memory.wf_cons _ _ _).2 ⟨‹_›, by simp_all, hc.2.2⟩
      · refine (Memory.wf_cons _ _ _).2 ⟨hc.1, ?_, ih hc.2.2⟩
        intro e he
        rcases Memory.mem_write he with he | he
        · exact hc.2.1 e he
        · omega

/-- A byte above which every address lies reads as unwritten. -/
theorem Memory.read_of_above {m : List Host.Cell} {a : Nat} (h : Memory.above a m) :
    Memory.read m a = Config.unwritten a := by
  induction m with
  | nil => rfl
  | cons x t ih =>
    obtain ⟨c, v⟩ := x
    have h1 := h (c, v) (by simp)
    have h2 : a ≠ c := by omega
    simp only [Memory.read, h2, if_false]
    exact ih fun e he => h e (by simp [he])

/-- In a canonical memory a written byte reads back. -/
theorem Memory.read_write_same {m : List Host.Cell} (h : Memory.wf m = true) (a : Nat) (b : Byte) :
    Memory.read (Memory.write m a b) a = b := by
  induction m with
  | nil => simp only [Memory.write]; split <;> simp_all [Memory.read]
  | cons x t ih =>
    obtain ⟨c, v⟩ := x
    have hc := (Memory.wf_cons c v t).1 h
    simp only [Memory.write]
    split
    · split
      · rename_i h1 h2
        rw [h2]
        refine Memory.read_of_above ?_
        intro e he
        rcases List.mem_cons.1 he with rfl | he
        · exact h1
        · exact Nat.lt_trans h1 (hc.2.1 e he)
      · simp [Memory.read]
    · split
      · split
        · rename_i h1 h2 h3
          subst h2
          rw [h3]
          exact Memory.read_of_above hc.2.1
        · simp [Memory.read]
      · simp only [Memory.read]
        rw [if_neg ‹_›]
        exact ih hc.2.2

/-- A write leaves every other byte alone. -/
theorem Memory.read_write_ne (m : List Host.Cell) (a : Nat) (b : Byte) (x : Nat) (h : x ≠ a) :
    Memory.read (Memory.write m a b) x = Memory.read m x := by
  induction m with
  | nil => simp only [Memory.write]; split <;> simp [Memory.read, h]
  | cons e t ih =>
    obtain ⟨c, v⟩ := e
    simp only [Memory.write]
    split
    · split
      · rfl
      · simp [Memory.read, h]
    · split
      · rename_i h1
        subst h1
        split <;> simp [Memory.read, h]
      · simp only [Memory.read, ih]

/-- In a canonical memory, writing what a byte already holds changes nothing. -/
theorem Memory.write_read_self {m : List Host.Cell} (h : Memory.wf m = true) (a : Nat) :
    Memory.write m a (Memory.read m a) = m := by
  induction m with
  | nil => simp [Memory.write, Memory.read]
  | cons e t ih =>
    obtain ⟨c, v⟩ := e
    have hc := (Memory.wf_cons c v t).1 h
    by_cases h1 : a < c
    · have h2 : a ≠ c := by omega
      have h3 : Memory.read t a = Config.unwritten a :=
        Memory.read_of_above fun e he => Nat.lt_trans h1 (hc.2.1 e he)
      simp [Memory.write, Memory.read, h1, h2, h3]
    · by_cases h2 : a = c
      · subst h2; simp [Memory.write, Memory.read, hc.1]
      · simp [Memory.write, Memory.read, h1, h2, ih hc.2.2]

/-! ### A byte as the map shows it -/

/-- A byte outside the ZERO and RTS pages reads as memory holds it. -/
theorem readByte_mem {s : State} {a : Nat} (hz : regionOf s.map a ≠ .zeroPage) (hr : regionOf s.map a ≠ .rtsPage) :
    readByte s a = Memory.read s.mem a := by
  unfold readByte; split <;> first | rfl | contradiction
theorem readByte_ram {s : State} {a : Nat} (h : regionOf s.map a = .ram) : readByte s a = Memory.read s.mem a :=
  readByte_mem (by simp [h]) (by simp [h])
/-- Reading a byte sees only the map and that byte. -/
theorem readByte_congr {s t : State} {a : Nat} (hm : t.map = s.map) (h : Memory.read t.mem a = Memory.read s.mem a) :
    readByte t a = readByte s a := by
  unfold readByte; rw [hm, h]
/-- Without a map every address below 2^96 is RAM. -/
theorem regionOf_nil {a : Nat} (h : a < 2 ^ 96) : regionOf [] a = .ram := by rw [regionOf, if_pos h]

/-! ### Several bytes -/

/-- A store of several bytes keeps the canonical form. -/
theorem wf_storeLE (l : List Nat) (v : Nat) {s : State} (h : Memory.wf s.mem = true) :
    Memory.wf (storeLE l v s).mem = true := by
  induction l generalizing v s with
  | nil => exact h
  | cons a t ih => exact ih _ (by simpa using Memory.wf_write h a _)

/-- A store of several bytes leaves every byte outside its addresses alone. -/
theorem read_storeLE_of_not_mem (l : List Nat) (v : Nat) (s : State) (x : Nat) (h : x ∉ l) :
    Memory.read (storeLE l v s).mem x = Memory.read s.mem x := by
  induction l generalizing v s with
  | nil => rfl
  | cons a t ih =>
    simp only [List.mem_cons, not_or] at h
    rw [storeLE, ih _ _ h.2]
    simpa using Memory.read_write_ne s.mem a _ x h.1

/-- Reading the bytes just stored gives the value's low bytes, where the addresses differ. -/
theorem bytesLE_storeLE (l : List Nat) (v : Nat) {s : State} (h : Memory.wf s.mem = true) (hl : l.Nodup)
    (hr : ∀ a ∈ l, regionOf s.map a = .ram) : bytesLE (storeLE l v s) l = v % 256 ^ l.length := by
  induction l generalizing v s with
  | nil => simp [bytesLE, Nat.mod_one]
  | cons a t ih =>
    have hn := List.nodup_cons.1 hl
    simp only [storeLE, bytesLE]
    rw [ih (v / 256) (s := storeByte s a (BitVec.ofNat 8 v)) (Memory.wf_write h a _) hn.2 fun x hx => hr x (by simp [hx]),
      readByte_ram (by simpa using hr a (by simp)), read_storeLE_of_not_mem _ _ _ _ hn.1]
    rw [storeByte_mem, Memory.read_write_same h, List.length_cons, pow_succ', BitVec.toNat_ofNat, Nat.mod_mul]

/-- Reading bytes sees only the bytes read. -/
theorem bytesLE_congr {s s' : State} (l : List Nat) (h : ∀ a ∈ l, readByte s a = readByte s' a) :
    bytesLE s l = bytesLE s' l := by
  induction l with
  | nil => rfl
  | cons a t ih =>
    simp only [bytesLE, h a (by simp)]
    rw [ih fun x hx => h x (by simp [hx])]

/-- The bytes of a value are a number below 256 to their count. -/
theorem bytesLE_lt (s : State) (l : List Nat) : bytesLE s l < 256 ^ l.length := by
  induction l with
  | nil => simp [bytesLE]
  | cons a t ih =>
    have := (readByte s a).isLt
    simp only [bytesLE, List.length_cons, pow_succ']
    omega

/-! ### Spans -/

@[simp] theorem spanOf_length (space va n : Nat) : (spanOf space va n).length = n := by
  induction n generalizing va with
  | zero => rfl
  | succ n ih => simp [spanOf, ih]

/-- An address of a span is one of the n addresses from its start, wrapped. -/
theorem mem_spanOf {space va n a : Nat} : a ∈ spanOf space va n ↔ ∃ k < n, a = (va + k) % space := by
  induction n generalizing va with
  | zero => simp [spanOf]
  | succ n ih =>
    simp only [spanOf, List.mem_cons, ih]
    constructor
    · rintro (rfl | ⟨k, hk, rfl⟩)
      · exact ⟨0, by omega, rfl⟩
      · exact ⟨k + 1, by omega, by congr 1; omega⟩
    · rintro ⟨k, hk, rfl⟩
      cases k with
      | zero => exact .inl rfl
      | succ k => exact .inr ⟨k, by omega, by congr 1; omega⟩

/-- A span no longer than the space names no address twice. -/
theorem spanOf_nodup {space va n : Nat} (h : n ≤ space) : (spanOf space va n).Nodup := by
  induction n generalizing va with
  | zero => simp [spanOf]
  | succ n ih =>
    refine List.nodup_cons.2 ⟨?_, ih (by omega)⟩
    rw [mem_spanOf]
    rintro ⟨k, hk, he⟩
    have h1 : (va + 1 + k) % space = (va + 0) % space := by simpa using he.symm
    have h2 : va + 1 + k ≡ va + 0 [MOD space] := h1
    rw [show va + 1 + k = va + (1 + k) by omega] at h2
    have h3 : 1 + k ≡ 0 [MOD space] := Nat.ModEq.add_left_cancel' va h2
    have h4 := Nat.le_of_dvd (by omega) ((Nat.modEq_zero_iff_dvd).1 h3)
    omega

end Sys2Proof.Machine
end

