-- ==== Sys2Proof/Laws/Ops.lean ====
section
/-! SUPPORT. One lemma for each shared operation that says what it can do: every way it answers. -/

namespace Sys2Proof.Machine

open Sys2Proof

noncomputable section

/-! ### Ending an instruction, taking an exception -/

theorem retire_eq (s : State) : retire s = .next s.done := rfl
theorem jumpTo_eq (t : VAddr) (s : State) (h : jumpable s t) : jumpTo t s = .next (s.jumped t) := by
  obtain ⟨h0, h1⟩ := h
  cases hx : wordPC s <;> simp_all [jumpTo, bitAt, State.jumped]
/-- A jump to an address that breaks the alignment is refused. -/
theorem jumpTo_refused (t : VAddr) (s : State) (h : ¬ jumpable s t) : jumpTo t s = .refused .oddTarget := by
  unfold jumpable at h
  cases h0 : t.getLsbD 0 <;> cases h1 : t.getLsbD 1 <;> cases hx : wordPC s <;> simp_all [jumpTo, bitAt]
theorem raiseWith_eq (e : Exc) (tea : Option Word) (s : State) : raiseWith e tea s = .next (s.trapped e tea) := by
  simp [raiseWith, Config.doubleFaultHalts, State.trapped]
theorem raise_eq (e : Exc) (s : State) : raise e s = .next (s.trapped e none) := raiseWith_eq e none s
theorem raiseAt_eq (e : Exc) (va : Nat) (s : State) :
    raiseAt e va s = .next (s.trapped e (some (BitVec.ofNat 64 va))) := raiseWith_eq e _ s
theorem trapTo_eq (c : Half) (tea : Option Word) (s : State) :
    trapTo c tea s = .next (enterTrap c tea s.npc s) := by
  simp [trapTo, Config.doubleFaultHalts]

/-! ### Conditions on the operands -/

theorem withPairs_eq {ps : List Pair} {go : Out State} (h : ps.all pairAllowed = true) : withPairs ps go = go := by
  simp [withPairs, h]
theorem withPairs_refused {ps : List Pair} {go : Out State} (h : ps.all pairAllowed = false) :
    withPairs ps go = .refused .forbiddenPair := by
  simp [withPairs, h]
theorem withRounding_eq {rm : Byte} {go : Out State} (h : roundingListed rm = true) : withRounding rm go = go := by
  simp [withRounding, h]
theorem supervisorOnly_eq {s : State} {go : Out State} (h : supervisor s = true) : supervisorOnly s go = go := by
  simp [supervisorOnly, h]
theorem supervisorOnly_trap {s : State} {go : Out State} (h : supervisor s = false) :
    supervisorOnly s go = .next (s.trapped .privilegeViolation none) := by
  simp [supervisorOnly, h, raise_eq]

/-! ### Translation of the bytes of an access -/

/-- Only free values have been read. -/
def Drew (s t : State) : Prop := ∃ k, t = s.drew k
theorem Drew.refl (s : State) : Drew s s := ⟨0, rfl⟩
theorem Drew.trans {s t u : State} (h : Drew s t) (h' : Drew t u) : Drew s u := by
  obtain ⟨a, rfl⟩ := h
  obtain ⟨b, rfl⟩ := h'
  exact ⟨a + b, by simp [State.drew, Nat.add_assoc]⟩
theorem Drew.drawn (s : State) : Drew s (drawn s) := ⟨1, rfl⟩

/-- Where every byte maps: as many addresses as bytes. -/
theorem mapAll_all {s : State} {k : Config.Access} {vas pas : List Nat} (h : mapAll s k vas = .all pas) :
    pas.length = vas.length := by
  induction vas generalizing pas with
  | nil => cases h; rfl
  | cons va vas ih =>
    simp only [mapAll] at h
    split at h
    · cases h
    · cases hm : mapAll s k vas with
      | all l => rw [hm] at h; cases h; simp [ih hm]
      | fails x y => rw [hm] at h; cases h
/-- The byte that does not map is one of the access. -/
theorem mapAll_fails {s : State} {k : Config.Access} {vas : List Nat} {va : Nat} {b : Barred}
    (h : mapAll s k vas = .fails va b) : va ∈ vas := by
  induction vas with
  | nil => cases h
  | cons x vas ih =>
    simp only [mapAll] at h
    split at h
    · cases h; simp
    · cases hm : mapAll s k vas with
      | all l => rw [hm] at h; cases h
      | fails y z => rw [hm] at h; cases h; simp [ih hm]
/-- Looking for a tripwire reads at most free values, and stops at a byte of the access. -/
theorem tripped_cases (k : Config.Access) (vas : List Nat) (s : State) :
    Drew s (tripped k vas s).2 ∧ ∀ b, (tripped k vas s).1 = some b → b ∈ vas := by
  induction vas generalizing s with
  | nil => exact ⟨.refl s, by simp [tripped]⟩
  | cons va vas ih =>
    simp only [tripped]
    split
    · split
      · exact ⟨.drawn s, by simp⟩
      · exact ⟨(Drew.drawn s).trans (ih _).1, fun b hb => by simp [(ih _).2 b hb]⟩
    · exact ⟨(ih s).1, fun b hb => by simp [(ih s).2 b hb]⟩

/-- Where every byte translates: as many addresses as bytes, and at most free values read. -/
theorem resolveAll_ok {k : Config.Access} {va : Nat} {vas : List Nat} {s t : State} {pas : List Nat}
    (h : resolveAll k va vas s = .ok pas t) : pas.length = vas.length ∧ Drew s t := by
  simp only [resolveAll] at h
  split at h
  · have hd := (tripped_cases k vas s).1
    split at h
    · rename_i hm _ _ ht
      cases h
      rw [ht] at hd
      exact ⟨mapAll_all hm, hd⟩
    · cases h
  · split at h <;> cases h

/-- Where a byte does not translate, or a tripwire stops it: a refusal, or a fault with the address R853 names in TEA,
from a state in which at most free values have been read. -/
theorem resolveAll_stop {k : Config.Access} {va : Nat} {vas : List Nat} {s : State} {o : Out State}
    (h : resolveAll k va vas s = .stop o) :
    (∃ r, o = .refused r) ∨ ∃ e b t, b ∈ vas ∧ Drew s t ∧ o = raiseAt e (teaOf va b) t := by
  have bar {b : Nat} {x : Barred} {t : State} (hb : b ∈ vas) (ht : Drew s t) (ho : barAt va b x t = o) :
      (∃ r, o = .refused r) ∨ ∃ e c u, c ∈ vas ∧ Drew s u ∧ o = raiseAt e (teaOf va c) u := by
    cases x with
    | exc e => exact .inr ⟨e, b, t, hb, ht, ho.symm⟩
    | refuse r => exact .inl ⟨r, ho.symm⟩
  simp only [resolveAll] at h
  split at h
  · have hd := tripped_cases k vas s
    split at h
    · cases h
    · rename_i ht
      simp only [Resolved.stop.injEq] at h
      rw [ht] at hd
      exact bar (hd.2 _ rfl) hd.1 h
  · rename_i b x hm
    have hd := tripped_cases k (vas.takeWhile fun a => decide (a ≠ b ∧ pageOf a ≠ pageOf b)) s
    split at h <;> rename_i ht <;> simp only [Resolved.stop.injEq] at h <;> rw [ht] at hd
    · exact bar (mapAll_fails hm) hd.1 h
    · exact bar ((List.takeWhile_prefix _).subset (hd.2 _ rfl)) hd.1 h

/-- The bytes an access may reach stand where the map lets it. -/
theorem mapAll_reachable {s : State} {k : Config.Access} {vas pas : List Nat} (h : mapAll s k vas = .all pas) :
    ∀ pa ∈ pas, reachable k (regionOf s.map pa) = true := by
  induction vas generalizing pas with
  | nil => cases h; simp
  | cons va vas ih =>
    simp only [mapAll] at h
    split at h
    · cases h
    · rename_i pa hp
      have h1 : reachable k (regionOf s.map pa) = true := by
        simp only [translateByte] at hp
        split at hp <;> try cases hp
        split at hp
        · cases hp; assumption
        · cases hp
      cases hm : mapAll s k vas with
      | all l =>
        rw [hm] at h; cases h
        intro x hx
        rcases List.mem_cons.1 hx with rfl | hx
        · exact h1
        · exact ih hm x hx
      | fails x y => rw [hm] at h; cases h
theorem resolveAll_reachable {k : Config.Access} {va : Nat} {vas pas : List Nat} {s t : State}
    (h : resolveAll k va vas s = .ok pas t) : ∀ pa ∈ pas, reachable k (regionOf s.map pa) = true := by
  simp only [resolveAll] at h
  split at h
  · rename_i hm
    split at h
    · cases h; exact mapAll_reachable hm
    · cases h
  · split at h <;> cases h
/-- What an ordinary store stores to is RAM. -/
theorem Access.ram {space va n : Nat} {s s' : State} {pas : List Nat} (h : Access .write space va n s pas s') :
    ∀ pa ∈ pas, regionOf s.map pa = .ram := by
  intro pa hp
  have h1 := resolveAll_reachable h.1 pa hp
  have h2 : isMmio s pa = false := by simpa using List.any_eq_false.1 h.2 pa hp
  simp only [isMmio] at h2
  cases hr : regionOf s.map pa <;> simp_all [reachable]
/-- A LongDouble result nothing fixes has the bits below LD_MANT_BITS clear (49_gfp.md R785). -/
theorem fpFree_long (free : Nat) : fpFree .long free % 2 ^ 32 = 0 := by
  simp only [fpFree, fpCut, fpPack, fpFrac, fmtOf, Config.ldMantBits]
  omega
/-- A result of another format that nothing fixes can be any value. -/
theorem fpFree_other {n : Config.FpFmt} (h : n ≠ .long) (free : Nat) : fpFree n free = free % 2 ^ fpWidth (fmtOf n) := by
  have b (a : Nat) : (a % 2 == 1).toNat = a % 2 := by rcases Nat.mod_two_eq_zero_or_one a with h | h <;> simp [h]
  cases n <;> simp only [fpFree, fpCut, fpPack, fpFrac, fpExp, fpSign, fpWidth, fmtOf, ne_eq, not_true_eq_false,
    not_false_eq_true, reduceCtorEq, b] at h ⊢ <;> omega
/-- With the default parameters every register an instruction can name is there. -/
theorem registersExist_true (i : Instr) : registersExist i = true := by
  have h (r : Res) : r.there = true := by
    cases r <;> simp only [Res.there]
    rename_i n; exact decide_eq_true n.isLt
  simp [registersExist, h]

/-- With the MMU off and no tripwire, an address of RAM is its own physical address. -/
theorem resolveAll_plain (k : Config.Access) (va : Nat) (vas : List Nat) (s : State) (hm : s.mmcr = 0#64)
    (hw : s.tripwires = []) (hv : ∀ va ∈ vas, regionOf s.map va = .ram) : resolveAll k va vas s = .ok vas s := by
  have h1 : mapAll s k vas = .all vas := by
    induction vas with
    | nil => rfl
    | cons va vas ih =>
      have h2 : translateByte s k va = .ok va := by
        simp [translateByte, translate, mmuOff, hm, reachable, hv va (by simp)]
      simp [mapAll, h2, ih fun a ha => hv a (by simp [ha]), Mapped.cons]
  have h2 : tripped k vas s = (none, s) := by
    clear h1 hv
    induction vas with
    | nil => rfl
    | cons va vas ih => simp [tripped, wired, hw, ih]
  simp [resolveAll, h1, h2]
/-- Where no device is among some addresses. -/
theorem any_isMmio_ram {s : State} {l : List Nat} (h : ∀ a ∈ l, regionOf s.map a = .ram) : l.any (isMmio s) = false := by
  simp only [List.any_eq_false]
  intro a ha
  simp [isMmio, h a ha]
/-- Reading free values changes neither the map nor memory. -/
theorem isMmio_drew (s : State) (k : Nat) : isMmio (s.drew k) = isMmio s := rfl
theorem isMmio_of_drew {s t : State} (h : Drew s t) : isMmio t = isMmio s := by obtain ⟨k, rfl⟩ := h; rfl

theorem vaSpace_le (s : State) : vaSpace s ≤ 2 ^ 48 := by
  unfold vaSpace
  rw [if_neg (by decide)]
  split <;> decide
theorem vaSpace_pos (s : State) : 0 < vaSpace s := by
  unfold vaSpace
  split
  · decide
  · split <;> decide
/-- The bytes of an ordinary access are below 2^48. -/
theorem spanOf_lt (s : State) (va n : Nat) : ∀ a ∈ spanOf (vaSpace s) va n, a < 2 ^ 96 := by
  intro a ha
  obtain ⟨k, -, rfl⟩ := mem_spanOf.1 ha
  exact Nat.lt_of_lt_of_le (Nat.mod_lt _ (vaSpace_pos s)) (Nat.le_trans (vaSpace_le s) (by decide))

/-! ### Reading and writing memory -/

/-- Nothing but free values, the record of what fetch may see late, and what devices have seen has changed. -/
structure Quiet (s t : State) : Prop where
  same : t = { s with draws := t.draws, stale := t.stale, device := t.device }
  addrs : t.stale.map StaleByte.addr = s.stale.map StaleByte.addr
/-- The same, and bytes stored. -/
structure Wrote (s t : State) : Prop where
  same : t = { s with draws := t.draws, stale := t.stale, device := t.device, mem := t.mem }
  mem : Memory.wf s.mem = true → Memory.wf t.mem = true
  addrs : (s.stale.map StaleByte.addr).Nodup → (t.stale.map StaleByte.addr).Nodup

theorem Quiet.refl (s : State) : Quiet s s := ⟨rfl, rfl⟩
theorem Quiet.trans {s t u : State} (h : Quiet s t) (g : Quiet t u) : Quiet s u := by
  refine ⟨?_, g.addrs.trans h.addrs⟩
  have h1 := h.same
  have h2 := g.same
  rw [h1] at h2
  exact h2
theorem Quiet.drew {s t : State} (h : Drew s t) : Quiet s t := by
  obtain ⟨k, rfl⟩ := h
  exact ⟨rfl, rfl⟩
theorem Quiet.drawn (s : State) : Quiet s (drawn s) := ⟨rfl, rfl⟩
theorem Quiet.touched {s t : State} (h : Quiet s t) (pas : List Nat) : Quiet s (touched t pas) :=
  h.trans ⟨rfl, by rw [Machine.touched, List.map_map]; rfl⟩
theorem Quiet.wrote {s t : State} (h : Quiet s t) : Wrote s t :=
  ⟨by rw [h.same], fun g => by rw [h.same]; exact g, fun g => h.addrs ▸ g⟩
theorem Wrote.trans {s t u : State} (h : Wrote s t) (g : Wrote t u) : Wrote s u := by
  refine ⟨?_, fun x => g.mem (h.mem x), fun x => g.addrs (h.addrs x)⟩
  have h1 := h.same
  have h2 := g.same
  rw [h1] at h2
  exact h2

theorem noteStale_addrs (m : List Host.Cell) (l : List StaleByte) (a : Nat) (h : (l.map StaleByte.addr).Nodup) :
    ((noteStale m l a).map StaleByte.addr).Nodup ∧
      ∀ x, x ∈ (noteStale m l a).map StaleByte.addr → x = a ∨ x ∈ l.map StaleByte.addr := by
  induction l with
  | nil => simp [noteStale]
  | cons e t ih =>
    simp only [List.map_cons, List.nodup_cons] at h
    simp only [noteStale]
    split
    · refine ⟨?_, ?_⟩
      · simpa using h
      · intro x hx
        simp only [List.map_cons, List.mem_cons] at hx ⊢
        tauto
    · obtain ⟨h1, h2⟩ := ih h.2
      refine ⟨?_, ?_⟩
      · simp only [List.map_cons, List.nodup_cons]
        refine ⟨fun hm => ?_, h1⟩
        rcases h2 _ hm with h3 | h3
        · contradiction
        · exact h.1 h3
      · intro x hx
        simp only [List.map_cons, List.mem_cons] at hx ⊢
        rcases hx with rfl | hx
        · exact .inr (.inl rfl)
        · rcases h2 x hx with h3 | h3 <;> tauto
theorem Wrote.storeLE {s t : State} (h : Wrote s t) (l : List Nat) (v : Nat) : Wrote s (storeLE l v t) := by
  induction l generalizing v t with
  | nil => exact h
  | cons a l ih =>
    exact ih (h.trans ⟨rfl, fun g => Memory.wf_write g a _, fun g => (noteStale_addrs _ _ _ g).1⟩) _

theorem readVA_eq {space va n : Nat} {s s' : State} {go : Nat → State → Out State} {pas : List Nat}
    (h : Access .read space va n s pas s') : readVA space va n s go = go (bytesLE s' pas) (touched s' pas) := by
  simp [readVA, resolve, h.1, readAt, isMmio_of_drew (resolveAll_ok h.1).2, h.2]
theorem writeVA_eq {space va n v : Nat} {s s' : State} {go : State → Out State} {pas : List Nat}
    (h : Access .write space va n s pas s') : writeVA space va n v s go = go (storeLE pas v (touched s' pas)) := by
  simp [writeVA, resolve, h.1, writeAt, isMmio_of_drew (resolveAll_ok h.1).2, h.2]

/-! A read or write at physical addresses answers what follows it, or a refusal. -/

theorem deviceAccess_cases (pas : List Nat) (st : Option Nat) (s : State) (go : Nat → State → Out State) :
    (∃ v t, Quiet s t ∧ deviceAccess pas st s go = go v t) ∨ ∃ r, deviceAccess pas st s go = .refused r := by
  simp only [deviceAccess]
  split
  · refine .inl ⟨_, { s with device := s.device ++ [_] }, ?_, rfl⟩
    exact ⟨rfl, rfl⟩
  · exact .inr ⟨_, rfl⟩
theorem readPiece_cases (pas : List Nat) (s : State) (go : Nat → State → Out State) :
    (∃ v t, Quiet s t ∧ readPiece pas s go = go v t) ∨ ∃ r, readPiece pas s go = .refused r := by
  simp only [readPiece]
  split
  · exact deviceAccess_cases _ _ _ _
  · exact .inl ⟨_, _, (Quiet.refl s).touched _, rfl⟩
theorem writePiece_cases (pas : List Nat) (v : Nat) (s : State) (go : State → Out State) :
    (∃ t, Wrote s t ∧ writePiece pas v s go = go t) ∨ ∃ r, writePiece pas v s go = .refused r := by
  simp only [writePiece]
  split
  · rcases deviceAccess_cases pas (some (v % 256 ^ pas.length)) s fun _ => go with ⟨_, t, h, e⟩ | h
    · exact .inl ⟨t, h.wrote, e⟩
    · exact .inr h
  · exact .inl ⟨_, ((Quiet.refl s).touched _).wrote.storeLE _ _, rfl⟩
theorem readAt_cases (pas : List Nat) (s : State) (go : Nat → State → Out State) :
    (∃ v t, Quiet s t ∧ readAt pas s go = go v t) ∨ ∃ r, readAt pas s go = .refused r := by
  simp only [readAt]
  split
  · rcases readPiece_cases (pas.take 8) s fun lo s' => readPiece (pas.drop 8) s' fun hi s'' => go (lo + 256 ^ 8 * hi) s''
      with ⟨v, t, h, e⟩ | h
    · rcases readPiece_cases (pas.drop 8) t fun hi s'' => go (v + 256 ^ 8 * hi) s'' with ⟨w, u, h', e'⟩ | ⟨r, e'⟩
      · exact .inl ⟨_, u, h.trans h', e.trans e'⟩
      · exact .inr ⟨r, e.trans e'⟩
    · exact .inr h
  · exact .inl ⟨_, _, (Quiet.refl s).touched _, rfl⟩
theorem writeAt_cases (pas : List Nat) (v : Nat) (s : State) (go : State → Out State) :
    (∃ t, Wrote s t ∧ writeAt pas v s go = go t) ∨ ∃ r, writeAt pas v s go = .refused r := by
  simp only [writeAt]
  split
  · rcases writePiece_cases (pas.take 8) v s fun s' => writePiece (pas.drop 8) (v / 256 ^ 8) s' go with ⟨t, h, e⟩ | h
    · rcases writePiece_cases (pas.drop 8) (v / 256 ^ 8) t go with ⟨u, h', e'⟩ | ⟨r, e'⟩
      · exact .inl ⟨u, h.trans h', e.trans e'⟩
      · exact .inr ⟨r, e.trans e'⟩
    · exact .inr h
  · exact .inl ⟨_, ((Quiet.refl s).touched _).wrote.storeLE _ _, rfl⟩
/-- Translation goes on with addresses, refuses, or faults from a state in which at most free values have been read. -/
theorem resolve_cases (k : Config.Access) (space va n : Nat) (s : State) (go : List Nat → State → Out State) :
    (∃ pas s', resolveAll k (va % space) (spanOf space va n) s = .ok pas s' ∧ resolve k space va n s go = go pas s') ∨
      (∃ r, resolve k space va n s go = .refused r) ∨
      ∃ e x t, Drew s t ∧ resolve k space va n s go = .next (t.trapped e (some (BitVec.ofNat 64 x))) := by
  rcases h : resolveAll k (va % space) (spanOf space va n) s with ⟨pas, s'⟩ | o
  · exact .inl ⟨pas, s', rfl, by simp [resolve, h]⟩
  · rcases resolveAll_stop h with ⟨r, rfl⟩ | ⟨e, x, t, -, ht, rfl⟩
    · exact .inr (.inl ⟨r, by simp [resolve, h]⟩)
    · exact .inr (.inr ⟨e, teaOf (va % space) x, t, ht, by simp only [resolve, h, raiseAt_eq]⟩)
/-- A read answers what follows it, a refusal, or a fault from a state in which at most free values have been read. -/
theorem readVA_cases (space va n : Nat) (s : State) (go : Nat → State → Out State) :
    (∃ v t, Quiet s t ∧ readVA space va n s go = go v t) ∨ (∃ r, readVA space va n s go = .refused r) ∨
      ∃ e x t, Drew s t ∧ readVA space va n s go = .next (t.trapped e (some (BitVec.ofNat 64 x))) := by
  rcases resolve_cases .read space va n s fun pas s' => readAt pas s' go with ⟨pas, s', h, e⟩ | h
  · rcases readAt_cases pas s' go with ⟨v, t, h', e'⟩ | ⟨r, e'⟩
    · exact .inl ⟨v, t, (Quiet.drew (resolveAll_ok h).2).trans h', e.trans e'⟩
    · exact .inr (.inl ⟨r, e.trans e'⟩)
  · exact .inr h
/-- The same of a write. -/
theorem writeVA_cases (space va n v : Nat) (s : State) (go : State → Out State) :
    (∃ t, Wrote s t ∧ writeVA space va n v s go = go t) ∨ (∃ r, writeVA space va n v s go = .refused r) ∨
      ∃ e x t, Drew s t ∧ writeVA space va n v s go = .next (t.trapped e (some (BitVec.ofNat 64 x))) := by
  rcases resolve_cases .write space va n s fun pas s' => writeAt pas v s' go with ⟨pas, s', h, e⟩ | h
  · rcases writeAt_cases pas v s' go with ⟨t, h', e'⟩ | ⟨r, e'⟩
    · exact .inl ⟨t, (Quiet.drew (resolveAll_ok h).2).wrote.trans h', e.trans e'⟩
    · exact .inr (.inl ⟨r, e.trans e'⟩)
  · exact .inr h

/-! ### What fetch may see late -/

theorem touched_sameOlder (s : State) (pas : List Nat) : SameOlder (touched s pas).stale s.stale := by
  simp only [SameOlder, touched, List.map_map]
  exact List.map_congr_left fun _ _ => rfl
theorem find_sameOlder {l m : List StaleByte} (h : SameOlder l m) (a : Nat) :
    (l.find? fun e => e.addr == a).map StaleByte.olds = (m.find? fun e => e.addr == a).map StaleByte.olds := by
  induction l generalizing m with
  | nil => cases m <;> simp_all [SameOlder]
  | cons e l ih =>
    cases m with
    | nil => simp [SameOlder] at h
    | cons f m =>
      simp only [SameOlder, List.map_cons, List.cons.injEq, Prod.mk.injEq] at h
      simp only [List.find?_cons, h.1.1]
      split
      · simp [h.1.2]
      · exact ih h.2
theorem older_iff (l : List StaleByte) (a : Nat) (b : Byte) :
    Older l a b ↔ ∃ o, (l.find? fun e => e.addr == a).map StaleByte.olds = some o ∧ b ∈ o := by
  simp only [Older, Option.map_eq_some_iff]
  constructor
  · rintro ⟨e, h, hb⟩; exact ⟨_, ⟨e, h, rfl⟩, hb⟩
  · rintro ⟨_, ⟨e, h, rfl⟩, hb⟩; exact ⟨e, h, hb⟩
theorem SameOlder.older {l m : List StaleByte} (h : SameOlder l m) (a : Nat) (b : Byte) : Older l a b ↔ Older m a b := by
  simp only [older_iff, find_sameOlder h a]

/-- The record of a byte after a store at it, and of another byte. -/
theorem find_noteStale (m : List Host.Cell) (l : List StaleByte) (a x : Nat) :
    (noteStale m l a).find? (fun e => e.addr == x) =
      if x = a then
        some (match l.find? (fun e => e.addr == a) with
          | none => { addr := a, olds := [Memory.read m a], stage := .dirty }
          | some e => { e with olds := if Memory.read m a ∈ e.olds then e.olds else Memory.read m a :: e.olds, stage := .dirty })
      else l.find? fun e => e.addr == x := by
  induction l with
  | nil =>
    by_cases h : x = a
    · subst h; simp [noteStale]
    · simp [noteStale, h, Ne.symm h]
  | cons e l ih =>
    simp only [noteStale]
    split
    · rename_i he
      by_cases h : x = a
      · subst h; simp [he]
      · simp [he, h, Ne.symm h]
    · rename_i he
      simp only [List.find?_cons, ih]
      by_cases h : x = a
      · subst h
        have hb : (e.addr == x) = false := by simpa using he
        simp [hb]
      · simp only [h, if_false]

theorem older_noteStale (m : List Host.Cell) (l : List StaleByte) (a x : Nat) (b : Byte) :
    Older (noteStale m l a) x b ↔ Older l x b ∨ (x = a ∧ b = Memory.read m a) := by
  simp only [Older, find_noteStale]
  by_cases h : x = a
  · subst h
    cases hf : l.find? fun e => e.addr == x with
    | none => simp
    | some e =>
      simp only [if_true, true_and, Option.some.injEq, exists_eq_left']
      split
      · constructor
        · exact .inl
        · rintro (h | rfl) <;> assumption
      · simp [or_comm]
  · simp [h]

/-- A store records the bytes it stores, and no others. -/
theorem storeLE_recorded (pas : List Nat) (v : Nat) (s : State) : Recorded s pas (storeLE pas v s).stale := by
  induction pas generalizing v s with
  | nil => exact ⟨fun _ _ _ => Iff.rfl, fun _ h => absurd h (by simp)⟩
  | cons a pas ih =>
    have hg := ih (v / 256) (storeByte s a (BitVec.ofNat 8 v))
    obtain ⟨h1, h2⟩ := hg
    have ho (x : Nat) (b : Byte) : Older (storeByte s a (BitVec.ofNat 8 v)).stale x b ↔ Older s.stale x b ∨ (x = a ∧ b = Memory.read s.mem a) :=
      older_noteStale _ _ _ _ _
    have hm (x : Nat) (hx : x ≠ a) : Memory.read (storeByte s a (BitVec.ofNat 8 v)).mem x = Memory.read s.mem x :=
      Memory.read_write_ne _ _ _ _ hx
    refine ⟨fun x b hx => ?_, fun x hx => ?_⟩
    · rw [List.mem_cons, not_or] at hx
      show Older (storeLE pas _ _).stale x b ↔ _
      rw [h1 x b hx.2, ho]
      simp [hx.1]
    · by_cases hp : x ∈ pas
      · obtain ⟨hd, hr, hk, hn⟩ := h2 x hp
        refine ⟨hd, ?_, fun b hb => hk b ((ho x b).2 (.inl hb)), fun nd b hb => ?_⟩
        · by_cases hxa : x = a
          · subst hxa; exact hk _ ((ho _ _).2 (.inr ⟨rfl, rfl⟩))
          · rw [hm x hxa] at hr; exact hr
        · rw [List.nodup_cons] at nd
          have hxa : x ≠ a := fun e => nd.1 (e ▸ hp)
          rcases hn nd.2 b hb with h | h
          · exact .inl (h.trans (hm x hxa))
          · rcases (ho x b).1 h with h | h
            · exact .inr h
            · exact absurd h.1 hxa
      · have hxa : x = a := by simpa [hp] using hx
        subst hxa
        have hiff (b : Byte) := (h1 x b hp).trans (ho x b)
        refine ⟨?_, (hiff _).2 (.inr ⟨rfl, rfl⟩), fun b hb => (hiff b).2 (.inl hb), fun _ b hb => ?_⟩
        · have hs : ∀ (l : List Nat) (w : Nat) (t : State), x ∉ l →
              (storeLE l w t).stale.find? (fun e => e.addr == x) = t.stale.find? fun e => e.addr == x := by
            intro l
            induction l with
            | nil => intros; rfl
            | cons c l ih' =>
              intro w t hl
              rw [List.mem_cons, not_or] at hl
              show (storeLE l _ _).stale.find? _ = _
              rw [ih' _ _ hl.2]
              show (noteStale _ _ _).find? _ = _
              rw [find_noteStale, if_neg hl.1]
          refine ⟨_, (hs pas _ _ hp).trans ((find_noteStale _ _ _ _).trans (if_pos rfl)), ?_⟩
          split <;> rfl
        · rcases (hiff b).1 hb with h | h
          · exact .inr h
          · exact .inl h.2
theorem Recorded.of_sameOlder {s t : State} {pas : List Nat} {l : List StaleByte} (hm : t.mem = s.mem)
    (h : SameOlder t.stale s.stale) (g : Recorded t pas l) : Recorded s pas l := by
  obtain ⟨g1, g2⟩ := g
  refine ⟨fun a b ha => (g1 a b ha).trans (h.older a b), fun a ha => ?_⟩
  obtain ⟨hd, hr, hk, hn⟩ := g2 a ha
  exact ⟨hd, hm ▸ hr, fun b hb => hk b ((h.older a b).2 hb), fun nd b hb => (hn nd b hb).imp (fun e => hm ▸ e) (h.older a b).1⟩

/-- A byte as fetch sees it: as memory holds it or an older value on record. -/
theorem fetchByte_cases (s : State) (pa : Nat) :
    ((fetchByte s pa).1 = readByte s pa ∨ ∃ e ∈ s.stale, e.addr = pa ∧ (fetchByte s pa).1 ∈ e.olds) ∧ Drew s (fetchByte s pa).2 := by
  unfold fetchByte
  split
  · exact ⟨.inl rfl, .refl s⟩
  · rename_i e he
    refine ⟨?_, .drawn s⟩
    have hl : (freeWord s).toNat % (readByte s pa :: e.olds).length < (readByte s pa :: e.olds).length := Nat.mod_lt _ (by simp)
    have hm : (readByte s pa :: e.olds).getD ((freeWord s).toNat % (readByte s pa :: e.olds).length) (readByte s pa) ∈ readByte s pa :: e.olds := by
      rw [List.getD_eq_getElem _ _ hl]; exact List.getElem_mem hl
    rcases List.mem_cons.1 hm with h | h
    · exact .inl h
    · have := List.find?_some he
      exact .inr ⟨e, List.mem_of_find?_eq_some he, by simpa using this, h⟩

/-- What arrives at a step: the environment's class 0xC codes, without a TEA value, and the TRAPs routed here, each with its own. -/
theorem mem_arrivals (k : Nat) (x : PendingIrq) :
    x ∈ arrivals k ↔ (x.code ∈ Config.raiseIrq k ∧ slice x.code 12 4 = 0xC#4 ∧ x.tea = none) ∨
      ∃ v, ⟨x.code, v⟩ ∈ Config.routedTraps k ∧ routable x.code = true ∧ x.tea = some (v.setWidth 64) := by
  obtain ⟨c, t⟩ := x
  simp only [arrivals, List.mem_append, List.mem_map, List.mem_filter, beq_iff_eq, PendingIrq.mk.injEq]
  constructor
  · rintro (⟨a, ⟨h, h'⟩, rfl, rfl⟩ | ⟨⟨a, v⟩, ⟨h, h'⟩, rfl, rfl⟩)
    exacts [.inl ⟨h, h', rfl⟩, .inr ⟨v, h, h', rfl⟩]
  · rintro (⟨h, h', rfl⟩ | ⟨v, h, h', rfl⟩)
    exacts [.inl ⟨c, ⟨h, h'⟩, rfl, rfl⟩, .inr ⟨⟨c, v⟩, ⟨h, h'⟩, rfl, rfl⟩]

/-- A pending code has a first entry, whose TEA value is the one its entry writes. -/
theorem pendingTea_eq {s : State} {c : Half} (h : c ∈ s.pending.map PendingIrq.code) :
    ∃ l p r, s.pending = l ++ p :: r ∧ (∀ q ∈ l, q.code ≠ c) ∧ p.code = c ∧ pendingTea c s = p.tea := by
  obtain ⟨x, hx, he⟩ := List.mem_map.1 h
  rcases hf : s.pending.find? fun p => p.code == c with _ | p
  · exact absurd (beq_iff_eq.2 he) (List.find?_eq_none.1 hf x hx)
  · obtain ⟨h1, l, r, h2, h3⟩ := List.find?_eq_some_iff_append.1 hf
    exact ⟨l, p, r, h2, fun q hq => by simpa using h3 q hq, beq_iff_eq.1 h1, by rw [pendingTea, hf]; rfl⟩

/-- The entry of an interrupt writes TEA where its code came with a value. -/
theorem takeInterrupt_tea (c : Half) (s : State) : (takeInterrupt c s).tea = (pendingTea c s).getD s.tea := by
  unfold takeInterrupt; cases pendingTea c s <;> rfl

/-- The codes after one more interrupt: those there were, with its own at the end if it is new. -/
theorem addPending_codes (p : List PendingIrq) (x : PendingIrq) :
    (addPending p x).map PendingIrq.code =
      if x.code ∈ p.map PendingIrq.code then p.map PendingIrq.code else p.map PendingIrq.code ++ [x.code] := by
  have h : (p.any fun y => y.code == x.code) = true ↔ x.code ∈ p.map PendingIrq.code := by
    simp only [List.any_eq_true, beq_iff_eq, List.mem_map]
  rw [addPending]
  by_cases hx : x.code ∈ p.map PendingIrq.code
  · rw [if_pos (h.2 hx), if_pos hx, List.map_map]
    refine List.map_congr_left fun y _ => ?_
    rw [Function.comp_apply]; split <;> rfl
  · rw [if_neg (mt h.1 hx), if_neg hx, List.map_append]; rfl

/-- The codes that are pending after some interrupts have arrived. -/
theorem mem_codes_foldl_addPending (l p : List PendingIrq) (c : Half) :
    c ∈ (l.foldl addPending p).map PendingIrq.code ↔ c ∈ p.map PendingIrq.code ∨ c ∈ l.map PendingIrq.code := by
  induction l generalizing p with
  | nil => simp
  | cons x l ih =>
    rw [List.foldl_cons, ih, addPending_codes, List.map_cons, List.mem_cons]
    split
    · rename_i h
      exact ⟨fun | .inl a => .inl a | .inr a => .inr (.inr a), fun | .inl a => .inl a | .inr (.inl a) => .inl (a ▸ h) | .inr (.inr a) => .inr a⟩
    · rw [List.mem_append, List.mem_singleton, or_assoc]

/-- The pending codes stay without repeats. -/
theorem nodup_foldl_addPending (l : List PendingIrq) {p : List PendingIrq} (h : (p.map PendingIrq.code).Nodup) :
    ((l.foldl addPending p).map PendingIrq.code).Nodup := by
  induction l generalizing p with
  | nil => exact h
  | cons x l ih =>
    refine ih ?_
    rw [addPending_codes]
    split
    · exact h
    · rename_i hx
      exact List.nodup_append.2 ⟨h, List.nodup_singleton _, fun a ha b hb => by
        rw [List.mem_singleton] at hb; rintro rfl; exact hx (hb ▸ ha)⟩

/-- An entry after one more interrupt: as it was, of another code or given no TEA value, or with the TEA value that came. -/
theorem mem_addPending {p : List PendingIrq} {x y : PendingIrq} (h : y ∈ addPending p x) :
    (y ∈ p ∧ (x.code = y.code → x.tea = none)) ∨
      (x.code = y.code ∧ y.tea = x.tea ∧ (x.tea = none → x.code ∉ p.map PendingIrq.code)) := by
  rw [addPending] at h
  split at h
  · obtain ⟨z, hz, rfl⟩ := List.mem_map.1 h
    split
    · rename_i hc
      rcases hx : x.tea with _ | v
      · exact .inl ⟨by simpa using hz, fun _ => rfl⟩
      · exact .inr ⟨(beq_iff_eq.1 hc).symm, rfl, nofun⟩
    · rename_i hc; exact .inl ⟨hz, fun e => absurd e.symm (by simpa using hc)⟩
  · rename_i hx
    rcases List.mem_append.1 h with h | h
    · exact .inl ⟨h, fun hc => (hx (List.any_eq_true.2 ⟨y, h, beq_iff_eq.2 hc.symm⟩)).elim⟩
    · rw [List.mem_singleton] at h; subst h
      exact .inr ⟨rfl, rfl, fun _ hm => hx (List.any_eq_true.2 (by simpa using hm))⟩

/-- Where the TEA value of an entry is from, after some interrupts have arrived: an arrival of its code that brought one, or, where
none did, the entry as it was, or nowhere. -/
theorem mem_foldl_addPending {l p : List PendingIrq} {y : PendingIrq} (h : y ∈ l.foldl addPending p) :
    (∃ x ∈ l, x.code = y.code ∧ x.tea ≠ none ∧ y.tea = x.tea) ∨
      ((∀ x ∈ l, x.code = y.code → x.tea = none) ∧
        (y ∈ p ∨ (y.tea = none ∧ y.code ∉ p.map PendingIrq.code ∧ y.code ∈ l.map PendingIrq.code))) := by
  have cons {x : PendingIrq} {l : List PendingIrq} (hx : x.code = y.code → x.tea = none)
      (hl : ∀ z ∈ l, z.code = y.code → z.tea = none) : ∀ z ∈ x :: l, z.code = y.code → z.tea = none :=
    List.forall_mem_cons.2 ⟨hx, hl⟩
  induction l generalizing p with
  | nil => exact .inr ⟨nofun, .inl h⟩
  | cons x l ih =>
    rcases ih h with ⟨z, hz, hr⟩ | ⟨hn, h | ⟨ht, hp, hc⟩⟩
    · exact .inl ⟨z, .tail _ hz, hr⟩
    · rcases mem_addPending h with ⟨hy, hx⟩ | ⟨hc, ht, hp⟩
      · exact .inr ⟨cons hx hn, .inl hy⟩
      · by_cases hx : x.tea = none
        · exact .inr ⟨cons (fun _ => hx) hn, .inr ⟨ht.trans hx, hc ▸ hp hx, hc ▸ .head _⟩⟩
        · exact .inl ⟨x, .head _, hc, hx, ht⟩
    · rw [addPending_codes] at hp
      have hx : x.code ≠ y.code := fun e => by
        rw [← e] at hp; split at hp
        · exact hp ‹_›
        · exact hp (by simp)
      refine .inr ⟨cons (fun e => absurd e hx) hn, .inr ⟨ht, fun hm => hp ?_, .tail _ hc⟩⟩
      split
      · exact hm
      · exact List.mem_append_left _ hm

/-- The newest entry that matches decides. -/
theorem tlbLook_eq (s : State) (k : Config.Access) (va : Nat) (l : List TlbEntry) :
    tlbLook s k va l = l.reverse.findSome? fun e => Config.tlbHit e.ext e.bits e.regs s.krr s.sr va k := by
  induction l with
  | nil => rfl
  | cons e l ih =>
    simp only [tlbLook, ih, List.reverse_cons, List.findSome?_append]
    cases (l.reverse.findSome? fun e => Config.tlbHit e.ext e.bits e.regs s.krr s.sr va k) with
    | some x => rfl
    | none => cases h : Config.tlbHit e.ext e.bits e.regs s.krr s.sr va k <;> simp [List.findSome?, h]

/-! ### What an outcome ensures -/

/-- Every next state an outcome answers has a property. -/
def Ensures (P : State → Prop) (o : Out State) : Prop := ∀ t, o = .next t → P t

variable {P : State → Prop}

theorem Ensures.next {s : State} (h : P s) : Ensures P (.next s) := fun _ e => by cases e; exact h
theorem Ensures.refused (r : Refusal) : Ensures P (.refused r) := fun _ e => by cases e
theorem Ensures.fault (r : Fault) : Ensures P (.fault r) := fun _ e => by cases e
theorem Ensures.retire {s : State} (h : P s.done) : Ensures P (retire s) := .next h
theorem Ensures.jumpTo {t : VAddr} {s : State} (h : P (s.jumped t)) : Ensures P (jumpTo t s) := by
  unfold Machine.jumpTo
  split
  · exact .refused _
  · exact .next h
theorem Ensures.raise {e : Exc} {s : State} (h : P (s.trapped e none)) : Ensures P (raise e s) := by
  rw [raise_eq]; exact .next h
theorem Ensures.raiseAt {e : Exc} {va : Nat} {s : State} (h : P (s.trapped e (some (BitVec.ofNat 64 va)))) :
    Ensures P (raiseAt e va s) := by
  rw [raiseAt_eq]; exact .next h
theorem Ensures.trapTo {c : Half} {tea : Option Word} {s : State} (h : P (enterTrap c tea s.npc s)) :
    Ensures P (trapTo c tea s) := by
  rw [trapTo_eq]; exact .next h
theorem Ensures.withPairs {ps : List Pair} {o : Out State} (h : Ensures P o) : Ensures P (withPairs ps o) := by
  unfold Machine.withPairs; split
  · exact h
  · exact .refused _
theorem Ensures.withRounding {rm : Byte} {o : Out State} (h : Ensures P o) : Ensures P (withRounding rm o) := by
  unfold Machine.withRounding; split
  · exact h
  · exact .refused _
theorem Ensures.aligned {k : Nat} {ea : Word} {o : Out State} (h : Ensures P o) : Ensures P (aligned k ea o) := by
  unfold Machine.aligned; split
  · exact h
  · exact .refused _
theorem Ensures.ite {b : Prop} [Decidable b] {o o' : Out State} (h : b → Ensures P o) (h' : ¬ b → Ensures P o') :
    Ensures P (if b then o else o') := by
  split
  · exact h ‹_›
  · exact h' ‹_›
theorem Ensures.supervisorOnly {s : State} {o : Out State} (h : supervisor s = true → Ensures P o)
    (h' : P (s.trapped .privilegeViolation none)) : Ensures P (supervisorOnly s o) := .ite h fun _ => .raise h'
theorem Ensures.resolve {k : Config.Access} {space va n : Nat} {s : State} {go : List Nat → State → Out State}
    (h : ∀ pas t, Drew s t → Ensures P (go pas t))
    (h' : ∀ e x t, Drew s t → P (t.trapped e (some (BitVec.ofNat 64 x)))) : Ensures P (resolve k space va n s go) := by
  rcases resolve_cases k space va n s go with ⟨pas, t, g, e⟩ | ⟨r, e⟩ | ⟨x, a, t, ht, e⟩ <;> rw [e]
  · exact h pas t (resolveAll_ok g).2
  · exact .refused _
  · exact .next (h' x a t ht)
theorem Ensures.readAt {pas : List Nat} {s : State} {go : Nat → State → Out State}
    (h : ∀ v t, Quiet s t → Ensures P (go v t)) : Ensures P (readAt pas s go) := by
  rcases readAt_cases pas s go with ⟨v, t, g, e⟩ | ⟨r, e⟩ <;> rw [e]
  · exact h v t g
  · exact .refused _
theorem Ensures.writeAt {pas : List Nat} {v : Nat} {s : State} {go : State → Out State}
    (h : ∀ t, Wrote s t → Ensures P (go t)) : Ensures P (writeAt pas v s go) := by
  rcases writeAt_cases pas v s go with ⟨t, g, e⟩ | ⟨r, e⟩ <;> rw [e]
  · exact h t g
  · exact .refused _
theorem Ensures.readVA {space va n : Nat} {s : State} {go : Nat → State → Out State}
    (h : ∀ v t, Quiet s t → Ensures P (go v t))
    (h' : ∀ e x t, Drew s t → P (t.trapped e (some (BitVec.ofNat 64 x)))) : Ensures P (readVA space va n s go) := by
  rcases readVA_cases space va n s go with ⟨v, t, g, e⟩ | ⟨r, e⟩ | ⟨x, a, t, ht, e⟩ <;> rw [e]
  · exact h v t g
  · exact .refused _
  · exact .next (h' x a t ht)
theorem Ensures.writeVA {space va n v : Nat} {s : State} {go : State → Out State}
    (h : ∀ t, Wrote s t → Ensures P (go t))
    (h' : ∀ e x t, Drew s t → P (t.trapped e (some (BitVec.ofNat 64 x)))) : Ensures P (writeVA space va n v s go) := by
  rcases writeVA_cases space va n v s go with ⟨t, g, e⟩ | ⟨r, e⟩ | ⟨x, a, t, ht, e⟩ <;> rw [e]
  · exact h t g
  · exact .refused _
  · exact .next (h' x a t ht)

end

end Sys2Proof.Machine
end

