-- ==== Sys2Proof/Laws/Change.lean ====
section
/-! SUPPORT. What one instruction can do, said once for all instructions: `exec_change`. Every next state exec
answers is a user-level change, a fault taken from an otherwise unchanged state, a TRAP, a local mode transition, or a
change in Supervisor mode that keeps the invariant. -/

namespace Sys2Proof.Machine

open Sys2Proof

noncomputable section

/-! ### The kinds of change -/

/-- The SR bits an instruction may change in any mode: T, S, P/Q/R/O, U, the decode mode (10_state.md R28, R29). -/
def userBit (k : Nat) : Prop := k < 2 ∨ (4 ≤ k ∧ k < 16) ∨ k = 22 ∨ k = 23 ∨ k = 26 ∨ k = 27

/-- A change any mode may make: general registers, LR, GBR, KRR, user bits of SR, memory, tripwires, the sleeping
flag, interrupts to other cores, the free values and the pc. -/
structure UserChange (s t : State) : Prop where
  npc : t.npc = s.npc
  vbr : t.vbr = s.vbr
  spc : t.spc = s.spc
  ssp : t.ssp = s.ssp
  tbr : t.tbr = s.tbr
  ttb : t.ttb = s.ttb
  tea : t.tea = s.tea
  mmcr : t.mmcr = s.mmcr
  exsr : t.exsr = s.exsr
  sttb : t.sttb = s.sttb
  gbh : t.gbh = s.gbh
  rbs : t.rbs = s.rbs
  tlb : t.tlb = s.tlb
  acl : t.acl = s.acl
  ekey : t.ekey = s.ekey
  enabled : t.ldekrrEnabled = s.ldekrrEnabled
  seed : t.canarySeed = s.canarySeed
  usec : t.usec = s.usec
  cycles : t.cycles = s.cycles
  pending : t.pending = s.pending
  clock : t.clock = s.clock
  faults : t.faults = s.faults
  map : t.map = s.map
  sr : ∀ k, ¬ userBit k → t.sr.getLsbD k = s.sr.getLsbD k
  mem : Memory.wf s.mem = true → Memory.wf t.mem = true
  stale : (s.stale.map StaleByte.addr).Nodup → (t.stale.map StaleByte.addr).Nodup
  wires : (s.tripwires.map Tripwire.line).Nodup → (t.tripwires.map Tripwire.line).Nodup

theorem UserChange.refl (s : State) : UserChange s s := by constructor <;> intros <;> first | rfl | assumption
theorem UserChange.trans {s t u : State} (h : UserChange s t) (g : UserChange t u) : UserChange s u := by
  constructor
  all_goals first
    | exact fun k hk => (g.sr k hk).trans (h.sr k hk)
    | exact fun x => g.mem (h.mem x)
    | exact fun x => g.stale (h.stale x)
    | exact fun x => g.wires (h.wires x)
    | simp only [g.npc, h.npc, g.vbr, h.vbr, g.spc, h.spc, g.ssp, h.ssp, g.tbr, h.tbr, g.ttb, h.ttb, g.tea, h.tea,
        g.mmcr, h.mmcr, g.exsr, h.exsr, g.sttb, h.sttb, g.gbh, h.gbh, g.rbs, h.rbs, g.tlb, h.tlb, g.acl, h.acl,
        g.ekey, h.ekey, g.enabled, h.enabled, g.seed, h.seed, g.usec, h.usec, g.cycles, h.cycles, g.pending,
        h.pending, g.clock, h.clock, g.faults, h.faults, g.map, h.map]

/-- A state that differs only in fields a user-level change leaves open. -/
theorem UserChange.plain (s : State) (regs : Vector Word 64) (pc : VAddr) (lr gbr krr : Word) (sleeping : Bool)
    (lrAge : Nat) (remote : List RemoteTrap) (draws : Nat) :
    UserChange s
      { s with regs := regs, pc := pc, lr := lr, gbr := gbr, krr := krr, sleeping := sleeping, lrAge := lrAge
               remote := remote, draws := draws } := by
  constructor <;> intros <;> first | rfl | assumption

theorem Wrote.user {s t : State} (h : Wrote s t) : UserChange s t := by
  have hs := h.same
  have hm := h.mem
  have ha := h.addrs
  rw [hs] at hm ⊢
  constructor <;> intros <;> first | rfl | assumption | exact hm ‹_› | exact ha ‹_›
theorem Quiet.user {s t : State} (h : Quiet s t) : UserChange s t := h.wrote.user

/-- What one instruction can do. -/
inductive Change (i : Instr) (s : State) : State → Prop
  /-- A change any mode may make. -/
  | user {t : State} (h : UserChange s t) : Change i s t
  /-- A fault: the exception is taken, and nothing else has changed (60_exceptions.md R858). -/
  | fault {u : State} (e : Exc) (tea : Option Word) (h : Quiet s u) : Change i s (u.trapped e tea)
  /-- TRAP. -/
  | trap (c : Half) (tea : Option Word) (h : (∃ k, i = .trapImm k) ∨ ∃ n, i = .trapReg n) :
      Change i s (enterTrap c tea s.npc s)
  /-- SXENTR, SUENTR, SVENTR. -/
  | mode (md rb : Bool) (h : md = true → i = .sventr ∧ superuserMode s = true) :
      Change i s { s with sr := setBit (setBit s.sr 30 md) 29 rb, pc := s.npc }
  /-- A change only Supervisor mode may make. -/
  | priv {t : State} (h : supervisor s = true) (hi : s.Inv → t.Inv) 
      (hf : t.faults = s.faults ∧ t.map = s.map ∧ t.clock = s.clock ∧ t.usec = s.usec ∧ t.cycles = s.cycles) : Change i s t

/-! ### Closure of the user-level changes -/

variable {s t : State}

theorem UserChange.setReg (h : UserChange s t) (r : Reg) (v : Word) : UserChange s (setReg t r v) :=
  h.trans (.plain _ _ _ _ _ _ _ _ _ _)
theorem UserChange.setPair (h : UserChange s t) (p : Pair) (v : Quad) : UserChange s (setPair t p v) :=
  h.trans (.plain _ _ _ _ _ _ _ _ _ _)
theorem UserChange.setDhrDlr (h : UserChange s t) (v : Quad) : UserChange s (setDhrDlr t v) := h.trans (.plain _ _ _ _ _ _ _ _ _ _)
theorem UserChange.done (h : UserChange s t) : UserChange s t.done := h.trans (.plain _ _ _ _ _ _ _ _ _ _)
theorem UserChange.jumped (h : UserChange s t) (a : VAddr) : UserChange s (t.jumped a) := h.trans (.plain _ _ _ _ _ _ _ _ _ _)
theorem UserChange.setLR (h : UserChange s t) (v : Word) : UserChange s (setLR t v) := h.trans (.plain _ _ _ _ _ _ _ _ _ _)
theorem UserChange.drawn (h : UserChange s t) : UserChange s (drawn t) := h.trans (.plain _ _ _ _ _ _ _ _ _ _)
theorem UserChange.drawn2 (h : UserChange s t) : UserChange s (drawn2 t) := h.trans (.plain _ _ _ _ _ _ _ _ _ _)
theorem UserChange.drawnN (h : UserChange s t) (k : Nat) : UserChange s (drawnN k t) := h.trans (.plain _ _ _ _ _ _ _ _ _ _)
theorem UserChange.fpSticky (h : UserChange s t) (v : BitVec 4) :
    UserChange s (fpSticky v t) := h.trans (.plain _ _ _ _ _ _ _ _ _ _)
theorem UserChange.withSR (h : UserChange s t) (v : Word) (hv : ∀ k, ¬ userBit k → v.getLsbD k = t.sr.getLsbD k) :
    UserChange s { t with sr := v } := by
  refine h.trans ?_
  constructor <;> intros <;> first | rfl | assumption | exact hv _ ‹_›
/-- A user-level change of the TLB, TTB and the rest keeps SR.MD. -/
theorem UserChange.md (h : UserChange s t) : srMD t = srMD s := h.sr 30 (by unfold userBit; omega)

theorem UserChange.setT (h : UserChange s t) (b : Bool) : UserChange s (setT t b) :=
  h.withSR _ fun k hk => by
    unfold userBit at hk; exact getLsbD_setBit_ne _ _ _ (by omega)
theorem UserChange.setS (h : UserChange s t) (b : Bool) : UserChange s (setS t b) :=
  h.withSR _ fun k hk => by
    unfold userBit at hk; exact getLsbD_setBit_ne _ _ _ (by omega)
theorem UserChange.setU (h : UserChange s t) (u : BitVec 8) : UserChange s (setU t u) :=
  h.withSR _ fun k hk => by
    unfold userBit at hk; exact getLsbD_setSlice_out _ _ _ (by omega)
theorem UserChange.setPQRO (h : UserChange s t) (u : BitVec 4) : UserChange s (setPQRO t u) :=
  h.withSR _ fun k hk => by
    unfold userBit at hk; exact getLsbD_setSlice_out _ _ _ (by omega)
theorem UserChange.setFlag (h : UserChange s t) (f : Flag) (b : Bool) : UserChange s (setFlag f b t) := by
  cases f
  · exact h.setT b
  · exact h.setS b
theorem UserChange.setModeSR (h : UserChange s t) (m : BitVec 4) : UserChange s { t with sr := setModeSR t.sr m } :=
  h.withSR _ fun k hk => by
    unfold userBit at hk
    simp (disch := omega) only [Machine.setModeSR, getLsbD_setBit_ne]
theorem UserChange.restoreFlags (h : UserChange s t) (v : Word) : UserChange s { t with sr := restoreFlags v t.sr } :=
  h.withSR _ fun k hk => by
    unfold userBit at hk
    simp (disch := omega) only [Machine.restoreFlags, getLsbD_setSlice_out]
theorem UserChange.touched (h : UserChange s t) (l : List Nat) : UserChange s (touched t l) :=
  h.trans ((Quiet.refl t).touched l).user

theorem UserChange.drew (h : UserChange s t) {u : State} (g : Drew t u) : UserChange s u := h.trans (Quiet.drew g).user
theorem setWire_lines (l : Nat) (m : BitVec 4) (ws : List Tripwire) (h : (ws.map Tripwire.line).Nodup) :
    ((setWire l m ws).map Tripwire.line).Nodup ∧
      ∀ x, x ∈ (setWire l m ws).map Tripwire.line → x = l ∨ x ∈ ws.map Tripwire.line := by
  induction ws with
  | nil => simp [setWire, wireUpdate]
  | cons e t ih =>
    simp only [List.map_cons, List.nodup_cons] at h
    simp only [setWire]
    split
    · refine ⟨by simpa [wireUpdate] using h, ?_⟩
      intro x hx
      simp only [List.map_cons, List.mem_cons, wireUpdate] at hx ⊢
      tauto
    · obtain ⟨h1, h2⟩ := ih h.2
      refine ⟨?_, ?_⟩
      · simp only [List.map_cons, List.nodup_cons]
        refine ⟨fun hm => ?_, h1⟩
        rcases h2 _ hm with h3 | h3
        · contradiction
        · exact h.1 h3
      · intro x hx
        simp only [List.map_cons, List.mem_cons] at hx ⊢
        rcases hx with rfl | hx
        · exact .inr (.inl rfl)
        · rcases h2 x hx with h3 | h3 <;> tauto

/-! ### The invariant -/

theorem srReserved_iff (v : Word) :
    v &&& srReserved = 0#64 ↔ ∀ k, k < 64 → (32 ≤ k ∨ (16 ≤ k ∧ k < 22)) → v.getLsbD k = false := by
  have hbit : ∀ k, k < 64 → (srReserved.getLsbD k = true ↔ (32 ≤ k ∨ (16 ≤ k ∧ k < 22))) := by
    intro k hk
    interval_cases k <;> simp [srReserved]
  constructor
  · intro h k hk hr
    have h1 := congrArg (fun x => BitVec.getLsbD x k) h
    simpa [(hbit k hk).2 hr] using h1
  · intro h
    apply BitVec.eq_of_getLsbD_eq
    intro k hk
    by_cases hr : srReserved.getLsbD k = true
    · simp [h k hk ((hbit k hk).1 hr)]
    · simp [hr]
theorem reserved_congr {v w : Word} (h : ∀ k, 32 ≤ k ∨ (16 ≤ k ∧ k < 22) → w.getLsbD k = v.getLsbD k)
    (hv : v &&& srReserved = 0#64) : w &&& srReserved = 0#64 := by
  rw [srReserved_iff] at hv ⊢
  exact fun k hk hr => (h k hr).trans (hv k hk hr)

theorem UserChange.inv (h : UserChange s t) (g : s.Inv) : t.Inv where
  memory := h.mem g.memory
  reserved := reserved_congr (fun k hk => h.sr k (by unfold userBit; omega)) g.reserved
  tlb := h.tlb ▸ g.tlb
  pending := h.pending ▸ g.pending
  stale := h.stale g.stale
  wires := h.wires g.wires

theorem trapSR_reserved (v : Word) (k : Nat) (h : 32 ≤ k ∨ (16 ≤ k ∧ k < 22)) :
    (trapSR v).getLsbD k = v.getLsbD k := by
  simp (disch := omega) only [trapSR, setModeSR, getLsbD_setBit_ne, getLsbD_setSlice_out]
theorem Inv.enterTrap (g : s.Inv) (c : Half) (a : Option Word) (p : VAddr) : (enterTrap c a p s).Inv where
  memory := g.memory
  reserved := reserved_congr (trapSR_reserved s.sr) g.reserved
  tlb := g.tlb
  pending := g.pending
  stale := g.stale
  wires := g.wires
theorem Inv.trapped (g : s.Inv) (e : Exc) (tea : Option Word) : (s.trapped e tea).Inv :=
  let h := Inv.enterTrap g e.code tea s.pc
  ⟨h.memory, h.reserved, h.tlb, h.pending, h.stale, h.wires⟩

/-- Every change an instruction can make keeps the invariant. -/
theorem Change.inv {i : Instr} (h : Change i s t) (g : s.Inv) : t.Inv := by
  cases h with
  | user h => exact h.inv g
  | fault e tea h => exact Inv.trapped (h.user.inv g) e tea
  | trap c tea h => exact Inv.enterTrap g _ _ _
  | mode md rb h =>
    exact ⟨g.memory, reserved_congr (fun k hk => by
      simp (disch := omega) only [getLsbD_setBit_ne]) g.reserved, g.tlb, g.pending, g.stale, g.wires⟩
  | priv h hi hf => exact hi g

/-! ### What the shared forms do -/

theorem Ensures.user {i : Instr} {o : Out State} (h : Ensures (UserChange s) o) : Ensures (Change i s) o :=
  fun t e => .user (h t e)
theorem Ensures.mono {P Q : State → Prop} {o : Out State} (h : Ensures P o) (g : ∀ t, P t → Q t) : Ensures Q o :=
  fun t e => g t (h t e)
/-- One register. -/
theorem user_reg (n : Reg) (v : Word) (s : State) : Ensures (UserChange s) (retire (setReg s n v)) :=
  .retire (.done (.setReg (.refl s) _ _))
/-- One register and free values. -/
theorem user_regN (k : Nat) (n : Reg) (v : Word) (s : State) : Ensures (UserChange s) (retire (setReg (drawnN k s) n v)) :=
  .retire (.done (.setReg (.drawnN (.refl s) _) _ _))
theorem user_reg1 (n : Reg) (v : Word) (s : State) : Ensures (UserChange s) (retire (setReg (drawn s) n v)) :=
  user_regN 1 n v s
/-- A pair. -/
theorem user_pair (n : Pair) (v : Quad) (s : State) : Ensures (UserChange s) (retire (setPair s n v)) :=
  .retire (.done (.setPair (.refl s) _ _))
theorem user_pairN (k : Nat) (n : Pair) (v : Quad) (s : State) :
    Ensures (UserChange s) (retire (setPair (drawnN k s) n v)) :=
  .retire (.done (.setPair (.drawnN (.refl s) _) _ _))
theorem user_nop (s : State) : Ensures (UserChange s) (retire s) := .retire (.done (.refl s))
theorem user_t (b : Bool) (s : State) : Ensures (UserChange s) (retire (setT s b)) := .retire (.done (.setT (.refl s) _))
theorem user_s (b : Bool) (s : State) : Ensures (UserChange s) (retire (setS s b)) := .retire (.done (.setS (.refl s) _))
theorem user_regT (n : Reg) (v : Word) (b : Bool) (s : State) : Ensures (UserChange s) (retire (setT (setReg s n v) b)) :=
  .retire (.done (.setT (.setReg (.refl s) _ _) _))
theorem user_jump (a : VAddr) (s : State) : Ensures (UserChange s) (jumpTo a s) := .jumpTo (.jumped (.refl s) _)
theorem user_call (a : VAddr) (s : State) : Ensures (UserChange s) (callTo a s) :=
  .jumpTo (.jumped (.setLR (.refl s) _) _)
theorem user_branch (b : Bool) (a : VAddr) (s : State) : Ensures (UserChange s) (branchIf b a s) :=
  .ite (fun _ => user_jump a s) fun _ => user_nop s
theorem user_return (v : Word) (s : State) : Ensures (UserChange s) (returnTo v s) :=
  .jumpTo (.jumped (.restoreFlags (.refl s) v) _)
theorem user_pairs {ps : List Pair} {o : Out State} (h : Ensures (UserChange s) o) :
    Ensures (UserChange s) (withPairs ps o) := .withPairs h
theorem user_compare (op : Word → Word → Bool) (src : Src) (n : Reg) (f : Flag) (s : State) :
    Ensures (UserChange s) (compare op src n f s) := .retire (.done (.setFlag (.refl s) _ _))
theorem user_divide (ok : Word → Word → Bool) (f : Word → Word → Word) (m o n : Reg) (s : State) :
    Ensures (UserChange s) (divide ok f m o n s) := .ite (fun _ => user_reg _ _ s) fun _ => user_reg1 _ _ s
theorem user_shiftRight (f : Word → Nat → Word) (m o n : Reg) (s : State) :
    Ensures (UserChange s) (shiftRight f m o n s) := .ite (fun _ => user_reg _ _ s) fun _ => user_reg1 _ _ s
theorem user_shiftRightX (ar : Bool) (m : Pair) (o : Reg) (n : Pair) (s : State) :
    Ensures (UserChange s) (shiftRightX ar m o n s) :=
  .withPairs (.ite (fun _ => user_pair _ _ s) fun _ => user_pairN 2 _ _ s)
theorem user_bcd (f : Word → Word → Bool → Word × Bool) (m n : Reg) (s : State) :
    Ensures (UserChange s) (bcdOp f m n s) :=
  .ite (fun _ => user_regT _ _ _ s) fun _ => .retire (.done (.setT (.setReg (.drawn2 (.refl s)) _ _) _))
theorem user_bitmov64 (m : Reg) (bg : Word) (c : BitVec 24) (n : Reg) (s : State) :
    Ensures (UserChange s) (bitmov64 m bg c n s) := .ite (fun _ => user_reg _ _ s) fun _ => .refused _
theorem user_bitmovs64 (m : Reg) (bg : Word) (c : BitVec 24) (n : Reg) (s : State) :
    Ensures (UserChange s) (bitmovs64 m bg c n s) := .ite (fun _ => user_reg _ _ s) fun _ => .refused _
theorem user_bitmov128 (ps : List Pair) (m : Pair) (bg : Quad) (c : BitVec 24) (n : Pair) (s : State) :
    Ensures (UserChange s) (bitmov128 ps m bg c n s) :=
  .withPairs (.ite (fun _ => user_pair _ _ s) fun _ => .refused _)
theorem user_bitmovs128 (ps : List Pair) (m : Pair) (bg : Quad) (c : BitVec 24) (n : Pair) (s : State) :
    Ensures (UserChange s) (bitmovs128 ps m bg c n s) :=
  .withPairs (.ite (fun _ => user_pair _ _ s) fun _ => .refused _)
theorem user_pcmpW (f : Half → Half → Bool) (m n : Reg) (s : State) : Ensures (UserChange s) (pcmpW f m n s) :=
  .retire (.done (.setS (.setT (.setPQRO (.drawn (.refl s)) _) _) _))
theorem user_pcmpL (f : BitVec 32 → BitVec 32 → Bool) (m n : Reg) (s : State) : Ensures (UserChange s) (pcmpL f m n s) :=
  .retire (.done (.setS (.setT (.setPQRO (.drawn (.refl s)) _) _) _))
theorem user_search (c : Nat) (f : Word → Word → Nat → Bool) (m o n : Reg) (s : State) :
    Ensures (UserChange s) (search c f m o n s) := by
  unfold search; split <;> exact user_regT _ _ _ s
theorem user_fpTo (dst src : Config.FpFmt) (op : Config.FpOp) (rm : Byte) (l : List Nat) (f : Nat → Word) (n : Reg) (s : State) :
    Ensures (UserChange s) (fpTo dst src op rm l f n s) :=
  .withRounding (.retire (.done (.fpSticky (.setReg (.drawn (.refl s)) _ _) _)))
theorem user_fp2 (op : Config.FpOp) (rm : Byte) (m : Reg) (b : FSrc) (n : Reg) (s : State) :
    Ensures (UserChange s) (fp2 op rm m b n s) := user_fpTo _ _ _ _ _ _ _ _
theorem user_fp3 (op : Config.FpOp) (m o p n : Reg) (s : State) :
    Ensures (UserChange s) (fp3 op m o p n s) := by unfold fp3 fpD; exact user_fpTo _ _ _ _ _ _ _ _
theorem user_fpX (op : Config.FpOp) (rm : Byte) (l : List Quad) (n : Pair) (s : State) :
    Ensures (UserChange s) (fpX op rm l n s) :=
  .withRounding (.retire (.done (.fpSticky (.setPair (.drawn2 (.refl s)) _ _) _)))
theorem user_fp2x (op : Config.FpOp) (rm : Byte) (m o n : Pair) (s : State) :
    Ensures (UserChange s) (fp2x op rm m o n s) := .withPairs (user_fpX _ _ _ _ _)
theorem user_fp3x (op : Config.FpOp) (m o p n : Pair) (s : State) :
    Ensures (UserChange s) (fp3x op m o p n s) := .withPairs (user_fpX _ _ _ _ _)
/-- An operation on lanes. -/
theorem user_packed (f : Config.FpFmt) (op : Config.FpOp) (rm : Byte) (l : Nat → List Nat) (c : Nat)
    (place : State → (Nat → Nat) → State) (s : State) (h : ∀ t r, UserChange s t → UserChange s (place t r)) :
    Ensures (UserChange s) (packed f op rm l c place s) := .retire (.done (.fpSticky (h _ _ (.drawnN (.refl s) c)) _))
theorem user_setHalf (op : Config.FpOp) (l : Nat → List Half) (n : Reg) (s : State) :
    Ensures (UserChange s) (setHalf op l n s) := user_packed _ _ _ _ _ _ s fun _ _ g => .setReg g _ _
theorem user_setSingle (op : Config.FpOp) (rm : Byte) (l : Nat → List (BitVec 32)) (n : Reg) (s : State) :
    Ensures (UserChange s) (setSingle op rm l n s) := user_packed _ _ _ _ _ _ s fun _ _ g => .setReg g _ _
theorem user_setSingleX (op : Config.FpOp) (rm : Byte) (l : Nat → List (BitVec 32)) (n : Pair) (s : State) :
    Ensures (UserChange s) (setSingleX op rm l n s) := user_packed _ _ _ _ _ _ s fun _ _ g => .setPair g _ _
theorem user_setDoubleX (op : Config.FpOp) (l : Nat → List Word) (n : Pair) (s : State) :
    Ensures (UserChange s) (setDoubleX op l n s) := user_packed _ _ _ _ _ _ s fun _ _ g => .setPair g _ _
theorem user_intToDouble (op : Config.FpOp) (raw : Word) (z : Int) (n : Reg) (s : State) :
    Ensures (UserChange s) (intToDouble op raw z n s) :=
  .retire (.done (.fpSticky (.setReg (.drawn (.refl s)) _ _) _))
theorem user_fcmp (rel : Nat → Nat → Bool → Bool) (v : Word) (n : Reg) (s : State) :
    Ensures (UserChange s) (fcmp rel v n s) := .retire (.done (.setT (.drawn (.refl s)) _))
theorem user_fcmpX (rel : Nat → Nat → Bool → Bool) (m n : Pair) (s : State) :
    Ensures (UserChange s) (fcmpX rel m n s) := .withPairs (.retire (.done (.setT (.drawn (.refl s)) _)))
theorem user_bndcmp (off : Int) (n : Reg) (s : State) : Ensures (UserChange s) (bndcmp off n s) := user_t _ s

variable {i : Instr}

/-- A fault from the state itself. -/
theorem change_raise (e : Exc) (s : State) : Ensures (Change i s) (raise e s) := .raise (.fault e none (.refl s))
theorem change_supervisor {o : Out State} (h : supervisor s = true → Ensures (Change i s) o) :
    Ensures (Change i s) (supervisorOnly s o) := .supervisorOnly h (.fault _ _ (.refl s))
theorem change_isr {o : Out State} (h : supervisor s = true → Ensures (Change i s) o) :
    Ensures (Change i s) (isrOnly s o) :=
  .ite (fun g => h (by simp only [inISR, Bool.and_eq_true] at g; exact g.1)) fun _ => change_raise _ s
/-- An ordinary load. -/
theorem change_readVA {space va n : Nat} {go : Nat → State → Out State} (hq : Quiet s t)
    (h : ∀ v u, Quiet s u → Ensures (Change i s) (go v u)) : Ensures (Change i s) (readVA space va n t go) :=
  .readVA (fun _ _ g => h _ _ (hq.trans g)) fun e _ _ g => .fault e _ (hq.trans (.drew g))
/-- An ordinary store. -/
theorem change_writeVA {space va n v : Nat} {go : State → Out State} (hq : Quiet s t)
    (h : ∀ u, UserChange s u → Ensures (Change i s) (go u)) : Ensures (Change i s) (writeVA space va n v t go) :=
  .writeVA (fun _ g => h _ (hq.user.trans g.user)) fun e _ _ g => .fault e _ (hq.trans (.drew g))
/-- A read and a write of one place, both translated first. -/
theorem change_readModifyWrite {ea : Word} {n : Nat} {f : Nat → Nat} {go : Nat → State → Out State}
    (h : ∀ v u, UserChange s u → Ensures (Change i s) (go v u)) : Ensures (Change i s) (readModifyWrite ea n f s go) :=
  .resolve (fun _ _ g => .resolve (fun _ _ g' => .readAt fun v _ q => .writeAt fun _ w =>
    h v _ ((((UserChange.refl s).drew g).drew g').trans (q.user.trans w.user)))
    fun e _ _ g' => .fault e _ (.drew (g.trans g'))) fun e _ _ g => .fault e _ (.drew g)
theorem change_load (size : Nat) (ext : Word → Word) (n : Reg) (a : Addr) (s : State) :
    Ensures (Change i s) (load size ext n a s) :=
  by unfold load readMem; exact change_readVA (.refl s) fun _ _ g => .retire (.user (.done (.setReg g.user _ _)))
theorem change_store (size : Nat) (n : Reg) (a : Addr) (s : State) : Ensures (Change i s) (store size n a s) :=
  change_writeVA (.refl s) fun _ g => .retire (.user (.done g))
theorem change_move (size : Nat) (ext : Word → Word) (d : Dir) (n : Reg) (a : Addr) (s : State) :
    Ensures (Change i s) (move size ext d n a s) := by
  cases d
  · exact change_load _ _ _ _ s
  · exact change_store _ _ _ s
theorem change_loadTW (ext : Word → Word) (n : Reg) (a : Addr) (s : State) : Ensures (Change i s) (loadTW ext n a s) :=
  .aligned (change_readVA (.refl s) fun _ _ g => .retire (.user (.done (.setReg g.user _ _))))
theorem change_storeTW (v : Word) (a : Addr) (s : State) : Ensures (Change i s) (storeTW v a s) :=
  .aligned (change_writeVA (.refl s) fun _ g => .retire (.user (.done g)))
theorem change_xmovChecked (a : XAddr) (scale size : Nat) (go : Nat → Out State)
    (h : ∀ va, Ensures (Change i s) (go va)) : Ensures (Change i s) (xmovChecked s a scale size go) := by
  simp only [xmovChecked]
  split
  · exact change_raise _ s
  · split
    · exact h _
    · exact .ite (fun _ => .raiseAt (.fault _ _ (.refl s))) fun _ => h _
    · exact .ite (fun _ => h _) fun _ => change_raise _ s
    · exact .ite (fun _ => h _) fun _ => change_raise _ s
    · exact .raiseAt (.fault _ _ (.refl s))
theorem change_xmov (size : Nat) (d : Dir) (n : Reg) (a : XAddr) (s : State) :
    Ensures (Change i s) (xmov size d n a s) := by
  refine .withPairs (change_xmovChecked _ _ _ _ fun va => ?_)
  cases d
  · exact change_readVA (.refl s) fun _ _ g => .retire (.user (.done (.setReg g.user _ _)))
  · exact change_writeVA (.refl s) fun _ g => .retire (.user (.done g))
theorem change_bndchk (off : Int) (n : Reg) (s : State) : Ensures (Change i s) (bndchk off n s) :=
  .ite (fun _ => .user (user_nop s)) fun _ => change_raise _ s
theorem change_enterMode (ok md rb : Bool) (s : State) (h : ok = true → md = true → i = .sventr ∧ superuserMode s = true) :
    Ensures (Change i s) (enterMode ok md rb s) :=
  .ite (fun g => .retire (.mode md rb (h g))) fun _ => change_raise _ s
theorem change_trapCode (c : Half) (tea : Option Word) (s : State) (h : (∃ k, i = .trapImm k) ∨ ∃ n, i = .trapReg n) :
    Ensures (Change i s) (trapCode c tea s) := by
  refine .ite (fun _ => .ite (fun _ => .trapTo (.trap c tea h)) fun _ => .ite (fun _ => ?_) fun _ => .refused _) fun _ => .refused _
  exact .retire (.user (.done (.plain _ _ _ _ _ _ _ _ _ _)))
theorem change_readControl (c : CReg) (s : State) (go : Word → Out State) (h : ∀ v, Ensures (Change i s) (go v)) :
    Ensures (Change i s) (readControl c s go) := by
  unfold readControl
  split
  · exact change_raise _ s
  · exact .ite (fun _ => h _) fun _ => change_raise _ s
/-- A control-register write: LR and GBR in any mode, the others in Supervisor mode. -/
theorem change_setControl (c : CReg) (v : Word) {u : State} (h : Quiet s u)
    (hc : supervisor s = true ∨ controlWritable c = true) : Ensures (Change i s) (setControl c v u retire) := by
  have hs := h.same
  have hq := h.addrs
  have hf : u.faults = s.faults ∧ u.map = s.map ∧ u.clock = s.clock ∧ u.usec = s.usec ∧ u.cycles = s.cycles :=
    ⟨h.user.faults, h.user.map, h.user.clock, h.user.usec, h.user.cycles⟩
  have key : ∀ t : State, supervisor s = true → (s.Inv → t.Inv) →
      t.faults = s.faults ∧ t.map = s.map ∧ t.clock = s.clock ∧ t.usec = s.usec ∧ t.cycles = s.cycles →
      Ensures (Change i s) (.next t) := fun t a b e => .next (.priv a b e)
  have inv : s.Inv → u.Inv := h.user.inv
  have sup (hn : controlWritable c = false) : supervisor s = true := by
    rcases hc with h | h
    · exact h
    · rw [hn] at h; contradiction
  unfold setControl
  split
  · exact .retire (.user (.done (.setLR h.user _)))
  · split
    · exact .refused _
    · rename_i hv
      refine key _ (sup (by decide)) (fun g => ?_) hf
      have g' := inv g
      exact ⟨g'.memory, by simpa using hv, g'.tlb, g'.pending, g'.stale, g'.wires⟩
  all_goals first
    | exact .refused _
    | exact .retire (.user (.done (h.user.trans (.plain _ _ _ _ _ _ _ _ _ _))))
    | exact key _ (sup (by decide)) (fun g => ⟨(inv g).memory, (inv g).reserved, (inv g).tlb, (inv g).pending,
        (inv g).stale, (inv g).wires⟩) hf
theorem change_mayWrite (c : CReg) (s : State) (o : Out State)
    (h : supervisor s = true ∨ controlWritable c = true → Ensures (Change i s) o) :
    Ensures (Change i s) (mayWriteControl c s o) :=
  .ite (fun _ => change_raise _ s) fun _ => .ite (fun _ => .refused _) fun _ =>
    .ite (fun g => h (by simpa using g)) fun _ => change_raise _ s

theorem change_xmovtt (v : Quad) (t : BitVec 32) (n : Pair) (s : State) : Ensures (Change i s) (xmovtt v t n s) := by
  refine .ite (fun _ => .user (user_pair _ _ s)) fun _ => .ite (fun _ => ?_) fun _ => .user (user_pair _ _ s)
  split
  · exact change_raise _ s
  · exact .user (user_pair _ _ s)
  · exact .user (user_pair _ _ s)
theorem flush_addrs (sel : LineSel) (l : List StaleByte) :
    l.map StaleByte.addr =
      (l.map fun e => if inSel sel e then { e with stage := flushStep e.stage } else e).map StaleByte.addr := by
  rw [List.map_map]
  congr 1
  funext e
  simp only [Function.comp]
  split <;> rfl

/-! ### Insertion into the TLB -/

theorem dropOldest_row (r : Nat) (l : List TlbEntry) (h : 0 < (l.filter fun e => e.row == r).length) (q : Nat) :
    ((dropOldest r l).filter fun e => e.row == q).length + (if q = r then 1 else 0) = (l.filter fun e => e.row == q).length := by
  induction l with
  | nil => simp at h
  | cons e t ih =>
    simp only [dropOldest]
    by_cases he : e.row = r
    · subst he
      by_cases hq : q = e.row
      · subst hq; simp
      · have : (e.row == q) = false := by simpa using fun x => hq x.symm
        simp [hq, this]
    · have h1 : (e.row == r) = false := by simpa using he
      have h2 := ih (by simpa [h1] using h)
      simp only [he, if_false]
      by_cases hq : e.row = q
      · have hqr : q ≠ r := fun x => he (hq.trans x)
        have h3 : (e.row == q) = true := by simpa using hq
        simp only [hqr, if_false] at h2 ⊢
        simp [h3, ← h2]
      · have h3 : (e.row == q) = false := by simpa using hq
        simpa [h3] using h2
theorem tlbInsert_fits (l : List TlbEntry) (e : TlbEntry) (h : tlbFits l) : tlbFits (tlbInsert l e) := by
  intro r
  have hr := h r
  have he := h e.row
  have hpos : 0 < 2 ^ Config.tlbAssocLog2.toNat := Nat.pos_of_ne_zero (by simp)
  unfold tlbInsert
  split
  · rename_i hfull
    have h1 := dropOldest_row e.row l (by omega) r
    rw [List.filter_append, List.length_append]
    by_cases hx : r = e.row
    · subst hx; simp only [if_true] at h1; simp; omega
    · have : (e.row == r) = false := by simpa using fun x => hx x.symm
      simp only [hx, if_false] at h1
      simp [this]; omega
  · rename_i hfree
    rw [List.filter_append, List.length_append]
    by_cases hx : r = e.row
    · subst hx; simp; omega
    · have : (e.row == r) = false := by simpa using fun x => hx x.symm
      simp [this]; omega

/-! ### Every instruction -/

theorem change_bitnn (m : Reg) (o : Reg) (n : Reg) (s : State) : Ensures (Change (.bitnn m o n) s) (execBitnn m o n s) := by
  exact .ite (fun _ => .refused _) fun _ => .ite (fun _ => .user (user_reg _ _ s)) fun _ => .user (user_reg1 _ _ s)
theorem change_srttwid (i : BitVec 5) (s : State) : Ensures (Change (.srttwid i) s) (execSrttwid i s) := by
  show Ensures _ (execSrttwid _ s)
  unfold execSrttwid
  split
  · exact .retire (.user (.done (.setU (.setT (.refl s) _) _)))
  · exact .ite (fun _ => .refused _) fun _ => change_raise _ s
theorem change_movX (d : Dir) (n : Pair) (a : Addr) (s : State) : Ensures (Change (.movX d n a) s) (execMovX d n a s) := by
  refine .withPairs (.aligned ?_)
  cases d
  · exact change_readVA (.refl s) fun _ _ g => .retire (.user (.done (.setPair g.user _ _)))
  · exact change_writeVA (.refl s) fun _ g => .retire (.user (.done g))
theorem change_movC (d : Dir) (c : CReg) (a : Addr) (s : State) : Ensures (Change (.movC d c a) s) (execMovC d c a s) := by
  cases d
  · exact change_mayWrite _ _ _ fun h => change_readVA (.refl s) fun _ _ g => change_setControl _ _ g h
  · exact change_readControl _ _ _ fun _ => change_writeVA (.refl s) fun _ g => .retire (.user (.done g))
theorem change_movTW (d : Dir) (n : Reg) (a : Addr) (s : State) : Ensures (Change (.movTW d n a) s) (execMovTW d n a s) := by
  show Ensures _ (execMovTW d _ _ s)
  cases d
  · exact change_loadTW _ _ _ _
  · exact change_storeTW _ _ _
theorem change_movHTW (d : Dir) (n : Reg) (a : Addr) (s : State) : Ensures (Change (.movHTW d n a) s) (execMovHTW d n a s) := by
  show Ensures _ (execMovHTW d _ _ s)
  cases d
  · exact change_loadTW (fun v => v <<< 16) _ _ _
  · exact change_storeTW _ _ _
theorem change_xmovX (d : Dir) (n : Pair) (a : XAddr) (s : State) : Ensures (Change (.xmovX d n a) s) (execXmovX d n a s) := by
  refine .withPairs (change_xmovChecked _ _ _ _ fun va => .ite (fun _ => ?_) fun _ => .refused _)
  cases d
  · exact change_readVA (.refl s) fun _ _ g => .retire (.user (.done (.setPair g.user _ _)))
  · exact change_writeVA (.refl s) fun _ g => .retire (.user (.done g))
theorem change_ldop (u : BitVec 4) (d : Dir) (k : LdOpSize) (n : Reg) (a : Addr) (s : State) : Ensures (Change (.ldop u d k n a) s) (execLdop u d k n a s) := by
  simp only [execLdop]
  split
  · exact change_readVA (.refl s) fun _ _ g => .retire (.user (.done (.setReg g.user _ _)))
  · exact change_readModifyWrite fun _ _ g => .retire (.user (.done (.setReg g _ _)))
  · exact change_readModifyWrite fun _ _ g => .retire (.user (.done g))
  · exact change_readModifyWrite fun _ _ g => .retire (.user (.done (.setReg g _ _)))
theorem change_movToC (m : Reg) (c : CReg) (s : State) : Ensures (Change (.movToC m c) s) (execMovToC m c s) := by
  exact change_mayWrite _ _ _ fun h => change_setControl _ _ (.refl s) h
theorem change_rte  (s : State) : Ensures (Change (.rte ) s) (execRte  s) := by
  exact change_supervisor fun h => .ite (fun _ => .refused _) fun hv => .jumpTo (.priv h (fun g =>
    ⟨g.memory, by simpa [State.jumped] using hv, g.tlb, g.pending, g.stale, g.wires⟩) ⟨rfl, rfl, rfl, rfl, rfl⟩)
theorem change_cpuid (i : BitVec 5) (s : State) : Ensures (Change (.cpuid i) s) (execCpuid i s) := by
  show Ensures _ (execCpuid _ s)
  unfold execCpuid
  split <;> first | exact .user (user_reg _ _ s) | exact .user (user_reg1 _ _ s)
theorem change_invic (n : Reg) (s : State) : Ensures (Change (.invic n) s) (execInvic n s) := by
  show Ensures _ (execInvic _ s)
  unfold execInvic
  split
  · exact .refused _
  · refine .retire (.user ?_)
    constructor <;> intros <;> first | rfl | assumption | exact List.Nodup.sublist (List.filter_sublist.map _) ‹_›
theorem change_invdc (n : Reg) (s : State) : Ensures (Change (.invdc n) s) (execInvdc n s) := by
  show Ensures _ (execInvdc _ s)
  unfold execInvdc
  refine .ite (fun _ => .user (user_nop s)) fun _ => ?_
  split
  · exact .refused _
  · refine .retire (.user ?_)
    constructor <;> intros <;> first | rfl | assumption | exact flush_addrs _ _ ▸ ‹_›
theorem change_ldekrr  (s : State) : Ensures (Change (.ldekrr ) s) (execLdekrr  s) := by
  refine .ite (fun _ => ?_) fun _ => change_raise _ s
  split
  · exact .retire (.user (.done (.plain _ _ _ _ _ _ _ _ _ _)))
  · exact change_raise _ s
theorem change_sventr  (s : State) : Ensures (Change (.sventr ) s) (execSventr  s) := by
  exact change_enterMode _ _ _ _ fun h _ => ⟨rfl, by simp only [Bool.and_eq_true] at h; exact h.1⟩
theorem change_settrap (m : Reg) (n : Reg) (s : State) : Ensures (Change (.settrap m n) s) (execSettrap m n s) := by
  exact .retire (.user (by constructor <;> intros <;> first | rfl | assumption | exact (setWire_lines _ _ _ ‹_›).1))
theorem change_xbless (m : Pair) (n : Pair) (s : State) : Ensures (Change (.xbless m n) s) (execXbless m n s) := by
  exact .withPairs (.ite (fun _ => .ite (fun _ => .user (user_pair _ _ _)) fun _ => change_raise _ s)
    fun _ => .user (user_pair _ _ _))
theorem change_wexmd (i : BitVec 5) (s : State) : Ensures (Change (.wexmd i) s) (execWexmd i s) := by
  show Ensures _ (execWexmd _ s)
  exact .ite (fun _ => .user (user_nop _)) fun _ => .ite
    (fun _ => .ite (fun h => .retire (.priv h (fun g => ⟨g.memory, reserved_congr (fun k hk => by
      show (setBit s.sr 27 false).getLsbD k = _; exact getLsbD_setBit_ne _ _ _ (by omega)) g.reserved, g.tlb, g.pending, g.stale, g.wires⟩) ⟨rfl, rfl, rfl, rfl, rfl⟩))
      fun _ => .user (user_nop _))
    fun _ => .retire (.user (.done (.withSR (.refl s) _ fun k hk => by
      unfold userBit at hk; exact getLsbD_setBit_ne _ _ _ (by omega))))
theorem change_cmpTTEQ (i : BitVec 6) (n : Reg) (s : State) : Ensures (Change (.cmpTTEQ i n) s) (execCmpTTEQ i n s) := by
  show Ensures _ (execCmpTTEQ _ _ s)
  unfold execCmpTTEQ
  split
  · exact change_raise _ s
  · exact .user (user_t _ s)
theorem change_movTTTag (m : Reg) (i : BitVec 5) (n : Reg) (s : State) : Ensures (Change (.movTTTag m i n) s) (execMovTTTag m i n s) := by
  show Ensures _ (execMovTTTag _ _ _ s)
  unfold execMovTTTag
  split
  · exact change_raise _ s
  · exact .user (user_reg _ _ s)
theorem change_fsqrt (m : Reg) (n : Reg) (s : State) : Ensures (Change (.fsqrt m n) s) (execFsqrt m n s) := by
  show Ensures _ (execFsqrt _ _ s)
  unfold execFsqrt
  exact .user (user_fpTo _ _ _ _ _ _ _ _)
theorem change_pconv (m : Reg) (i : BitVec 8) (n : Reg) (s : State) : Ensures (Change (.pconv m i n) s) (execPconv m i n s) := by
  show Ensures _ (execPconv _ _ _ s)
  unfold execPconv
  split
  · exact .user (user_reg1 _ _ s)
  · exact change_raise _ s
theorem change_pconvx (m : Pair) (i : BitVec 8) (n : Pair) (s : State) : Ensures (Change (.pconvx m i n) s) (execPconvx m i n s) := by
  refine .withPairs ?_
  split
  · exact .user (user_pairN 2 _ _ s)
  · exact change_raise _ s

/-- What one instruction can do. -/
theorem exec_change (i : Instr) (s : State) : Ensures (Change i s) (exec i s) := by
  cases i with
  | add _ _ _ => exact .user (user_reg _ _ _)
  | adc _ _ => exact .user (user_regT _ _ _ _)
  | addsL _ _ _ => exact .user (user_reg _ _ _)
  | adduL _ _ _ => exact .user (user_reg _ _ _)
  | sub _ _ _ => exact .user (user_reg _ _ _)
  | subsL _ _ _ => exact .user (user_reg _ _ _)
  | subuL _ _ _ => exact .user (user_reg _ _ _)
  | sbb _ _ => exact .user (user_regT _ _ _ _)
  | subP _ _ _ => exact .user (user_reg _ _ _)
  | subxP _ _ _ => exact .user (.withPairs (user_pair _ _ _))
  | and _ _ _ => exact .user (user_reg _ _ _)
  | or _ _ _ => exact .user (user_reg _ _ _)
  | xor _ _ _ => exact .user (user_reg _ _ _)
  | bswapuL _ _ => exact .user (user_reg _ _ _)
  | bswapQ _ _ => exact .user (user_reg _ _ _)
  | not _ _ => exact .user (user_reg _ _ _)
  | neg _ _ => exact .user (user_reg _ _ _)
  | negc _ => exact .user (user_regT _ _ _ _)
  | nop => exact .user (user_nop _)
  | nop3r _ => exact .user (user_nop _)
  | nop3rrr _ _ _ => exact .user (user_nop _)
  | mov _ _ => exact .user (user_reg _ _ _)
  | movx _ _ => exact .user (.withPairs (user_pair _ _ _))
  | movd _ _ => exact .user (user_reg _ _ _)
  | extsB _ _ => exact .user (user_reg _ _ _)
  | extsW _ _ => exact .user (user_reg _ _ _)
  | extsL _ _ => exact .user (user_reg _ _ _)
  | extuB _ _ => exact .user (user_reg _ _ _)
  | extuW _ _ => exact .user (user_reg _ _ _)
  | extuL _ _ => exact .user (user_reg _ _ _)
  | cselt _ _ _ => exact .user (user_reg _ _ _)
  | min _ _ _ => exact .user (user_reg _ _ _)
  | max _ _ _ => exact .user (user_reg _ _ _)
  | clz _ _ => exact .user (user_reg _ _ _)
  | clzq _ _ => exact .user (user_reg _ _ _)
  | ctz _ _ => exact .user (user_reg _ _ _)
  | ctzq _ _ => exact .user (user_reg _ _ _)
  | btrns _ _ => exact .user (user_reg _ _ _)
  | btrnsq _ _ => exact .user (user_reg _ _ _)
  | bcdadc _ _ =>
    show Ensures _ (execBcdadc _ _ s)
    exact .user (user_bcd _ _ _ _)
  | bcdsbb _ _ =>
    show Ensures _ (execBcdsbb _ _ s)
    exact .user (user_bcd _ _ _ _)
  | bitnn m o n => exact change_bitnn m o n s
  | pmortL _ _ => exact .user (user_reg _ _ _)
  | pmortQ _ _ => exact .user (user_reg _ _ _)
  | bitsel _ _ _ => exact .user (user_reg _ _ _)
  | bitselx _ _ _ => exact .user (.withPairs (user_pair _ _ _))
  | bitmovImm _ _ _ _ =>
    show Ensures _ (execBitmovImm _ _ _ _ s)
    exact .user (user_bitmov64 _ _ _ _ _)
  | bitmovReg _ _ _ _ =>
    show Ensures _ (execBitmovReg _ _ _ _ s)
    exact .user (user_bitmov64 _ _ _ _ _)
  | bitmovxImm _ _ _ _ => exact .user (user_bitmov128 _ _ _ _ _ _)
  | bitmovxReg _ _ _ _ => exact .user (user_bitmov128 _ _ _ _ _ _)
  | bitmovsImm _ _ _ _ =>
    show Ensures _ (execBitmovsImm _ _ _ _ s)
    exact .user (user_bitmovs64 _ _ _ _ _)
  | bitmovsReg _ _ _ _ =>
    show Ensures _ (execBitmovsReg _ _ _ _ s)
    exact .user (user_bitmovs64 _ _ _ _ _)
  | bitmovsxImm _ _ _ _ => exact .user (user_bitmovs128 _ _ _ _ _ _)
  | bitmovsxReg _ _ _ _ => exact .user (user_bitmovs128 _ _ _ _ _ _)
  | adcL _ _ => exact .user (user_regT _ _ _ _)
  | sbbL _ _ => exact .user (user_regT _ _ _ _)
  | cmpEQ _ _ _ => exact .user (user_compare _ _ _ _ _)
  | cmpEQS _ _ => exact .user (user_compare _ _ _ _ _)
  | cmpGT _ _ _ => exact .user (user_compare _ _ _ _ _)
  | cmpGTS _ _ => exact .user (user_compare _ _ _ _ _)
  | cmpHI _ _ _ => exact .user (user_compare _ _ _ _ _)
  | cmpHIS _ _ => exact .user (user_compare _ _ _ _ _)
  | cmpGE _ _ _ => exact .user (user_compare _ _ _ _ _)
  | cmpGES _ _ => exact .user (user_compare _ _ _ _ _)
  | cmpHS _ _ _ => exact .user (user_compare _ _ _ _ _)
  | cmpHSS _ _ => exact .user (user_compare _ _ _ _ _)
  | cmpQEQ _ _ _ => exact .user (user_compare _ _ _ _ _)
  | cmpQEQS _ _ => exact .user (user_compare _ _ _ _ _)
  | cmpQGT _ _ _ => exact .user (user_compare _ _ _ _ _)
  | cmpQGTS _ _ => exact .user (user_compare _ _ _ _ _)
  | cmpQHI _ _ _ => exact .user (user_compare _ _ _ _ _)
  | cmpQHIS _ _ => exact .user (user_compare _ _ _ _ _)
  | cmpQGE _ _ _ => exact .user (user_compare _ _ _ _ _)
  | cmpQGES _ _ => exact .user (user_compare _ _ _ _ _)
  | cmpQHS _ _ _ => exact .user (user_compare _ _ _ _ _)
  | cmpQHSS _ _ => exact .user (user_compare _ _ _ _ _)
  | tst _ _ _ => exact .user (user_compare _ _ _ _ _)
  | tstS _ _ => exact .user (user_compare _ _ _ _ _)
  | tstQ _ _ _ => exact .user (user_compare _ _ _ _ _)
  | tstQS _ _ => exact .user (user_compare _ _ _ _ _)
  | cmpPEQ _ _ => exact .user (.retire (.done (.setFlag (.refl s) .t _)))
  | cmpPEQX _ _ => exact .user (.withPairs (user_t _ _))
  | cmpPGT _ _ => exact .user (.retire (.done (.setFlag (.refl s) .t _)))
  | cmpPGTX _ _ => exact .user (.withPairs (user_t _ _))
  | cmp3EQ _ _ _ => exact .user (user_reg _ _ _)
  | cmp3GT _ _ _ => exact .user (user_reg _ _ _)
  | cmp3NE _ _ _ => exact .user (user_reg _ _ _)
  | cmp3LT _ _ _ => exact .user (user_reg _ _ _)
  | cmp3GE _ _ _ => exact .user (user_reg _ _ _)
  | cmp3HI _ _ _ => exact .user (user_reg _ _ _)
  | cmp3BI _ _ _ => exact .user (user_reg _ _ _)
  | clrT => exact .user (user_t _ _)
  | setT => exact .user (user_t _ _)
  | clrS => exact .user (user_s _ _)
  | setS => exact .user (user_s _ _)
  | notT => exact .user (user_t _ _)
  | notS => exact .user (user_s _ _)
  | srtprop _ => exact .retire (.user (.done (.setU (.setT (.refl s) _) _)))
  | srttwid i => exact change_srttwid i s
  | movT _ => exact .user (user_reg _ _ _)
  | movNT _ => exact .user (user_reg _ _ _)
  | shad _ _ _ => exact .user (user_reg _ _ _)
  | shadq _ _ _ => exact .user (user_reg _ _ _)
  | shadx _ _ _ => exact .user (.withPairs (user_pair _ _ _))
  | shld _ _ _ => exact .user (user_reg _ _ _)
  | shldq _ _ _ => exact .user (user_reg _ _ _)
  | shldx _ _ _ => exact .user (.withPairs (user_pair _ _ _))
  | shar _ _ _ =>
    show Ensures _ (execShar _ _ _ s)
    exact .user (user_shiftRight _ _ _ _ _)
  | sharq _ _ _ =>
    show Ensures _ (execSharq _ _ _ s)
    exact .user (user_shiftRight _ _ _ _ _)
  | sharx _ _ _ =>
    show Ensures _ (execSharx _ _ _ s)
    exact .user (user_shiftRightX _ _ _ _ _)
  | shlr _ _ _ =>
    show Ensures _ (execShlr _ _ _ s)
    exact .user (user_shiftRight _ _ _ _ _)
  | shlrq _ _ _ =>
    show Ensures _ (execShlrq _ _ _ s)
    exact .user (user_shiftRight _ _ _ _ _)
  | shlrx _ _ _ =>
    show Ensures _ (execShlrx _ _ _ s)
    exact .user (user_shiftRightX _ _ _ _ _)
  | rotclL _ => exact .user (user_regT _ _ _ _)
  | rotclQ _ => exact .user (user_regT _ _ _ _)
  | rotcrL _ => exact .user (user_regT _ _ _ _)
  | rotcrQ _ => exact .user (user_regT _ _ _ _)
  | rotl _ => exact .user (user_reg _ _ _)
  | rotr _ => exact .user (user_reg _ _ _)
  | rotlQ _ _ _ => exact .user (user_reg _ _ _)
  | rotlL _ _ _ => exact .user (user_reg _ _ _)
  | rotlx _ _ _ => exact .user (.withPairs (user_pair _ _ _))
  | rotrQ _ _ _ => exact .user (user_reg _ _ _)
  | muls _ _ _ => exact .user (user_reg _ _ _)
  | mulu _ _ _ => exact .user (user_reg _ _ _)
  | mulsQ _ _ _ => exact .user (user_reg _ _ _)
  | muluQ _ _ _ => exact .user (user_reg _ _ _)
  | mulhsQ _ _ _ => exact .user (user_reg _ _ _)
  | mulhuQ _ _ _ => exact .user (user_reg _ _ _)
  | dmulsL _ _ _ => exact .user (user_reg _ _ _)
  | dmuluL _ _ _ => exact .user (user_reg _ _ _)
  | mulsW _ _ _ => exact .user (user_reg _ _ _)
  | muluW _ _ _ => exact .user (user_reg _ _ _)
  | muluX _ _ => exact .user (.withPairs (user_pair _ _ _))
  | mulhuX _ _ => exact .user (.withPairs (user_pair _ _ _))
  | macsL _ _ _ _ => exact .user (user_reg _ _ _)
  | macuL _ _ _ _ => exact .user (user_reg _ _ _)
  | dmacsL _ _ _ _ => exact .user (user_reg _ _ _)
  | dmacuL _ _ _ _ => exact .user (user_reg _ _ _)
  | divsQ _ _ _ =>
    show Ensures _ (execDivsQ _ _ _ s)
    exact .user (user_divide _ _ _ _ _ _)
  | divuQ _ _ _ =>
    show Ensures _ (execDivuQ _ _ _ s)
    exact .user (user_divide _ _ _ _ _ _)
  | divsL _ _ _ =>
    show Ensures _ (execDivsL _ _ _ s)
    exact .user (user_divide _ _ _ _ _ _)
  | divuL _ _ _ =>
    show Ensures _ (execDivuL _ _ _ s)
    exact .user (user_divide _ _ _ _ _ _)
  | modsQ _ _ _ =>
    show Ensures _ (execModsQ _ _ _ s)
    exact .user (user_divide _ _ _ _ _ _)
  | moduQ _ _ _ =>
    show Ensures _ (execModuQ _ _ _ s)
    exact .user (user_divide _ _ _ _ _ _)
  | modsL _ _ _ =>
    show Ensures _ (execModsL _ _ _ s)
    exact .user (user_divide _ _ _ _ _ _)
  | moduL _ _ _ =>
    show Ensures _ (execModuL _ _ _ s)
    exact .user (user_divide _ _ _ _ _ _)
  | div0 => exact .retire (.user (.done (.setS (.setT (.refl s) _) _)))
  | div1 => exact .retire (.user (.done (.setT (.setS (.setReg (.refl s) _ _) _) _)))
  | ldiz _ _ => exact .user (user_reg _ _ _)
  | ldin _ _ => exact .user (user_reg _ _ _)
  | ldi8 _ _ => exact .user (user_reg _ _ _)
  | ldi64 _ _ => exact .user (user_reg _ _ _)
  | ldimiz _ _ => exact .user (user_reg _ _ _)
  | ldimin _ _ => exact .user (user_reg _ _ _)
  | ldish _ _ => exact .user (user_reg _ _ _)
  | ldihi _ _ => exact .user (user_reg _ _ _)
  | ldihiL _ _ => exact .user (user_reg _ _ _)
  | ldihiq _ _ => exact .user (user_reg _ _ _)
  | ldihiQ _ _ => exact .user (user_reg _ _ _)
  | ldish16 _ _ => exact .user (user_reg _ _ _)
  | ldiroz _ _ => exact .user (user_reg _ _ _)
  | ldirozq _ _ => exact .user (user_reg _ _ _)
  | ldiron _ _ => exact .user (user_reg _ _ _)
  | ldironq _ _ => exact .user (user_reg _ _ _)
  | movB _ _ _ => exact change_move _ _ _ _ _ _
  | movW _ _ _ => exact change_move _ _ _ _ _ _
  | movL _ _ _ => exact change_move _ _ _ _ _ _
  | movQ _ _ _ => exact change_move _ _ _ _ _ _
  | movuB _ _ => exact change_load _ _ _ _ _
  | movuW _ _ => exact change_load _ _ _ _ _
  | movuL _ _ => exact change_load _ _ _ _ _
  | movnL _ _ => exact change_load _ _ _ _ _
  | leaB _ _ => exact .user (user_reg _ _ _)
  | leaW _ _ => exact .user (user_reg _ _ _)
  | leaL _ _ => exact .user (user_reg _ _ _)
  | leaQ _ _ => exact .user (user_reg _ _ _)
  | movX d n a => exact change_movX d n a s
  | movC d c a => exact change_movC d c a s
  | movTW d n a => exact change_movTW d n a s
  | movuTW _ _ => exact change_loadTW _ _ _ _
  | movHTW d n a => exact change_movHTW d n a s
  | xmovB _ _ _ => exact change_xmov _ _ _ _ _
  | xmovW _ _ _ => exact change_xmov _ _ _ _ _
  | xmovL _ _ _ => exact change_xmov _ _ _ _ _
  | xmovQ _ _ _ => exact change_xmov _ _ _ _ _
  | xmovX d n a => exact change_xmovX d n a s
  | ldop u d k n a => exact change_ldop u d k n a s
  | ldtex _ _ _ _ => exact .aligned (change_readVA (.refl s) fun _ _ g => .retire (.user (.done (.setReg g.user _ _))))
  | rbsldQ _ _ => exact change_supervisor fun _ => .user (user_reg _ _ _)
  | rbsldX _ _ => exact change_supervisor fun _ => .withPairs (.ite (fun _ => .refused _) fun _ => .user (user_pair _ _ _))
  | rbsstQ _ _ => exact change_supervisor fun h => .retire (.priv h (fun g => ⟨g.memory, g.reserved, g.tlb, g.pending, g.stale, g.wires⟩) ⟨rfl, rfl, rfl, rfl, rfl⟩)
  | rbsstX _ _ => exact change_supervisor fun h => .withPairs (.ite (fun _ => .refused _) fun _ => .retire (.priv h (fun g => ⟨g.memory, g.reserved, g.tlb, g.pending, g.stale, g.wires⟩) ⟨rfl, rfl, rfl, rfl, rfl⟩))
  | bra _ => exact .user (user_jump _ _)
  | jmp _ => exact .ite (fun _ => .user (user_return _ _)) fun _ => .user (user_jump _ _)
  | jmpAbs _ => exact .user (user_jump _ _)
  | bsr _ => exact .user (user_call _ _)
  | jsr _ => exact .user (user_call _ _)
  | jsrAbs _ => exact .user (user_call _ _)
  | rts => exact .user (user_return _ _)
  | rtsu => exact .ite (fun _ => .user (user_return _ _)) fun _ => .refused _
  | bt _ => exact .user (user_branch _ _ _)
  | bf _ => exact .user (user_branch _ _ _)
  | jt _ => exact .user (user_branch _ _ _)
  | jf _ => exact .user (user_branch _ _ _)
  | braL _ => exact .user (user_jump _ _)
  | bsrL _ => exact .user (user_call _ _)
  | btL _ => exact .user (user_branch _ _ _)
  | bfL _ => exact .user (user_branch _ _ _)
  | jmpmd _ _ => exact .jumpTo (.user (.jumped (.setModeSR (.refl s) _) _))
  | jsrmd _ _ => exact .jumpTo (.user (.jumped (.setModeSR (.setLR (.refl s) _) _) _))
  | brEQL _ _ => exact .user (user_branch _ _ _)
  | brEQQ _ _ => exact .user (user_branch _ _ _)
  | brNEL _ _ => exact .user (user_branch _ _ _)
  | brNEQ _ _ => exact .user (user_branch _ _ _)
  | brLTL _ _ => exact .user (user_branch _ _ _)
  | brLTQ _ _ => exact .user (user_branch _ _ _)
  | brGEL _ _ => exact .user (user_branch _ _ _)
  | brGEQ _ _ => exact .user (user_branch _ _ _)
  | brLEL _ _ => exact .user (user_branch _ _ _)
  | brLEQ _ _ => exact .user (user_branch _ _ _)
  | brGTL _ _ => exact .user (user_branch _ _ _)
  | brGTQ _ _ => exact .user (user_branch _ _ _)
  | jtstT _ _ _ => exact .user (user_branch _ _ _)
  | jtstQT _ _ _ => exact .user (user_branch _ _ _)
  | jtstF _ _ _ => exact .user (user_branch _ _ _)
  | jtstQF _ _ _ => exact .user (user_branch _ _ _)
  | jcmpGT _ _ _ => exact .user (user_branch _ _ _)
  | jcmpQGT _ _ _ => exact .user (user_branch _ _ _)
  | jcmpLE _ _ _ => exact .user (user_branch _ _ _)
  | jcmpQLE _ _ _ => exact .user (user_branch _ _ _)
  | jcmpHI _ _ _ => exact .user (user_branch _ _ _)
  | jcmpQHI _ _ _ => exact .user (user_branch _ _ _)
  | jcmpLS _ _ _ => exact .user (user_branch _ _ _)
  | jcmpQLS _ _ _ => exact .user (user_branch _ _ _)
  | jcmpEQ _ _ _ => exact .user (user_branch _ _ _)
  | jcmpQEQ _ _ _ => exact .user (user_branch _ _ _)
  | jcmpNE _ _ _ => exact .user (user_branch _ _ _)
  | jcmpQNE _ _ _ => exact .user (user_branch _ _ _)
  | jcmpz _ _ _ _ => exact .user (user_branch _ _ _)
  | movToC m c => exact change_movToC m c s
  | movFromC _ _ => exact change_readControl _ _ _ fun _ => .user (user_reg _ _ _)
  | movToS _ _ => exact .refused _
  | movFromS _ _ => exact .refused _
  | breakOp => exact change_raise _ _
  | break2 => exact change_raise _ _
  | sleep => exact .ite (fun _ => change_raise _ s) fun _ => .retire (.user (.done (.plain _ _ _ _ _ _ _ _ _ _)))
  | rte => exact change_rte s
  | cpuid i => exact change_cpuid i s
  | invtlb => exact change_supervisor fun h => .retire (.priv h (fun g => ⟨g.memory, g.reserved, fun _ => Nat.zero_le _, g.pending, g.stale, g.wires⟩) ⟨rfl, rfl, rfl, rfl, rfl⟩)
  | invic n => exact change_invic n s
  | invdc n => exact change_invdc n s
  | ldtlb => exact change_isr fun h => .retire (.priv h (fun g => ⟨g.memory, g.reserved, tlbInsert_fits _ _ g.tlb, g.pending, g.stale, g.wires⟩) ⟨rfl, rfl, rfl, rfl, rfl⟩)
  | ldxtlb => exact change_isr fun h => .retire (.priv h (fun g => ⟨g.memory, g.reserved, tlbInsert_fits _ _ g.tlb, g.pending, g.stale, g.wires⟩) ⟨rfl, rfl, rfl, rfl, rfl⟩)
  | snipedc _ _ => exact .user (user_reg _ _ _)
  | snipeic _ _ => exact .user (user_reg _ _ _)
  | ldacl => exact change_supervisor fun h => .retire (.priv h (fun g => ⟨g.memory, g.reserved, g.tlb, g.pending, g.stale, g.wires⟩) ⟨rfl, rfl, rfl, rfl, rfl⟩)
  | ldekrr => exact change_ldekrr s
  | svekrr => exact .retire (.user (.done (.setDhrDlr (.refl s) _)))
  | ldekey => exact change_supervisor fun h => .retire (.priv h (fun g => ⟨g.memory, g.reserved, g.tlb, g.pending, g.stale, g.wires⟩) ⟨rfl, rfl, rfl, rfl, rfl⟩)
  | ldeenc => exact change_supervisor fun _ => .retire (.user (.done (.setDhrDlr (.refl s) _)))
  | sxentr => exact change_enterMode _ _ _ _ fun _ h => by contradiction
  | suentr => exact change_enterMode _ _ _ _ fun _ h => by contradiction
  | sventr => exact change_sventr s
  | trapImm _ => exact change_trapCode _ _ _ (.inl ⟨_, rfl⟩)
  | trapReg _ => exact change_trapCode _ _ _ (.inr ⟨_, rfl⟩)
  | trapPair _ => exact .refused _
  | settrap m n => exact change_settrap m n s
  | vskg _ _ => exact .user (user_reg _ _ _)
  | vskc _ _ => exact .ite (fun _ => .user (user_nop _)) fun _ => change_raise _ s
  | xbless m n => exact change_xbless m n s
  | wexmd i => exact change_wexmd i s
  | bndchkB _ _ =>
    show Ensures _ (execBndchkB _ _ s)
    exact change_bndchk _ _ _
  | bndchkW _ _ =>
    show Ensures _ (execBndchkW _ _ s)
    exact change_bndchk _ _ _
  | bndchkImm _ _ =>
    show Ensures _ (execBndchkImm _ _ s)
    exact change_bndchk _ _ _
  | bndchkL _ _ =>
    show Ensures _ (execBndchkL _ _ s)
    exact change_bndchk _ _ _
  | bndchkQ _ _ =>
    show Ensures _ (execBndchkQ _ _ s)
    exact change_bndchk _ _ _
  | bndcmpB _ _ => exact .user (user_bndcmp _ _ _)
  | bndcmpW _ _ => exact .user (user_bndcmp _ _ _)
  | bndcmpL _ _ => exact .user (user_bndcmp _ _ _)
  | bndcmpQ _ _ => exact .user (user_bndcmp _ _ _)
  | bndcmpImm _ _ => exact .user (user_bndcmp _ _ _)
  | leatB _ _ => exact .user (user_reg _ _ _)
  | leatW _ _ => exact .user (user_reg _ _ _)
  | leatL _ _ => exact .user (user_reg _ _ _)
  | leatQ _ _ => exact .user (user_reg _ _ _)
  | cmpTAEQ _ _ => exact .user (user_t _ _)
  | cmpTAHI _ _ => exact .user (user_t _ _)
  | cmpTAHS _ _ => exact .user (user_t _ _)
  | cmpTTEQ i n => exact change_cmpTTEQ i n s
  | convfxi _ _ => exact .user (user_reg _ _ _)
  | convfli _ _ => exact .user (user_reg _ _ _)
  | movST _ _ => exact .user (user_reg _ _ _)
  | xmovST _ _ => exact .user (.withPairs (user_pair _ _ _))
  | movZT _ _ => exact .user (user_reg _ _ _)
  | xmovZT _ _ => exact .user (.withPairs (user_pair _ _ _))
  | movTTReg _ _ _ => exact .user (user_reg _ _ _)
  | movTTTag m i n => exact change_movTTTag m i n s
  | movTTImm _ _ _ => exact .user (user_reg _ _ _)
  | xmovTTReg _ _ _ => exact .withPairs (change_xmovtt _ _ _ s)
  | xmovTTImm _ _ => exact .withPairs (change_xmovtt _ _ _ s)
  | movHD2 _ _ => exact .user (user_reg _ _ _)
  | movLD2 _ _ => exact .user (user_reg _ _ _)
  | movHLD2 _ _ => exact .user (user_reg _ _ _)
  | movLHD2 _ _ => exact .user (user_reg _ _ _)
  | movHD _ _ _ => exact .user (user_reg _ _ _)
  | movLD _ _ _ => exact .user (user_reg _ _ _)
  | movHLD _ _ _ => exact .user (user_reg _ _ _)
  | movLHD _ _ _ => exact .user (user_reg _ _ _)
  | movHW _ _ _ => exact .user (user_reg _ _ _)
  | movLW _ _ _ => exact .user (user_reg _ _ _)
  | paddW _ _ _ => exact .user (user_reg _ _ _)
  | paddL _ _ _ => exact .user (user_reg _ _ _)
  | paddF _ _ _ =>
    show Ensures _ (execPaddF _ _ _ s)
    exact .user (user_setSingle _ _ _ _ _)
  | paddxF _ _ _ =>
    show Ensures _ (execPaddxF _ _ _ s)
    exact .user (.withPairs (user_setSingleX _ _ _ _ _))
  | paddH _ _ _ =>
    show Ensures _ (execPaddH _ _ _ s)
    exact .user (user_setHalf _ _ _ _)
  | paddxD _ _ _ =>
    show Ensures _ (execPaddxD _ _ _ s)
    exact .user (.withPairs (user_setDoubleX _ _ _ _))
  | psubF _ _ _ =>
    show Ensures _ (execPsubF _ _ _ s)
    exact .user (user_setSingle _ _ _ _ _)
  | psubxF _ _ _ =>
    show Ensures _ (execPsubxF _ _ _ s)
    exact .user (.withPairs (user_setSingleX _ _ _ _ _))
  | psubH _ _ _ =>
    show Ensures _ (execPsubH _ _ _ s)
    exact .user (user_setHalf _ _ _ _)
  | psubxD _ _ _ =>
    show Ensures _ (execPsubxD _ _ _ s)
    exact .user (.withPairs (user_setDoubleX _ _ _ _))
  | pmulF _ _ _ =>
    show Ensures _ (execPmulF _ _ _ s)
    exact .user (user_setSingle _ _ _ _ _)
  | pmulxF _ _ _ =>
    show Ensures _ (execPmulxF _ _ _ s)
    exact .user (.withPairs (user_setSingleX _ _ _ _ _))
  | pmulH _ _ _ =>
    show Ensures _ (execPmulH _ _ _ s)
    exact .user (user_setHalf _ _ _ _)
  | pmulxD _ _ _ =>
    show Ensures _ (execPmulxD _ _ _ s)
    exact .user (.withPairs (user_setDoubleX _ _ _ _))
  | psubW _ _ _ => exact .user (user_reg _ _ _)
  | psubL _ _ _ => exact .user (user_reg _ _ _)
  | paddXrm _ _ _ _ => exact .user (.withRounding (user_setSingle _ _ _ _ _))
  | paddxXrm _ _ _ _ => exact .user (.withRounding (.withPairs (user_setSingleX _ _ _ _ _)))
  | pmulXrm _ _ _ _ => exact .user (.withRounding (user_setSingle _ _ _ _ _))
  | pmulxXrm _ _ _ _ => exact .user (.withRounding (.withPairs (user_setSingleX _ _ _ _ _)))
  | pmulsW _ _ _ => exact .user (user_reg _ _ _)
  | pmuluW _ _ _ => exact .user (user_reg _ _ _)
  | pmulsLW _ _ _ => exact .user (user_reg _ _ _)
  | pmuluLW _ _ _ => exact .user (user_reg _ _ _)
  | pmulsHW _ _ _ => exact .user (user_reg _ _ _)
  | pmuluHW _ _ _ => exact .user (user_reg _ _ _)
  | pcmpEQH _ _ =>
    show Ensures _ (execPcmpEQH _ _ s)
    exact .user (user_pcmpW _ _ _ _)
  | pcmpEQF _ _ =>
    show Ensures _ (execPcmpEQF _ _ s)
    exact .user (user_pcmpL _ _ _ _)
  | pcmpGTH _ _ =>
    show Ensures _ (execPcmpGTH _ _ s)
    exact .user (user_pcmpW _ _ _ _)
  | pcmpGTF _ _ =>
    show Ensures _ (execPcmpGTF _ _ s)
    exact .user (user_pcmpL _ _ _ _)
  | pcmpEQW _ _ =>
    show Ensures _ (execPcmpEQW _ _ s)
    exact .user (user_pcmpW _ _ _ _)
  | pcmpEQL _ _ =>
    show Ensures _ (execPcmpEQL _ _ s)
    exact .user (user_pcmpL _ _ _ _)
  | pcmpHIW _ _ =>
    show Ensures _ (execPcmpHIW _ _ s)
    exact .user (user_pcmpW _ _ _ _)
  | pcmpHIL _ _ =>
    show Ensures _ (execPcmpHIL _ _ s)
    exact .user (user_pcmpL _ _ _ _)
  | pcmpGTW _ _ =>
    show Ensures _ (execPcmpGTW _ _ s)
    exact .user (user_pcmpW _ _ _ _)
  | pcmpGTL _ _ =>
    show Ensures _ (execPcmpGTL _ _ s)
    exact .user (user_pcmpL _ _ _ _)
  | pcseltW _ _ _ => exact .user (user_reg _ _ _)
  | pcseltL _ _ _ => exact .user (user_reg _ _ _)
  | pselTW _ _ => exact .user (user_reg _ _ _)
  | pselFW _ _ => exact .user (user_reg _ _ _)
  | pselTL _ _ => exact .user (user_reg _ _ _)
  | pselFL _ _ => exact .user (user_reg _ _ _)
  | pdottH _ _ => exact .user (user_t _ _)
  | pdottF _ _ => exact .user (user_t _ _)
  | pstcF8H _ _ => exact .user (user_reg _ _ _)
  | pldcF8H _ _ => exact .user (user_reg _ _ _)
  | pldcH _ _ => exact .user (user_reg _ _ _)
  | pldcHH _ _ => exact .user (user_reg _ _ _)
  | pldcEHL _ _ => exact .user (user_reg _ _ _)
  | pldcEHH _ _ => exact .user (user_reg _ _ _)
  | pstcH _ _ => exact .user (.retire (.done (.fpSticky (.setReg (.drawnN (.refl s) 2) _ _) _)))
  | pldcM8SH _ _ => exact .user (user_reg _ _ _)
  | pldcM8UH _ _ => exact .user (user_reg _ _ _)
  | pstcM8SH _ _ => exact .user (user_reg _ _ _)
  | pstcM8UH _ _ => exact .user (user_reg _ _ _)
  | prcpaH _ _ => exact .user (user_reg _ _ _)
  | prcpaF _ _ => exact .user (user_reg _ _ _)
  | preluH _ _ => exact .user (user_reg _ _ _)
  | preluF _ _ => exact .user (user_reg _ _ _)
  | pshalW _ _ => exact .user (user_reg _ _ _)
  | pshllW _ _ => exact .user (user_reg _ _ _)
  | psharW _ _ => exact .user (user_reg _ _ _)
  | pshlrW _ _ => exact .user (user_reg _ _ _)
  | psqrtaH _ _ => exact .user (user_reg _ _ _)
  | psqrtuaH _ _ => exact .user (user_reg _ _ _)
  | psqrtaF _ _ => exact .user (user_reg _ _ _)
  | psqrtuaF _ _ => exact .user (user_reg _ _ _)
  | pldcHImm _ _ => exact .user (user_reg _ _ _)
  | pldcM8SHImm _ _ => exact .user (user_reg _ _ _)
  | pldcM8UHImm _ _ => exact .user (user_reg _ _ _)
  | pshufB _ _ _ => exact .user (user_reg _ _ _)
  | pshufW _ _ _ => exact .user (user_reg _ _ _)
  | pshufW33 _ _ _ => exact .ite (fun _ => .user (user_reg _ _ _)) fun _ => .refused _
  | pshufW17 _ _ _ => exact .user (user_reg _ _ _)
  | pscheqW _ _ _ =>
    show Ensures _ (execPscheqW _ _ _ s)
    exact .user (user_search _ _ _ _ _ _)
  | pscheqB _ _ _ =>
    show Ensures _ (execPscheqB _ _ _ s)
    exact .user (user_search _ _ _ _ _ _)
  | pschneW _ _ _ =>
    show Ensures _ (execPschneW _ _ _ s)
    exact .user (user_search _ _ _ _ _ _)
  | pschneB _ _ _ =>
    show Ensures _ (execPschneB _ _ _ s)
    exact .user (user_search _ _ _ _ _ _)
  | swapB _ _ => exact .user (user_reg _ _ _)
  | swapW _ _ => exact .user (user_reg _ _ _)
  | swap8B _ _ => exact .user (user_reg _ _ _)
  | swapL _ _ => exact .user (user_reg _ _ _)
  | swapLB _ _ => exact .user (user_reg _ _ _)
  | swapLW _ _ => exact .user (user_reg _ _ _)
  | swcpLB _ _ => exact .user (user_reg _ _ _)
  | swcpLW _ _ => exact .user (user_reg _ _ _)
  | swapMB _ _ => exact .user (user_reg _ _ _)
  | swapMW _ _ => exact .user (user_reg _ _ _)
  | swcpMB _ _ => exact .user (user_reg _ _ _)
  | swcpMW _ _ => exact .user (user_reg _ _ _)
  | swapHB _ _ => exact .user (user_reg _ _ _)
  | swapHW _ _ => exact .user (user_reg _ _ _)
  | swcpHB _ _ => exact .user (user_reg _ _ _)
  | swcpHW _ _ => exact .user (user_reg _ _ _)
  | paddshxX _ _ _ _ => exact .user (.withPairs (user_setSingleX _ _ _ _ _))
  | psubshxX _ _ _ _ => exact .user (.withPairs (user_setSingleX _ _ _ _ _))
  | pmulshxX _ _ _ _ => exact .user (.withPairs (user_setSingleX _ _ _ _ _))
  | paddshH _ _ _ _ => exact .user (user_setHalf _ _ _ _)
  | psubshH _ _ _ _ => exact .user (user_setHalf _ _ _ _)
  | pmulshH _ _ _ _ => exact .user (user_setHalf _ _ _ _)
  | pmacshHV _ _ _ => exact .user (user_setHalf _ _ _ _)
  | pmacshFV _ _ _ => exact .user (.withPairs (user_setSingleX _ _ _ _ _))
  | paddHV _ _ _ => exact .user (user_setHalf _ _ _ _)
  | paddFV _ _ _ => exact .user (.withPairs (user_setSingleX _ _ _ _ _))
  | pmulHV _ _ _ => exact .user (user_setHalf _ _ _ _)
  | pmulFV _ _ _ => exact .user (.withPairs (user_setSingleX _ _ _ _ _))
  | paddshHV _ _ _ => exact .user (user_setHalf _ _ _ _)
  | paddshFV _ _ _ => exact .user (.withPairs (user_setSingleX _ _ _ _ _))
  | pmulshHV _ _ _ => exact .user (user_setHalf _ _ _ _)
  | pmulshFV _ _ _ => exact .user (.withPairs (user_setSingleX _ _ _ _ _))
  | pmulF8H _ _ _ => exact .user (user_setHalf _ _ _ _)
  | pmultxL _ _ _ => exact .user (.withPairs (user_pair _ _ _))
  | pmultW _ _ _ => exact .user (user_reg _ _ _)
  | rgb5pck32 _ _ => exact .user (user_reg _ _ _)
  | rgb5pck64 _ _ => exact .user (user_reg _ _ _)
  | rgb5upck32 _ _ => exact .user (user_reg _ _ _)
  | rgb5upck64 _ _ => exact .user (user_reg _ _ _)
  | rgb32pck64 _ _ => exact .user (user_reg _ _ _)
  | rgb32upck64 _ _ => exact .user (user_reg _ _ _)
  | rgb5shr1 _ _ => exact .user (user_reg _ _ _)
  | rgb5minmax _ _ => exact .user (user_reg _ _ _)
  | rgb5pcki8 _ _ => exact .user (user_reg _ _ _)
  | rgb5sh3 _ _ => exact .user (user_reg _ _ _)
  | rgb5ush3 _ _ => exact .user (user_reg _ _ _)
  | pldcm30ah _ _ => exact .user (user_reg _ _ _)
  | pstcm30ah _ _ => exact .user (user_regN 4 _ _ _)
  | rgb5ccenc _ _ _ => exact .user (user_reg _ _ _)
  | blerp _ _ _ => exact .user (user_reg _ _ _)
  | blerp4 _ _ _ _ _ => exact .user (user_reg _ _ _)
  | blkutx2 _ _ _ => exact .user (user_regN 1 _ _ _)
  | blkutx1 _ _ _ => exact .user (user_regN 3 _ _ _)
  | blkutx3h _ _ _ => exact .user (.withPairs (user_reg _ _ _))
  | blkutx3l _ _ _ => exact .user (.withPairs (user_reg _ _ _))
  | blkuvf1VL _ _ _ => exact .user (user_reg _ _ _)
  | blkuvf1VH _ _ _ => exact .user (user_reg _ _ _)
  | blkuvf1SL _ _ _ => exact .user (user_reg _ _ _)
  | blkuvf1SH _ _ _ => exact .user (user_reg _ _ _)
  | blkuab1 _ _ _ => exact .user (user_reg _ _ _)
  | blkuab2 _ _ _ => exact .user (user_regN 1 _ _ _)
  | fabs _ _ => exact .user (user_reg _ _ _)
  | fneg _ _ => exact .user (user_reg _ _ _)
  | fmin _ _ _ => exact .user (user_regN 1 _ _ _)
  | fmax _ _ _ => exact .user (user_regN 1 _ _ _)
  | fadd _ _ _ _ =>
    show Ensures _ (execFadd _ _ _ _ s)
    exact .user (user_fp2 _ _ _ _ _ _)
  | faddx _ _ _ _ =>
    show Ensures _ (execFaddx _ _ _ _ s)
    exact .user (user_fp2x _ _ _ _ _ _)
  | faddg _ _ _ =>
    show Ensures _ (execFaddg _ _ _ s)
    exact .user (user_fp2 _ _ _ _ _ _)
  | fadda _ _ _ =>
    show Ensures _ (execFadda _ _ _ s)
    exact .user (user_fp2 _ _ _ _ _ _)
  | fsub _ _ _ _ =>
    show Ensures _ (execFsub _ _ _ _ s)
    exact .user (user_fp2 _ _ _ _ _ _)
  | fsubx _ _ _ _ =>
    show Ensures _ (execFsubx _ _ _ _ s)
    exact .user (user_fp2x _ _ _ _ _ _)
  | fsubg _ _ _ =>
    show Ensures _ (execFsubg _ _ _ s)
    exact .user (user_fp2 _ _ _ _ _ _)
  | fsuba _ _ _ =>
    show Ensures _ (execFsuba _ _ _ s)
    exact .user (user_fp2 _ _ _ _ _ _)
  | fmul _ _ _ _ =>
    show Ensures _ (execFmul _ _ _ _ s)
    exact .user (user_fp2 _ _ _ _ _ _)
  | fmulx _ _ _ _ =>
    show Ensures _ (execFmulx _ _ _ _ s)
    exact .user (user_fp2x _ _ _ _ _ _)
  | fmulg _ _ _ =>
    show Ensures _ (execFmulg _ _ _ s)
    exact .user (user_fp2 _ _ _ _ _ _)
  | fmula _ _ _ =>
    show Ensures _ (execFmula _ _ _ s)
    exact .user (user_fp2 _ _ _ _ _ _)
  | fcmpEQ _ _ =>
    show Ensures _ (execFcmpEQ _ _ s)
    exact .user (user_fcmp _ _ _ _)
  | fcmpXEQ _ _ =>
    show Ensures _ (execFcmpXEQ _ _ s)
    exact .user (user_fcmpX _ _ _ _)
  | fcmpGE _ _ =>
    show Ensures _ (execFcmpGE _ _ s)
    exact .user (user_fcmp _ _ _ _)
  | fcmpGT _ _ =>
    show Ensures _ (execFcmpGT _ _ s)
    exact .user (user_fcmp _ _ _ _)
  | fcmpXGT _ _ =>
    show Ensures _ (execFcmpXGT _ _ s)
    exact .user (user_fcmpX _ _ _ _)
  | fdiv _ _ _ =>
    show Ensures _ (execFdiv _ _ _ s)
    exact .user (user_fp2 _ _ _ _ _ _)
  | fdivx _ _ _ =>
    show Ensures _ (execFdivx _ _ _ s)
    exact .user (user_fp2x _ _ _ _ _ _)
  | fdiva _ _ _ => exact .user (user_reg _ _ _)
  | fdivxa _ _ _ => exact .user (.withPairs (user_pair _ _ _))
  | fsqrt m n => exact change_fsqrt m n s
  | fsqrtx _ _ => exact .withPairs (.retire (.user (.done (.fpSticky (.setPair (.drawn2 (.refl s)) _ _) _))))
  | fsqrta _ _ => exact .user (user_reg _ _ _)
  | fsqrtxa _ _ => exact .user (.withPairs (user_pair _ _ _))
  | fldcf _ _ => exact .user (user_reg _ _ _)
  | fldchf _ _ => exact .user (user_reg _ _ _)
  | fldci _ _ =>
    show Ensures _ (execFldci _ _ s)
    exact .user (user_intToDouble _ _ _ _ _)
  | fldch _ _ => exact .user (user_reg _ _ _)
  | fldciu _ _ =>
    show Ensures _ (execFldciu _ _ s)
    exact .user (user_intToDouble _ _ _ _ _)
  | fldcisL _ _ => exact .user (user_reg _ _ _)
  | fldciuL _ _ => exact .user (user_reg _ _ _)
  | fldchImm _ _ => exact .user (user_reg _ _ _)
  | fldcfImm _ _ => exact .user (user_reg _ _ _)
  | fstcf _ _ =>
    show Ensures _ (execFstcf _ _ s)
    exact .user (user_fpTo _ _ _ _ _ _ _ _)
  | fstchf _ _ =>
    show Ensures _ (execFstchf _ _ s)
    exact .user (user_fpTo _ _ _ _ _ _ _ _)
  | fstci _ _ => exact .ite (fun _ => .user (user_reg1 _ _ s)) fun _ => .user (user_reg _ _ s)
  | fstch _ _ =>
    show Ensures _ (execFstch _ _ s)
    exact .user (user_fpTo _ _ _ _ _ _ _ _)
  | fmac _ _ _ _ =>
    show Ensures _ (execFmac _ _ _ _ s)
    exact .user (user_fp3 _ _ _ _ _ _)
  | fmacx _ _ _ _ =>
    show Ensures _ (execFmacx _ _ _ _ s)
    exact .user (user_fp3x _ _ _ _ _ _)
  | fmas _ _ _ _ =>
    show Ensures _ (execFmas _ _ _ _ s)
    exact .user (user_fp3 _ _ _ _ _ _)
  | fmasx _ _ _ _ =>
    show Ensures _ (execFmasx _ _ _ _ s)
    exact .user (user_fp3x _ _ _ _ _ _)
  | fmrs _ _ _ _ =>
    show Ensures _ (execFmrs _ _ _ _ s)
    exact .user (user_fp3 _ _ _ _ _ _)
  | fmrsx _ _ _ _ =>
    show Ensures _ (execFmrsx _ _ _ _ s)
    exact .user (user_fp3x _ _ _ _ _ _)
  | fmra _ _ _ _ =>
    show Ensures _ (execFmra _ _ _ _ s)
    exact .user (user_fp3 _ _ _ _ _ _)
  | fmrax _ _ _ _ =>
    show Ensures _ (execFmrax _ _ _ _ s)
    exact .user (user_fp3x _ _ _ _ _ _)
  | pmacH _ _ _ _ =>
    show Ensures _ (execPmacH _ _ _ _ s)
    exact .user (user_setHalf _ _ _ _)
  | pmacF _ _ _ _ =>
    show Ensures _ (execPmacF _ _ _ _ s)
    exact .user (.withPairs (user_setSingleX _ _ _ _ _))
  | pmasH _ _ _ _ =>
    show Ensures _ (execPmasH _ _ _ _ s)
    exact .user (user_setHalf _ _ _ _)
  | pmasF _ _ _ _ =>
    show Ensures _ (execPmasF _ _ _ _ s)
    exact .user (.withPairs (user_setSingleX _ _ _ _ _))
  | pmrsH _ _ _ _ =>
    show Ensures _ (execPmrsH _ _ _ _ s)
    exact .user (user_setHalf _ _ _ _)
  | pmrsF _ _ _ _ =>
    show Ensures _ (execPmrsF _ _ _ _ s)
    exact .user (.withPairs (user_setSingleX _ _ _ _ _))
  | pmraH _ _ _ _ =>
    show Ensures _ (execPmraH _ _ _ _ s)
    exact .user (user_setHalf _ _ _ _)
  | pmraF _ _ _ _ =>
    show Ensures _ (execPmraF _ _ _ _ s)
    exact .user (.withPairs (user_setSingleX _ _ _ _ _))
  | pconv m i n => exact change_pconv m i n s
  | pconvx m i n => exact change_pconvx m i n s
  | pcvtSB2HL _ _ => exact .user (user_reg _ _ _)
  | pcvtUB2HL _ _ => exact .user (user_reg _ _ _)
  | pcvtSB2HH _ _ => exact .user (user_reg _ _ _)
  | pcvtUB2HH _ _ => exact .user (user_reg _ _ _)
  | pcvtSW2FL _ _ => exact .user (user_reg _ _ _)
  | pcvtUW2FL _ _ => exact .user (user_reg _ _ _)
  | pcvtSW2FH _ _ => exact .user (user_reg _ _ _)
  | pcvtUW2FH _ _ => exact .user (user_reg _ _ _)
  | pcvtH2SB _ _ => exact .user (user_reg _ _ _)
  | pcvtH2UB _ _ => exact .user (user_reg _ _ _)
  | pcvtSW2H _ _ => exact .user (user_reg _ _ _)
  | pcvtUW2H _ _ => exact .user (user_reg _ _ _)
  | pcvtF2SW _ _ => exact .user (user_reg _ _ _)
  | pcvtF2UW _ _ => exact .user (user_reg _ _ _)
  | pcvtH2SW _ _ => exact .user (user_reg _ _ _)
  | pcvtH2UW _ _ => exact .user (user_reg _ _ _)
  | pcvtH2AL _ _ => exact .user (user_reg _ _ _)
  | pcvtAL2H _ _ => exact .user (user_reg _ _ _)

end

end Sys2Proof.Machine
end

