-- ==== Sys2Proof/Tests/Slice0.lean ====
section
/-! SUPPORT. Tests of the model, and the witnesses of the statements' hypotheses. Expected values come from the spec:
its test vectors (95_test_vectors.md), the rows of its opcode table written out bit by bit, and its rules. -/

open Sys2Proof Sys2Proof.Machine

namespace Sys2Proof.Tests

noncomputable section

/-- The start state of the vectors (95_test_vectors.md, conventions): Supervisor, interrupts masked, at 0x1000. -/
def start (sr : Word) (rs : List (Reg × Word)) : State :=
  rs.foldl (fun s e => setReg s e.1 e.2)
    { State.reset with sr := 0x40000000#64 ||| sr, pc := 0x1000#48, vbr := 0x8000#64, spc := 0x1234#64 }
/-- Bytes placed from an address. -/
def withBytes (a : Nat) (bs : List Byte) (s : State) : State := placeBytes (vaSpace s) a bs s
/-- One step over words placed at the pc. -/
def one (ws : List Half) (s : State) : Out State := step (placeWords ws s)
/-- What a view of the next state shows; none for a stop. -/
def seen {α : Type} (f : State → α) (o : Out State) : Option α := match o with | .next t => some (f t) | _ => none
/-- The name of a refusal. -/
def refusal (o : Out State) : Option Refusal := match o with | .refused r => some r | _ => none

/-! ### Well-formedness: for each check an ill-formed term it refuses, beside the nearest it accepts -/

/-- A term at the edge of a check, and one past it. -/
def edge (good bad : Instr) : Bool := wellFormed good && !wellFormed bad

theorem test_wellFormed_immAdd : edge (.add 3#6 (.imm 0x1FF#64) 40#6) (.add 3#6 (.imm 0x200#64) 40#6) = true := by decide
theorem test_wellFormed_immAddL : edge (.addsL 3#6 (.imm 0xFFFFFFFF#64) 4#6) (.addsL 3#6 (.imm 0x100000000#64) 4#6) = true := by decide
theorem test_wellFormed_immLogic : edge (.and 3#6 (.imm 0x1FF#64) 40#6) (.and 3#6 (.imm 0xFFFFFFFFFFFFFFFF#64) 40#6) = true := by decide
theorem test_wellFormed_immCmp : edge (.cmpEQ (.imm 0x1FF#64) 4#6 .s) (.cmpEQ (.reg 3#6) 4#6 .s) = true ∧
    edge (.cmpEQ (.imm 0xFFFFFFFF#64) 4#6 .t) (.cmpEQ (.imm 0xFFFFFFFF#64) 4#6 .s) = true := by decide
theorem test_wellFormed_immTst : edge (.tst (.imm 0x1FF#64) 4#6 .s) (.tst (.imm 0x200#64) 4#6 .t) = true := by decide
theorem test_wellFormed_immCmp3 : edge (.cmp3EQ 3#6 (.imm 0xFFFF#64) 40#6) (.cmp3EQ 3#6 (.imm 0x10000#64) 40#6) = true ∧
    edge (.cmp3HI 3#6 0xFFFF#64 4#6) (.cmp3HI 3#6 0x10000#64 4#6) = true := by decide
theorem test_wellFormed_immShift : edge (.shad 3#6 (.imm 0x7F#64) 4#6) (.shad 3#6 (.imm 0x80#64) 4#6) = true := by decide
theorem test_wellFormed_immU9 : edge (.muls 3#6 (.imm 0x1FF#64) 4#6) (.muls 3#6 (.imm 0xFFFFFFFFFFFFFFFF#64) 4#6) = true := by decide
theorem test_wellFormed_immMulW : edge (.mulsW 4#6 (.imm 0x3FF#64) 4#6) (.mulsW 3#6 (.imm 0x3FF#64) 4#6) = true := by decide
theorem test_wellFormed_immMac : edge (.macsL 3#6 (.imm 0x7FFF#64) 4#6 4#6) (.macsL 3#6 (.imm 0x7FFF#64) 5#6 4#6) = true := by decide
theorem test_wellFormed_fitsLdiz : edge (.ldiz 0xFFFFFFFF#64 31#6) (.ldiz 0x10000#64 32#6) = true ∧
    edge (.ldin 0xFFFFFFFF00000000#64 31#6) (.ldin 0#64 4#6) = true := by decide
theorem test_wellFormed_ldi8 : edge (.ldi8 0x7F#64 15#6) (.ldi8 0x7F#64 16#6) = true ∧ wellFormed (.ldi8 0x80#64 4#6) = false := by decide
theorem test_wellFormed_small : edge (.negc 31#6) (.negc 32#6) = true ∧ edge (.ldihiL 0#32 31#6) (.ldihiL 0#32 32#6) = true ∧
    edge (.fldchImm 0#40 31#6) (.fldchImm 0#40 32#6) = true ∧ edge (.fldchImm 0x1000000#40 31#6) (.fldchImm 1#40 31#6) = true ∧ edge (.bitmovImm 3#6 5#6 4#6 0#24) (.bitmovImm 35#6 5#6 4#6 0#24) = true ∧
    edge (.bitmovxImm 31#5 5#6 2#5 0#24) (.bitmovxImm 3#5 37#6 2#5 0#24) = true ∧
    edge (.pshufW 3#6 0#8 4#6) (.pshufW 35#6 0#8 4#6) = true ∧ edge (.paddHV 3#6 0#56 4#6) (.paddHV 3#6 0#56 36#6) = true := by decide
theorem test_wellFormed_addrOk_bytes : edge (.movB .load 4#6 (.ind 15#6)) (.movB .load 4#6 (.ind 16#6)) = true ∧
    edge (.movB .load 4#6 (.index 1#6 2#6)) (.movB .load 4#6 (.gbr 0#64)) = true ∧
    edge (.movB .load 4#6 (.dispByte 3#6 0xFFFFFFFF#64)) (.movB .load 4#6 (.dispByte 35#6 1#64)) = true := by decide
theorem test_wellFormed_addrOk_words : edge (.movW .load 4#6 (.dispByte 35#6 0xFFFF#64)) (.movW .load 4#6 (.dispByte 35#6 0x10000#64)) = true ∧
    edge (.movL .load 4#6 (.gbr 0x3FF#64)) (.movL .load 4#6 (.gbr 0x400#64)) = true ∧
    edge (.movQ .load 4#6 (.disp 3#6 0x1FF#64)) (.movQ .load 4#6 (.disp 3#6 0x10000#64)) = true ∧
    edge (.movuL 4#6 (.gbr 0#64)) (.movnL 4#6 (.gbr 0#64)) = true := by decide
theorem test_wellFormed_addrOk_lea : edge (.leaB 4#6 (.disp 3#6 0x1FF#64)) (.leaB 4#6 (.disp 3#6 0xFFFFFFFFFFFFFFFF#64)) = true ∧
    edge (.leaQ 4#6 (.gbr 0xFFFF#64)) (.leaL 4#6 (.gbr 0#64)) = true ∧
    edge (.leatB 4#6 (.dispByte 3#6 0xFFFFFFF#64)) (.leatB 4#6 (.dispByte 3#6 0x10000000#64)) = true ∧
    wellFormed (.leaB 4#6 (.indexDisp 3#6 5#6 0#11)) = false ∧ wellFormed (.leatB 4#6 (.indexSc 3#6 5#6 0#2 0#9)) = false := by decide
theorem test_wellFormed_addrOk_special : edge (.movX .load 2#5 (.gbr 0x3FF#64)) (.movX .load 2#5 (.ind 3#6)) = true ∧
    edge (.movC .load 2#6 (.disp 3#6 0x1FF#64)) (.movC .load 2#6 (.disp 3#6 0x200#64)) = true ∧
    edge (.movTW .load 4#6 (.disp 3#6 0x1F#64)) (.movTW .load 4#6 (.disp 3#6 0x20#64)) = true ∧
    wellFormed (.movTW .load 4#6 (.dispByte 3#6 0#64)) = false ∧ wellFormed (.movHTW .load 4#6 (.indexDisp 3#6 5#6 0#11)) = false := by decide
theorem test_wellFormed_ldopOk : edge (.ldop 2#4 .store .b 4#6 (.disp 3#6 0xFFFF#64)) (.ldop 0#4 .store .b 4#6 (.disp 3#6 0#64)) = true ∧
    edge (.ldop 2#4 .load .ub 4#6 (.disp 3#6 0#64)) (.ldop 2#4 .store .ub 4#6 (.disp 3#6 0#64)) = true ∧
    edge (.ldop 2#4 .load .q 4#6 (.indexSc 3#6 5#6 3#2 0#9)) (.ldop 2#4 .load .q 4#6 (.index 3#6 5#6)) = true := by decide
theorem test_wellFormed_targets : edge (.bra (.disp 0xFFFFFFFF#64)) (.bra (.disp 0x100000000#64)) = true ∧
    edge (.brEQL 4#6 0x3FF#64) (.brEQL 4#6 0x400#64) = true ∧ edge (.jcmpEQ 3#6 4#6 0x7F#64) (.jcmpEQ 3#6 4#6 0x80#64) = true := by decide
theorem test_wellFormed_srttwidKnown : edge (.srttwid 0x08#5) (.srttwid 0x09#5) = true ∧ edge (.srttwid 0x17#5) (.srttwid 0x18#5) = true := by decide
theorem test_wellFormed_ttKnown : edge (.movTTTag 3#6 7#5 4#6) (.movTTTag 3#6 15#5 4#6) = true ∧ edge (.cmpTTEQ 7#6 4#6) (.cmpTTEQ 47#6 4#6) = true := by decide
theorem test_wellFormed_movTTImm : edge (.movTTImm 3#6 0xFFFF#64 4#6) (.movTTImm 3#6 0x10000#64 4#6) = true := by decide
theorem test_wellFormed_xmovttOk : edge (.xmovTTImm 0#32 7#5) (.xmovTTImm 0#32 8#5) = true := by decide
theorem test_wellFormed_even8 : edge (.pldcHImm 0#32 15#6) (.pldcHImm 0#32 16#6) = true := by decide
theorem test_wellFormed_shufOk : edge (.paddshH 3#6 5#6 0x200#11 4#6) (.paddshH 3#6 5#6 0x0FF#11 4#6) = true ∧
    wellFormed (.pmulshxX 3#5 5#5 0x300#11 4#5) = false := by decide
theorem test_wellFormed_pshuf : edge (.pshufW17 3#6 0x100#17 4#6) (.pshufW17 3#6 0x0FF#17 4#6) = true ∧
    edge (.pshufW33 3#6 0x100#33 4#6) (.pshufW33 3#6 0x0FF#33 4#6) = true := by decide
theorem test_wellFormed_fsrc : edge (.fadd 3#6 (.imm 0x3FF0000000000100#64) 4#6 0#8) (.fadd 3#6 (.imm 0x3FF0000000000001#64) 4#6 0#8) = true ∧
    edge (.fadd 3#6 (.reg 5#6) 4#6 9#8) (.fadd 3#6 (.imm 0#64) 4#6 9#8) = true ∧
    edge (.fsub 3#6 (.imm 0x403C000000000000#64) 4#6 0#8) (.fsub 3#6 (.imm 0x4040000000000000#64) 4#6 0#8) = true ∧
    edge (.fadda 3#6 (.imm 0x100000000#64) 4#6) (.fadda 3#6 (.imm 1#64) 4#6) = true ∧
    edge (.fcmpEQ (.imm 0x100#64) 31#6) (.fcmpEQ (.imm 0x100#64) 32#6) = true := by decide
/-- Rows whose words decode to another instruction, and so have no encoding of their own (log 6). -/
theorem test_wellFormed_never : [Instr.movd 3#6 4#6, .ldiroz (.short 0#10) 4#6, .ldirozq (.short 0#10) 4#6, .ldiron (.short 0#10) 4#6,
    .ldironq (.short 0#10) 4#6, .xmovB .load 4#6 (.disp 2#5 0#64), .xmovW .load 4#6 (.disp 2#5 0#64), .xmovL .load 4#6 (.disp 2#5 0#64),
    .xmovQ .load 4#6 (.disp 2#5 0#64), .xmovX .load 4#5 (.disp 2#5 0#64), .movHLD2 3#6 4#6, .movLHD2 3#6 4#6, .pselTW 3#6 4#6, .pselTL 3#6 4#6,
    .pmultxL 3#5 0#8 4#5, .pmultW 3#6 0#8 4#6, .pconv 3#6 0#8 4#6, .pconvx 3#5 0#8 4#5].all (fun i => !wellFormed i) = true := by decide

/-! ### Decoding: for every constructor its word written out from the row of the opcode table (the
fields at n = 4 or 20, m = 6 or 22, o = 10 or 26, p = 12 and the immediates in view), and what it stands for -/

/-- Words decode to an instruction, unpredicated and without the WEX flag. -/
def reads (e : List Half × Instr) : Bool :=
  decide (decode false e.1 = .ok { len := 2 * e.1.length, pred := none, wex := false, instr := e.2 })
theorem test_decode_alu_1 : [
    ([0xF046#16, 0x17A0#16], Instr.add 22#6 (.reg 26#6) 20#6),
    ([0xF046#16, 0x1629#16], Instr.adc 22#6 20#6),
    ([0xF046#16, 0x57AC#16], Instr.addsL 22#6 (.reg 26#6) 20#6),
    ([0xF046#16, 0x5FAC#16], Instr.adduL 22#6 (.reg 26#6) 20#6),
    ([0xF046#16, 0x17A1#16], Instr.sub 22#6 26#6 20#6),
    ([0xF046#16, 0x57AD#16], Instr.subsL 22#6 26#6 20#6),
    ([0xF046#16, 0x5FAD#16], Instr.subuL 22#6 26#6 20#6),
    ([0xF046#16, 0x1639#16], Instr.sbb 22#6 20#6),
    ([0xF046#16, 0x77A7#16], Instr.subP 22#6 26#6 20#6),
    ([0xF046#16, 0x7FA7#16], Instr.subxP 11#5 13#5 10#5),
    ([0xF046#16, 0x17A5#16], Instr.and 22#6 (.reg 26#6) 20#6),
    ([0xF046#16, 0x17A6#16], Instr.or 22#6 (.reg 26#6) 20#6),
    ([0xF046#16, 0x17A7#16], Instr.xor 22#6 (.reg 26#6) 20#6),
    ([0xF046#16, 0x16FA#16], Instr.bswapuL 22#6 20#6),
    ([0xF046#16, 0x1EFA#16], Instr.bswapQ 22#6 20#6),
    ([0xF046#16, 0x160C#16], Instr.not 22#6 20#6)].all reads = true := by decide
theorem test_decode_alu_2 : [
    ([0xF046#16, 0x161C#16], Instr.neg 22#6 20#6),
    ([0x3342#16], Instr.negc 4#6),
    ([0xF000#16, 0x3000#16], Instr.nop ),
    ([0xF014#16, 0x3140#16], Instr.nop3r 20#6),
    ([0xF046#16, 0x5FA0#16], Instr.nop3rrr 22#6 26#6 20#6),
    ([0xF046#16, 0x1689#16], Instr.mov 22#6 20#6),
    ([0xF046#16, 0x1E89#16], Instr.movx 11#5 10#5),
    ([0xF046#16, 0x168C#16], Instr.extsB 22#6 20#6),
    ([0xF046#16, 0x169C#16], Instr.extsW 22#6 20#6),
    ([0xF046#16, 0x165C#16], Instr.extsL 22#6 20#6),
    ([0xF046#16, 0x1E8C#16], Instr.extuB 22#6 20#6),
    ([0xF046#16, 0x1E9C#16], Instr.extuW 22#6 20#6),
    ([0xF046#16, 0x1E5C#16], Instr.extuL 22#6 20#6),
    ([0xF046#16, 0x57A0#16], Instr.cselt 22#6 26#6 20#6),
    ([0xF046#16, 0x17A4#16], Instr.min 22#6 26#6 20#6),
    ([0xF046#16, 0x1FA4#16], Instr.max 22#6 26#6 20#6)].all reads = true := by decide
theorem test_decode_alu_3 : [
    ([0xF046#16, 0x162C#16], Instr.clz 22#6 20#6),
    ([0xF046#16, 0x1E2C#16], Instr.clzq 22#6 20#6),
    ([0xF046#16, 0x163C#16], Instr.ctz 22#6 20#6),
    ([0xF046#16, 0x1E3C#16], Instr.ctzq 22#6 20#6),
    ([0xF046#16, 0x164C#16], Instr.btrns 22#6 20#6),
    ([0xF046#16, 0x1E4C#16], Instr.btrnsq 22#6 20#6),
    ([0xF046#16, 0x1688#16], Instr.bcdadc 22#6 20#6),
    ([0xF046#16, 0x1698#16], Instr.bcdsbb 22#6 20#6),
    ([0xF046#16, 0x7FA2#16], Instr.bitnn 22#6 26#6 20#6),
    ([0xF046#16, 0x161E#16], Instr.pmortL 22#6 20#6),
    ([0xF046#16, 0x1E1E#16], Instr.pmortQ 22#6 20#6),
    ([0xF046#16, 0x67AB#16], Instr.bitsel 22#6 26#6 20#6),
    ([0xF046#16, 0x6FAB#16], Instr.bitselx 11#5 13#5 10#5),
    ([0xFE10#16, 0x0005#16, 0xF046#16, 0x27A3#16], Instr.bitmovImm 22#6 26#6 20#6 0x100005#24),
    ([0xFF00#16, 0x080C#16, 0xF046#16, 0x27A3#16], Instr.bitmovReg 22#6 26#6 12#6 20#6),
    ([0xFE10#16, 0x0005#16, 0xF046#16, 0x2FA3#16], Instr.bitmovxImm 11#5 26#6 10#5 0x100005#24)].all reads = true := by decide
theorem test_decode_alu_4 : [
    ([0xFF00#16, 0x080C#16, 0xF046#16, 0x2FA3#16], Instr.bitmovxReg 11#5 26#6 6#5 10#5),
    ([0xFE10#16, 0x0005#16, 0xF046#16, 0x27A2#16], Instr.bitmovsImm 22#6 26#6 20#6 0x100005#24),
    ([0xFF00#16, 0x080C#16, 0xF046#16, 0x27A2#16], Instr.bitmovsReg 22#6 26#6 12#6 20#6),
    ([0xFE10#16, 0x0005#16, 0xF046#16, 0x2FA2#16], Instr.bitmovsxImm 11#5 26#6 10#5 0x100005#24),
    ([0xFF00#16, 0x080C#16, 0xF046#16, 0x2FA2#16], Instr.bitmovsxReg 11#5 26#6 6#5 10#5),
    ([0xF046#16, 0x1E29#16], Instr.adcL 22#6 20#6),
    ([0xF046#16, 0x1E39#16], Instr.sbbL 22#6 20#6)].all reads = true := by decide
theorem test_decode_compare_flags_1 : [
    ([0xF046#16, 0x16C9#16], Instr.cmpEQ (.reg 22#6) 20#6 .t),
    ([0xF046#16, 0x17C9#16], Instr.cmpEQS 22#6 20#6),
    ([0xF046#16, 0x16E9#16], Instr.cmpGT (.reg 22#6) 20#6 .t),
    ([0xF046#16, 0x17E9#16], Instr.cmpGTS 22#6 20#6),
    ([0xF046#16, 0x16D9#16], Instr.cmpHI (.reg 22#6) 20#6 .t),
    ([0xF046#16, 0x17D9#16], Instr.cmpHIS 22#6 20#6),
    ([0xF046#16, 0x16EC#16], Instr.cmpGE (.reg 22#6) 20#6 .t),
    ([0xF046#16, 0x17EC#16], Instr.cmpGES 22#6 20#6),
    ([0xF046#16, 0x16FC#16], Instr.cmpHS (.reg 22#6) 20#6 .t),
    ([0xF046#16, 0x17FC#16], Instr.cmpHSS 22#6 20#6),
    ([0xF046#16, 0x1EC9#16], Instr.cmpQEQ (.reg 22#6) 20#6 .t),
    ([0xF046#16, 0x1FC9#16], Instr.cmpQEQS 22#6 20#6),
    ([0xF046#16, 0x1EE9#16], Instr.cmpQGT (.reg 22#6) 20#6 .t),
    ([0xF046#16, 0x1FE9#16], Instr.cmpQGTS 22#6 20#6),
    ([0xF046#16, 0x1ED9#16], Instr.cmpQHI (.reg 22#6) 20#6 .t),
    ([0xF046#16, 0x1FD9#16], Instr.cmpQHIS 22#6 20#6)].all reads = true := by decide
theorem test_decode_compare_flags_2 : [
    ([0xF046#16, 0x1EEC#16], Instr.cmpQGE (.reg 22#6) 20#6 .t),
    ([0xF046#16, 0x1FEC#16], Instr.cmpQGES 22#6 20#6),
    ([0xF046#16, 0x1EFC#16], Instr.cmpQHS (.reg 22#6) 20#6 .t),
    ([0xF046#16, 0x1FFC#16], Instr.cmpQHSS 22#6 20#6),
    ([0xF046#16, 0x1649#16], Instr.tst (.reg 22#6) 20#6 .t),
    ([0xF046#16, 0x1749#16], Instr.tstS 22#6 20#6),
    ([0xF046#16, 0x1E49#16], Instr.tstQ (.reg 22#6) 20#6 .t),
    ([0xF046#16, 0x1F49#16], Instr.tstQS 22#6 20#6),
    ([0xF046#16, 0x3668#16], Instr.cmpPEQ 22#6 20#6),
    ([0xF046#16, 0x3E68#16], Instr.cmpPEQX 11#5 10#5),
    ([0xF046#16, 0x3678#16], Instr.cmpPGT 22#6 20#6),
    ([0xF046#16, 0x3E78#16], Instr.cmpPGTX 11#5 10#5),
    ([0xF046#16, 0x9FA4#16], Instr.cmp3EQ 22#6 (.reg 26#6) 20#6),
    ([0xF046#16, 0x9FA5#16], Instr.cmp3GT 22#6 (.reg 26#6) 20#6),
    ([0xF046#16, 0x9FA6#16], Instr.cmp3NE 22#6 (.reg 26#6) 20#6),
    ([0xF046#16, 0x9FA3#16], Instr.cmp3LT 22#6 26#64 20#6)].all reads = true := by decide
theorem test_decode_compare_flags_3 : [
    ([0xF046#16, 0x9FA7#16], Instr.cmp3GE 22#6 26#6 20#6),
    ([0xFF90#16, 0x0302#16, 0xF046#16, 0x9FA1#16], Instr.cmp3HI 22#6 0xFFFFFFFFFFFF605A#64 20#6),
    ([0xFF80#16, 0x0000#16, 0xF046#16, 0x9FA3#16], Instr.cmp3BI 22#6 26#64 20#6),
    ([0xF000#16, 0x3040#16], Instr.clrT ),
    ([0xF000#16, 0x3050#16], Instr.setT ),
    ([0xF000#16, 0x3060#16], Instr.clrS ),
    ([0xF000#16, 0x3070#16], Instr.setS ),
    ([0xF000#16, 0x3080#16], Instr.notT ),
    ([0xF000#16, 0x3090#16], Instr.notS ),
    ([0xF06C#16, 0x3140#16], Instr.srtprop 20#5),
    ([0xF06B#16, 0x3140#16], Instr.srttwid 20#5),
    ([0xF06F#16, 0x3140#16], Instr.movT 20#6),
    ([0xF033#16, 0x3140#16], Instr.movNT 20#6)].all reads = true := by decide
theorem test_decode_shift_muldiv_1 : [
    ([0xF046#16, 0x57A4#16], Instr.shad 22#6 (.reg 26#6) 20#6),
    ([0xF046#16, 0x5FA4#16], Instr.shadq 22#6 (.reg 26#6) 20#6),
    ([0xF046#16, 0x3FA4#16], Instr.shadx 11#5 26#6 10#5),
    ([0xF046#16, 0x57A5#16], Instr.shld 22#6 (.reg 26#6) 20#6),
    ([0xF046#16, 0x5FA5#16], Instr.shldq 22#6 (.reg 26#6) 20#6),
    ([0xF046#16, 0x3FA5#16], Instr.shldx 11#5 26#6 10#5),
    ([0xF046#16, 0x27A2#16], Instr.shar 22#6 26#6 20#6),
    ([0xF046#16, 0x2FA2#16], Instr.sharq 22#6 26#6 20#6),
    ([0xF046#16, 0x3FA2#16], Instr.sharx 11#5 26#6 10#5),
    ([0xF046#16, 0x27A3#16], Instr.shlr 22#6 26#6 20#6),
    ([0xF046#16, 0x2FA3#16], Instr.shlrq 22#6 26#6 20#6),
    ([0xF046#16, 0x3FA3#16], Instr.shlrx 11#5 26#6 10#5),
    ([0xF036#16, 0x3140#16], Instr.rotclL 20#6),
    ([0xF036#16, 0x3940#16], Instr.rotclQ 20#6),
    ([0xF037#16, 0x3140#16], Instr.rotcrL 20#6),
    ([0xF037#16, 0x3940#16], Instr.rotcrQ 20#6)].all reads = true := by decide
theorem test_decode_shift_muldiv_2 : [
    ([0xF034#16, 0x3140#16], Instr.rotl 20#6),
    ([0xF035#16, 0x3140#16], Instr.rotr 20#6),
    ([0xF046#16, 0x37A2#16], Instr.rotlQ 22#6 26#6 20#6),
    ([0xF046#16, 0x37A6#16], Instr.rotlL 22#6 26#6 20#6),
    ([0xF046#16, 0x3FA6#16], Instr.rotlx 11#5 26#6 10#5),
    ([0xF046#16, 0x37A3#16], Instr.rotrQ 22#6 26#6 20#6),
    ([0xF046#16, 0x17A2#16], Instr.muls 22#6 (.reg 26#6) 20#6),
    ([0xF046#16, 0x17A3#16], Instr.mulu 22#6 (.reg 26#6) 20#6),
    ([0xF046#16, 0x1FA2#16], Instr.mulsQ 22#6 26#6 20#6),
    ([0xF046#16, 0x1FA3#16], Instr.muluQ 22#6 26#6 20#6),
    ([0xF046#16, 0x37A4#16], Instr.mulhsQ 22#6 26#6 20#6),
    ([0xF046#16, 0x37A5#16], Instr.mulhuQ 22#6 26#6 20#6),
    ([0xF046#16, 0x57A2#16], Instr.dmulsL 22#6 26#6 20#6),
    ([0xF046#16, 0x57A3#16], Instr.dmuluL 22#6 26#6 20#6),
    ([0xF046#16, 0x57AE#16], Instr.mulsW 22#6 (.reg 26#6) 20#6),
    ([0xF046#16, 0x57AF#16], Instr.muluW 22#6 (.reg 26#6) 20#6)].all reads = true := by decide
theorem test_decode_shift_muldiv_3 : [
    ([0xF046#16, 0x1E48#16], Instr.muluX 11#5 10#5),
    ([0xF046#16, 0x1E58#16], Instr.mulhuX 11#5 10#5),
    ([0xF046#16, 0x67A0#16], Instr.macsL 22#6 (.reg 26#6) 20#6 20#6),
    ([0xF046#16, 0x6FA0#16], Instr.macsL 22#6 (.imm 26#64) 20#6 20#6),
    ([0xFF00#16, 0x0C05#16, 0xF046#16, 0x6FA0#16], Instr.macsL 22#6 (.imm 0xFFFFFFFFFFFFFC05#64) 26#6 20#6),
    ([0xFF00#16, 0x080C#16, 0xF046#16, 0x67A0#16], Instr.macsL 22#6 (.reg 26#6) 12#6 20#6),
    ([0xF046#16, 0x67A1#16], Instr.macuL 22#6 (.reg 26#6) 20#6 20#6),
    ([0xFF00#16, 0x0C05#16, 0xF046#16, 0x6FA1#16], Instr.macuL 22#6 (.imm 0xFFFFFFFFFFFFFC05#64) 26#6 20#6),
    ([0xFF00#16, 0x080C#16, 0xF046#16, 0x67A1#16], Instr.macuL 22#6 (.reg 26#6) 12#6 20#6),
    ([0xF046#16, 0x67A2#16], Instr.dmacsL 22#6 (.reg 26#6) 20#6 20#6),
    ([0xFF00#16, 0x0C05#16, 0xF046#16, 0x6FA2#16], Instr.dmacsL 22#6 (.imm 0xFFFFFFFFFFFFFC05#64) 26#6 20#6),
    ([0xFF00#16, 0x080C#16, 0xF046#16, 0x67A2#16], Instr.dmacsL 22#6 (.reg 26#6) 12#6 20#6),
    ([0xF046#16, 0x67A3#16], Instr.dmacuL 22#6 (.reg 26#6) 20#6 20#6),
    ([0xFF00#16, 0x0C05#16, 0xF046#16, 0x6FA3#16], Instr.dmacuL 22#6 (.imm 0xFFFFFFFFFFFFFC05#64) 26#6 20#6),
    ([0xFF00#16, 0x080C#16, 0xF046#16, 0x67A3#16], Instr.dmacuL 22#6 (.reg 26#6) 12#6 20#6),
    ([0xF046#16, 0x67A4#16], Instr.divsQ 22#6 26#6 20#6)].all reads = true := by decide
theorem test_decode_shift_muldiv_4 : [
    ([0xF046#16, 0x6FA4#16], Instr.divuQ 22#6 26#6 20#6),
    ([0xF046#16, 0x77A4#16], Instr.divsL 22#6 26#6 20#6),
    ([0xF046#16, 0x7FA4#16], Instr.divuL 22#6 26#6 20#6),
    ([0xF046#16, 0x67A5#16], Instr.modsQ 22#6 26#6 20#6),
    ([0xF046#16, 0x6FA5#16], Instr.moduQ 22#6 26#6 20#6),
    ([0xF046#16, 0x77A5#16], Instr.modsL 22#6 26#6 20#6),
    ([0xF046#16, 0x7FA5#16], Instr.moduL 22#6 26#6 20#6),
    ([0xF000#16, 0x30D0#16], Instr.div0 ),
    ([0xF000#16, 0x30E0#16], Instr.div1 )].all reads = true := by decide
theorem test_decode_load_immediate_1 : [
    ([0xF804#16, 0xFEDC#16], Instr.ldiz 0xFEDC#64 4#6),
    ([0xA923#16], Instr.ldiz 0x923#64 0#6),
    ([0xF240#16, 0xC7FE#16], Instr.ldiz 0x3FE#64 20#6),
    ([0xFE89#16, 0xABCD#16, 0xF240#16, 0xC4EF#16], Instr.ldiz 0x89ABCDEF#64 20#6),
    ([0xF834#16, 0x0001#16], Instr.ldin 0xFFFFFFFFFFFF0001#64 20#6),
    ([0xF241#16, 0xC402#16], Instr.ldin 0xFFFFFFFFFFFFFC02#64 20#6),
    ([0xD485#16], Instr.ldi8 0xFFFFFFFFFFFFFF85#64 4#6),
    ([0xFE81#16, 0x2345#16, 0xFE67#16, 0x89AB#16, 0xF824#16, 0xCDEF#16], Instr.ldi64 0x8123456789ABCDEF#64 36#6),
    ([0xF240#16, 0xCFFE#16], Instr.ldimiz 0x3FE#64 20#6),
    ([0xF241#16, 0xCFFE#16], Instr.ldimin 0xFFFFFFFFFFFFFFFE#64 20#6),
    ([0xF242#16, 0xC4AB#16], Instr.ldish 0xAB#64 20#6),
    ([0xF243#16, 0xC7FE#16], Instr.ldihi 0x3FE#64 20#6),
    ([0xFE89#16, 0xABCD#16, 0xF243#16, 0xC4EF#16], Instr.ldihiL 0x89ABCDEF#32 20#6),
    ([0xF243#16, 0xCFFE#16], Instr.ldihiq 0x3FE#64 20#6),
    ([0xFE89#16, 0xABCD#16, 0xF243#16, 0xCCEF#16], Instr.ldihiQ 0x89ABCDEF#32 20#6),
    ([0xF874#16, 0xABCD#16], Instr.ldish16 0xABCD#64 20#6)].all reads = true := by decide
theorem test_decode_load_store_1 : [
    ([0xF046#16, 0x07A4#16], Instr.movB .store 20#6 (.index 22#6 26#6)),
    ([0xF046#16, 0x07AC#16], Instr.movB .load 20#6 (.index 22#6 26#6)),
    ([0xF046#16, 0x07A5#16], Instr.movW .store 20#6 (.index 22#6 26#6)),
    ([0xF046#16, 0x07AD#16], Instr.movW .load 20#6 (.index 22#6 26#6)),
    ([0xF046#16, 0x07A6#16], Instr.movL .store 20#6 (.index 22#6 26#6)),
    ([0xF046#16, 0x07AE#16], Instr.movL .load 20#6 (.index 22#6 26#6)),
    ([0xF046#16, 0x07A7#16], Instr.movQ .store 20#6 (.index 22#6 26#6)),
    ([0xF046#16, 0x07AF#16], Instr.movQ .load 20#6 (.index 22#6 26#6)),
    ([0xF046#16, 0x0FAC#16], Instr.movuB 20#6 (.index 22#6 26#6)),
    ([0xF046#16, 0x0FAD#16], Instr.movuW 20#6 (.index 22#6 26#6)),
    ([0xF046#16, 0x0FAE#16], Instr.movuL 20#6 (.index 22#6 26#6)),
    ([0xF046#16, 0x4FAC#16], Instr.movnL 20#6 (.index 22#6 26#6)),
    ([0xF046#16, 0x0FA4#16], Instr.leaB 20#6 (.index 22#6 26#6)),
    ([0xF046#16, 0x0FA5#16], Instr.leaW 20#6 (.index 22#6 26#6)),
    ([0xF046#16, 0x0FA6#16], Instr.leaL 20#6 (.index 22#6 26#6)),
    ([0xF046#16, 0x0FA7#16], Instr.leaQ 20#6 (.index 22#6 26#6))].all reads = true := by decide
theorem test_decode_load_store_ext_1 : [
    ([0xF046#16, 0x47A4#16], Instr.movX .store 10#5 (.index 22#6 26#6)),
    ([0xF046#16, 0x47AC#16], Instr.movX .load 10#5 (.index 22#6 26#6)),
    ([0xF046#16, 0x47A5#16], Instr.movC .store 20#6 (.index 22#6 26#6)),
    ([0xF046#16, 0x47AD#16], Instr.movC .load 20#6 (.index 22#6 26#6)),
    ([0xF046#16, 0x97A4#16], Instr.movTW .store 20#6 (.index 22#6 26#6)),
    ([0xF046#16, 0x97AC#16], Instr.movTW .load 20#6 (.index 22#6 26#6)),
    ([0xF046#16, 0x9FAC#16], Instr.movuTW 20#6 (.index 22#6 26#6)),
    ([0xF046#16, 0x97A5#16], Instr.movHTW .store 20#6 (.index 22#6 26#6)),
    ([0xF046#16, 0x97AD#16], Instr.movHTW .load 20#6 (.index 22#6 26#6)),
    ([0xFF00#16, 0x2505#16, 0xF046#16, 0x07EA#16], Instr.ldop 2#4 .load .l 20#6 (.disp 22#6 0xA0BE#64)),
    ([0xFF00#16, 0x2000#16, 0xF046#16, 0x07A6#16], Instr.ldop 2#4 .store .l 20#6 (.indexDisp 22#6 26#6 0#11)),
    ([0xF046#16, 0x0FAB#16], Instr.ldtex 22#6 26#6 .none 20#6),
    ([0xFF00#16, 0x0D05#16, 0xF046#16, 0x0FAB#16], Instr.ldtex 22#6 26#6 (.scaled 2#2 0x105#9) 20#6),
    ([0xFF00#16, 0x0505#16, 0xF046#16, 0x0FAB#16], Instr.ldtex 22#6 26#6 (.disp 0x505#11) 20#6),
    ([0xF242#16, 0xE485#16], Instr.rbsldQ 0x85#8 20#6),
    ([0xF242#16, 0xEC84#16], Instr.rbsldX 0x84#8 10#5)].all reads = true := by decide
theorem test_decode_load_store_ext_2 : [
    ([0xF243#16, 0xE485#16], Instr.rbsstQ 0x85#8 20#6),
    ([0xF243#16, 0xEC84#16], Instr.rbsstX 0x84#8 10#5)].all reads = true := by decide
theorem test_decode_branch_1 : [
    ([0xF080#16, 0xC001#16], Instr.bra (.disp 0xFFFFFFFFFFF80001#64)),
    ([0xF010#16, 0x3140#16], Instr.bra (.reg 20#6)),
    ([0xF020#16, 0x3140#16], Instr.jmp 20#6),
    ([0xFF12#16, 0x3456#16, 0xFA78#16, 0x9ABC#16], Instr.jmpAbs 0x123456789ABC#48),
    ([0xF080#16, 0xD001#16], Instr.bsr (.disp 0xFFFFFFFFFFF80001#64)),
    ([0xF011#16, 0x3140#16], Instr.bsr (.reg 20#6)),
    ([0xF021#16, 0x3140#16], Instr.jsr 20#6),
    ([0xFF12#16, 0x3456#16, 0xFB78#16, 0x9ABC#16], Instr.jsrAbs 0x123456789ABC#48),
    ([0xF000#16, 0x3010#16], Instr.rts ),
    ([0xF002#16, 0x3010#16], Instr.rtsu ),
    ([0x2281#16], Instr.bt (.disp 0xFFFFFFFFFFFFFF81#64)),
    ([0x3942#16], Instr.bt (.reg 20#6)),
    ([0x237E#16], Instr.bf (.disp 0x7E#64)),
    ([0x3143#16], Instr.bf (.reg 4#6)),
    ([0xF022#16, 0x3140#16], Instr.jt 20#6),
    ([0xF023#16, 0x3140#16], Instr.jf 20#6)].all reads = true := by decide
theorem test_decode_branch_2 : [
    ([0xF02C#16, 0x3140#16], Instr.braL 20#6),
    ([0xF02D#16, 0x3140#16], Instr.bsrL 20#6),
    ([0xF02E#16, 0x3140#16], Instr.btL 20#6),
    ([0xF02F#16, 0x3140#16], Instr.bfL 20#6),
    ([0xF045#16, 0x3C88#16], Instr.jmpmd 5#4 20#6),
    ([0xF045#16, 0x3C98#16], Instr.jsrmd 5#4 20#6),
    ([0xF244#16, 0xE6FE#16], Instr.brEQL 20#6 0x2FE#64),
    ([0xF245#16, 0xE402#16], Instr.brEQL 20#6 0xFFFFFFFFFFFFFC02#64),
    ([0xF244#16, 0xEEFE#16], Instr.brEQQ 20#6 0x2FE#64),
    ([0xF246#16, 0xE6FE#16], Instr.brNEL 20#6 0x2FE#64),
    ([0xF246#16, 0xEEFE#16], Instr.brNEQ 20#6 0x2FE#64),
    ([0xF248#16, 0xE6FE#16], Instr.brLTL 20#6 0x2FE#64),
    ([0xF248#16, 0xEEFE#16], Instr.brLTQ 20#6 0x2FE#64),
    ([0xF24A#16, 0xE6FE#16], Instr.brGEL 20#6 0x2FE#64),
    ([0xF24A#16, 0xEEFE#16], Instr.brGEQ 20#6 0x2FE#64),
    ([0xF24C#16, 0xE6FE#16], Instr.brLEL 20#6 0x2FE#64)].all reads = true := by decide
theorem test_decode_branch_3 : [
    ([0xF24C#16, 0xEEFE#16], Instr.brLEQ 20#6 0x2FE#64),
    ([0xF24E#16, 0xE6FE#16], Instr.brGTL 20#6 0x2FE#64),
    ([0xF24E#16, 0xEEFE#16], Instr.brGTQ 20#6 0x2FE#64),
    ([0xF146#16, 0xC681#16], Instr.jtstT 22#6 20#6 0xFFFFFFFFFFFFFF81#64),
    ([0xF146#16, 0xCE81#16], Instr.jtstQT 22#6 20#6 0xFFFFFFFFFFFFFF81#64),
    ([0xF146#16, 0xC781#16], Instr.jtstF 22#6 20#6 0xFFFFFFFFFFFFFF81#64),
    ([0xF146#16, 0xCF81#16], Instr.jtstQF 22#6 20#6 0xFFFFFFFFFFFFFF81#64),
    ([0xF146#16, 0xD681#16], Instr.jcmpGT 22#6 20#6 0xFFFFFFFFFFFFFF81#64),
    ([0xF146#16, 0xDE81#16], Instr.jcmpQGT 22#6 20#6 0xFFFFFFFFFFFFFF81#64),
    ([0xF146#16, 0xD781#16], Instr.jcmpLE 22#6 20#6 0xFFFFFFFFFFFFFF81#64),
    ([0xF146#16, 0xDF81#16], Instr.jcmpQLE 22#6 20#6 0xFFFFFFFFFFFFFF81#64),
    ([0xF146#16, 0xE681#16], Instr.jcmpHI 22#6 20#6 0xFFFFFFFFFFFFFF81#64),
    ([0xF146#16, 0xEE81#16], Instr.jcmpQHI 22#6 20#6 0xFFFFFFFFFFFFFF81#64),
    ([0xF146#16, 0xE781#16], Instr.jcmpLS 22#6 20#6 0xFFFFFFFFFFFFFF81#64),
    ([0xF146#16, 0xEF81#16], Instr.jcmpQLS 22#6 20#6 0xFFFFFFFFFFFFFF81#64),
    ([0xF146#16, 0xF681#16], Instr.jcmpEQ 22#6 20#6 0xFFFFFFFFFFFFFF81#64)].all reads = true := by decide
theorem test_decode_branch_4 : [
    ([0xF146#16, 0xFE81#16], Instr.jcmpQEQ 22#6 20#6 0xFFFFFFFFFFFFFF81#64),
    ([0xF146#16, 0xF781#16], Instr.jcmpNE 22#6 20#6 0xFFFFFFFFFFFFFF81#64),
    ([0xF146#16, 0xFF81#16], Instr.jcmpQNE 22#6 20#6 0xFFFFFFFFFFFFFF81#64),
    ([0xF247#16, 0xDD81#16], Instr.jcmpz true .ge 20#6 0xFFFFFFFFFFFFFF81#64)].all reads = true := by decide
theorem test_decode_system_ttag_1 : [
    ([0xF046#16, 0x16A9#16], Instr.movToC 22#6 20#6),
    ([0xF046#16, 0x16B9#16], Instr.movFromC 22#6 20#6),
    ([0x3030#16], Instr.breakOp ),
    ([0xF000#16, 0x3030#16], Instr.break2 ),
    ([0xF000#16, 0x3020#16], Instr.sleep ),
    ([0xF000#16, 0x30C0#16], Instr.rte ),
    ([0xF06A#16, 0x3140#16], Instr.cpuid 20#5),
    ([0xF002#16, 0x30F0#16], Instr.invtlb ),
    ([0xF01C#16, 0x3140#16], Instr.invic 20#6),
    ([0xF01D#16, 0x3140#16], Instr.invdc 20#6),
    ([0xF000#16, 0x30F0#16], Instr.ldtlb ),
    ([0xF002#16, 0x3050#16], Instr.ldxtlb ),
    ([0xF046#16, 0x16B8#16], Instr.snipedc 22#6 20#6),
    ([0xF046#16, 0x1EB8#16], Instr.snipeic 22#6 20#6),
    ([0xF002#16, 0x3040#16], Instr.ldacl ),
    ([0xF002#16, 0x30C0#16], Instr.ldekrr )].all reads = true := by decide
theorem test_decode_system_ttag_2 : [
    ([0xF002#16, 0x30A0#16], Instr.svekrr ),
    ([0xF002#16, 0x30D0#16], Instr.ldekey ),
    ([0xF002#16, 0x30E0#16], Instr.ldeenc ),
    ([0xF002#16, 0x3080#16], Instr.sxentr ),
    ([0xF002#16, 0x3090#16], Instr.suentr ),
    ([0xF002#16, 0x30B0#16], Instr.sventr ),
    ([0x3E43#16], Instr.trapImm 20#5),
    ([0xF068#16, 0x3140#16], Instr.trapReg 20#6),
    ([0xF068#16, 0x3940#16], Instr.trapPair 10#5),
    ([0xF046#16, 0x1EA9#16], Instr.settrap 22#6 20#6),
    ([0xF046#16, 0x1668#16], Instr.vskg 22#6 20#6),
    ([0xF046#16, 0x1678#16], Instr.vskc 22#6 20#6),
    ([0xF046#16, 0x1EEE#16], Instr.xbless 11#5 10#5),
    ([0xF069#16, 0x3140#16], Instr.wexmd 20#5),
    ([0xF046#16, 0x1608#16], Instr.bndchkB 22#6 20#6),
    ([0xF046#16, 0x1618#16], Instr.bndchkW 22#6 20#6)].all reads = true := by decide
theorem test_decode_system_ttag_3 : [
    ([0xF046#16, 0x1748#16], Instr.bndchkImm 0x36#64 20#6),
    ([0xF046#16, 0x1628#16], Instr.bndchkL 22#6 20#6),
    ([0xF046#16, 0x1638#16], Instr.bndchkQ 22#6 20#6),
    ([0xF046#16, 0x3608#16], Instr.bndcmpB 22#6 20#6),
    ([0xF046#16, 0x3618#16], Instr.bndcmpW 22#6 20#6),
    ([0xF046#16, 0x3628#16], Instr.bndcmpL 22#6 20#6),
    ([0xF046#16, 0x3638#16], Instr.bndcmpQ 22#6 20#6),
    ([0xF046#16, 0x1758#16], Instr.bndcmpImm 0x36#64 20#6),
    ([0xF046#16, 0x4EA4#16], Instr.leatB 20#6 (.index 22#6 10#6)),
    ([0xF046#16, 0x4EA5#16], Instr.leatW 20#6 (.index 22#6 10#6)),
    ([0xF046#16, 0x4EA6#16], Instr.leatL 20#6 (.index 22#6 10#6)),
    ([0xF046#16, 0x4EA7#16], Instr.leatQ 20#6 (.index 22#6 10#6)),
    ([0xF046#16, 0x16C8#16], Instr.cmpTAEQ 22#6 20#6),
    ([0xF046#16, 0x16D8#16], Instr.cmpTAHI 22#6 20#6),
    ([0xF046#16, 0x16E8#16], Instr.cmpTAHS 22#6 20#6),
    ([0xF046#16, 0x1FB9#16], Instr.cmpTTEQ 0x36#6 20#6)].all reads = true := by decide
theorem test_decode_system_ttag_4 : [
    ([0xF046#16, 0x16F8#16], Instr.convfxi 22#6 20#6),
    ([0xF046#16, 0x1EF8#16], Instr.convfli 22#6 20#6),
    ([0xF046#16, 0x16FE#16], Instr.movST 22#6 20#6),
    ([0xF046#16, 0x1EFE#16], Instr.xmovST 11#5 10#5),
    ([0xF046#16, 0x16A8#16], Instr.movZT 22#6 20#6),
    ([0xF046#16, 0x1EA8#16], Instr.xmovZT 11#5 10#5),
    ([0xF046#16, 0x37A1#16], Instr.movTTReg 22#6 26#6 20#6),
    ([0xF046#16, 0x3FA1#16], Instr.movTTTag 22#6 26#5 20#6),
    ([0xFF00#16, 0x0D05#16, 0xF046#16, 0x3FE1#16], Instr.movTTImm 22#6 0xA0BE#64 20#6),
    ([0xF046#16, 0x8FA6#16], Instr.xmovTTReg 11#5 26#6 10#5),
    ([0xFF30#16, 0x1234#16, 0xF844#16, 0xABCD#16], Instr.xmovTTImm 0xABCD1234#32 2#5)].all reads = true := by decide
theorem test_decode_gsv_media_1 : [
    ([0xF046#16, 0x168A#16], Instr.movHD2 22#6 20#6),
    ([0xF046#16, 0x1E8A#16], Instr.movLD2 22#6 20#6),
    ([0xF046#16, 0x27A8#16], Instr.movHD 22#6 26#6 20#6),
    ([0xF046#16, 0x2FA8#16], Instr.movLD 22#6 26#6 20#6),
    ([0xF046#16, 0x27A9#16], Instr.movHLD 22#6 26#6 20#6),
    ([0xF046#16, 0x2FA9#16], Instr.movLHD 22#6 26#6 20#6),
    ([0xF046#16, 0x77A3#16], Instr.movHW 22#6 26#6 20#6),
    ([0xF046#16, 0x7FA3#16], Instr.movLW 22#6 26#6 20#6),
    ([0xF046#16, 0x27A0#16], Instr.paddW 22#6 26#6 20#6),
    ([0xF046#16, 0x2FA0#16], Instr.paddL 22#6 26#6 20#6),
    ([0xF046#16, 0x27A5#16], Instr.paddF 22#6 26#6 20#6),
    ([0xF046#16, 0x2FA5#16], Instr.paddxF 11#5 13#5 10#5),
    ([0xF046#16, 0x27AD#16], Instr.paddH 22#6 26#6 20#6),
    ([0xF046#16, 0x2FAD#16], Instr.paddxD 11#5 13#5 10#5),
    ([0xF046#16, 0x27A6#16], Instr.psubF 22#6 26#6 20#6),
    ([0xF046#16, 0x2FA6#16], Instr.psubxF 11#5 13#5 10#5)].all reads = true := by decide
theorem test_decode_gsv_media_2 : [
    ([0xF046#16, 0x27AE#16], Instr.psubH 22#6 26#6 20#6),
    ([0xF046#16, 0x2FAE#16], Instr.psubxD 11#5 13#5 10#5),
    ([0xF046#16, 0x27A7#16], Instr.pmulF 22#6 26#6 20#6),
    ([0xF046#16, 0x2FA7#16], Instr.pmulxF 11#5 13#5 10#5),
    ([0xF046#16, 0x27AF#16], Instr.pmulH 22#6 26#6 20#6),
    ([0xF046#16, 0x2FAF#16], Instr.pmulxD 11#5 13#5 10#5),
    ([0xF046#16, 0x27A1#16], Instr.psubW 22#6 26#6 20#6),
    ([0xF046#16, 0x2FA1#16], Instr.psubL 22#6 26#6 20#6),
    ([0xFF00#16, 0x0809#16, 0xF046#16, 0x27A5#16], Instr.paddXrm 22#6 26#6 20#6 9#8),
    ([0xFF00#16, 0x0809#16, 0xF046#16, 0x2FA5#16], Instr.paddxXrm 11#5 13#5 10#5 9#8),
    ([0xFF00#16, 0x0809#16, 0xF046#16, 0x27A7#16], Instr.pmulXrm 22#6 26#6 20#6 9#8),
    ([0xFF00#16, 0x0809#16, 0xF046#16, 0x2FA7#16], Instr.pmulxXrm 11#5 13#5 10#5 9#8),
    ([0xF046#16, 0x57A1#16], Instr.pmulsW 22#6 26#6 20#6),
    ([0xF046#16, 0x5FA1#16], Instr.pmuluW 22#6 26#6 20#6),
    ([0xF046#16, 0x57A6#16], Instr.pmulsLW 22#6 26#6 20#6),
    ([0xF046#16, 0x5FA6#16], Instr.pmuluLW 22#6 26#6 20#6)].all reads = true := by decide
theorem test_decode_gsv_media_3 : [
    ([0xF046#16, 0x57A7#16], Instr.pmulsHW 22#6 26#6 20#6),
    ([0xF046#16, 0x5FA7#16], Instr.pmuluHW 22#6 26#6 20#6),
    ([0xF046#16, 0x16AA#16], Instr.pcmpEQH 22#6 20#6),
    ([0xF046#16, 0x1EAA#16], Instr.pcmpEQF 22#6 20#6),
    ([0xF046#16, 0x16BA#16], Instr.pcmpGTH 22#6 20#6),
    ([0xF046#16, 0x1EBA#16], Instr.pcmpGTF 22#6 20#6),
    ([0xF046#16, 0x16CA#16], Instr.pcmpEQW 22#6 20#6),
    ([0xF046#16, 0x1ECA#16], Instr.pcmpEQL 22#6 20#6),
    ([0xF046#16, 0x16DA#16], Instr.pcmpHIW 22#6 20#6),
    ([0xF046#16, 0x1EDA#16], Instr.pcmpHIL 22#6 20#6),
    ([0xF046#16, 0x16EA#16], Instr.pcmpGTW 22#6 20#6),
    ([0xF046#16, 0x1EEA#16], Instr.pcmpGTL 22#6 20#6),
    ([0xF046#16, 0x27A4#16], Instr.pcseltW 22#6 26#6 20#6),
    ([0xF046#16, 0x2FA4#16], Instr.pcseltL 22#6 26#6 20#6),
    ([0xF046#16, 0x17BA#16], Instr.pselFW 22#6 20#6),
    ([0xF046#16, 0x1FBA#16], Instr.pselFL 22#6 20#6)].all reads = true := by decide
theorem test_decode_gsv_media_4 : [
    ([0xF043#16, 0x149A#16], Instr.pdottH 3#2 20#6),
    ([0xF042#16, 0x1C9A#16], Instr.pdottF 2#2 20#6),
    ([0xF046#16, 0x160A#16], Instr.pstcF8H 22#6 20#6),
    ([0xF046#16, 0x161A#16], Instr.pldcF8H 22#6 20#6),
    ([0xF046#16, 0x16CE#16], Instr.pldcH 22#6 20#6),
    ([0xF046#16, 0x1ECE#16], Instr.pldcHH 22#6 20#6),
    ([0xF046#16, 0x16DE#16], Instr.pldcEHL 22#6 20#6),
    ([0xF046#16, 0x1EDE#16], Instr.pldcEHH 22#6 20#6),
    ([0xF046#16, 0x16EE#16], Instr.pstcH 22#6 20#6),
    ([0xF046#16, 0x168E#16], Instr.pldcM8SH 22#6 20#6),
    ([0xF046#16, 0x1E8E#16], Instr.pldcM8UH 22#6 20#6),
    ([0xF046#16, 0x16AE#16], Instr.pstcM8SH 22#6 20#6),
    ([0xF046#16, 0x1EAE#16], Instr.pstcM8UH 22#6 20#6),
    ([0xF046#16, 0x16AF#16], Instr.prcpaH 22#6 20#6),
    ([0xF046#16, 0x16BF#16], Instr.prcpaF 22#6 20#6),
    ([0xF046#16, 0x1EAF#16], Instr.preluH 22#6 20#6)].all reads = true := by decide
theorem test_decode_gsv_media_5 : [
    ([0xF046#16, 0x1EBF#16], Instr.preluF 22#6 20#6),
    ([0xF046#16, 0x166E#16], Instr.pshalW 22#6 20#6),
    ([0xF046#16, 0x1E6E#16], Instr.pshllW 22#6 20#6),
    ([0xF046#16, 0x167E#16], Instr.psharW 22#6 20#6),
    ([0xF046#16, 0x1E7E#16], Instr.pshlrW 22#6 20#6),
    ([0xF046#16, 0x168F#16], Instr.psqrtaH 22#6 20#6),
    ([0xF046#16, 0x1E8F#16], Instr.psqrtuaH 22#6 20#6),
    ([0xF046#16, 0x169F#16], Instr.psqrtaF 22#6 20#6),
    ([0xF046#16, 0x1E9F#16], Instr.psqrtuaF 22#6 20#6),
    ([0xFF10#16, 0x1234#16, 0xF884#16, 0xABCD#16], Instr.pldcHImm 0xABCD1234#32 4#6),
    ([0xFF20#16, 0x1234#16, 0xF884#16, 0xABCD#16], Instr.pldcM8SHImm 0xABCD1234#32 4#6),
    ([0xFF30#16, 0x1234#16, 0xF884#16, 0xABCD#16], Instr.pldcM8UHImm 0xABCD1234#32 4#6),
    ([0xF246#16, 0x87E4#16], Instr.pshufB 22#6 0xE4#8 20#6),
    ([0xF246#16, 0x8FE4#16], Instr.pshufW 22#6 0xE4#8 20#6),
    ([0xFE89#16, 0xABCD#16, 0xF246#16, 0x8FE4#16], Instr.pshufW33 22#6 0x113579be4#33 20#6),
    ([0xFF00#16, 0x00D5#16, 0xF246#16, 0x8F55#16], Instr.pshufW17 22#6 0x1AB55#17 20#6)].all reads = true := by decide
theorem test_decode_gsv_media_6 : [
    ([0xF046#16, 0x27AA#16], Instr.pscheqW 22#6 26#6 20#6),
    ([0xF046#16, 0x2FAA#16], Instr.pscheqB 22#6 26#6 20#6),
    ([0xF046#16, 0x27AB#16], Instr.pschneW 22#6 26#6 20#6),
    ([0xF046#16, 0x2FAB#16], Instr.pschneB 22#6 26#6 20#6),
    ([0xF046#16, 0x3607#16], Instr.swapB 22#6 20#6),
    ([0xF046#16, 0x3617#16], Instr.swapW 22#6 20#6),
    ([0xF046#16, 0x3627#16], Instr.swap8B 22#6 20#6),
    ([0xF046#16, 0x3637#16], Instr.swapL 22#6 20#6),
    ([0xF046#16, 0x3647#16], Instr.swapLB 22#6 20#6),
    ([0xF046#16, 0x3657#16], Instr.swapLW 22#6 20#6),
    ([0xF046#16, 0x3667#16], Instr.swcpLB 22#6 20#6),
    ([0xF046#16, 0x3677#16], Instr.swcpLW 22#6 20#6),
    ([0xF046#16, 0x3687#16], Instr.swapMB 22#6 20#6),
    ([0xF046#16, 0x3697#16], Instr.swapMW 22#6 20#6),
    ([0xF046#16, 0x36A7#16], Instr.swcpMB 22#6 20#6),
    ([0xF046#16, 0x36B7#16], Instr.swcpMW 22#6 20#6)].all reads = true := by decide
theorem test_decode_gsv_media_7 : [
    ([0xF046#16, 0x36C7#16], Instr.swapHB 22#6 20#6),
    ([0xF046#16, 0x36D7#16], Instr.swapHW 22#6 20#6),
    ([0xF046#16, 0x36E7#16], Instr.swcpHB 22#6 20#6),
    ([0xF046#16, 0x36F7#16], Instr.swcpHW 22#6 20#6),
    ([0xFF00#16, 0x0AE4#16, 0xF046#16, 0x2FA5#16], Instr.paddshxX 11#5 13#5 0x2E4#11 10#5),
    ([0xFF00#16, 0x0AE4#16, 0xF046#16, 0x2FA6#16], Instr.psubshxX 11#5 13#5 0x2E4#11 10#5),
    ([0xFF00#16, 0x0AE4#16, 0xF046#16, 0x2FA7#16], Instr.pmulshxX 11#5 13#5 0x2E4#11 10#5),
    ([0xFF00#16, 0x0CE4#16, 0xF046#16, 0x27AD#16], Instr.paddshH 22#6 26#6 0x4E4#11 20#6),
    ([0xFF00#16, 0x0CE4#16, 0xF046#16, 0x27AE#16], Instr.psubshH 22#6 26#6 0x4E4#11 20#6),
    ([0xFF00#16, 0x0CE4#16, 0xF046#16, 0x27AF#16], Instr.pmulshH 22#6 26#6 0x4E4#11 20#6),
    ([0xFE89#16, 0xABCD#16, 0xFEEF#16, 0x0123#16, 0xF246#16, 0x7E45#16], Instr.pmacshHV 22#6 0x89ABCDEF012345#56 20#6),
    ([0xFE89#16, 0xABCD#16, 0xFEEF#16, 0x0123#16, 0xF246#16, 0x7F45#16], Instr.pmacshFV 11#5 0x89ABCDEF012345#56 10#5),
    ([0xFE89#16, 0xABCD#16, 0xFEEF#16, 0x0123#16, 0xF246#16, 0x8645#16], Instr.paddHV 22#6 0x89ABCDEF012345#56 20#6),
    ([0xFE89#16, 0xABCD#16, 0xFEEF#16, 0x0123#16, 0xF246#16, 0x8E45#16], Instr.paddFV 11#5 0x89ABCDEF012345#56 10#5),
    ([0xFE89#16, 0xABCD#16, 0xFEEF#16, 0x0123#16, 0xF246#16, 0x8745#16], Instr.pmulHV 22#6 0x89ABCDEF012345#56 20#6),
    ([0xFE89#16, 0xABCD#16, 0xFEEF#16, 0x0123#16, 0xF246#16, 0x8F45#16], Instr.pmulFV 11#5 0x89ABCDEF012345#56 10#5)].all reads = true := by decide
theorem test_decode_gsv_media_8 : [
    ([0xFE89#16, 0xABCD#16, 0xFEEF#16, 0x0123#16, 0xF246#16, 0x9645#16], Instr.paddshHV 22#6 0x89ABCDEF012345#56 20#6),
    ([0xFE89#16, 0xABCD#16, 0xFEEF#16, 0x0123#16, 0xF246#16, 0x9E45#16], Instr.paddshFV 11#5 0x89ABCDEF012345#56 10#5),
    ([0xFE89#16, 0xABCD#16, 0xFEEF#16, 0x0123#16, 0xF246#16, 0x9745#16], Instr.pmulshHV 22#6 0x89ABCDEF012345#56 20#6),
    ([0xFE89#16, 0xABCD#16, 0xFEEF#16, 0x0123#16, 0xF246#16, 0x9F45#16], Instr.pmulshFV 11#5 0x89ABCDEF012345#56 10#5),
    ([0xF046#16, 0x7FA6#16], Instr.pmulF8H 22#6 26#6 20#6)].all reads = true := by decide
theorem test_decode_rgb_blocks_1 : [
    ([0xF046#16, 0x162E#16], Instr.rgb5pck32 22#6 20#6),
    ([0xF046#16, 0x1E2E#16], Instr.rgb5pck64 22#6 20#6),
    ([0xF046#16, 0x163E#16], Instr.rgb5upck32 22#6 20#6),
    ([0xF046#16, 0x1E3E#16], Instr.rgb5upck64 22#6 20#6),
    ([0xF046#16, 0x1E4E#16], Instr.rgb32pck64 22#6 20#6),
    ([0xF046#16, 0x1E5E#16], Instr.rgb32upck64 22#6 20#6),
    ([0xF046#16, 0x160E#16], Instr.rgb5shr1 22#6 20#6),
    ([0xF046#16, 0x1E0E#16], Instr.rgb5minmax 22#6 20#6),
    ([0xF046#16, 0x1ECF#16], Instr.rgb5pcki8 22#6 20#6),
    ([0xF046#16, 0x164E#16], Instr.rgb5sh3 22#6 20#6),
    ([0xF046#16, 0x165E#16], Instr.rgb5ush3 22#6 20#6),
    ([0xF046#16, 0x169E#16], Instr.pldcm30ah 22#6 20#6),
    ([0xF046#16, 0x16BE#16], Instr.pstcm30ah 22#6 20#6),
    ([0xF046#16, 0x77A6#16], Instr.rgb5ccenc 22#6 26#6 20#6),
    ([0xF046#16, 0x67A9#16], Instr.blerp 22#6 26#6 20#6),
    ([0xFF00#16, 0x008C#16, 0xF046#16, 0x67A9#16], Instr.blerp4 22#6 26#6 12#6 2#2 20#6)].all reads = true := by decide
theorem test_decode_rgb_blocks_2 : [
    ([0xF046#16, 0x2FAC#16], Instr.blkutx2 22#6 26#6 20#6),
    ([0xF046#16, 0x27AC#16], Instr.blkutx1 22#6 26#6 20#6),
    ([0xF046#16, 0x6FA8#16], Instr.blkutx3h 11#5 26#6 20#6),
    ([0xF046#16, 0x6FA9#16], Instr.blkutx3l 11#5 26#6 20#6),
    ([0xFF00#16, 0x0040#16, 0xF046#16, 0x77AC#16], Instr.blkuvf1VL 22#6 26#6 20#6),
    ([0xFF00#16, 0x0041#16, 0xF046#16, 0x77AC#16], Instr.blkuvf1VH 22#6 26#6 20#6),
    ([0xFF00#16, 0x0042#16, 0xF046#16, 0x77AC#16], Instr.blkuvf1SL 22#6 26#6 20#6),
    ([0xFF00#16, 0x0043#16, 0xF046#16, 0x77AC#16], Instr.blkuvf1SH 22#6 26#6 20#6),
    ([0xF046#16, 0x67AC#16], Instr.blkuab1 22#6 26#6 20#6),
    ([0xF046#16, 0x6FAC#16], Instr.blkuab2 22#6 26#6 20#6)].all reads = true := by decide
theorem test_decode_gfp_1 : [
    ([0xF046#16, 0x169D#16], Instr.fabs 22#6 20#6),
    ([0xF046#16, 0x168D#16], Instr.fneg 22#6 20#6),
    ([0xF046#16, 0x7FA0#16], Instr.fmin 22#6 26#6 20#6),
    ([0xF046#16, 0x7FA1#16], Instr.fmax 22#6 26#6 20#6),
    ([0xF046#16, 0x57A8#16], Instr.fadd 22#6 (.reg 26#6) 20#6 0#8),
    ([0xFF00#16, 0x0809#16, 0xF046#16, 0x57A8#16], Instr.fadd 22#6 (.reg 26#6) 20#6 9#8),
    ([0xF046#16, 0x6F5D#16], Instr.fadd 22#6 (.imm 0x4014000000000000#64) 20#6 0#8),
    ([0xFEC0#16, 0x1400#16, 0xF246#16, 0x1E01#16], Instr.fadd 22#6 (.imm 0xC014000100000000#64) 20#6 0#8),
    ([0xF046#16, 0x5FA8#16], Instr.faddx 11#5 13#5 10#5 0#8),
    ([0xFF00#16, 0x0809#16, 0xF046#16, 0x5FA8#16], Instr.faddx 11#5 13#5 10#5 9#8),
    ([0xF046#16, 0x67AD#16], Instr.faddg 22#6 26#6 20#6),
    ([0xF046#16, 0x77A0#16], Instr.fadda 22#6 (.reg 26#6) 20#6),
    ([0xF046#16, 0x57A9#16], Instr.fsub 22#6 (.reg 26#6) 20#6 0#8),
    ([0xFF00#16, 0x0809#16, 0xF046#16, 0x57A9#16], Instr.fsub 22#6 (.reg 26#6) 20#6 9#8),
    ([0xF046#16, 0x5FA9#16], Instr.fsubx 11#5 13#5 10#5 0#8),
    ([0xFF00#16, 0x0809#16, 0xF046#16, 0x5FA9#16], Instr.fsubx 11#5 13#5 10#5 9#8)].all reads = true := by decide
theorem test_decode_gfp_2 : [
    ([0xF046#16, 0x67AE#16], Instr.fsubg 22#6 26#6 20#6),
    ([0xF046#16, 0x77A1#16], Instr.fsuba 22#6 26#6 20#6),
    ([0xF046#16, 0x57AA#16], Instr.fmul 22#6 (.reg 26#6) 20#6 0#8),
    ([0xFF00#16, 0x0809#16, 0xF046#16, 0x57AA#16], Instr.fmul 22#6 (.reg 26#6) 20#6 9#8),
    ([0xF046#16, 0x5FAA#16], Instr.fmulx 11#5 13#5 10#5 0#8),
    ([0xFF00#16, 0x0809#16, 0xF046#16, 0x5FAA#16], Instr.fmulx 11#5 13#5 10#5 9#8),
    ([0xF046#16, 0x67AF#16], Instr.fmulg 22#6 26#6 20#6),
    ([0xF046#16, 0x77A2#16], Instr.fmula 22#6 (.reg 26#6) 20#6),
    ([0xF046#16, 0x16AD#16], Instr.fcmpEQ (.reg 22#6) 20#6),
    ([0xF046#16, 0x1EAD#16], Instr.fcmpXEQ 11#5 10#5),
    ([0xF24F#16, 0xD4F8#16], Instr.fcmpGE 0x3FF8000000000000#64 20#6),
    ([0xF046#16, 0x16BD#16], Instr.fcmpGT (.reg 22#6) 20#6),
    ([0xF046#16, 0x1EBD#16], Instr.fcmpXGT 11#5 10#5),
    ([0xF046#16, 0x67A6#16], Instr.fdiv 22#6 26#6 20#6),
    ([0xF046#16, 0x6FA6#16], Instr.fdivx 11#5 13#5 10#5),
    ([0xF046#16, 0x67A7#16], Instr.fdiva 22#6 26#6 20#6)].all reads = true := by decide
theorem test_decode_gfp_3 : [
    ([0xF046#16, 0x6FA7#16], Instr.fdivxa 11#5 13#5 10#5),
    ([0xF046#16, 0x16CD#16], Instr.fsqrt 22#6 20#6),
    ([0xF046#16, 0x1ECD#16], Instr.fsqrtx 11#5 10#5),
    ([0xF046#16, 0x16DD#16], Instr.fsqrta 22#6 20#6),
    ([0xF046#16, 0x1EDD#16], Instr.fsqrtxa 11#5 10#5),
    ([0xF046#16, 0x160D#16], Instr.fldcf 22#6 20#6),
    ([0xF046#16, 0x161D#16], Instr.fldchf 22#6 20#6),
    ([0xF046#16, 0x162D#16], Instr.fldci 22#6 20#6),
    ([0xF046#16, 0x163D#16], Instr.fldch 22#6 20#6),
    ([0xF046#16, 0x16FD#16], Instr.fldciu 22#6 20#6),
    ([0xF046#16, 0x16EF#16], Instr.fldcisL 22#6 20#6),
    ([0xF046#16, 0x16FF#16], Instr.fldciuL 22#6 20#6),
    ([0xF894#16, 0xC500#16], Instr.fldchImm 0xC500000000#40 20#6),
    ([0xFF00#16, 0x0001#16, 0xF894#16, 0x40A0#16], Instr.fldcfImm 0x40A00001#32 20#6),
    ([0xF046#16, 0x164D#16], Instr.fstcf 22#6 20#6),
    ([0xF046#16, 0x165D#16], Instr.fstchf 22#6 20#6)].all reads = true := by decide
theorem test_decode_gfp_4 : [
    ([0xF046#16, 0x166D#16], Instr.fstci 22#6 20#6),
    ([0xF046#16, 0x167D#16], Instr.fstch 22#6 20#6),
    ([0xFF00#16, 0x000C#16, 0xF046#16, 0x57AB#16], Instr.fmac 22#6 26#6 12#6 20#6),
    ([0xFF00#16, 0x000C#16, 0xF046#16, 0x5FAB#16], Instr.fmacx 11#5 13#5 6#5 10#5),
    ([0xFF00#16, 0x010C#16, 0xF046#16, 0x57AB#16], Instr.fmas 22#6 26#6 12#6 20#6),
    ([0xFF00#16, 0x010C#16, 0xF046#16, 0x5FAB#16], Instr.fmasx 11#5 13#5 6#5 10#5),
    ([0xFF00#16, 0x020C#16, 0xF046#16, 0x57AB#16], Instr.fmrs 22#6 26#6 12#6 20#6),
    ([0xFF00#16, 0x020C#16, 0xF046#16, 0x5FAB#16], Instr.fmrsx 11#5 13#5 6#5 10#5),
    ([0xFF00#16, 0x030C#16, 0xF046#16, 0x57AB#16], Instr.fmra 22#6 26#6 12#6 20#6),
    ([0xFF00#16, 0x030C#16, 0xF046#16, 0x5FAB#16], Instr.fmrax 11#5 13#5 6#5 10#5),
    ([0xFF00#16, 0x040C#16, 0xF046#16, 0x57AB#16], Instr.pmacH 22#6 26#6 12#6 20#6),
    ([0xFF00#16, 0x040C#16, 0xF046#16, 0x5FAB#16], Instr.pmacF 11#5 13#5 6#5 10#5),
    ([0xFF00#16, 0x050C#16, 0xF046#16, 0x57AB#16], Instr.pmasH 22#6 26#6 12#6 20#6),
    ([0xFF00#16, 0x050C#16, 0xF046#16, 0x5FAB#16], Instr.pmasF 11#5 13#5 6#5 10#5),
    ([0xFF00#16, 0x060C#16, 0xF046#16, 0x57AB#16], Instr.pmrsH 22#6 26#6 12#6 20#6),
    ([0xFF00#16, 0x060C#16, 0xF046#16, 0x5FAB#16], Instr.pmrsF 11#5 13#5 6#5 10#5)].all reads = true := by decide
theorem test_decode_gfp_5 : [
    ([0xFF00#16, 0x070C#16, 0xF046#16, 0x57AB#16], Instr.pmraH 22#6 26#6 12#6 20#6),
    ([0xFF00#16, 0x070C#16, 0xF046#16, 0x5FAB#16], Instr.pmraF 11#5 13#5 6#5 10#5),
    ([0xF046#16, 0x160F#16], Instr.pcvtSB2HL 22#6 20#6),
    ([0xF046#16, 0x1E0F#16], Instr.pcvtUB2HL 22#6 20#6),
    ([0xF046#16, 0x161F#16], Instr.pcvtSB2HH 22#6 20#6),
    ([0xF046#16, 0x1E1F#16], Instr.pcvtUB2HH 22#6 20#6),
    ([0xF046#16, 0x162F#16], Instr.pcvtSW2FL 22#6 20#6),
    ([0xF046#16, 0x1E2F#16], Instr.pcvtUW2FL 22#6 20#6),
    ([0xF046#16, 0x163F#16], Instr.pcvtSW2FH 22#6 20#6),
    ([0xF046#16, 0x1E3F#16], Instr.pcvtUW2FH 22#6 20#6),
    ([0xF046#16, 0x164F#16], Instr.pcvtH2SB 22#6 20#6),
    ([0xF046#16, 0x1E4F#16], Instr.pcvtH2UB 22#6 20#6),
    ([0xF046#16, 0x165F#16], Instr.pcvtSW2H 22#6 20#6),
    ([0xF046#16, 0x1E5F#16], Instr.pcvtUW2H 22#6 20#6),
    ([0xF046#16, 0x166F#16], Instr.pcvtF2SW 22#6 20#6),
    ([0xF046#16, 0x1E6F#16], Instr.pcvtF2UW 22#6 20#6)].all reads = true := by decide
theorem test_decode_gfp_6 : [
    ([0xF046#16, 0x167F#16], Instr.pcvtH2SW 22#6 20#6),
    ([0xF046#16, 0x1E7F#16], Instr.pcvtH2UW 22#6 20#6),
    ([0xF046#16, 0x16CF#16], Instr.pcvtH2AL 22#6 20#6),
    ([0xF046#16, 0x16DF#16], Instr.pcvtAL2H 22#6 20#6)].all reads = true := by decide

/-! ### The test vectors of 95_test_vectors.md, by their numbers there -/

/-- The bytes the memory vectors share. -/
def bytes : List Byte := [0x80#8, 0x11#8, 0x22#8, 0x33#8, 0x44#8, 0x55#8, 0x66#8, 0x77#8, 0x88#8, 0#8, 0#8, 0#8, 0#8, 0#8, 0xFE#8,
  0xFF#8, 0#8, 0#8, 0#8, 0#8, 0xFE#8, 0xFF#8, 0#8, 0#8, 0#8, 0#8, 0#8, 0#8, 0#8, 0#8, 0#8, 0#8, 1#8, 0#8, 0#8, 0x80#8]
theorem test_v40_1_2_3_4 :
    seen (fun t => getReg t 4#6) (one [0x1043#16] (start 0x0#64 [(3#6, 0xFFFFFFFFFFFFFFFF#64), (4#6, 1#64)])) = some 0#64 ∧
    seen (fun t => getReg t 4#6) (one [0xF043#16, 0x1050#16] (start 0x0#64 [(3#6, 2#64), (5#6, 3#64)])) = some 5#64 ∧
    seen (fun t => getReg t 4#6) (one [0xF243#16, 0x11FF#16] (start 0x0#64 [])) = some 0xFFFFFFFFFFFFFFFF#64 ∧
    seen (fun t => getReg t 4#6) (one [0xF243#16, 0x1000#16] (start 0x0#64 [])) = some 0xFFFFFFFFFFFFFE00#64 := by decide
theorem test_v40_5_6_8_9 :
    seen (fun t => getReg t 4#6) (one [0xC4FF#16] (start 0x0#64 [])) = some 0xFFFFFFFFFFFFFFFF#64 ∧
    seen (fun t => (getReg t 4#6, srT t)) (one [0x1243#16] (start 0x0#64 [(3#6, 1#64), (4#6, 0xFFFFFFFFFFFFFFFF#64)])) = some (0#64, true) ∧
    seen (fun t => (getReg t 4#6, srT t)) (one [0x1343#16] (start 0x0#64 [(3#6, 1#64)])) = some (0xFFFFFFFFFFFFFFFF#64, true) ∧
    seen (fun t => getReg t 4#6) (one [0xF243#16, 0x3001#16] (start 0x0#64 [(3#6, 0x7FFFFFFF#64)])) = some 0xFFFFFFFF80000000#64 := by decide
theorem test_v40_10_11_12_13 :
    seen (fun t => getReg t 4#6) (one [0xF243#16, 0x3801#16] (start 0x0#64 [(3#6, 0x12345678FFFFFFFF#64)])) = some 0#64 ∧
    seen (fun t => getReg t 4#6) (one [0xF043#16, 0x7057#16] (start 0x0#64 [(3#6, 0x1234000000001000#64), (5#6, 0xFFFF000000000FF0#64)])) = some 0x10#64 ∧
    seen (fun t => getReg t 4#6) (one [0x1744#16] (start 0x0#64 [(4#6, 0x77#64)])) = some 0#64 ∧
    seen (fun t => getReg t 4#6) (one [0xF243#16, 0x50FF#16] (start 0x0#64 [(3#6, 0x123456789ABCDEF0#64)])) = some 0xF0#64 := by decide
theorem test_v40_14_15_29 :
    seen (fun t => getReg t 4#6) (one [0x3340#16] (start 0x0#64 [])) = some 0xFFFFFFFFFFFFFFFF#64 ∧
    seen (fun t => getReg t 4#6) (one [0x3341#16] (start 0x0#64 [(4#6, 1#64)])) = some 0xFFFFFFFFFFFFFFFF#64 ∧
    seen (fun t => getReg t 4#6) (one [0xF043#16, 0x5050#16] (start 0x0#64 [(3#6, 1#64), (5#6, 2#64)])) = some 2#64 := by decide
theorem test_v41_1_2_3_4 :
    seen srT (one [0x2C45#16] (start 0x0#64 [(4#6, 5#64)])) = some true ∧
    seen srT (one [0x1C43#16] (start 0x0#64 [(3#6, 0x100000005#64), (4#6, 5#64)])) = some true ∧
    seen srT (one [0x5F43#16] (start 0x0#64 [(3#6, 0x100000005#64), (4#6, 5#64)])) = some false ∧
    seen srT (one [0x1E43#16] (start 0x0#64 [(4#6, 5#64), (3#6, 3#64)])) = some true := by decide
theorem test_v41_5_6_7_8 :
    seen srT (one [0x1E43#16] (start 0x0#64 [(4#6, 0xFFFFFFFFFFFFFFFF#64), (3#6, 1#64)])) = some false ∧
    seen srT (one [0x1D43#16] (start 0x0#64 [(4#6, 0xFFFFFFFFFFFFFFFF#64), (3#6, 1#64)])) = some true ∧
    seen srT (one [0x2F40#16] (start 0x0#64 [(4#6, 0xFFFFFFFF80000000#64)])) = some false ∧
    seen srT (one [0x1443#16] (start 0x0#64 [(3#6, 0xF0#64), (4#6, 0x0F#64)])) = some true := by decide
theorem test_v41_9_10_11_12 :
    seen srT (one [0x1443#16] (start 0x0#64 [(3#6, 0x100000000#64), (4#6, 0x100000000#64)])) = some true ∧
    seen srT (one [0x5443#16] (start 0x0#64 [(3#6, 0x100000000#64), (4#6, 0x100000000#64)])) = some false ∧
    seen (fun t => getReg t 4#6) (one [0xF043#16, 0x9850#16] (start 0x0#64 [(3#6, 5#64)])) = some 1#64 ∧
    seen (fun t => getReg t 4#6) (one [0xF043#16, 0x9855#16] (start 0x0#64 [(3#6, 7#64), (5#6, 7#64)])) = some 0#64 := by decide
theorem test_v41_13_14_16 :
    seen (fun t => getReg t 4#6) (one [0xF043#16, 0x9803#16] (start 0x0#64 [(3#6, 0xFFFFFFFFFFFFFFFF#64)])) = some 1#64 ∧
    seen srT (one [0x3050#16] (start 0x0#64 [])) = some true ∧
    seen (fun t => getReg t 4#6) (one [0xF06F#16, 0x3040#16] (start 0x1#64 [])) = some 1#64 := by decide
theorem test_v42_1_2_3_4 :
    seen (fun t => getReg t 4#6) (one [0xF243#16, 0x8004#16] (start 0x0#64 [(3#6, 0x08000000#64)])) = some 0xFFFFFFFF80000000#64 ∧
    seen (fun t => getReg t 4#6) (one [0xF243#16, 0x80FC#16] (start 0x0#64 [(3#6, 0x80000000#64)])) = some 0xFFFFFFFFF8000000#64 ∧
    seen (fun t => getReg t 4#6) (one [0xF243#16, 0x80E0#16] (start 0x0#64 [(3#6, 0x1234567880000001#64)])) = some 0xFFFFFFFF80000001#64 ∧
    seen (fun t => getReg t 4#6) (one [0xF243#16, 0x88FF#16] (start 0x0#64 [(3#6, 0x8000000000000000#64)])) = some 0xC000000000000000#64 := by decide
theorem test_v42_5_6_20 :
    seen (fun t => getReg t 4#6) (one [0xF243#16, 0x90F8#16] (start 0x0#64 [(3#6, 0xFFFFFFFF80000000#64)])) = some 0x0000000000800000#64 ∧
    seen (fun t => getReg t 4#6) (one [0xF243#16, 0x9820#16] (start 0x0#64 [(3#6, 1#64)])) = some 0x100000000#64 ∧
    seen (fun t => (getReg t 0#6, srT t)) (one [0x30E0#16] (start 0x0#64 [(0#6, 7#64), (1#6, 2#64)])) = some (0xC#64, true) := by decide
theorem test_v43_1_2_3_4 :
    seen (fun t => getReg t 0#6) (one [0xA123#16] (start 0x0#64 [])) = some 0x123#64 ∧
    seen (fun t => getReg t 0#6) (one [0xFA12#16, 0x3456#16] (start 0x0#64 [])) = some 0x123456#64 ∧
    seen (fun t => getReg t 0#6) (one [0xB000#16] (start 0x0#64 [])) = some 0xFFFFFFFFFFFFF000#64 ∧
    seen (fun t => getReg t 4#6) (one [0xD4FF#16] (start 0x0#64 [])) = some 0xFFFFFFFFFFFFFFFF#64 := by decide
theorem test_v43_5_6_7_8 :
    seen (fun t => getReg t 20#6) (one [0xF814#16, 0x1234#16] (start 0x0#64 [])) = some 0x1234#64 ∧
    seen (fun t => getReg t 4#6) (one [0xF240#16, 0xC1FF#16] (start 0x0#64 [])) = some 0x1FF#64 ∧
    seen (fun t => getReg t 4#6) (one [0xF824#16, 0xFFFE#16] (start 0x0#64 [])) = some 0xFFFFFFFFFFFFFFFE#64 ∧
    seen (fun t => getReg t 4#6) (one [0xF241#16, 0xC200#16] (start 0x0#64 [])) = some 0xFFFFFFFFFFFFFE00#64 := by decide
theorem test_v43_9_10_12_13 :
    seen (fun t => getReg t 4#6) (one [0xFE12#16, 0x3456#16, 0xFE78#16, 0x9ABC#16, 0xF804#16, 0xDEF0#16] (start 0x0#64 [])) = some 0x123456789ABCDEF0#64 ∧
    seen (fun t => getReg t 4#6) (one [0xF240#16, 0xC901#16] (start 0x0#64 [])) = some 0x1010000#64 ∧
    seen (fun t => getReg t 0#6) (one [0x2634#16] (start 0x0#64 [(0#6, 0xFF00000000000012#64)])) = some 0x1234#64 ∧
    seen (fun t => getReg t 4#6) (one [0xF864#16, 0x5678#16] (start 0x0#64 [(4#6, 0x1234#64)])) = some 0x12345678#64 := by decide
theorem test_v44_1_2_4_9 :
    seen (fun t => getReg t 4#6) (one [0x0843#16] (withBytes 0x2000 bytes (start 0x0#64 [(3#6, 0x2000#64)]))) = some 0xFFFFFFFFFFFFFF80#64 ∧
    seen (fun t => getReg t 4#6) (one [0x5043#16] (withBytes 0x2000 bytes (start 0x0#64 [(3#6, 0x2000#64)]))) = some 0x80#64 ∧
    seen (fun t => getReg t 4#6) (one [0x0B43#16] (withBytes 0x2000 bytes (start 0x0#64 [(3#6, 0x2001#64)]))) = some 0x8877665544332211#64 ∧
    seen (fun t => getReg t 4#6) (one [0xF143#16, 0x0810#16] (start 0x0#64 [(3#6, 0x2000#64)])) = some 0x2010#64 := by decide
theorem test_v44_10_3_11_5 :
    seen (fun t => getReg t 4#6) (one [0x4F43#16] (start 0x0#64 [(3#6, 0x2000#64), (0#6, 3#64)])) = some 0x2018#64 ∧
    seen (fun t => (List.range 8).map fun i => (Memory.read t.mem (0x3000 + i)).toNat) (one [0x0343#16] (start 0x0#64 [(3#6, 0x3000#64), (4#6, 0x0102030405060708#64)])) = some [8,7,6,5,4,3,2,1] ∧
    seen (fun t => getReg t 4#6) (one [0xE143#16, 0x8000#16] (withBytes 0x2000 bytes (start 0x0#64 [(3#6, 0x2000#64)]))) = some 0#64 ∧
    seen (fun t => getReg t 4#6) (one [0xF143#16, 0x9002#16] (withBytes 0x2000 bytes (start 0x0#64 [(3#6, 0x2010#64)]))) = some 0xFFFFFFFFFFFFFFFE#64 := by decide
theorem test_v44_6 :
    seen (fun t => getReg t 3#6) (one [0x4432#16] (withBytes 0x2000 bytes (start 0x0#64 [(15#6, 0x2018#64)]))) = some 0xFFFFFFFF80000001#64 := by decide
theorem test_v45_4_1 :
    seen (fun t => (List.range 8).map fun i => (Memory.read t.mem (0x3010 + i)).toNat) (one [0xF143#16, 0x5002#16] (start 0x0#64 [(3#6, 0x3000#64)])) = some [0x34,0x12,0,0,0,0,0,0] ∧
    seen (fun t => getReg t 16#6) (one [0x2912#16] (withBytes 0x2000 [0x11#8, 0x22#8, 0x33#8, 0x44#8, 0x55#8, 0x66#8, 0x77#8, 0x88#8] (start 0x0#64 [(15#6, 0x1FF0#64)]))) = some 0x8877665544332211#64 := by decide
theorem test_v46_1_2_3_4 :
    seen State.pc (one [0x2003#16] (start 0x0#64 [])) = some 0x1008#48 ∧
    seen State.pc (one [0x20FF#16] (start 0x0#64 [])) = some 0x1000#48 ∧
    seen State.pc (one [0xF000#16, 0xC004#16] (start 0x0#64 [])) = some 0x100C#48 ∧
    seen State.pc (one [0xF0FF#16, 0xCFFE#16] (start 0x0#64 [])) = some 0x1000#48 := by decide
theorem test_v46_5_5b_6_7 :
    seen State.pc (one [0x2204#16] (start 0x1#64 [])) = some 0x100A#48 ∧
    seen State.pc (one [0x2204#16] (start 0x0#64 [])) = some 0x1002#48 ∧
    seen State.pc (one [0x23FE#16] (start 0x0#64 [])) = some 0x0FFE#48 ∧
    seen State.pc (one [0xE000#16, 0xC004#16] (start 0x1#64 [])) = some 0x100C#48 := by decide
theorem test_v46_7b_8_9_10 :
    seen State.pc (one [0xE000#16, 0xC004#16] (start 0x0#64 [])) = some 0x1004#48 ∧
    seen (fun t => (t.lr, t.pc)) (one [0xF000#16, 0xD010#16] { (start 0x08000101#64 []) with sr := 0x48000101#64 }) = some (0x0109000000001004#64, 0x1024#48) ∧
    seen (fun t => (t.sr, t.pc)) (one [0x3010#16] { (start 0x0#64 []) with lr := 0x0109000000001004#64 }) = some (0x48000101#64, 0x1004#48) ∧
    seen State.pc (one [0x3250#16] (start 0x0#64 [(5#6, 0x12340#64)])) = some 0x12340#48 := by decide
theorem test_v46_12_13_14_15 :
    seen State.pc (one [0xFF00#16, 0x0001#16, 0xFA00#16, 0x2340#16] (start 0x0#64 [])) = some 0x01002340#48 ∧
    seen State.pc (one [0xF123#16, 0xD004#16] (start 0x0#64 [(2#6, 5#64), (3#6, 0xFFFFFFFF#64)])) = some 0x100C#48 ∧
    seen State.pc (one [0xF123#16, 0xE004#16] (start 0x0#64 [(2#6, 0xFFFFFFFF#64), (3#6, 5#64)])) = some 0x100C#48 ∧
    seen State.pc (one [0xF145#16, 0xF002#16] (start 0x0#64 [(4#6, 0x100000007#64), (5#6, 7#64)])) = some 0x1008#48 := by decide
theorem test_v46_15b_16_17_18 :
    seen State.pc (one [0xF145#16, 0xF802#16] (start 0x0#64 [(4#6, 0x100000007#64), (5#6, 7#64)])) = some 0x1004#48 ∧
    seen State.pc (one [0xF244#16, 0xE010#16] (start 0x0#64 [])) = some 0x1024#48 ∧
    seen State.pc (one [0xF245#16, 0xE3F0#16] (start 0x0#64 [])) = some 0x0FE4#48 ∧
    seen State.pc (one [0xF02C#16, 0x3030#16] (start 0x0#64 [(3#6, 3#64)])) = some 0x1010#48 := by decide
theorem test_v46_19 :
    refusal (one [0x3250#16] (start 0x0#64 [(5#6, 0x1001#64)])) = some .oddTarget := by decide
theorem test_v47_1_2_3_4 :
    seen (fun t => (t.lr, t.pc)) (one [0x4814#16] (start 0x0#64 [(4#6, 0x1234#64)])) = some (0x1234#64, 0x1002#48) ∧
    seen (fun t => getReg t 4#6) (one [0x4942#16] (start 0x1#64 [])) = some 0x40000001#64 ∧
    seen (fun t => (t.spc, t.faults)) (one [0x4943#16] { (start 0x0#64 []) with sr := 0#64 }) = some (0x1000#64, 1) ∧
    seen (fun t => (slice t.exsr 0 16, t.spc, t.pc)) (one [0x3653#16] (start 0x0#64 [])) = some (0xC085#16, 0x1002#64, 0x8010#48) := by decide
theorem test_v47_6_5_7_8 :
    refusal (one [0x3648#16] { (start 0x0#64 [(4#6, 0xF001#64)]) with sr := 0#64 }) = some .trapPattern ∧
    seen (fun t => (slice t.exsr 0 16, t.spc, t.pc)) (one [0x3648#16] (start 0x0#64 [(4#6, 0x000012345678E001#64)])) = some (0xE001#16, 0x1002#64, 0x8020#48) ∧
    seen (fun t => (t.spc, t.faults)) (one [0x3030#16] (start 0x0#64 [])) = some (0x1000#64, 1) ∧
    seen (fun t => (t.spc, t.faults)) (one [0x30F0#16] (start 0x0#64 [])) = some (0x1000#64, 1) := by decide
theorem test_v47_9 :
    seen (fun t => (t.spc, t.faults)) (one [0x30C0#16] { (start 0x0#64 []) with sr := 0#64 }) = some (0x1000#64, 1) := by decide
theorem test_v50_14_14b :
    seen (fun t => getReg t 2#6) (one [0xF882#16, 0x3C00#16] (start 0x0#64 [])) = some 0x3FF0000000000000#64 ∧
    seen (fun t => getReg t 16#6) (one [0xF890#16, 0x4000#16] (start 0x0#64 [])) = some 0x4000000000000000#64 := by decide
theorem test_v30_1_2_4_5 :
    seen (fun t => getReg t 4#6) (one [0xFE00#16, 0x0001#16, 0xF243#16, 0x0000#16] (start 0x0#64 [(3#6, 7#64)])) = some 0x207#64 ∧
    seen (fun t => getReg t 4#6) (one [0xFEFF#16, 0xFFFF#16, 0xF243#16, 0x01FF#16] (start 0x0#64 [(3#6, 7#64)])) = some 6#64 ∧
    seen (fun t => getReg t 2#6) (one [0xFF00#16, 0x3FC0#16, 0xF882#16, 0x0000#16] (start 0x0#64 [])) = some 0x000007F800000000#64 ∧
    seen (fun t => getReg t 2#6) (one [0xFF00#16, 0x0000#16, 0xF882#16, 0x3FC0#16] (start 0x0#64 [])) = some 0x3FF8000000000000#64 := by decide
theorem test_v30_6_7_8_9 :
    seen (fun t => getReg t 6#6) (one [0xF443#16, 0x1050#16, 0xF063#16, 0x1070#16] (start 0x08000000#64 [(3#6, 1#64), (5#6, 2#64), (7#6, 4#64)])) = some 5#64 ∧
    refusal (one [0xF443#16, 0x1050#16, 0xF064#16, 0x1070#16] (start 0x08000000#64 [(3#6, 1#64), (5#6, 2#64), (7#6, 4#64)])) = some .bundleObligation ∧
    seen State.pc (one [0xF443#16, 0x1050#16, 0xF064#16, 0x1070#16] (start 0x0#64 [(3#6, 1#64), (5#6, 2#64), (7#6, 4#64)])) = some 0x1004#48 ∧
    seen (fun t => (t.spc, t.faults)) (one [0xF300#16, 0x0000#16] (start 0x0#64 [])) = some (0x1000#64, 1) := by decide
theorem test_v30_10_11 :
    seen (fun t => (t.spc, t.faults)) (one [0xE043#16, 0x10C9#16] (start 0x0#64 [])) = some (0x1000#64, 1) ∧
    seen State.pc (one [0x3A50#16] (start 0x0#64 [(21#6, 0x4444#64)])) = some 0x4444#48 := by decide

/-! ### Decoding: bits no row claims, prefixes, XG2 -/

/-- The letter e leaves E.q free (30_encoding.md R121): ADD, SUB, AND, OR, XOR, NOT, NEG. -/
theorem test_decode_free_q : [0x09#16, 0x19#16, 0x59#16, 0x69#16, 0x79#16, 0x0C#16, 0x1C#16].all (fun w =>
    decide (decode false [0xF043#16, 0x1800#16 ||| w] = decode false [0xF043#16, 0x1000#16 ||| w]) &&
      decide (decode false [0xF043#16, 0x1800#16 ||| w] ≠ .error .undefined)) = true := by decide
/-- CLRS may be predicated (R136); SHAD takes a Jumbo immediate (R155, C25). -/
theorem test_decode_predicated_and_jumbo :
    decode false [0xE000#16, 0x3060#16] = .ok { len := 4, pred := some true, wex := false, instr := .clrS } ∧
    decode false [0xFE12#16, 0x3456#16, 0xF243#16, 0x8078#16] =
      .ok { len := 8, pred := none, wex := false, instr := .shad 3#6 (.imm 0x12345678#64) 4#6 } := by decide
/-- XG2: E.q is bit 5 of the branch register (46_branch.md R546); the third inverted bit extends Ro (R171). -/
theorem test_decode_xg2 : decode true [0xF010#16, 0x3840#16] = .ok { len := 4, pred := none, wex := false, instr := .bra (.reg 36#6) } ∧
    decode true [0xD043#16, 0x1050#16] = .ok { len := 4, pred := none, wex := false, instr := .add 3#6 (.reg 37#6) 4#6 } := by decide

/-- XG2's WM and WI lengthen LDIZ's immediate without a sign (43_load_immediate.md R390, 30_encoding.md R170), and so
does one FE prefix before an F8 form or LDIMIZ (R155; the placing of the bits is log 17). -/
theorem test_decode_extended : decode true [0x9240#16, 0xC1FF#16] = .ok { len := 4, pred := none, wex := false, instr := .ldiz 0xDFF#64 4#6 } ∧
    decode false [0xFE12#16, 0x3456#16, 0xF804#16, 0xDEF0#16] =
      .ok { len := 8, pred := none, wex := false, instr := .ldiz 0x123456DEF0#64 4#6 } ∧
    decode false [0xFE12#16, 0x3456#16, 0xF240#16, 0xC878#16] =
      .ok { len := 8, pred := none, wex := false, instr := .ldimiz 0x2468AC78#64 4#6 } := by decide
/-- The byte offset of BNDCHK is extended (30_encoding.md R155, R160, R170), and FE gives FADD a Binary32 immediate (R155, as
the printed rows of FCMPEQ); the placing of the bits is log 17. -/
theorem test_decode_extended_offset :
    decode false [0xFE00#16, 0x0001#16, 0xF046#16, 0x1748#16] = .ok { len := 8, pred := none, wex := false, instr := .bndchkImm 0x76#64 20#6 } ∧
    decode false [0xFF00#16, 0x0001#16, 0xF046#16, 0x1748#16] = .ok { len := 8, pred := none, wex := false, instr := .bndchkImm 0x76#64 20#6 } ∧
    decode true [0xB046#16, 0x1748#16] = .ok { len := 4, pred := none, wex := false, instr := .bndchkImm 0xFFFFFFFFFFFFFFB6#64 20#6 } ∧
    decode false [0xFE3F#16, 0xF000#16, 0xF24E#16, 0xD800#16] =
      .ok { len := 8, pred := none, wex := false, instr := .fadd 4#6 (.imm 0x3FF0000000000000#64) 4#6 0#8 } ∧
    wellFormed (.bndchkImm 0x3F#64 20#6) = true ∧ wellFormed (.bndchkImm 0x40#64 20#6) = false := by decide
/-- DLR alone as a base scales its displacement (44_load_store.md R422, R426). -/
theorem test_address_of_dlr : effAddr (start 0#64 [(0#6, 0x2000#64)]) 8 (.indexDisp 0#6 1#6 3#11) = 0x2018#64 ∧
    effAddr (start 0#64 [(0#6, 0x2000#64)]) 4 (.indexSc 0#6 1#6 2#2 3#9) = 0x200C#64 := by decide

/-! ### Witnesses: states and operands that meet the hypotheses of each statement -/

/-- Supervisor mode, and User mode, at 0x1000. -/
def sup : State := start 0#64 []
def usr : State := { sup with sr := 0#64 }
/-- Supervisor mode with some registers. -/
def regs (l : List (Reg × Word)) : State := start 0#64 l

theorem witness_EncodedInstructionDecodesBack :
    wellFormed (.add 3#6 (.imm 0x1FF#64) 63#6) = true ∧ wellFormed (.ldi64 0#64 63#6) = true ∧ wellFormed .rte = true := by decide
theorem witness_StepRunsTheDecodedInstruction (sr : Word) (ws : List Half) (d : Decoded)
    (h : (sr, ws, d) ∈ [(0x40000000#64, [0x3000#16], { len := 2, pred := none, wex := false, instr := .nop }),
      (0x40000001#64, [0xE043#16, 0x1050#16], { len := 4, pred := some true, wex := false, instr := .add 3#6 (.reg 5#6) 4#6 }),
      (0x40000000#64, [0xE043#16, 0x1050#16], { len := 4, pred := some true, wex := false, instr := .add 3#6 (.reg 5#6) 4#6 }),
      (0x40000000#64, [0xF443#16, 0x1050#16], { len := 4, pred := none, wex := true, instr := .add 3#6 (.reg 5#6) 4#6 })]) :
    let s := placeWords ws { sup with sr := sr }
    deliverable (tick s) = none ∧ s.sleeping = false ∧ modeKnown s = true ∧ pcAligned s = true ∧
      (∃ s1, fetchInstr s.pc (tick s) = .ok ws s1) ∧ decode (isXG2 s) ws = .ok d ∧ srWXE s = false := by
  simp only [List.mem_cons, List.not_mem_nil, or_false, Prod.mk.injEq] at h
  rcases h with ⟨rfl, rfl, rfl⟩ | ⟨rfl, rfl, rfl⟩ | ⟨rfl, rfl, rfl⟩ | ⟨rfl, rfl, rfl⟩ <;>
    exact ⟨by decide, by decide, by decide, by decide, ⟨_, rfl⟩, by decide, by decide⟩
theorem witness_StepRunsTheDecodedInstruction_undefined : let s := placeWords [0xF300#16, 0x0000#16] sup
    deliverable (tick s) = none ∧ s.sleeping = false ∧ modeKnown s = true ∧ pcAligned s = true ∧
      (∃ s1, fetchInstr s.pc (tick s) = .ok [0xF300#16, 0x0000#16] s1) ∧
      decode (isXG2 s) [0xF300#16, 0x0000#16] = .error .undefined :=
  ⟨by decide, by decide, by decide, by decide, ⟨_, rfl⟩, by decide⟩
/-- A memory map with a device, a ROM, a ZERO and an RTS page, and a hole; RAM elsewhere. -/
def platform : State := { sup with map := [{ base := 0x8000, size := 0x1000, kind := .mmio }, { base := 0x9000, size := 0x1000, kind := .rom },
  { base := 0xA000, size := 0x1000, kind := .zeroPage }, { base := 0xB000, size := 0x1000, kind := .rtsPage },
  { base := 0xC000, size := 0x1000, kind := .unmapped }] }
theorem witness_FetchReadsWordsFromMemory : sup.mmcr = 0#64 ∧ sup.tripwires = [] ∧ sup.stale = [] ∧
    platform.mmcr = 0#64 ∧ platform.tripwires = [] ∧ platform.stale = [] ∧
    (∀ j, j < 4 → regionOf sup.map ((vaOf sup 0x1000#64 + j) % vaSpace sup) ≠ .unmapped ∧
      regionOf sup.map ((vaOf sup 0x1000#64 + j) % vaSpace sup) ≠ .mmio) ∧
    (∀ j, j < 4 → regionOf platform.map ((vaOf platform 0x7FFE#64 + j) % vaSpace platform) ≠ .unmapped) ∧
    regionOf platform.map ((vaOf platform 0x7FFE#64 + 2) % vaSpace platform) = .mmio := by decide

/-- Interrupts enabled and one pending. -/
def irq : State := { sup with sr := 0x4000000C#64, pending := [{ code := 0xC001#16, tea := none }] }
theorem witness_InterruptIsTakenBeforeTheInstruction : ∃ c, deliverable (tick irq) = some c := by
  have hm : 0xC001#16 ∈ (tick irq).pending.map PendingIrq.code := (mem_codes_foldl_addPending _ _ _).2 (.inl (by decide))
  have hd : deliverable (tick irq) = firstCode ((tick irq).pending.map PendingIrq.code) := by
    have hb : srBL (tick irq) = false := by decide
    have hl : srIPL (tick irq) = 3#2 := by decide
    have hf : ∀ v, levelPasses 3#2 v = true := fun _ => rfl
    simp only [deliverable, hb, hl, hf, List.filter_true]
    rfl
  rw [hd]
  generalize (tick irq).pending.map PendingIrq.code = l at hm
  cases l with
  | nil => exact absurd hm List.not_mem_nil
  | cons c t => simp only [firstCode]; split <;> exact ⟨_, rfl⟩
/-- A routed TRAP's code becomes pending with its TEA value, a later one of the same code replaces the value, and the entry writes
it to TEA (60_exceptions.md R885). -/
theorem test_routed_trap_tea :
    let s : State := { irq with
      pending := [⟨0xE001#16, some 5#64⟩, ⟨0xC001#16, none⟩].foldl addPending [⟨0xE001#16, some 4#64⟩] }
    s.pending = [⟨0xE001#16, some 5#64⟩, ⟨0xC001#16, none⟩] ∧
      (takeInterrupt 0xE001#16 s).tea = 5#64 ∧ (takeInterrupt 0xC001#16 { s with tea := 9#64 }).tea = 9#64 := by decide
/-- A prediction is true of {1, denormal} >= 0, of {Inf, 1} >= 1 and of {-Inf, 1} <= 1 whatever the guess (48_gsv_media.md R704). -/
theorem test_predictDot : predictDot .single 0#2 [0x3F800000, 1] false = true ∧ predictDot .single 2#2 [0x7F800000, 0x3F800000] false = true ∧
    predictDot .single 3#2 [0xFF800000, 0x3F800000] false = true ∧ predictDot .half 2#2 [0x3C00, 0x8001, 0, 0] false = false ∧
    predictDot .half 0#2 [0x8001, 1, 0, 0] false = true := by decide
theorem witness_InterruptSelectionAndSleep : (∃ t, step (placeWords [0x3000#16] sup) = .next t) ∧
    deliverable irq = some 0xC001#16 ∧ srBL irq = false ∧ srIPL irq = 3#2 ∧ irq.pending ≠ [] ∧ srBL State.reset = true ∧
      srIPL sup = 0#2 ∧ { sup with sleeping := true }.sleeping = true ∧ deliverable (tick { sup with sleeping := true }) = none :=
  ⟨⟨_, rfl⟩, by decide⟩
theorem witness_FaultAbandonsTheWholeBundle :
    let l : List Slot := [{ addr := 0x1000#48, d := { len := 4, pred := none, wex := true, instr := .add 3#6 (.reg 5#6) 4#6 } },
      { addr := 0x1004#48, d := { len := 2, pred := none, wex := false, instr := .breakOp } }]
    (∃ u, runSlots l sup = .next u ∧ u.faults ≠ sup.faults) ∧ ∃ u, runSlots (l.take 1) sup = .next u ∧ u.faults = sup.faults :=
  ⟨⟨_, rfl, by decide⟩, _, rfl, by decide⟩
theorem witness_EveryStepKeepsTheInvariant :
    (Memory.wf (placeWords [0x3000#16] sup).mem = true ∧ (placeWords [0x3000#16] sup).sr &&& srReserved = 0#64 ∧
      (placeWords [0x3000#16] sup).tlb = [] ∧ (placeWords [0x3000#16] sup).pending = [] ∧ (placeWords [0x3000#16] sup).stale = [] ∧
      (placeWords [0x3000#16] sup).tripwires = []) ∧ ∃ t, step (placeWords [0x3000#16] sup) = .next t :=
  ⟨by decide, _, rfl⟩
theorem witness_ExceptionEntrySavesAndRedirects :
    slice (0x8000#16) 12 4 = 0x8#4 ∧ slice (0xC080#16) 12 4 = 0xC#4 ∧ slice (0xA000#16) 12 4 = 0xA#4 ∧ slice (0xE00F#16) 12 4 = 0xE#4 := by
  decide
theorem witness_ReturnRestoresWhatEntrySaved :
    let s := { sup with spc := 0x2000#64, exsr := 0x40000003#32 ++ 0x8001#32 }
    supervisor s = true ∧ (slice s.sr 32 32 ++ slice s.exsr 32 32 : Word) &&& srReserved = 0#64 ∧
      jumpable { s with sr := slice s.sr 32 32 ++ slice s.exsr 32 32 } (slice s.spc 0 48) ∧
      s.sr &&& srReserved = 0#64 ∧ jumpable s s.pc := by
  unfold jumpable; decide
theorem witness_FaultingInstructionWritesNothing : ∃ t, exec .breakOp sup = .next t ∧ t.faults ≠ sup.faults := ⟨_, rfl, by decide⟩
theorem witness_SupervisorInstructionsTrapInUserMode : supervisor usr = false := by decide
theorem witness_UserModeKeepsSupervisorState :
    supervisor usr = false ∧ ∃ t, exec (.add 3#6 (.reg 5#6) 4#6) usr = .next t := ⟨by decide, _, rfl⟩
theorem witness_SupervisorModeIsEnteredByTrapOrSventr :
    supervisor usr = false ∧ ∃ t, exec .breakOp usr = .next t ∧ supervisor t = true := ⟨by decide, _, rfl, by decide⟩
theorem witness_BreakAndTrapTakeTheirExceptions : supervisor sup = true ∧ supervisor usr = false ∧
    (let c : Half := slice (getReg (regs [(4#6, 0x1234E001#64)]) 4#6) 0 16; slice c 12 4 = 0xE#4 ∧ slice c 8 4 = 0#4) ∧
    (let c : Half := slice (getReg (regs [(4#6, 0x1234EF01#64)]) 4#6) 0 16; slice c 12 4 = 0xE#4 ∧ slice c 8 4 ≠ 0#4) ∧
    (let c : Half := slice (getReg (regs [(4#6, 0x1234C001#64)]) 4#6) 0 16; slice c 12 4 = 0xC#4 ∧ slice c 8 4 = 0#4) ∧
    (let c : Half := slice (getReg (regs [(4#6, 0x1234FF01#64)]) 4#6) 0 16; slice c 12 4 = 0xF#4) ∧
    (let c : Half := slice (getReg usr 4#6) 0 16;
      ¬ (slice c 12 4 = 0xE#4 ∨ supervisor usr = true ∧ (slice c 12 4 = 0xC#4 ∨ ∃ e : Exc, c = e.code))) := by
  refine ⟨by decide, by decide, by decide, by decide, by decide, by decide, ?_⟩
  intro c h
  exact h.elim (by decide) fun h => absurd h.1 (by decide)
theorem witness_BreakAndTrapTakeTheirExceptions_code (e : Exc) :
    (slice (getReg (regs [(4#6, e.code.setWidth 64)]) 4#6) 0 16 : Half) = e.code := by
  have h : getReg (regs [(4#6, e.code.setWidth 64)]) 4#6 = e.code.setWidth 64 := rfl
  rw [h]; unfold slice; ext k hk; simp [hk]; omega

/-- Pairs that may be used, and each of the four that may not (X0, X14, X32, X46), as GivesPair names them. -/
theorem witness_pairs : [1#5, 6#5, 8#5, 15#5, 22#5, 24#5, 31#5].all pairAllowed = true ∧
    ∀ p ∈ [0#5, 7#5, 16#5, 23#5], [p, 1#5].all pairAllowed = false ∧ [1#5, p].all pairAllowed = false := by decide
theorem witness_CarriesBinaryAndDecimal : bcdValid 0x9999999999999999#64 = true ∧ bcdValid 0#64 = true ∧
    ¬ (bcdValid 0xA#64 = true ∧ bcdValid 0#64 = true) := by decide
theorem witness_NeuronAndBitFields_neuron :
    (0x07FFFFFFFFFFFFFF#64).extractLsb' 59 5 = 0#5 ∧ (0x0800000000000000#64).extractLsb' 59 5 ≠ 0#5 := by decide
/-- What BITMOV asks of a control word of a w-bit form (shift, low and high position), and that high is above low. -/
def fieldOk (w : Nat) (c : BitVec 24) : Bool :=
  decide (-(w : Int) < (slice c 0 8).toInt) && decide ((slice c 0 8).toInt < w) && decide ((slice c 8 8).toNat ≤ w) && decide ((slice c 16 8).toNat ≤ w)
def fieldAbove (c : BitVec 24) : Bool := decide ((slice c 8 8).toNat < (slice c 16 8).toNat)
/-- The control words it accepts and refuses at the ends of its ranges. -/
theorem witness_NeuronAndBitFields_fields :
    [0x000000#24, 0x40003F#24, 0x0040C1#24, 0x403FC1#24].all (fieldOk 64) = true ∧
    [0x000000#24, 0x80007F#24, 0x008081#24, 0x807F81#24].all (fieldOk 128) = true ∧
    [0x000040#24, 0x0000C0#24, 0x004100#24, 0x410000#24].any (fieldOk 64) = false ∧
    [0x000080#24, 0x008100#24, 0x810000#24].any (fieldOk 128) = false ∧
    fieldAbove 0x403F00#24 = true ∧ fieldAbove 0x404000#24 = false := by decide
theorem witness_PredicateStackCommands :
    (∀ e ∈ [(0x1C#5, 0), (0x1D#5, 1), (0x1E#5, 2), (0x1F#5, 3)], e.1.toNat % 4 = e.2) ∧ (∀ i ∈ [0x0E#5, 0x17#5], 0x0E ≤ i.toNat ∧ i.toNat ≤ 0x17) ∧
      (∀ i ∈ [0x09#5, 0x0D#5, 0x18#5, 0x1F#5], (0x09 ≤ i.toNat ∧ i.toNat ≤ 0x0D) ∨ 0x18 ≤ i.toNat) := by decide
theorem witness_BarrelShifts :
    let r (v : Word) : Int := (BitVec.ofNat 8 (getReg (regs [(5#6, v)]) 5#6).toNat).toInt
    0 ≤ r 0#64 ∧ 0 ≤ r 0x7F#64 ∧ r 0x80#64 < 0 ∧ r 0xFF#64 < 0 := by decide
/-- Operands of each clause of the division statement: dividend and divisor. -/
theorem witness_DivisionLawAndItsGaps :
    let lo (v : Word) : BitVec 32 := v.setWidth 32
    (let a := 0x8000000000000000#64; let b := 1#64; b ≠ 0#64 ∧ (a.toInt ≠ -(2 ^ 63) ∨ b.toInt ≠ -1)) ∧
    (let a := 0xFFFFFFFF80000000#64; let b := 1#64
      a.toInt = (lo a).toInt ∧ b.toInt = (lo b).toInt ∧ b ≠ 0#64 ∧ (a.toInt ≠ -(2 ^ 31) ∨ b.toInt ≠ -1)) ∧
    (let a := 0xFFFFFFFF#64; let b := 0xFFFFFFFF#64; a.toNat < 2 ^ 32 ∧ b.toNat < 2 ^ 32 ∧ b ≠ 0#64) ∧
    (let a := 0x8000000000000000#64; let b := BitVec.allOnes 64; a.toInt = -(2 ^ 63) ∧ b.toInt = -1) ∧
    (let a := 0x80000000#64; a.toInt ≠ (lo a).toInt) ∧
    (let a := 0xFFFFFFFF80000000#64; let b := BitVec.allOnes 64; a.toInt = -(2 ^ 31) ∧ b.toInt = -1) ∧
    2 ^ 32 ≤ (0x100000000#64).toNat := by decide
theorem witness_EffectiveAddressesAndTheirTags : 2 ≤ (2#6).toNat ∧ (63#6) ≠ 1#6 ∧
    (∀ a ∈ [Addr.disp 0#6 0#64, .index 0#6 1#6, .gbr 0#64], addrBase a = 0#6 ∨ addrBase a = 1#6) ∧ (1#6).toNat < 2 ∧
    (let a := Addr.disp 2#6 0#64; addrBase a ≠ 0#6 ∧ addrBase a ≠ 1#6 ∧
      slice (getReg (regs [(2#6, 0xF000000000000000#64)]) (addrBase a)) 60 4 = 0xF#4 ∧
      slice (getReg (regs [(2#6, 0x2000000000000000#64)]) (addrBase a)) 60 4 ≠ 0xF#4 ∧
      slice (getReg (regs [(2#6, 0x2000000000000000#64)]) (addrBase a)) 60 4 ≠ 3#4) := by decide
theorem witness_UntranslatedAccessReachesItsBytes : sup.mmcr = 0#64 ∧ sup.tripwires = [] ∧
    (∀ pa ∈ (List.range 16).map fun j => ((0xFFFFFFF8#64 : Word).toNat % 2 ^ 32 + j) % 2 ^ 32, regionOf sup.map pa = .ram) ∧
    (∀ pa ∈ (List.range 16).map fun j => ((0x9FF8#64 : Word).toNat % 2 ^ 32 + j) % 2 ^ 32,
      regionOf platform.map pa ∈ [Config.Region.rom, .zeroPage, .rtsPage]) := by decide
/-- An access of each size can be made, at the last byte of the space too. -/
theorem witness_Access (n : Nat) (h : n ∈ [1, 2, 4, 6, 8, 16]) (k : Config.Access) :
    (∃ pas s', Access k (vaSpace sup) 0x2000 n sup pas s') ∧ (∃ pas s', Access k (vaSpace sup) 0xFFFFFFFF n sup pas s') ∧
      ∃ pas s', Access k (2 ^ 96) (2 ^ 96 - 1) n sup pas s' := by
  simp only [List.mem_cons, List.not_mem_nil, or_false] at h
  rcases h with rfl | rfl | rfl | rfl | rfl | rfl <;> exact ⟨⟨_, _, rfl, rfl⟩, ⟨_, _, rfl, rfl⟩, ⟨_, _, rfl, rfl⟩⟩
/-- Bases that meet and miss the alignment of MOV.TW, MOV.X and LDTEX. -/
theorem witness_Alignment : let at' (v : Word) (size : Nat) : Nat := (effAddr (regs [(2#6, v)]) size (.disp 2#6 0#64)).toNat
    at' 0x2002#64 2 % 2 = 0 ∧ at' 0x2001#64 2 % 2 ≠ 0 ∧ at' 0x2008#64 8 % 8 = 0 ∧ at' 0x2004#64 8 % 8 ≠ 0 ∧
      pairAllowed 1#5 = true ∧ pairAllowed 0#5 = false ∧ (getReg (regs [(3#6, 0x2008#64)]) 3#6).toNat % 8 = 0 ∧
      (getReg (regs [(3#6, 0x200C#64)]) 3#6).toNat % 8 ≠ 0 := by decide
theorem witness_LoadAfterStoreGivesTheValue : sup.mmcr = 0#64 ∧ sup.tripwires = [] ∧ Memory.wf sup.mem = true ∧
    (∀ j, j < 8 → regionOf sup.map ((vaOf sup (effAddr sup 8 (.disp 2#6 (0#64 - 1#64))) + j) % vaSpace sup) = .ram) := by decide
/-- Accesses that fault, that a device answers, and that are refused: a hole, a ROM page stored to, a device aligned, misaligned
and left halfway. -/
theorem witness_MemoryFaultNamesItsFirstAddress : platform.tripwires = [] ∧ (platform.mmcr = 0#64 ∧ { sup with mmcr := 1#64 }.mmcr ≠ 0#64) ∧
    translateByte platform .read (vaOf platform 0xC000#64) = .bad (.exc .accessFault) ∧
    translateByte platform .write (vaOf platform 0x9000#64) = .bad (.exc .accessFault) ∧
    (∀ a ∈ [0x8004, 0x8002, 0x7FFE], ∀ j, j < 4 → ∃ pa, translateByte platform .read (a + j) = .ok pa) ∧
    (∀ j, j < 4 → isMmio platform (0x8004 + j) = true) ∧ 0x8004 % 4 = 0 ∧ 0x8002 % 4 ≠ 0 ∧ isMmio platform 0x7FFE = false :=
  ⟨rfl, by decide, by decide, by decide, by
    intro a h j hj
    simp only [List.mem_cons, List.not_mem_nil, or_false] at h
    have : j = 0 ∨ j = 1 ∨ j = 2 ∨ j = 3 := by omega
    rcases h with rfl | rfl | rfl <;> rcases this with rfl | rfl | rfl | rfl <;> exact ⟨_, rfl⟩,
    by decide, by decide, by decide, by decide⟩
/-- The device sees the access (20_memory.md R76); a misaligned one is refused. -/
theorem test_device :
    seen State.device (exec (.movL .store 4#6 (.ind 2#6)) { setReg (setReg platform 2#6 0x8004#64) 4#6 0x1122334455667788#64 with npc := 0#48 }) =
      some [{ addr := 0x8004, size := 4, stored := some 0x55667788 }] ∧
    seen State.device (exec (.movX .store 3#5 (.ind 2#6)) (setReg platform 2#6 0x8008#64)) =
      some [{ addr := 0x8008, size := 8, stored := some 0 }, { addr := 0x8010, size := 8, stored := some 0 }] ∧
    refusal (exec (.movL .load 4#6 (.ind 2#6)) (setReg platform 2#6 0x8002#64)) = some .mmio ∧
    seen (fun t => getReg t 4#6) (exec (.movuW 4#6 (.ind 2#6)) (setReg platform 2#6 0xB000#64)) = some (Config.rtsWord.setWidth 64) := by decide
theorem witness_LoadOpAndStoreOp : (1#4).toNat % 8 = 1 ∧ (9#4).toNat % 8 = 1 ∧ (2#4).toNat % 8 ≠ 1 ∧
    Memory.wf sup.mem = true ∧ (spanOf (vaSpace sup) 0xFFFFFFFF 8).Nodup := by decide
theorem witness_ControlMemoryBanksAndExtendedPointers_control : supervisor sup = true ∧ (0xFE#8).getLsbD 0 = false ∧ (0xFF#8).getLsbD 0 = true ∧
    (∀ c ∈ [0#6, 1#6, 2#6, 13#6], ∃ v, controlValue sup c = some v) ∧ (∀ c ∈ [14#6, 63#6], controlValue sup c = none) ∧
    BitVec.ofNat 64 (bytesLE sup (spanOf (vaSpace sup) 0x2000 8)) &&& srReserved = 0#64 :=
  ⟨by decide, by decide, by decide, by
    intro c h
    simp only [List.mem_cons, List.not_mem_nil, or_false] at h
    rcases h with rfl | rfl | rfl | rfl <;> exact ⟨_, rfl⟩, by decide, by decide⟩
/-- Extended pointers with tags 0000 to 0100 and 1111, in Supervisor mode, in User mode, and with XMUE. -/
theorem witness_ControlMemoryBanksAndExtendedPointers_pointers :
    let tag (v : Word) : BitVec 4 := slice (getReg (regs [(4#6, v)]) (pairLo 2#5)) 60 4
    tag 0x2000#64 = 0#4 ∧ tag 0x1000000000000000#64 = 1#4 ∧ tag 0x2000000000000000#64 = 2#4 ∧ tag 0x3000000000000000#64 = 3#4 ∧ 4#4 ≤ tag 0x4000000000000000#64 ∧ 4#4 ≤ tag 0xF000000000000000#64 ∧
      pairAllowed 2#5 = true ∧ (supervisor sup = true ∨ sup.sr.getLsbD 25 = true) ∧ ¬ (supervisor usr = true ∨ usr.sr.getLsbD 25 = true) ∧
      (let s := { usr with sr := 0x02000000#64 }; supervisor s = true ∨ s.sr.getLsbD 25 = true) ∧
      xmovAddr (regs [(4#6, 0x2000#64)]) 8 (.disp 2#5 0#64) % 8 = 0 := by decide
/-- Targets that may and may not be jumped to, in decode mode 0 and in XG2. -/
theorem witness_JumpsAndConditionalBranches :
    jumpable sup 0x1002#48 ∧ ¬ jumpable sup 0x1001#48 ∧ isXG2 { sup with sr := 0x40800000#64 } = true ∧
      jumpable { sup with sr := 0x40800000#64 } 0x1004#48 ∧ ¬ jumpable { sup with sr := 0x40800000#64 } 0x1002#48 := by
  unfold jumpable; decide
theorem witness_JumpsAndConditionalBranches_conditions : (start 1#64 []).sr.getLsbD 0 = true ∧ ¬ sup.sr.getLsbD 0 = true ∧ (63#6) ≠ 1#6 ∧
    (getReg (regs [(4#6, 0x8000000000000000#64)]) 4#6).toInt < 0 ∧ getReg (regs [(3#6, 7#64), (4#6, 7#64)]) 4#6 = getReg (regs [(3#6, 7#64)]) 3#6 := by decide
theorem witness_CallsAndReturns : jumpable (regs [(3#6, 0x2000#64)]) ((getReg (regs [(3#6, 0x2000#64)]) 3#6).setWidth 48) ∧
    jumpable sup sup.npc ∧ Config.rtsuWindow < { sup with lrAge := Config.rtsuWindow + 1 }.lrAge ∧
      { sup with lrAge := Config.rtsuWindow }.lrAge ≤ Config.rtsuWindow :=
  ⟨by unfold jumpable; decide, by unfold jumpable; decide, Nat.lt_succ_self _, Nat.le_refl _⟩
theorem witness_ControlRegisterMoves : (∀ c ∈ [1#6, 13#6], 1 ≤ c.toNat ∧ c.toNat ≤ 13) ∧ supervisor sup = true ∧ 14 ≤ (14#6).toNat ∧
    getReg (regs [(3#6, 0xFFC0FFFF#64)]) 3#6 &&& srReserved = 0#64 ∧ getReg (regs [(3#6, 0x00010000#64)]) 3#6 &&& srReserved ≠ 0#64 := by
  decide
theorem witness_IdentificationSleepAndCanary : (2#5) ∉ [0#5, 1#5, 28#5, 30#5, 31#5] ∧ (29#5) ∉ [0#5, 1#5, 28#5, 30#5, 31#5] ∧
    srBL irq = false ∧ srIPL irq ≠ 0#2 ∧ srBL State.reset = true ∧ (30#5) ≠ 31#5 ∧ supervisor sup = true ∧ supervisor usr = false := by decide
theorem witness_IdentificationSleepAndCanary_canary (v : Word) :
    let c := Config.canary sup.canarySeed (getReg sup 3#6)
    getReg (setReg sup 4#6 c) 4#6 = Config.canary (setReg sup 4#6 c).canarySeed (getReg (setReg sup 4#6 c) 3#6) ∧
      (v ≠ c → getReg (setReg sup 4#6 v) 4#6 ≠ Config.canary (setReg sup 4#6 v).canarySeed (getReg (setReg sup 4#6 v) 3#6)) :=
  ⟨rfl, fun h => h⟩
theorem witness_CacheTlbAndTripwires : supervisor sup = true ∧ inISR sup = false ∧ inISR { sup with sr := 0x60000000#64 } = true ∧
    getReg (regs [(4#6, 0xFFFFFFFF#64)]) 4#6 = 0xFFFFFFFF#64 ∧
    getReg (regs [(4#6, 0xFFFFFFFE#64)]) 4#6 ∈ [0xFFFFFFFE#64, BitVec.allOnes 64 - 1#64] ∧
    translateByte sup .read (vaOf sup 0x2000#64) = .ok 0x2000 ∧
    translateByte { sup with mmcr := 1#64 } .read (vaOf sup 0x2000#64) = .bad (.exc .tlbMiss) ∧
    regionOf sup.map 0x2000 ≠ .mmio ∧ translateByte platform .read (vaOf platform 0x8000#64) = .ok 0x8000 ∧ regionOf platform.map 0x8000 = .mmio ∧
    (0x2000#64 ≠ 0xFFFFFFFF#64 ∧ 0x2000#64 ≠ BitVec.allOnes 64 ∧ 0x2000#64 ≠ 0xFFFFFFFE#64 ∧ 0x2000#64 ≠ BitVec.allOnes 64 - 1#64) :=
  ⟨by decide, by decide, by decide, by decide, by decide, by decide, by decide, by decide, by decide, by decide, by decide⟩
/-- A tripwire against reading, and one against writing, on the line of the access. -/
theorem witness_CacheTlbAndTripwires_tripwires : let va := vaOf sup (effAddr sup 1 (.ind 4#6)) % vaSpace sup
    let s : State := { sup with tripwires := [{ line := lineOf va, noRead := true, noWrite := true, noFetch := false }] }
    (∃ w ∈ s.tripwires, w.line = lineOf va ∧ w.noRead = true) ∧ (∃ w ∈ s.tripwires, w.line = lineOf va ∧ w.noWrite = true) ∧
      translateByte s .read va = .ok 0 ∧ translateByte s .write va = .ok 0 ∧ regionOf s.map 0 ≠ .mmio :=
  ⟨⟨_, .head _, rfl, rfl⟩, ⟨_, .head _, rfl, rfl⟩, rfl, rfl, by decide⟩
theorem witness_KeyringAndModeTransitions : { sup with ldekrrEnabled := true }.ldekrrEnabled = true ∧ sup.ldekrrEnabled = false ∧
    supervisor sup = true := by decide
/-- Bounded pointers at the edges: a bound of 5 bytes with an index of 4 and of 5; an untagged pointer; another tag. -/
theorem witness_BoundsAndCapabilities :
    let p : Word := 0x3005000000001000#64
    slice p 60 4 = 3#4 ∧ (slice p 51 5 : BitVec 5) = 0#5 ∧ (slice p 48 3 : BitVec 3) = 5#3 ∧
      (4 : Int) < 5 ∧ ¬ (5 : Int) < 5 ∧ slice (0x1000#64) 60 4 = 0#4 ∧ slice (0x1000000000001000#64) 60 4 ≠ 0#4 := by decide
theorem witness_TagComparesAndMoves : (∀ e ∈ [(0#6, 2, 0), (1#6, 4, 1), (3#6, 8, 3), (39#6, 16, 7)], e.1.toNat % e.2.1 = e.2.2) ∧
    (47#6).toNat % 16 = 15 ∧ (31#5).toNat % 16 = 15 ∧ (23#5).toNat % 16 = 7 := by decide
theorem witness_PartialMovesShufflesAndSwaps : (∀ k, 16 ≤ k → k < 33 → (0x1FFFF0000#33).getLsbD k = true) ∧
    ¬ (∀ k, 16 ≤ k → k < 33 → (0x0FFFF0000#33).getLsbD k = true) :=
  ⟨fun k h h' => (by decide : ∀ k, k < 33 → 16 ≤ k → (0x1FFFF0000#33).getLsbD k = true) k h' h,
    fun h => absurd (h 32 (by decide) (by decide)) (by decide)⟩
/-- Half and Single patterns PDOTT's law covers, with a sum of exactly 0. -/
theorem witness_PackedComparesSelectsAndSearches :
    let plain (e f v : Nat) : Bool := v / 2 ^ f % 2 ^ e != 2 ^ e - 1 && (v / 2 ^ f % 2 ^ e != 0 || v % 2 ^ f == 0)
    plain 5 10 0x3C00 = true ∧ plain 5 10 0xBC00 = true ∧ plain 5 10 0x8000 = true ∧ plain 5 10 0x7BFF = true ∧
      plain 8 23 0x3F800000 = true ∧ plain 8 23 0xBF800000 = true ∧ plain 5 10 0x7C00 = false ∧ plain 5 10 1 = false := by decide
/-- Rounding modes at the ends of the listed ranges; plain patterns of every format: 1, the largest, the smallest, zero. -/
theorem witness_ArithmeticStaysWithinTolerance :
    (∀ rm ∈ [0#8, 4#8, 8#8, 11#8], roundingListed rm = true) ∧ (∀ rm ∈ [5#8, 7#8, 12#8, 255#8], roundingListed rm = false) ∧
    (∀ v ∈ [0x3C00, 0x7BFF, 0x0400, 0x8000], fpPlain (fmtOf .half) v) ∧ (∀ v ∈ [0x3F800000, 0x00800000, 0], fpPlain (fmtOf .single) v) ∧
    (∀ v ∈ [0x3FF0000000000000, 0xFFEFFFFFFFFFFFFF, 0], fpPlain (fmtOf .double) v) ∧
    (∀ v ∈ [0x3C03, 0x7BFF, 0x0400, 0x0003], fpPlain { fmtOf .half with keep := 8 } v) ∧ fpScaled (fmtOf .half) 0xBC00 < 0 ∧
    fpPlain (fmtOf .long) 0x3FFF0000000000000000000000000000 := by unfold fpPlain; decide
/-- Doubles of every clause: a number, a NaN with the top fraction bits clear, and one with them set. -/
theorem witness_FloatingPointOrderAndSign :
    let nan (v : Word) : Bool := v.extractLsb' 52 11 == 0x7FF#11 && v.extractLsb' 0 52 != 0#52
    let sure (v : Word) : Bool := v.extractLsb' 52 11 == 0x7FF#11 && v.extractLsb' 48 4 != 0#4
    nan 0x7FF0000000000000#64 = false ∧ nan 0x3FF0000000000000#64 = false ∧ sure 0x7FF1000000000000#64 = true ∧
      nan 0x7FF0000000000001#64 = true ∧ sure 0x7FF0000000000001#64 = false := by decide
/-- The exponents at which FSTCI's clauses meet; a PCONV from Half to Single, and one no element count allows. -/
theorem witness_FloatingPointConversions :
    (0x43DFFFFFFFFFFFFF#64).toNat / 2 ^ 52 % 2 ^ 11 < 1086 ∧ 1086 ≤ (0x43E0000000000000#64).toNat / 2 ^ 52 % 2 ^ 11 ∧
    (0x000FFFFFFFFFFFFF#64).toNat / 2 ^ 52 % 2 ^ 11 = 0 ∧ (0x000FFFFFFFFFFFFF#64).toNat % 2 ^ 52 ≠ 0 ∧ (0#64).toNat % 2 ^ 52 = 0 ∧
    (convLanes 0#4 1#4 64 0 0).isSome = true ∧ (convLanes 7#4 1#4 64 0 0).isSome = false ∧ (convLanes 0#4 1#4 128 0 0).isSome = true ∧
      (convLanes 7#4 1#4 128 0 0).isSome = false := by decide
theorem witness_PackedFloatingPointLanes : roundingListed 0#8 = true ∧ roundingListed 11#8 = true ∧ roundingListed 12#8 = false := by decide
/-- PSTC.H: one above the smallest normal binade, one at the largest value, one too big, one too small. -/
theorem witness_PackedConversions :
    let big (x : Nat) : Bool := decide (142 < x / 2 ^ 23 % 2 ^ 8) || (x / 2 ^ 23 % 2 ^ 8 == 142 && decide (0x7FE000 < x % 2 ^ 23))
    big 0x477FE000 = false ∧ big 0x477FE001 = true ∧ 112 < 0x38800000 / 2 ^ 23 % 2 ^ 8 ∧ 0x38000000 / 2 ^ 23 % 2 ^ 8 ≤ 112 := by decide
/-- Blocks of each colour mode; a sum inside its range at both ends. -/
theorem witness_InterpolationAndBlocks :
    ((getReg (regs [(3#6, 0x7FFF7FFF#64)]) 3#6).toNat % 2 ^ 16 < 2 ^ 15) ∧ 2 ^ 15 ≤ (getReg (regs [(3#6, 0x80008000#64)]) 3#6).toNat % 2 ^ 16 ∧
      (0x007FFFFF#64).getLsbD 23 = false ∧ pairAllowed 1#5 = true ∧ pairAllowed 0#5 = false := by decide
/-- A state with SR.WXE set and words at its pc. -/
def flagged (ws : List Half) : State := placeWords ws { sup with sr := 0x48000000#64 }
/-- An unpredicated 32-bit instruction in a bundle. -/
def slot (a : VAddr) (wex : Bool) (i : Instr) : Slot := { addr := a, d := { len := 4, pred := none, wex := wex, instr := i } }
/-- Two sums of a bundle; two loads that may not share one; four flagged instructions. -/
theorem witness_WexBundleIsOneStep :
    (let s := flagged [0xF443#16, 0x1050#16, 0xF063#16, 0x1050#16]
      let l := [slot 0x1000#48 true (.add 3#6 (.reg 5#6) 4#6), slot 0x1004#48 false (.add 3#6 (.reg 5#6) 6#6)]
      deliverable (tick s) = none ∧ s.sleeping = false ∧ modeKnown s = true ∧ pcAligned s = true ∧ srWXE s = true ∧
        (∃ t, FetchesBundle s.pc (tick s) l t) ∧ 2 ≤ l.length ∧ bundleOk l = true) ∧
    (let s := flagged [0xF443#16, 0x1050#16, 0xF064#16, 0x1050#16]
      let l := [slot 0x1000#48 true (.add 3#6 (.reg 5#6) 4#6), slot 0x1004#48 false (.add 4#6 (.reg 5#6) 6#6)]
      (∃ t, FetchesBundle s.pc (tick s) l t) ∧ bundleOk l = false) :=
  ⟨⟨by decide, by decide, by decide, by decide, by decide,
      ⟨_, rfl, _, _, rfl, by decide, rfl, rfl, _, _, rfl, by decide, rfl, rfl⟩, by decide, by decide⟩,
    ⟨⟨_, rfl, _, _, rfl, by decide, rfl, rfl, _, _, rfl, by decide, rfl, rfl⟩, by decide⟩⟩
/-- Bundles R141 refuses for what a lane reads (60_exceptions.md R860, R870; 41_compare_flags.md R263; 47_system_ttag.md R660; 49_gfp.md R784),
and some that may stand, which share no register and no field of SR (41_compare_flags.md R296, R297; 48_gsv_media.md R671;
70_reset_and_hazards.md R912). -/
theorem test_bundles : [[Instr.suentr, .rbsldQ 0#8 4#6], [.invic 4#6, .movToC 5#6 10#6], [.tst (.reg 3#6) 4#6 .t, .add 5#6 (.reg 6#6) 7#6],
      [.pcmpGTW 3#6 4#6, .leatQ 5#6 (.disp 0#6 8#64)], [.setS, .trapImm 0#5], [.srttwid 1#5, .bt (.disp 8#64)], [.fadd 3#6 (.reg 4#6) 5#6 0#8, .fabs 6#6 7#6],
      [.fadd 3#6 (.reg 4#6) 5#6 0#8, .nop, .nop], [.fsqrt 4#6 5#6, .nop]].all
      (fun l => !bundleOk (l.map (slot 0x1000#48 true))) = true ∧
    [[Instr.pcmpEQW 3#6 4#6, .add 5#6 (.reg 6#6) 7#6], [.pcmpGTW 3#6 4#6, .leatQ 5#6 (.disp 6#6 8#64)], [.leaQ 5#6 (.ind 4#6), .jmpmd 4#4 6#6],
      [.leaQ 5#6 (.ind 4#6), .rts], [.suentr, .leaQ 5#6 (.ind 4#6)], [.pcmpGTW 3#6 4#6, .movQ .load 5#6 (.ind 6#6)],
      [.srttwid 0#5, .bt (.disp 8#64)], [.srtprop 4#5, .srtprop 8#5], [.ldtlb, .ldacl], [.invic 4#6, .invic 5#6],
      [.faddx 3#5 4#5 5#5 0#8, .nop], [.bndcmpW 4#6 5#6, .nop], [.fmac 3#6 4#6 5#6 5#6, .nop, .nop]].all
      (fun l => bundleOk (l.map (slot 0x1000#48 true))) = true := by decide
theorem witness_PixelFormats : (getReg (regs [(3#6, 0x7FFF#64)]) 3#6).toNat % 2 ^ 16 < 2 ^ 15 := by decide

end

end Sys2Proof.Tests
end

/-! The parts of a step (Machine/Fetch.lean): each says what it ensures of every state it answers. -/

namespace Sys2Proof.Machine

open Sys2Proof

section

/-! ### What a part of a step keeps -/

/-- What all that follows the tick of a step keeps: the invariant, the memory map (20_memory.md R86), and the counters, which
only the tick moves (60_exceptions.md R880). -/
structure Keeps (s t : State) : Prop where
  inv : s.Inv → t.Inv
  map : t.map = s.map
  clock : t.clock = s.clock
  usec : t.usec = s.usec
  cycles : t.cycles = s.cycles

variable {s t u : State}

theorem Keeps.refl (s : State) : Keeps s s := ⟨id, rfl, rfl, rfl, rfl⟩
theorem Keeps.trans (h : Keeps s t) (g : Keeps t u) : Keeps s u :=
  ⟨fun x => g.inv (h.inv x), g.map.trans h.map, g.clock.trans h.clock, g.usec.trans h.usec, g.cycles.trans h.cycles⟩

/-- What follows a part that keeps them. -/
theorem Keeps.ensures {o : Out State} (h : Keeps s t) (g : Ensures (Keeps t) o) : Ensures (Keeps s) o :=
  g.mono fun _ => h.trans

/-- Where the fields the invariant speaks of, the map and the counters are the same. -/
theorem Keeps.plain (s : State) (pc npc : VAddr) (lrAge draws faults : Nat) (faultTea : Option Word) :
    Keeps s { s with pc := pc, npc := npc, lrAge := lrAge, draws := draws, faults := faults, faultTea := faultTea } :=
  ⟨fun g => ⟨g.memory, g.reserved, g.tlb, g.pending, g.stale, g.wires⟩, rfl, rfl, rfl, rfl⟩
theorem Keeps.enterTrap (c : Half) (tea : Option Word) (p : VAddr) (s : State) : Keeps s (enterTrap c tea p s) :=
  ⟨fun g => Inv.enterTrap g c tea p, rfl, rfl, rfl, rfl⟩
theorem Keeps.trapped (e : Exc) (tea : Option Word) (s : State) : Keeps s (s.trapped e tea) :=
  ⟨fun g => Inv.trapped g e tea, rfl, rfl, rfl, rfl⟩
theorem UserChange.keeps (h : UserChange s t) : Keeps s t := ⟨h.inv, h.map, h.clock, h.usec, h.cycles⟩
theorem Drew.keeps (h : Drew s t) : Keeps s t := (Quiet.drew h).user.keeps

theorem Change.keeps {i : Instr} (h : Change i s t) : Keeps s t := by
  have hi := h.inv
  cases h with
  | user h => exact h.keeps
  | fault e tea h => exact h.user.keeps.trans (.trapped e tea _)
  | trap c tea _ => exact .enterTrap c tea _ s
  | mode md rb _ => exact ⟨hi, rfl, rfl, rfl, rfl⟩
  | priv _ _ hf =>
    obtain ⟨-, hmap, hclock, husec, hcycles⟩ := hf
    exact ⟨hi, hmap, hclock, husec, hcycles⟩
theorem exec_keeps (i : Instr) (s : State) : Ensures (Keeps s) (exec i s) := (exec_change i s).mono fun _ => Change.keeps

/-! ### The tick and an interrupt (60_exceptions.md R855, R880, R885) -/

/-- What arrives at a step is of class 0xC, or a TRAP that may be routed. -/
theorem code_of_mem_arrivals {k : Nat} {x : PendingIrq} (h : x ∈ arrivals k) :
    slice x.code 12 4 = 0xC#4 ∨ routable x.code = true := by
  rcases (mem_arrivals k x).1 h with ⟨-, hc, -⟩ | ⟨_, -, hr, -⟩
  exacts [.inl hc, .inr hr]
/-- What arrives joins the set of pending codes. -/
theorem pendingSet_arrivals {l : List PendingIrq} (h : pendingSet l) (k : Nat) :
    pendingSet ((arrivals k).foldl addPending l) := by
  obtain ⟨hnodup, hcodes⟩ := h
  refine ⟨nodup_foldl_addPending _ hnodup, fun p hp => ?_⟩
  have hm := (mem_codes_foldl_addPending (arrivals k) l p.code).1 (List.mem_map_of_mem hp)
  rcases hm with hm | hm <;> obtain ⟨q, hq, hqp⟩ := List.mem_map.1 hm <;> rw [← hqp]
  · exact hcodes q hq
  · exact code_of_mem_arrivals hq
theorem pendingSet_filter {l : List PendingIrq} (h : pendingSet l) (f : PendingIrq → Bool) : pendingSet (l.filter f) :=
  ⟨h.1.sublist (List.filter_sublist.map _), fun p hp => h.2 p (List.mem_filter.1 hp).1⟩

theorem tick_inv (g : s.Inv) : (tick s).Inv :=
  ⟨g.memory, g.reserved, g.tlb, pendingSet_arrivals g.pending s.clock, g.stale, g.wires⟩
theorem takeInterrupt_keeps (c : Half) (s : State) : Keeps s (takeInterrupt c s) :=
  have hwoken : Keeps s { s with pending := s.pending.filter fun p => p.code != c, sleeping := false } :=
    ⟨fun g => ⟨g.memory, g.reserved, g.tlb, pendingSet_filter g.pending _, g.stale, g.wires⟩, rfl, rfl, rfl, rfl⟩
  hwoken.trans (.enterTrap _ _ _ _)

/-! ### Instruction fetch (20_memory.md R97, R100) -/

/-- Every state a fetch answers has a property, whether words were fetched or not. -/
def Fetched.Ensures (P : State → Prop) : Fetched → Prop
  | .ok _ t => P t
  | .stop o => Machine.Ensures P o
/-- The same of fetching and decoding one instruction. -/
def Found.Ensures (P : State → Prop) : Found → Prop
  | .ok _ t => P t
  | .stop o => Machine.Ensures P o
/-- The same of a bundle: of the state after the last slot fetched, and of how the step ends instead. -/
def Gathered.Ensures (P : State → Prop) : Gathered → Prop
  | .all _ t => P t
  | .cut _ t o => P t ∧ Machine.Ensures P o

theorem Gathered.Ensures.cons {P : State → Prop} {x : Slot} {g : Gathered} (h : g.Ensures P) : (g.cons x).Ensures P := by
  cases g <;> exact h
theorem Gathered.Ensures.mono {P Q : State → Prop} {g : Gathered} (h : g.Ensures P) (hq : ∀ t, P t → Q t) : g.Ensures Q := by
  cases g with
  | all l t => exact hq t h
  | cut l t o => exact ⟨hq t h.1, h.2.mono hq⟩

/-- An access that cannot go on is refused or faults from a state in which at most free values have been read. -/
theorem resolveAll_stop_keeps {k : Config.Access} {va : Nat} {vas : List Nat} {o : Out State}
    (h : resolveAll k va vas s = .stop o) : Ensures (Keeps s) o := by
  rcases resolveAll_stop h with ⟨r, rfl⟩ | ⟨e, b, t, -, hd, rfl⟩
  · exact .refused r
  · exact .raiseAt (hd.keeps.trans (.trapped _ _ _))
theorem fetchBytes_drew (l : List Nat) (s : State) : Drew s (fetchBytes l s).2 := by
  induction l generalizing s with
  | nil => exact .refl s
  | cons a l ih => exact (fetchByte_cases s a).2.trans (ih _)
theorem evictI_keeps (pas : List Nat) (s : State) : Keeps s (evictI s pas) :=
  ⟨fun g => ⟨g.memory, g.reserved, g.tlb, g.pending, g.stale.sublist (List.filter_sublist.map _), g.wires⟩, rfl, rfl, rfl, rfl⟩
theorem fetchWords_keeps (base : VAddr) (k : Nat) (a : VAddr) (s : State) : (fetchWords base k a s).Ensures (Keeps s) := by
  unfold fetchWords
  split
  · exact resolveAll_stop_keeps ‹_›
  · rename_i pas s1 hr
    split
    · exact .refused _
    · exact (resolveAll_ok hr).2.keeps.trans ((evictI_keeps pas s1).trans (fetchBytes_drew pas _).keeps)
theorem fetchMore_keeps (ws : List Half) (a : VAddr) (s : State) : (fetchMore ws a s).Ensures (Keeps s) := by
  have h := fetchWords_keeps a (wordsNeeded (isXG2 s) ws - ws.length) (a + BitVec.ofNat 48 (2 * ws.length)) s
  unfold fetchMore
  split <;> rename_i hf <;> rw [hf] at h <;> exact h
theorem fetchMore_keeps_after (h : Keeps s t) (ws : List Half) (a : VAddr) : (fetchMore ws a t).Ensures (Keeps s) := by
  have hk := fetchMore_keeps ws a t
  cases hf : fetchMore ws a t <;> rw [hf] at hk
  · exact h.trans hk
  · exact h.ensures hk
theorem fetchInstr_keeps (a : VAddr) (s : State) : (fetchInstr a s).Ensures (Keeps s) := by
  have h0 := fetchMore_keeps [] a s
  unfold fetchInstr
  split <;> rename_i hf0 <;> rw [hf0] at h0
  · exact h0
  · rename_i w0 s0
    have h1 := fetchMore_keeps_after h0 w0 a
    split <;> rename_i hf1 <;> rw [hf1] at h1
    · exact h1
    · exact fetchMore_keeps_after h1 _ a
theorem findAt_keeps (a : VAddr) (s : State) : (findAt a s).Ensures (Keeps s) := by
  have h := fetchInstr_keeps a s
  unfold findAt
  split <;> rename_i hf <;> rw [hf] at h
  · exact h
  · split
    · split
      · exact h
      · exact .refused _
    · exact .refused _
    · exact .raise (h.trans (.trapped _ _ _))
theorem gather_keeps (k : Nat) (a : VAddr) (s : State) : (gather k a s).Ensures (Keeps s) := by
  induction k generalizing a s with
  | zero => exact ⟨.refl s, .refused _⟩
  | succ k ih =>
    have h := findAt_keeps a s
    unfold gather
    split <;> rename_i hf <;> rw [hf] at h
    · exact ⟨.refl s, h⟩
    · split
      · exact .cons ((ih _ _).mono fun _ => h.trans)
      · exact h

/-! ### One instruction, one bundle (30_encoding.md R135, R140; 60_exceptions.md R858, R865) -/

theorem runSlot_keeps (x : Slot) (s : State) : Ensures (Keeps s) (runSlot x s) := by
  have hpc : Keeps s { s with pc := x.addr, npc := x.addr + BitVec.ofNat 48 x.d.len } := .plain s _ _ _ _ _ _
  unfold runSlot
  split
  · exact hpc.ensures (exec_keeps _ _)
  · exact .ite (fun _ => hpc.ensures (exec_keeps _ _)) fun _ => .retire (.plain s _ _ _ _ _ _)
theorem adcFree_keeps (x : Slot) (s : State) : Keeps s (adcFree x s) := by
  unfold adcFree
  split
  · exact (UserChange.setT (.drawn (.refl s)) _).keeps
  · exact .refl s
theorem runSlots_keeps (l : List Slot) (s : State) : Ensures (Keeps s) (runSlots l s) := by
  induction l generalizing s with
  | nil => exact .next (.refl s)
  | cons x l ih =>
    cases l with
    | nil => exact runSlot_keeps x s
    | cons y l =>
      have h := runSlot_keeps x s
      unfold runSlots
      split <;> rename_i hx
      · have hs := h _ hx
        exact .ite (fun _ => (hs.trans (adcFree_keeps x _)).ensures (ih _)) fun _ => .next hs
      · exact .fault _
      · exact .refused _
theorem abandonOn_keeps {o : Out State} (h : Ensures (Keeps s) o) : Ensures (Keeps s) (abandonOn s o) := by
  unfold abandonOn
  split
  · exact .ite (fun _ => .next (h _ rfl)) fun _ => .next ((Keeps.plain s _ _ _ _ _ _).trans (.enterTrap _ _ _ _))
  · exact .fault _
  · exact .refused _
theorem settle_keeps {o : Out State} (h : Ensures (Keeps s) o) (start : State) : Ensures (Keeps s) (settle start o) := by
  unfold settle
  split
  · exact .ite (fun _ => .next (h _ rfl)) fun _ => .next ((h _ rfl).trans (.plain _ _ _ _ _ _ _))
  · exact .fault _
  · exact .refused _

/-- A bundle whose slots have been fetched. -/
theorem runBundle_keeps (h : Keeps s t) (l : List Slot) :
    Ensures (Keeps s) (settle s (abandonOn (aged t) (runSlots l (aged t)))) :=
  settle_keeps ((h.trans (.plain t _ _ _ _ _ _)).ensures (abandonOn_keeps (runSlots_keeps l _))) s
theorem execute_keeps (s : State) : Ensures (Keeps s) (execute s) := by
  have hg := gather_keeps Config.wexWidth s.pc s
  refine .ite (fun _ => .refused _) fun _ => .ite (fun _ => .refused _) fun _ => ?_
  split <;> rename_i hgather <;> rw [hgather] at hg
  · exact settle_keeps ((hg.trans (.plain _ _ _ _ _ _ _)).ensures (runSlot_keeps _ _)) s
  · exact .ite (fun _ => runBundle_keeps hg _) fun _ => .refused _
  · obtain ⟨hs, ht⟩ := hg
    refine .ite (fun _ => ?_) fun _ => .refused _
    have hb := runBundle_keeps hs
    split <;> rename_i hrun
    · exact .ite (fun _ => ht) fun _ => .next (hb _ _ hrun)
    · exact .fault _
    · exact .refused _
  · exact hg.2
/-- After the tick a step keeps the invariant, the map and the counters. -/
theorem step_keeps (s : State) : Ensures (Keeps (tick s)) (step s) := by
  simp only [step, advance]
  split
  · exact .next (takeInterrupt_keeps _ _)
  · exact .ite (fun _ => .next (.refl _)) fun _ => execute_keeps _

end

/-- Settles O10: the tick keeps the invariant, and everything after it does. -/
theorem everyStepKeepsTheInvariant : Obligations.EveryStepKeepsTheInvariant := fun s t g h =>
  have hk := step_keeps s t h
  ⟨hk.inv (tick_inv g), hk.map⟩

end Sys2Proof.Machine

/-! What an instruction leaves alone outside Supervisor mode (10_state.md R27; 60_exceptions.md R870, R871). -/

namespace Sys2Proof.Machine

open Sys2Proof

section

/-- The state only Supervisor mode may change, and the memory map, are the same. -/
structure SameSupervisorState (s t : State) : Prop where
  vbr : t.vbr = s.vbr
  tbr : t.tbr = s.tbr
  ttb : t.ttb = s.ttb
  sttb : t.sttb = s.sttb
  mmcr : t.mmcr = s.mmcr
  tlb : t.tlb = s.tlb
  acl : t.acl = s.acl
  rbs : t.rbs = s.rbs
  ekey : t.ekey = s.ekey
  enabled : t.ldekrrEnabled = s.ldekrrEnabled
  seed : t.canarySeed = s.canarySeed
  gbh : t.gbh = s.gbh
  map : t.map = s.map

variable {s t u : State}

theorem SameSupervisorState.trans (h : SameSupervisorState s t) (g : SameSupervisorState t u) : SameSupervisorState s u :=
  ⟨g.vbr.trans h.vbr, g.tbr.trans h.tbr, g.ttb.trans h.ttb, g.sttb.trans h.sttb, g.mmcr.trans h.mmcr, g.tlb.trans h.tlb,
    g.acl.trans h.acl, g.rbs.trans h.rbs, g.ekey.trans h.ekey, g.enabled.trans h.enabled, g.seed.trans h.seed,
    g.gbh.trans h.gbh, g.map.trans h.map⟩
theorem UserChange.sameSupervisorState (h : UserChange s t) : SameSupervisorState s t :=
  ⟨h.vbr, h.tbr, h.ttb, h.sttb, h.mmcr, h.tlb, h.acl, h.rbs, h.ekey, h.enabled, h.seed, h.gbh, h.map⟩
/-- The entry sequence writes SPC, EXSR, TEA, SSP, R15, SR and the pc, none of which is such state (60_exceptions.md R860). -/
theorem enterTrap_sameSupervisorState (c : Half) (tea : Option Word) (p : VAddr) (s : State) :
    SameSupervisorState s (enterTrap c tea p s) := by
  constructor <;> rfl
theorem trapped_sameSupervisorState (e : Exc) (tea : Option Word) (s : State) : SameSupervisorState s (s.trapped e tea) := by
  constructor <;> rfl

/-- The one kind of change that touches supervisor state is that of Supervisor mode. -/
theorem Change.sameSupervisorState {i : Instr} (h : Change i s t) (hs : supervisor s = false) : SameSupervisorState s t := by
  cases h with
  | user h => exact h.sameSupervisorState
  | fault e tea h => exact h.user.sameSupervisorState.trans (trapped_sameSupervisorState e tea _)
  | trap c tea _ => exact enterTrap_sameSupervisorState c tea _ s
  | mode md rb _ => constructor <;> rfl
  | priv hsup _ _ => exact absurd hsup (by simp [hs])

end

/-- Settles O15, by the kind of change the instruction makes. -/
theorem userModeKeepsSupervisorState : Obligations.UserModeKeepsSupervisorState := fun i s t hs h =>
  have ⟨vbr, tbr, ttb, sttb, mmcr, tlb, acl, rbs, ekey, enabled, seed, gbh, map⟩ :=
    (exec_change i s t h).sameSupervisorState hs
  ⟨vbr, tbr, ttb, sttb, mmcr, tlb, acl, rbs, ekey, enabled, seed, gbh, map⟩

end Sys2Proof.Machine

/-! Decoding a word by its fields, and the moves to and from the S registers (10_state.md R46). -/

namespace Sys2Proof.Machine

open Sys2Proof

/-! ### The fields of a word -/

/-! A word of a byte and two nibbles. -/
theorem slice_word_byte (a : BitVec 8) (b c : BitVec 4) : slice (a ++ b ++ c : Half) 8 8 = a :=
  (BitVec.extractLsb'_append_eq_of_le (by decide)).trans
    ((BitVec.extractLsb'_append_eq_of_le (by decide)).trans BitVec.extractLsb'_eq_self)
theorem slice_word_mid (a : BitVec 8) (b c : BitVec 4) : slice (a ++ b ++ c : Half) 4 4 = b :=
  (BitVec.extractLsb'_append_eq_of_le (by decide)).trans
    ((BitVec.extractLsb'_append_eq_of_add_le (by decide)).trans BitVec.extractLsb'_eq_self)
theorem slice_word_low (a : BitVec 8) (b c : BitVec 4) : slice (a ++ b ++ c : Half) 0 4 = c :=
  (BitVec.extractLsb'_append_eq_of_add_le (by decide)).trans BitVec.extractLsb'_eq_self

theorem slice_word_first (a : BitVec 8) (b c : BitVec 4) : slice (a ++ b ++ c : Half) 12 4 = slice a 4 4 :=
  (BitVec.extractLsb'_append_eq_of_le (by decide)).trans (BitVec.extractLsb'_append_eq_of_le (by decide))
theorem slice_word_second (a : BitVec 8) (b c : BitVec 4) : slice (a ++ b ++ c : Half) 8 4 = slice a 0 4 :=
  (BitVec.extractLsb'_append_eq_of_le (by decide)).trans (BitVec.extractLsb'_append_eq_of_le (by decide))

/-- A field of a field is a field of the value. -/
theorem slice_slice {w lo len i k : Nat} (v : BitVec w) (h : i + k ≤ len) :
    slice (slice v lo len) i k = slice v (lo + i) k := by
  apply BitVec.eq_of_getLsbD_eq
  intro j hj
  have hij : i + j < len := by omega
  simp [slice, hj, hij, Nat.add_assoc]
theorem bitAt_slice {w lo len i : Nat} (v : BitVec w) (h : i < len) : bitAt (slice v lo len) i = bitAt v (lo + i) := by
  simp [bitAt, slice, h]

/-! ### What the high byte of the first word decides -/

/-- A 16-bit word whose first nibble is 4 (30_encoding.md R111). -/
theorem decode_half4 (w : Half) (h : slice w 12 4 = 4#4) :
    decode false [w] = finish 2 none false (half4 (slice w 8 4) (slice w 4 4) (slice w 0 4)) := by
  have h13 : slice w 13 3 = 2#3 := by rw [← slice_slice (lo := 12) (len := 4) (i := 1) w (by decide), h]; rfl
  simp [decode, decodeHalf, half16, Config.profileFix32D, h, h13]

/-- Two words of the F0 block, whose high byte is F0 (30_encoding.md R112, R120). -/
theorem decode_f0 (w0 w1 : Half) (h : slice w0 8 8 = 0xF0#8) :
    decode false [w0, w1] = finish 4 none false (plainF0 (fieldsOf false 0#4 0#3 w0 w1)) := by
  have h13 : slice w0 13 3 = 7#3 := by rw [← slice_slice (lo := 8) (len := 8) (i := 5) w0 (by decide), h]; rfl
  have h8 : slice w0 8 4 = 0#4 := by rw [← slice_slice (lo := 8) (len := 8) (i := 0) w0 (by decide), h]; rfl
  have h12 : bitAt w0 12 = true := by rw [← bitAt_slice (lo := 8) (len := 8) (i := 4) w0 (by decide), h]; rfl
  simp [decode, decodeWide, isOp64, isJumbo, decodeBase, rangeOf, xg2Ext, Prefix.there, classify, plain, plainAll, onlyIf,
    fieldsOf, Config.profileFix32D, h, h13, h8, h12]

/-! ### The S register moves (10_state.md R46; 47_system_ttag.md R592, R593) -/

theorem plainF0_movToS {f : Fields} (hz : f.z = 1#4) (hy : f.y = 12#4) (ho : f.o = 10#4) (hox : f.ox = 0#2) :
    plainF0 f = some (.movToS f.rm f.rn) := by
  simp [plainF0, plainF0z1, hz, hy, ho, hox, onlyIf]
theorem plainF0_movFromS {f : Fields} (hz : f.z = 1#4) (hy : f.y = 12#4) (ho : f.o = 11#4) (hox : f.ox = 0#2) :
    plainF0 f = some (.movFromS f.rm f.rn) := by
  simp [plainF0, plainF0z1, hz, hy, ho, hox, onlyIf]

/-- The bits E of the second word: q, the bits 4 of Rn and Rm, and a zero in the place of Ro's. -/
def bitsE (q n4 m4 : Bool) : BitVec 4 := BitVec.ofBool q ++ BitVec.ofBool n4 ++ BitVec.ofBool m4 ++ 0#1
theorem slice_bitsE (q n4 m4 : Bool) :
    slice (0x1#4 ++ bitsE q n4 m4) 4 4 = 1#4 ∧ slice (0x1#4 ++ bitsE q n4 m4) 2 1 = BitVec.ofBool n4 ∧
      slice (0x1#4 ++ bitsE q n4 m4) 1 1 = BitVec.ofBool m4 ∧ slice (0x1#4 ++ bitsE q n4 m4) 0 1 = 0#1 := by
  decide +revert

/-- The fields of a register move in the F0 block with Z = 1 and an opcode byte: E.q is in none of them, and E.n and E.m are
the bits 4 of the register numbers. -/
theorem fields_f0_move (q n4 m4 : Bool) (op : BitVec 8) (n m : BitVec 4) :
    let f := fieldsOf false 0#4 0#3 (0xF0#8 ++ n ++ m) (0x1#4 ++ bitsE q n4 m4 ++ op)
    f.z = 1#4 ∧ f.o = slice op 4 4 ∧ f.y = slice op 0 4 ∧ f.ox = 0#2 ∧
      f.rn = (BitVec.ofBool n4 ++ n).setWidth 6 ∧ f.rm = (BitVec.ofBool m4 ++ m).setWidth 6 := by
  have reg (b : BitVec 1) (r : BitVec 4) : (0#1 ++ b) ++ r = (b ++ r).setWidth 6 := by decide +revert
  obtain ⟨hz, hn, hm, ho⟩ := slice_bitsE q n4 m4
  have high {i k : Nat} (h : 8 ≤ i) :
      slice (0x1#4 ++ bitsE q n4 m4 ++ op : Half) i k = slice (0x1#4 ++ bitsE q n4 m4) (i - 8) k :=
    BitVec.extractLsb'_append_eq_of_le h
  have low {i k : Nat} (h : i + k ≤ 8) : slice (0x1#4 ++ bitsE q n4 m4 ++ op : Half) i k = slice op i k :=
    BitVec.extractLsb'_append_eq_of_add_le h
  refine ⟨(high (by decide)).trans hz, low (by decide), low (by decide), ?_, ?_, ?_⟩
  · show slice 0#3 0 1 ++ slice _ 8 1 = 0#2
    rw [high (by decide), ho]; rfl
  · show (slice 0#3 2 1 ++ slice _ 10 1) ++ slice _ 4 4 = _
    rw [high (by decide), hn, slice_word_mid, ← reg]; rfl
  · show (slice 0#3 1 1 ++ slice _ 9 1) ++ slice _ 0 4 = _
    rw [high (by decide), hm, slice_word_low, ← reg]; rfl

theorem decode_movToS (q n4 m4 : Bool) (n m : BitVec 4) :
    decode false [0xF0#8 ++ n ++ m, 0x1#4 ++ bitsE q n4 m4 ++ 0xAC#8] =
      .ok ⟨4, none, false, .movToS ((BitVec.ofBool m4 ++ m).setWidth 6) ((BitVec.ofBool n4 ++ n).setWidth 6)⟩ := by
  obtain ⟨hz, ho, hy, hox, hrn, hrm⟩ := fields_f0_move q n4 m4 0xAC#8 n m
  rw [decode_f0 _ _ (slice_word_byte _ n m), plainF0_movToS hz hy ho hox, hrn, hrm]; rfl
theorem decode_movFromS (q n4 m4 : Bool) (n m : BitVec 4) :
    decode false [0xF0#8 ++ n ++ m, 0x1#4 ++ bitsE q n4 m4 ++ 0xBC#8] =
      .ok ⟨4, none, false, .movFromS ((BitVec.ofBool m4 ++ m).setWidth 6) ((BitVec.ofBool n4 ++ n).setWidth 6)⟩ := by
  obtain ⟨hz, ho, hy, hox, hrn, hrm⟩ := fields_f0_move q n4 m4 0xBC#8 n m
  rw [decode_f0 _ _ (slice_word_byte _ n m), plainF0_movFromS hz hy ho hox, hrn, hrm]; rfl

/-- The 16-bit forms, whose nibbles name R0 to R15 (30_encoding.md R111). -/
theorem lo4_eq (r : BitVec 4) : lo4 r = r.setWidth 6 := by decide +revert
theorem decode_half_movToS (n m : BitVec 4) :
    decode false [0x4A#8 ++ n ++ m] = .ok ⟨2, none, false, .movToS (m.setWidth 6) (n.setWidth 6)⟩ := by
  rw [decode_half4 _ (slice_word_first _ n m), slice_word_second, slice_word_mid, slice_word_low, ← lo4_eq, ← lo4_eq]; rfl
theorem decode_half_movFromS (n m : BitVec 4) :
    decode false [0x4B#8 ++ n ++ m] = .ok ⟨2, none, false, .movFromS (m.setWidth 6) (n.setWidth 6)⟩ := by
  rw [decode_half4 _ (slice_word_first _ n m), slice_word_second, slice_word_mid, slice_word_low, ← lo4_eq, ← lo4_eq]; rfl

/-- Settles O18: each of the four encodings by the fields of its words, and the refusals by the two arms of exec. -/
theorem instructionsWithoutAMeaningAreRefused : Obligations.InstructionsWithoutAMeaningAreRefused :=
  ⟨fun n m => ⟨decode_half_movToS n m, decode_half_movFromS n m, fun q n4 m4 =>
    ⟨decode_movToS q n4 m4 n m, decode_movFromS q n4 m4 n m⟩⟩, fun _ _ _ => ⟨rfl, rfl⟩⟩

end Sys2Proof.Machine

/-! Memory while translation is off (20_memory.md R70, R73, R81, R86, R97): what an access reaches, what fetch sees, and what a
load finds after a store. -/

namespace Sys2Proof.Machine

open Sys2Proof

section

variable {s t : State}

/-! ### Addresses (20_memory.md R81, R86) -/

theorem vaBits_eq : Config.vaBits = 48 := by decide
theorem vaSpace_eq (s : State) : vaSpace s = if s.sr.getLsbD 31 then 2 ^ 48 else 2 ^ 32 := by
  simp [vaSpace, vaBits_eq, srJQ, bitAt]
/-- The bits of an effective address above the space are ignored. -/
theorem vaOf_eq (s : State) (ea : Word) : vaOf s ea = ea.toNat % vaSpace s := by
  cases h : srJQ s <;> simp [vaOf, vaSpace, vaBits_eq, h, slice]
theorem spanOf_eq_range (space va n : Nat) : spanOf space va n = (List.range n).map fun j => (va + j) % space := by
  induction n generalizing va with
  | zero => rfl
  | succ n ih =>
    rw [spanOf, ih, List.range_succ_eq_map, List.map_cons, List.map_map]
    exact congrArg₂ _ rfl (List.map_congr_left fun j _ => by rw [Function.comp_apply, Nat.add_right_comm, Nat.add_assoc])

/-- An effective address depends on the registers, npc, GBR and TBR alone (44_load_store.md R421). -/
theorem effAddr_congr (hregs : t.regs = s.regs) (hnpc : t.npc = s.npc) (hgbr : t.gbr = s.gbr) (htbr : t.tbr = s.tbr)
    (size : Nat) (a : Addr) : effAddr t size a = effAddr s size a := by
  have hreg (r : Reg) : getReg t r = getReg s r := getReg_congr hregs r
  have hdisp (m : Reg) : dispBase t m = dispBase s m := by simp only [dispBase, npcWord, gbrAddr, hreg, hnpc, hgbr]
  have hindex (m o : Reg) : indexParts t m o = indexParts s m o := by
    simp only [indexParts, npcWord, gbrAddr, hreg, hnpc, hgbr, htbr]
  cases a <;> simp only [effAddr, gbrAddr, hreg, hdisp, hindex, hgbr]

/-! ### An access without translation and without a tripwire -/

theorem translateByte_untranslated {k : Config.Access} {va : Nat} (hm : s.mmcr = 0#64)
    (hr : reachable k (regionOf s.map va) = true) : translateByte s k va = .ok va := by
  simp [translateByte, translate, mmuOff, hm, hr]
theorem mapAll_untranslated {k : Config.Access} {vas : List Nat} (hm : s.mmcr = 0#64)
    (hr : ∀ va ∈ vas, reachable k (regionOf s.map va) = true) : mapAll s k vas = .all vas := by
  induction vas with
  | nil => rfl
  | cons va vas ih =>
    obtain ⟨hva, hvas⟩ := List.forall_mem_cons.1 hr
    rw [mapAll, translateByte_untranslated hm hva, ih hvas]; rfl
theorem tripped_of_no_tripwires (k : Config.Access) (vas : List Nat) (hw : s.tripwires = []) : tripped k vas s = (none, s) := by
  induction vas with
  | nil => rfl
  | cons va vas ih => simp [tripped, wired, hw, ih]
/-- Every address is its own physical address, and nothing is drawn. -/
theorem resolveAll_untranslated {k : Config.Access} {vas : List Nat} (va : Nat) (hm : s.mmcr = 0#64) (hw : s.tripwires = [])
    (hr : ∀ va ∈ vas, reachable k (regionOf s.map va) = true) : resolveAll k va vas s = .ok vas s := by
  rw [resolveAll, mapAll_untranslated hm hr, tripped_of_no_tripwires k vas hw]
theorem access_untranslated {k : Config.Access} {space va n : Nat} (hm : s.mmcr = 0#64) (hw : s.tripwires = [])
    (hr : ∀ pa ∈ spanOf space va n, reachable k (regionOf s.map pa) = true ∧ regionOf s.map pa ≠ .mmio) :
    Access k space va n s (spanOf space va n) s :=
  ⟨resolveAll_untranslated _ hm hw fun pa h => (hr pa h).1,
    List.any_eq_false.2 fun pa h => by simpa [isMmio] using (hr pa h).2⟩
/-- RAM can be read, written and fetched from. -/
theorem access_ram (k : Config.Access) {space va n : Nat} (hm : s.mmcr = 0#64) (hw : s.tripwires = [])
    (hr : ∀ pa ∈ spanOf space va n, regionOf s.map pa = .ram) : Access k space va n s (spanOf space va n) s :=
  ⟨resolveAll_plain _ _ _ s hm hw hr, any_isMmio_ram hr⟩
/-- The regions an access of a kind reaches without a device. -/
theorem reachable_ordinary {k : Config.Access} {r : Config.Region}
    (h : r = .ram ∨ (k ≠ .write ∧ r ∈ [Config.Region.rom, .zeroPage, .rtsPage])) : reachable k r = true ∧ r ≠ .mmio := by
  cases r <;> simp_all [reachable]
/-- A fetch reaches every region where something stands. -/
theorem reachable_fetch {r : Config.Region} (h : r ≠ .unmapped) : reachable .fetch r = true := by
  cases r with
  | unmapped => exact absurd rfl h
  | _ => rfl

/-! ### The bytes and the words fetch sees (20_memory.md R70, R97, R100) -/

/-- A value fetch may see of a byte: what the map shows there, or an older value on record. -/
def FetchSees (s : State) (pa : Nat) (b : Byte) : Prop := b = readByte s pa ∨ ∃ e ∈ s.stale, e.addr = pa ∧ b ∈ e.olds

theorem FetchSees.of_drew {pa : Nat} {b : Byte} (hd : Drew s t) (h : FetchSees t pa b) : FetchSees s pa b := by
  obtain ⟨d, rfl⟩ := hd; exact h
/-- Dropping records leaves fetch fewer values to see. -/
theorem FetchSees.of_evictI {pa : Nat} {b : Byte} {pas : List Nat} (h : FetchSees (evictI s pas) pa b) : FetchSees s pa b :=
  h.imp id fun ⟨e, he, hb⟩ => ⟨e, List.mem_of_mem_filter he, hb⟩
theorem fetchBytes_sees (pas : List Nat) (s : State) : List.Forall₂ (FetchSees s) pas (fetchBytes pas s).1 := by
  induction pas generalizing s with
  | nil => exact .nil
  | cons pa pas ih =>
    obtain ⟨hb, hd⟩ := fetchByte_cases s pa
    exact .cons hb ((ih _).imp fun _ _ => .of_drew hd)
/-- With no byte on record fetch sees what a load sees, and draws nothing. -/
theorem fetchBytes_fresh (pas : List Nat) (hs : s.stale = []) : fetchBytes pas s = (pas.map (readByte s), s) := by
  have hb (pa : Nat) : fetchByte s pa = (readByte s pa, s) := by simp [fetchByte, hs]
  induction pas with
  | nil => rfl
  | cons pa pas ih => simp only [fetchBytes, hb, ih, List.map_cons]
theorem evictI_fresh (pas : List Nat) (hs : s.stale = []) : evictI s pas = s := by
  have hempty : evictI s pas = { s with stale := [] } := by rw [evictI, hs]; rfl
  rw [hempty, ← hs]

/-- The words of the bytes f 0, f 1, …: the even ones are the low bytes. -/
theorem halvesOf_map_range (f : Nat → Byte) (k : Nat) :
    halvesOf ((List.range (2 * k)).map f) = (List.range k).map fun j => f (2 * j + 1) ++ f (2 * j) := by
  induction k generalizing f with
  | zero => rfl
  | succ k ih =>
    rw [show 2 * (k + 1) = 2 * k + 1 + 1 from rfl]
    simp only [List.range_succ_eq_map, List.map_cons, List.map_map, halvesOf]
    exact congrArg _ (ih _)
/-- Each word of an even number of bytes is made of two of them. -/
theorem halvesOf_getElem? {bs : List Byte} {k : Nat} (h : bs.length = 2 * k) :
    (halvesOf bs).length = k ∧ ∀ j (hj : j < k), (halvesOf bs)[j]? = some (bs[2 * j + 1] ++ bs[2 * j]) := by
  have hbs : bs = (List.range (2 * k)).map fun i => bs.getD i 0#8 :=
    List.ext_getElem (by simp [h]) fun i hi _ => by simp [hi]
  have hw := halvesOf_map_range (fun i => bs.getD i 0#8) k
  rw [← hbs] at hw
  refine ⟨by simp [hw], fun j hj => ?_⟩
  have hhi : 2 * j + 1 < bs.length := by omega
  have hlo : 2 * j < bs.length := by omega
  simp [hw, hj, hhi, hlo]

/-- The words of a fetch: two bytes each, of any values fetch may see. -/
theorem halvesOf_fetchBytes {pas : List Nat} {k : Nat} (s : State) (h : pas.length = 2 * k) :
    (halvesOf (fetchBytes pas s).1).length = k ∧ ∀ j (hj : j < k), ∃ hi lo,
      (halvesOf (fetchBytes pas s).1)[j]? = some (hi ++ lo) ∧ FetchSees s pas[2 * j] lo ∧ FetchSees s pas[2 * j + 1] hi := by
  obtain ⟨hlen, hsees⟩ := List.forall₂_iff_get.1 (fetchBytes_sees pas s)
  obtain ⟨hcount, hword⟩ := halvesOf_getElem? (hlen.symm.trans h)
  exact ⟨hcount, fun j hj => ⟨_, _, hword j hj, hsees (2 * j) (by omega) (by omega), hsees (2 * j + 1) (by omega) (by omega)⟩⟩

/-- What a fetch answers where every byte stands somewhere: no word from a device, else the words of the bytes it sees. -/
theorem fetchWords_untranslated (base : VAddr) {k : Nat} {a : VAddr} {pas : List Nat} (hm : s.mmcr = 0#64)
    (hw : s.tripwires = []) (hpas : spanOf (vaSpace s) (vaOf s (a.setWidth 64)) (2 * k) = pas)
    (hr : ∀ pa ∈ pas, regionOf s.map pa ≠ .unmapped) :
    fetchWords base k a s =
      if pas.any (isMmio s) then .stop (.refused .mmio)
      else .ok (halvesOf (fetchBytes pas (evictI s pas)).1) (fetchBytes pas (evictI s pas)).2 := by
  rw [fetchWords, hpas, resolveAll_untranslated _ hm hw fun pa h => reachable_fetch (hr pa h)]

/-! ### A load after a store (20_memory.md R70, R93; 44_load_store.md R425) -/

/-- The state after a store of ordinary bytes. -/
def State.stored (pas : List Nat) (v : Nat) (s : State) : State := (storeLE pas v (touched s pas)).done

theorem store_eq {size : Nat} {n : Reg} {a : Addr} {pas : List Nat}
    (h : Access .write (vaSpace s) (vaOf s (effAddr s size a)) size s pas s) :
    store size n a s = .next (s.stored pas (getReg s n).toNat) := by
  rw [store, writeMem, writeVA_eq h, retire_eq, State.stored]
theorem load_eq {size : Nat} {ext : Word → Word} {n : Reg} {a : Addr} {pas : List Nat}
    (h : Access .read (vaSpace s) (vaOf s (effAddr s size a)) size s pas s) :
    load size ext n a s = .next (setReg (touched s pas) n (ext (BitVec.ofNat 64 (bytesLE s pas)))).done := by
  rw [load, readMem, readVA_eq h, retire_eq]

/-! A store moves neither the space nor an address, so that the same access reaches the same bytes after it. -/

theorem vaSpace_stored (pas : List Nat) (v : Nat) (s : State) : vaSpace (s.stored pas v) = vaSpace s := by
  rw [vaSpace_eq, vaSpace_eq, show (s.stored pas v).sr = s.sr from storeLE_sr _ _ _]
theorem vaOf_stored (pas : List Nat) (v : Nat) (s : State) (ea : Word) : vaOf (s.stored pas v) ea = vaOf s ea := by
  rw [vaOf_eq, vaOf_eq, vaSpace_stored]
theorem effAddr_stored (pas : List Nat) (v : Nat) (s : State) (size : Nat) (a : Addr) :
    effAddr (s.stored pas v) size a = effAddr s size a :=
  effAddr_congr (storeLE_regs _ _ _) (storeLE_npc _ _ _) (storeLE_gbr _ _ _) (storeLE_tbr _ _ _) size a
theorem access_stored (k : Config.Access) (l : List Nat) (v size : Nat) (a : Addr) (hm : s.mmcr = 0#64) (hw : s.tripwires = [])
    (hr : ∀ pa ∈ spanOf (vaSpace s) (vaOf s (effAddr s size a)) size, regionOf s.map pa = .ram) :
    Access k (vaSpace (s.stored l v)) (vaOf (s.stored l v) (effAddr (s.stored l v) size a)) size (s.stored l v)
      (spanOf (vaSpace s) (vaOf s (effAddr s size a)) size) (s.stored l v) := by
  have hmap : (s.stored l v).map = s.map := storeLE_map _ _ _
  rw [effAddr_stored, vaOf_stored, vaSpace_stored]
  exact access_ram k ((storeLE_mmcr _ _ _).trans hm) ((storeLE_tripwires _ _ _).trans hw) (by rwa [hmap])
/-- The bytes stored are the low bytes of the value. -/
theorem bytesLE_stored {pas : List Nat} (v : Nat) (hwf : Memory.wf s.mem = true) (hnodup : pas.Nodup)
    (hram : ∀ pa ∈ pas, regionOf s.map pa = .ram) : bytesLE (s.stored pas v) pas = v % 256 ^ pas.length :=
  calc bytesLE (s.stored pas v) pas
    _ = bytesLE (storeLE pas v (touched s pas)) pas := bytesLE_congr pas fun _ _ => rfl
    _ = v % 256 ^ pas.length := bytesLE_storeLE (s := touched s pas) pas v hwf hnodup hram

/-- A load after a store reads the low bytes of the value stored: it reaches the same bytes, and these, no more than the
space has, are all different. -/
theorem load_after_store {size : Nat} {n k : Reg} {a : Addr} (ext : Word → Word) (hm : s.mmcr = 0#64) (hw : s.tripwires = [])
    (hwf : Memory.wf s.mem = true) (hsize : size ≤ 2 ^ 32)
    (hram : ∀ j, j < size → regionOf s.map ((vaOf s (effAddr s size a) + j) % vaSpace s) = .ram) :
    ∃ t u, store size n a s = .next t ∧ load size ext k a t = .next u ∧
      getReg u k = ext (BitVec.ofNat 64 ((getReg s n).toNat % 256 ^ size)) := by
  have hpas : ∀ pa ∈ spanOf (vaSpace s) (vaOf s (effAddr s size a)) size, regionOf s.map pa = .ram := fun pa h => by
    obtain ⟨j, hj, rfl⟩ := mem_spanOf.1 h
    exact hram j hj
  have hnodup := spanOf_nodup (va := vaOf s (effAddr s size a)) (show size ≤ vaSpace s by rw [vaSpace_eq]; split <;> omega)
  have hwrite := access_ram .write hm hw hpas
  have hread := access_stored .read (spanOf (vaSpace s) (vaOf s (effAddr s size a)) size) (getReg s n).toNat size a hm hw hpas
  refine ⟨_, _, store_eq hwrite, load_eq hread, (getReg_setReg_same _ k _).trans ?_⟩
  rw [bytesLE_stored _ hwf hnodup hpas, spanOf_length]

/-- The low bits of a value's low bytes, read back as a number, are those of the value. -/
theorem setWidth_ofNat_mod {w m : Nat} (x : Word) (hm : m = 2 ^ w) (hw : w ≤ 64) :
    (BitVec.ofNat 64 (x.toNat % m)).setWidth w = x.setWidth w := by
  have hdvd : 2 ^ w ∣ 2 ^ 64 := Nat.pow_dvd_pow 2 hw
  apply BitVec.eq_of_toNat_eq
  simp only [hm, BitVec.toNat_setWidth, BitVec.toNat_ofNat, Nat.mod_mod_of_dvd _ hdvd, Nat.mod_mod]
theorem sext_ofNat_mod {w m : Nat} (x : Word) (hm : m = 2 ^ w) (hw : w ≤ 64) :
    sext w (BitVec.ofNat 64 (x.toNat % m)) = (x.setWidth w).signExtend 64 := by
  rw [sext, setWidth_ofNat_mod x hm hw]
theorem zext_ofNat_mod {w m : Nat} (x : Word) (hm : m = 2 ^ w) (hw : w ≤ 64) :
    zext w (BitVec.ofNat 64 (x.toNat % m)) = (x.setWidth w).setWidth 64 := by
  rw [zext, setWidth_ofNat_mod x hm hw]

end

/-- Settles O34: each address is its own physical address, and none is a device's. -/
theorem untranslatedAccessReachesItsBytes : Obligations.UntranslatedAccessReachesItsBytes := by
  intro k ea n s hm hw space pas hr
  have hspan : spanOf (vaSpace s) (vaOf s ea) n = pas := by rw [spanOf_eq_range, vaOf_eq, vaSpace_eq]
  rw [← hspan] at hr ⊢
  exact access_untranslated hm hw fun pa h => reachable_ordinary (hr pa h)

/-- Settles O4: the bytes a fetch sees, paired into words; where one is a device's, the refusal. -/
theorem fetchReadsWordsFromMemory : Obligations.FetchReadsWordsFromMemory := by
  intro base k a s hm hw at' there byte
  have hbyte : byte = readByte s := funext fun pa => by
    simp only [byte, readByte, rtsByte]; cases regionOf s.map pa <;> rfl
  clear_value byte
  subst hbyte
  obtain ⟨pas, hpas⟩ : ∃ pas, pas = (List.range (2 * k)).map at' := ⟨_, rfl⟩
  have hspan : spanOf (vaSpace s) (vaOf s (a.setWidth 64)) (2 * k) = pas := (spanOf_eq_range _ _ _).trans hpas.symm
  have hlen : pas.length = 2 * k := by simp [hpas]
  have hat (j : Nat) (hj : j < 2 * k) : pas[j] = at' j := by simp [hpas]
  have hfetch (hr : there) := fetchWords_untranslated base hm hw hspan (by simpa [hpas] using hr)
  refine ⟨fun hr hdev => ?_, fun hr ⟨j, hj, hdev⟩ => ?_⟩
  · have hnone : ¬ pas.any (isMmio s) = true := by simpa [hpas, isMmio] using hdev
    rw [hfetch hr, if_neg hnone]
    refine ⟨fun hs => ?_, ?_⟩
    · rw [evictI_fresh _ hs, fetchBytes_fresh _ hs, hpas, List.map_map, halvesOf_map_range]; rfl
    · obtain ⟨d, hd⟩ := fetchBytes_drew pas (evictI s pas)
      obtain ⟨hcount, hword⟩ := halvesOf_fetchBytes (evictI s pas) hlen
      refine ⟨_, d, _, congrArg _ hd, List.filter_sublist, hcount, fun j hj => ?_⟩
      obtain ⟨hi, lo, hw, hlo, hhi⟩ := hword j hj
      rw [hat _ (by omega)] at hlo hhi
      exact ⟨hi, lo, hw, hlo.of_evictI, hhi.of_evictI⟩
  · have hsome : pas.any (isMmio s) = true :=
      List.any_eq_true.2 ⟨at' j, hpas ▸ List.mem_map_of_mem (List.mem_range.2 hj), by simp [isMmio, hdev]⟩
    rw [hfetch hr, if_pos hsome]

/-- Settles O37: the load gives the low bytes stored, which the extension then cuts and extends. -/
theorem loadAfterStoreGivesTheValue : Obligations.LoadAfterStoreGivesTheValue := by
  intro n k a s hm hw hwf x trip
  have run {size : Nat} {st ld : Instr} {v : Word} (ext : Word → Word) (hst : exec st = store size n a)
      (hld : exec ld = load size ext k a) (hsize : size ≤ 8)
      (hv : ext (BitVec.ofNat 64 (x.toNat % 256 ^ size)) = v) : trip size st ld v := fun hram => by
    rw [hst, hld, ← hv]
    exact load_after_store ext hm hw hwf (by omega) hram
  exact ⟨run (sext 8) rfl rfl (by decide) (sext_ofNat_mod x (by decide) (by decide)),
    run (zext 8) rfl rfl (by decide) (zext_ofNat_mod x (by decide) (by decide)),
    run (sext 16) rfl rfl (by decide) (sext_ofNat_mod x (by decide) (by decide)),
    run (zext 16) rfl rfl (by decide) (zext_ofNat_mod x (by decide) (by decide)),
    run (sext 32) rfl rfl (by decide) (sext_ofNat_mod x (by decide) (by decide)),
    run (zext 32) rfl rfl (by decide) (zext_ofNat_mod x (by decide) (by decide)),
    run id rfl rfl (by decide) (by simpa using setWidth_ofNat_mod (w := 64) x rfl (by decide))⟩

end Sys2Proof.Machine

/-! ### Words of the spec's examples (30_encoding.md R111 to R170) -/

namespace Sys2Proof.Machine

open Sys2Proof

/-- Settles O1: closed words, which the decoder evaluates. -/
theorem decodeReadsTheSpecsExampleWords : Obligations.DecodeReadsTheSpecsExampleWords := by
  unfold Obligations.DecodeReadsTheSpecsExampleWords
  decide

end Sys2Proof.Machine

/-! The decoder reads back what the encoder writes (30_encoding.md R110 to R166). -/

namespace Sys2Proof

open Sys2Proof.Machine

/-! ### Slices of what is put together -/

section
variable {w k i : Nat} (a : BitVec w) (b : BitVec k)

@[simp] theorem slice_append_high {l : Nat} (h : k ≤ i) :
    slice (w := no_index (w + k)) (HAppend.hAppend (γ := no_index (BitVec (w + k))) a b) i l = slice a (i - k) l :=
  BitVec.extractLsb'_append_eq_of_le h
@[simp] theorem slice_append_low {l : Nat} (h : i + l ≤ k) :
    slice (w := no_index (w + k)) (HAppend.hAppend (γ := no_index (BitVec (w + k))) a b) i l = slice b i l :=
  BitVec.extractLsb'_append_eq_of_add_le h
@[simp] theorem bitAt_append_high (h : k ≤ i) :
    bitAt (w := no_index (w + k)) (HAppend.hAppend (γ := no_index (BitVec (w + k))) a b) i = bitAt a (i - k) := by
  simp [bitAt, BitVec.getLsbD_append, Nat.not_lt.2 h]
@[simp] theorem bitAt_append_low (h : i < k) :
    bitAt (w := no_index (w + k)) (HAppend.hAppend (γ := no_index (BitVec (w + k))) a b) i = bitAt b i := by
  simp [bitAt, BitVec.getLsbD_append, h]
@[simp] theorem slice_self : slice a 0 w = a := BitVec.extractLsb'_eq_self

end

/-! ### Fields put together, and extended -/

section
variable {w lo hi l k : Nat}

/-- Two fields side by side are one. -/
@[simp] theorem slice_append_slice (v : BitVec w) (h : hi = lo + l) :
    HAppend.hAppend (γ := no_index (BitVec (k + l))) (slice v hi k) (slice v lo l) = slice v lo (k + l) :=
  BitVec.extractLsb'_append_extractLsb'_eq_extractLsb' h
theorem slice_zero_eq_setWidth (v : BitVec w) (h : l ≤ w) : slice v 0 l = v.setWidth l := (BitVec.setWidth_eq_extractLsb' h).symm
@[simp] theorem slice_append_setWidth (v : BitVec w) (h : k + l ≤ w) :
    HAppend.hAppend (γ := no_index (BitVec (k + l))) (slice v l k) (v.setWidth l) = v.setWidth (k + l) := by
  rw [← slice_zero_eq_setWidth v h, ← slice_zero_eq_setWidth v (by omega), slice_append_slice v (Nat.zero_add l).symm]

/-- The extensions of a field of k bits. -/
theorem setWidth_of_fitsU {v : Word} (h : fitsU v k = true) : (v.setWidth k).setWidth 64 = v := by
  simpa [fitsU, zext] using h
theorem oext_of_fitsN {v : Word} (h : fitsN v k = true) (hk : k ≤ 64) : oext k ((v.setWidth k).setWidth 64) = v := by
  simpa [fitsN, oext, zext, BitVec.setWidth_setWidth_of_le, hk] using h
theorem sext_of_fitsS {v : Word} (h : fitsS v k = true) (hk : k ≤ 64) : sext k ((v.setWidth k).setWidth 64) = v := by
  simpa [fitsS, sext, BitVec.setWidth_setWidth_of_le, hk] using h

/-- Zeros above a field leave its sign clear; ones above it are what one-extension puts there. -/
theorem sext_zero_append (x : BitVec k) (hj : 0 < l) (hk : l + k ≤ 64) :
    sext (l + k) ((0#l ++ x).setWidth 64) = x.setWidth 64 := by
  have hm : (0#l ++ x).msb = false := by simp [BitVec.msb_append]; omega
  rw [sext, BitVec.setWidth_setWidth_of_le _ hk, BitVec.setWidth_eq, BitVec.signExtend_eq_setWidth_of_msb_false hm]
  apply BitVec.eq_of_getLsbD_eq
  intro i hi
  have hx : k ≤ i → x.getLsbD i = false := BitVec.getLsbD_of_ge x i
  simp [BitVec.getLsbD_append]
  grind
/-- A bit of a one-extended value. -/
theorem getLsbD_oext (v : Word) {i : Nat} (hi : i < 64) : (oext k v).getLsbD i = (decide (k ≤ i) || v.getLsbD i) := by
  by_cases h : i < k
  · have hk : ¬ k ≤ i := by omega
    simp [oext, zext, h, hk, hi]
  · simp [oext, zext, -BitVec.reduceAllOnes, h, Nat.not_lt.1 h, hi]
theorem oext_allOnes_append (x : BitVec k) :
    oext (l + k) ((BitVec.allOnes l ++ x).setWidth 64) = oext k (x.setWidth 64) := by
  apply BitVec.eq_of_getLsbD_eq
  intro i hi
  have hx : k ≤ i → x.getLsbD i = false := BitVec.getLsbD_of_ge x i
  rw [getLsbD_oext _ hi, getLsbD_oext _ hi, BitVec.getLsbD_setWidth, BitVec.getLsbD_setWidth, BitVec.getLsbD_append,
    BitVec.getLsbD_allOnes]
  by_cases h : i < k
  · have hk : ¬ k ≤ i := by omega
    have hl : ¬ l + k ≤ i := by omega
    simp [h, hk, hl]
  · simp [h, hi, Nat.not_lt.1 h]
    omega
end

/-! ### The fields of a base instruction in its words (30_encoding.md R112) -/

theorem bitAt_ofBool (q : Bool) : bitAt (BitVec.ofBool q) 0 = q := by decide +revert

/-- The words of a base instruction hold its fields, beside the bits 5 of its registers. -/
theorem fieldsOf_words {f : Fields} (hf : f.xg2 = false) (top b : BitVec 4) :
    fieldsOf false f.blk f.ext (f.w0 top b) f.w1 = f := by
  obtain ⟨xg2, blk, n, m, o, nx, mx, ox, z, y, q⟩ := f
  subst hf
  simp [fieldsOf, Fields.ext, Fields.w0, Fields.w1, Fields.imm16, bitAt_ofBool]

/-- An XG1 base instruction of a block that holds instructions. -/
def Fields.IsBase (f : Fields) : Prop := f.xg2 = false ∧ [0#4, 1#4, 2#4, 8#4].contains f.blk = true

section
variable {f : Fields}

/-- In the F range the first word of a base instruction is no Jumbo or Op64 word and no jump, and says the block and nothing more. -/
theorem baseWord_head (hf : f.IsBase) :
    let w0 := f.w0 15#4 f.blk
    isOp64 w0 = false ∧ isJumbo w0 = false ∧ slice w0 13 3 = 7#3 ∧ slice w0 8 8 ≠ 0xFA#8 ∧ slice w0 8 8 ≠ 0xFB#8 ∧
      rangeOf (bitAt w0 12) (slice w0 8 4) = some (none, false, f.blk) := by
  obtain ⟨-, hb⟩ := hf
  simp only [isOp64, isJumbo, Fields.w0]
  generalize f.blk = b at hb
  simp
  revert hb
  revert b
  decide

/-- A base instruction behind its Jumbo or Op64 words, as the F range has it. -/
theorem decodeBase_words (hf : f.IsBase) {p : Prefix} (hp : p.there = true) (len : Nat) :
    decodeBase false p len f.ext (f.w0 15#4 f.blk) f.w1 = finish len none false (classify p f) := by
  obtain ⟨-, -, -, -, -, hr⟩ := baseWord_head hf
  simp [decodeBase, hr, hp, fieldsOf_words hf.1]

/-- The first word in front of a base instruction: FE of Jumbo, FF of Op64 (R155, R160). -/
theorem jumboWord_head (a : BitVec 8) :
    isOp64 (0xFE#8 ++ a) = false ∧ isJumbo (0xFE#8 ++ a) = true ∧ slice (0xFE#8 ++ a : Half) 13 3 = 7#3 := by
  simp [isOp64, isJumbo]; rfl
theorem op64Word_head (a : BitVec 1) (b : BitVec 3) (c : BitVec 4) :
    isOp64 (0xFF#8 ++ a ++ b ++ c) = true ∧ slice (0xFF#8 ++ a ++ b ++ c : Half) 13 3 = 7#3 := by
  simp [isOp64]; rfl

/-- A base instruction that names no register above R31. -/
theorem decode_baseWords (hf : f.IsBase) (he : f.ext = 0#3) :
    decode false [f.w0 15#4 f.blk, f.w1] = finish 4 none false (plain f) := by
  obtain ⟨h64, hj, h13, -⟩ := baseWord_head hf
  have hd := decodeBase_words hf (p := .none) rfl 4
  rw [he] at hd
  exact .trans (by simp [decode, decodeWide, xg2Ext, h64, h13, hj]) hd
/-- A 7w form names every register (R165). -/
theorem decode_xgprWords (hf : f.IsBase) (hb : f.blk = 0#4) :
    decode false [f.w0 7#4 (0#1 ++ f.ext), f.w1] = finish 4 none false (plainF0 f) := by
  have hw := fieldsOf_words hf.1 7#4 (0#1 ++ f.ext)
  have h12 : slice (f.w0 7#4 (0#1 ++ f.ext)) 12 4 = 7#4 := by simp [Fields.w0]
  have h13 : slice (f.w0 7#4 (0#1 ++ f.ext)) 13 3 = 3#3 := by simp [Fields.w0]; rfl
  have hx : slice (f.w0 7#4 (0#1 ++ f.ext)) 8 3 = f.ext := by simp [Fields.w0]
  have hwex : bitAt (f.w0 7#4 (0#1 ++ f.ext)) 11 = false := by simp [Fields.w0]; rfl
  rw [hb] at hw
  simp [decode, decodeXgpr, Config.profileFix32D, Config.features, h12, h13, hx, hwex, hw]
/-- A base instruction behind Op64, whose bits are those of its registers (R160). -/
theorem decode_op64Words (hf : f.IsBase) (wq : Bool) (p1 : Half) :
    decode false (op64Words wq p1 f) = finish 8 none false (classify (.op64 wq p1) f) := by
  obtain ⟨h64, hj, h13, hA, hB, -⟩ := baseWord_head hf
  obtain ⟨h64', h13'⟩ := op64Word_head (BitVec.ofBool wq) f.ext 0#4
  simp [decode, decodeWide, op64Words, decodeOp64, h64, hj, h13, hA, hB, h64', h13', show prefixOp64 = true from rfl,
    decodeBase_words hf, Prefix.there, bitAt_ofBool]
/-- A base instruction behind Jumbo, and behind two. -/
theorem decode_jumboWords (hf : f.IsBase) (he : f.ext = 0#3) (k : BitVec 24) :
    decode false (Code.j k f).words = finish 8 none false (classify (.jumbo k) f) := by
  obtain ⟨h64, hj, h13, -⟩ := baseWord_head hf
  obtain ⟨h64', hj', h13'⟩ := jumboWord_head (slice k 16 8)
  have hd := decodeBase_words hf (p := .jumbo k) rfl 8
  rw [he] at hd
  simp [decode, decodeWide, Code.words, h64, hj, h13, h64', hj', h13', isBase, xg2Ext, hd]
theorem decode_jumbo2Words (hf : f.IsBase) (he : f.ext = 0#3) (jh jl : BitVec 24) :
    decode false (Code.jj jh jl f).words = finish 12 none false (classify (.jumbo2 jh jl) f) := by
  obtain ⟨h64, hj, h13, -⟩ := baseWord_head hf
  obtain ⟨h64h, hjh, h13h⟩ := jumboWord_head (slice jh 16 8)
  obtain ⟨-, hjl, -⟩ := jumboWord_head (slice jl 16 8)
  have hd := decodeBase_words hf (p := .jumbo2 jh jl) rfl 12
  rw [he] at hd
  simp [decode, decodeWide, Code.words, h64, hj, h13, h64h, hjh, h13h, hjl, isBase, xg2Ext, hd]
end

/-- An absolute jump, whose address takes the place of everything else (R163). -/
theorem decode_absWords (link : Bool) (a : BitVec 48) :
    decode false (Code.abs link a).words = .ok ⟨8, none, false, if link then .jsrAbs a else .jmpAbs a⟩ := by
  have h13 : slice (0xFF#8) 5 3 = 7#3 := rfl
  cases link <;> simp [Code.words, decode, decodeWide, decodeOp64, isOp64, h13, show prefixOp64 = true from rfl]

/-! ### What the decoder makes of an encoding -/

noncomputable section

/-- What a base instruction reads as: alone where no register is above R31, else as a 7w form in the F0 block and
behind Op64 in the others. -/
def Fields.readBase (p1 : Half) (f : Fields) : Option Instr :=
  if f.ext == 0#3 then plain f else if f.blk == 0#4 then plainF0 f else classify (.op64 false p1) f
/-- What an encoding reads as, before its feature group is checked. -/
def Code.read : Code → Option Instr
  | .h w => decodeHalf w
  | .b f => f.readBase 0#16
  | .bx p1 f => f.readBase p1
  | .j k f => classify (.jumbo k) f
  | .jj jh jl f => classify (.jumbo2 jh jl) f
  | .x wq p1 f => classify (.op64 wq p1) f
  | .abs link a => some (if link then .jsrAbs a else .jmpAbs a)
/-- An encoding whose words are cut as they were put together: a 16-bit word with none behind it, base instructions of the
blocks that hold any, and no register above R31 behind Jumbo. -/
def Code.Sound : Code → Prop
  | .h w => wordsNeeded false [w] = 1
  | .b f | .bx _ f | .x _ _ f => f.IsBase
  | .j _ f | .jj _ _ f => f.IsBase ∧ f.ext = 0#3
  | .abs _ _ => True

end

theorem decode_half {w : Half} (h : wordsNeeded false [w] = 1) :
    decode false [w] = finish 2 none false (decodeHalf w) := by
  simp [wordsNeeded, apply_ite (· = 1), isOp64, isJumbo] at h
  simp [decode, h]

/-- Every instruction is of a group that is there (log 5). -/
theorem implemented_eq_true (i : Instr) : implemented i = true := by cases i <;> rfl
theorem finish_some (len : Nat) (i : Instr) : finish len none false (some i) = .ok ⟨len, none, false, i⟩ := by
  simp [finish, implemented_eq_true]

theorem baseWords_cases {f : Fields} (hf : f.IsBase) (p1 : Half) :
    decode false (baseWords p1 f) = finish (2 * (baseWords p1 f).length) none false (f.readBase p1) := by
  unfold baseWords Fields.readBase
  split
  · simpa using decode_baseWords hf (eq_of_beq ‹_›)
  · split
    · simpa using decode_xgprWords hf (eq_of_beq ‹_›)
    · exact decode_op64Words hf false p1
theorem decode_words {c : Code} (hc : c.Sound) :
    decode false c.words = finish (2 * c.words.length) none false c.read := by
  cases c with
  | h w => exact decode_half hc
  | b f | bx p1 f => exact baseWords_cases hc _
  | j k f => exact decode_jumboWords hc.1 hc.2 k
  | jj jh jl f => exact decode_jumbo2Words hc.1 hc.2 jh jl
  | x wq p1 f => exact decode_op64Words hc wq p1
  | abs link a => rw [decode_absWords, Code.read, finish_some]; rfl
/-! The words say how many there are (R110). -/

theorem wordsNeeded_op64Words (wq : Bool) (p1 : Half) (f : Fields) :
    wordsNeeded false (op64Words wq p1 f) = (op64Words wq p1 f).length := by
  simp [wordsNeeded, op64Words, op64Word_head]
theorem wordsNeeded_baseWords {f : Fields} (hf : f.IsBase) (p1 : Half) :
    wordsNeeded false (baseWords p1 f) = (baseWords p1 f).length := by
  obtain ⟨h64, hj, h13, -⟩ := baseWord_head hf
  have h7 (b : BitVec 4) : slice (f.w0 7#4 b) 12 4 = 7#4 := by simp [Fields.w0]
  have h7' (b : BitVec 4) : isOp64 (f.w0 7#4 b) = false ∧ isJumbo (f.w0 7#4 b) = false := by
    simp [isOp64, isJumbo, Fields.w0]; revert b; decide
  unfold baseWords
  split
  · simp [wordsNeeded, h64, hj, h13]
  · split
    · simp [wordsNeeded, h7, h7']
    · exact wordsNeeded_op64Words false p1 f
theorem wordsNeeded_words {c : Code} (hc : c.Sound) : wordsNeeded false c.words = c.words.length := by
  cases c with
  | h w => exact hc
  | b f | bx p1 f => exact wordsNeeded_baseWords hc _
  | j k f =>
    obtain ⟨-, hj, -⟩ := baseWord_head hc.1
    obtain ⟨h64', hj', -⟩ := jumboWord_head (slice k 16 8)
    simp [wordsNeeded, Code.words, hj, h64', hj']
  | jj jh jl f =>
    obtain ⟨h64, hj, -⟩ := jumboWord_head (slice jh 16 8)
    obtain ⟨-, hj', -⟩ := jumboWord_head (slice jl 16 8)
    simp [wordsNeeded, Code.words, hj, h64, hj']
  | x wq p1 f => exact wordsNeeded_op64Words wq p1 f
  | abs link a => simp [wordsNeeded, Code.words, isOp64]

/-! ### Round trips -/

/-- An encoding that reads as an instruction. -/
def Encodes (i : Instr) (c : Option Code) : Prop := ∃ k, c = some k ∧ k.Sound ∧ k.read = some i

theorem Encodes.decode_encode {i : Instr} (h : Encodes i (encodeCode i)) :
    ∃ ws, encode i = some ws ∧ wordsNeeded false ws = ws.length ∧
      decode false ws = .ok { len := 2 * ws.length, pred := none, wex := false, instr := i } := by
  obtain ⟨k, hk, hs, hr⟩ := h
  exact ⟨k.words, by rw [encode, hk]; rfl, wordsNeeded_words hs, by rw [decode_words hs, hr, finish_some]⟩

/-! ### The fields the encoder puts together -/

theorem reg_bits (r : Reg) : slice r 4 2 ++ slice r 0 4 = r := (slice_append_slice r rfl).trans (slice_self r)

/-! ### Bits of literals and of slices -/

@[simp] theorem onlyIf_true {α : Type} (x : Option α) : onlyIf true x = x := rfl
@[simp] theorem onlyIf_false {α : Type} (x : Option α) : onlyIf false x = none := rfl
@[simp] theorem bitAt_zero (w i : Nat) : bitAt (0#w) i = false := by simp [bitAt]
@[simp] theorem slice_zero (w i l : Nat) : slice (0#w) i l = 0#l := by simp [slice]
@[simp] theorem bitAt_of_slice {w lo len i : Nat} (v : BitVec w) (h : i < len) :
    bitAt (slice v lo len) i = bitAt v (lo + i) := bitAt_slice v h
@[simp] theorem slice_of_slice {w lo len i k : Nat} (v : BitVec w) (h : i + k ≤ len) :
    slice (slice v lo len) i k = slice v (lo + i) k := slice_slice v h

@[simp] theorem slice_p1n_high : slice p1n 8 8 = 0#8 := rfl
@[simp] theorem slice_p1n : slice p1n 0 8 = 0xFF#8 := rfl

section
variable {blk z y : BitVec 4} {q : Bool} {n m o : Reg}

@[simp] theorem mk3_rn : (mk3 blk z y q n m o).rn = n := reg_bits n
@[simp] theorem mk3_rm : (mk3 blk z y q n m o).rm = m := reg_bits m
@[simp] theorem mk3_ro : (mk3 blk z y q n m o).ro = o := reg_bits o
@[simp] theorem pairOf_regOf (p : Pair) : pairOf (regOf p) = p := by decide +revert

/-! ### An Imm9 (R114) -/

variable {v : Word}

@[simp] theorem mk9_rn (w : BitVec 9) : (mk9 blk z q n m w).rn = n := mk3_rn
@[simp] theorem mk9_rm (w : BitVec 9) : (mk9 blk z q n m w).rm = m := mk3_rm
@[simp] theorem mk9_imm9 (w : BitVec 9) : (mk9 blk z q n m w).imm9 = w := by simp [Fields.imm9, mk9, mk3]
@[simp] theorem mk9_o5 (w : BitVec 9) : (mk9 blk z q n m w).o5 = false := by simp [Fields.o5, mk9, mk3]
@[simp] theorem mk9_oHi (w : BitVec 9) : slice (mk9 blk z q n m w).ox 1 1 = 0#1 := by simp [mk9, mk3]

theorem mk9_u9 (h : fitsU v 9 = true) : (mk9 blk z q n m (v.setWidth 9)).u9 = some v := by
  simpa [Fields.u9, oneExt] using setWidth_of_fitsU h
theorem mk9_n9 (h : fitsN v 9 = true) : (mk9 blk z q n m (v.setWidth 9)).n9 = some v := by
  simpa [Fields.n9] using oext_of_fitsN h
theorem mk9_x9 (h : fitsU v 9 = true) : (mk9 blk z q n m (v.setWidth 9)).x9 0#16 = some v := by
  simpa [Fields.x9] using (sext_zero_append (l := 9) (v.setWidth 9) (by decide) (by decide)).trans (setWidth_of_fitsU h)
theorem mk9_x9n (h : fitsN v 9 = true) : (mk9 blk z q n m (v.setWidth 9)).x9n p1n = some v := by
  simpa [Fields.x9n] using (oext_allOnes_append (l := 8) (v.setWidth 9)).trans (oext_of_fitsN h (by decide))
theorem mk9_s33 (h : fitsS v 33 = true) : (mk9 blk z q n m (v.setWidth 9)).s33 (slice v 9 24) = some v := by
  simpa [Fields.s33] using sext_of_fitsS h
theorem mk9_s57 (h : fitsS v 57 = true) :
    (mk9 blk z q n m (v.setWidth 9)).s57 (slice v 33 24) (slice v 9 24) = some v := by
  simpa [Fields.s57] using sext_of_fitsS h
end


/-! ### Immediates and displacements -/

section
variable {blk z y op : BitVec 4} {q : Bool} {n m o : Reg} {v : Word}

@[simp] theorem slice_setWidth {w k i l : Nat} (x : BitVec w) (h : i + l ≤ k) :
    slice (x.setWidth k) i l = slice x i l := by
  apply BitVec.eq_of_getLsbD_eq
  intro j hj
  simp [slice, hj]
  omega
@[simp] theorem bitAt_setWidth {w k i : Nat} (x : BitVec w) (h : i < k) : bitAt (x.setWidth k) i = bitAt x i := by
  simp [bitAt, h]
@[simp] theorem bitAt_of_le {w i : Nat} (x : BitVec w) (h : w ≤ i) : bitAt x i = false := by
  simp [bitAt, BitVec.getLsbD_of_ge x i h]
@[simp] theorem slice_of_le {w i l : Nat} (x : BitVec w) (h : w ≤ i) : slice x i l = 0#l := by
  apply BitVec.eq_of_getLsbD_eq
  intro j hj
  simp [slice, hj, BitVec.getLsbD_of_ge x (i + j) (by omega)]

@[simp] theorem setWidth_zero_append {l k w : Nat} (x : BitVec k) :
    (HAppend.hAppend (γ := no_index (BitVec (l + k))) 0#l x).setWidth w = x.setWidth w := by
  apply BitVec.eq_of_getLsbD_eq
  intro i hi
  have hx : k ≤ i → x.getLsbD i = false := BitVec.getLsbD_of_ge x i
  simp [BitVec.getLsbD_append]
  grind

/-! Imm5 and its like (R114). -/

@[simp] theorem mk3_imm5 : (mk3 blk z y q n m o).imm5 = slice o 0 5 := by simp [Fields.imm5, mk3]
@[simp] theorem mk3_o5 : (mk3 blk z y q n m o).o5 = bitAt o 5 := by simp [Fields.o5, mk3]
@[simp] theorem mk3_i5 (w : BitVec 5) : (mk3 blk z y q n m (w.setWidth 6)).i5 = some w := by simp [Fields.i5]
@[simp] theorem mk3_mi4 (w : BitVec 4) : (mk3 blk z y q n (w.setWidth 6) o).mi4 = some w := by simp [Fields.mi4, mk3]
@[simp] theorem mk3_mi2 (w : BitVec 2) : (mk3 blk z y q n (w.setWidth 6) o).mi2 = some w := by
  simp [Fields.mi2, mk3]
theorem mk3_u5 (h : fitsU v 5 = true) : (mk3 blk z y q n m ((v.setWidth 5).setWidth 6)).u5 = some v := by
  have := setWidth_of_fitsU h
  simpa [Fields.u5, oneExt, slice_zero_eq_setWidth] using this
theorem mk3_s29 (h : fitsS v 29 = true) : (mk3 blk z y q n m ((v.setWidth 5).setWidth 6)).s29 (slice v 5 24) = some v := by
  simpa [Fields.s29, slice_zero_eq_setWidth] using sext_of_fitsS h
theorem mk3_s17 (h : fitsS v 17 = true) (u : BitVec 4) (b : BitVec 1) :
    (mk3 blk z y q n m (slice v 16 1 ++ v.setWidth 5)).s17 (u ++ b ++ slice v 5 11) = some v := by
  have hs := sext_of_fitsS h
  rw [← slice_zero_eq_setWidth v (by decide)] at hs
  simpa [Fields.s17, mk3, Fields.imm5] using hs
theorem mk3_s29x (h : fitsS v 29 = true) :
    (mk3 blk z y q n m ((v.setWidth 5).setWidth 6)).s29x (slice v 5 24) = some (false, v) := by
  simpa [Fields.s29x, slice_zero_eq_setWidth] using sext_of_fitsS h
theorem fields_s11 (h : fitsS v 11 = true) (f : Fields) : f.s11 (0#4 ++ 1#1 ++ v.setWidth 11) = some v := by
  have hs := sext_of_fitsS h
  have h11 : BitVec.setWidth 11 (1#5 ++ v.setWidth 11) = v.setWidth 11 := by
    rw [← slice_zero_eq_setWidth _ (by decide)]; exact slice_append_low _ _ (by decide) |>.trans (slice_self _)
  simpa [Fields.s11, sext, BitVec.setWidth_setWidth_of_le, h11] using hs

/-! An Imm6 in the m position, whose bit 5 is E.i (47_system_ttag.md R655). -/

theorem mk3_imm6 (w : BitVec 6) (k : BitVec 4) :
    (mk3 blk z y q n ((slice w 0 5).setWidth 6) (0#1 ++ slice w 5 1 ++ k)).imm6 = w := by simp [Fields.imm6, mk3]
theorem mk3_o (k : BitVec 6) : (mk3 blk z y q n m k).o = slice k 0 4 := rfl
theorem mk3_m6 (w : BitVec 6) (k : BitVec 4) :
    (mk3 blk z y q n ((slice w 0 5).setWidth 6) (0#1 ++ slice w 5 1 ++ k)).m6 = some w := by
  simp [Fields.m6, Fields.hi2, mk3_imm6]
  simp [mk3]
theorem mk3_u6 (h : fitsU v 6 = true) (k : BitVec 4) :
    (mk3 blk z y q n ((slice v 0 5 : BitVec 5).setWidth 6) (0#1 ++ slice v 5 1 ++ k)).u6 = some v := by
  have := setWidth_of_fitsU h
  have hs := (sext_zero_append (l := 2) (v.setWidth 6) (by decide) (by decide)).trans (setWidth_of_fitsU h)
  rw [← slice_zero_eq_setWidth v (by decide)] at hs
  simpa [Fields.u6, Fields.uHi, Fields.hi2, Fields.imm6, mk3] using hs

/-! Imm10 and an Imm8 in its place (R114, R116). -/

@[simp] theorem mk10_rn (w : BitVec 10) : (mk10 blk z op q n w).rn = n := mk3_rn
@[simp] theorem mk10_imm10 (w : BitVec 10) : (mk10 blk z op q n w).imm10 = w := by simp [Fields.imm10, mk10, mk3]
@[simp] theorem mk10_hi2 (w : BitVec 10) : (mk10 blk z op q n w).hi2 = 0#2 := by simp [Fields.hi2, mk10, mk3]
@[simp] theorem mk10_m5 (w : BitVec 10) : (mk10 blk z op q n w).m5 = false := by simp [Fields.m5, mk10, mk3]
@[simp] theorem mk10_o5 (w : BitVec 10) : (mk10 blk z op q n w).o5 = false := by simp [Fields.o5, mk10, mk3]
@[simp] theorem mk10_oHi (w : BitVec 10) : slice (mk10 blk z op q n w).ox 1 1 = 0#1 := by simp [mk10, mk3]

theorem mk10_z10 (h : fitsU v 10 = true) : (mk10 blk z op q n (v.setWidth 10)).z10 = some v := by
  simpa [Fields.z10, Fields.zHi] using setWidth_of_fitsU h
theorem mk10_x10z (h : fitsU v 10 = true) : (mk10 blk z op q n (v.setWidth 10)).x10z 0#16 = some v := by
  simpa [Fields.x10z] using setWidth_of_fitsU h
theorem mk10_u10 (h : fitsU v 10 = true) : (mk10 blk z op q n (v.setWidth 10)).u10 = some v := by
  simpa [Fields.u10, Fields.uHi] using
    (sext_zero_append (l := 2) (v.setWidth 10) (by decide) (by decide)).trans (setWidth_of_fitsU h)
theorem mk10_x10 (h : fitsU v 10 = true) : (mk10 blk z op q n (v.setWidth 10)).x10 0#16 = some v := by
  simpa [Fields.x10] using (sext_zero_append (l := 9) (v.setWidth 10) (by decide) (by decide)).trans (setWidth_of_fitsU h)
theorem mk10_n10 (h : fitsN v 10 = true) : (mk10 blk z op q n (v.setWidth 10)).n10 = some v := by
  simpa [Fields.n10, Fields.nHi] using (oext_allOnes_append (l := 2) (v.setWidth 10)).trans (oext_of_fitsN h (by decide))
theorem mk10_x10n (h : fitsN v 10 = true) : (mk10 blk z op q n (v.setWidth 10)).x10n p1n = some v := by
  simpa [Fields.x10n] using (oext_allOnes_append (l := 8) (v.setWidth 10)).trans (oext_of_fitsN h (by decide))
@[simp] theorem mk10_b8 (w : BitVec 8) : (mk10 blk z op q n (w.setWidth 10)).b8 = some w := by
  have hw : slice (0#1 ++ slice w 4 5) 4 2 = 0#2 := by decide +revert
  simp [Fields.b8, Fields.imm8, mk10, mk3, hw]

theorem mk10_z8 (h : fitsU v 8 = true) : (mk10 blk z op q n (v.setWidth 10)).z8 = some v := by
  have hv : v.setWidth 10 = (v.setWidth 8).setWidth 10 := by
    conv_lhs => rw [← setWidth_of_fitsU h, BitVec.setWidth_setWidth_of_le _ (by decide)]
  simpa [Fields.z8, hv] using setWidth_of_fitsU h
theorem mk10_xz8 (h : fitsU v 8 = true) : (mk10 blk z op q n (v.setWidth 10)).xz8 0#16 = some v := by
  have hv : v.setWidth 10 = (v.setWidth 8).setWidth 10 := by
    conv_lhs => rw [← setWidth_of_fitsU h, BitVec.setWidth_setWidth_of_le _ (by decide)]
  simpa [Fields.xz8, hv] using setWidth_of_fitsU h

/-! An Imm8 (R115). -/

@[simp] theorem mk8_rn (x : BitVec 2) (w : BitVec 8) : (mk8 blk z q n m x w).rn = n := mk3_rn
@[simp] theorem mk8_rm (x : BitVec 2) (w : BitVec 8) : (mk8 blk z q n m x w).rm = m := mk3_rm
@[simp] theorem mk8_ox (x : BitVec 2) (w : BitVec 8) : (mk8 blk z q n m x w).ox = x := by simp [mk8, mk3]
@[simp] theorem mk8_imm8 (x : BitVec 2) (w : BitVec 8) : (mk8 blk z q n m x w).imm8 = w := by simp [Fields.imm8, mk8, mk3]

theorem sext_p1s (w : BitVec 8) :
    sext 16 ((slice (p1s (w.setWidth 64)) 0 8 ++ w).setWidth 64) = sext 8 (w.setWidth 64) := by decide +revert
theorem slice_p1s (w : BitVec 8) : slice (p1s (w.setWidth 64)) 8 8 = 0#8 := by decide +revert
theorem sext_zext_of_fitsS (h : fitsS v 8 = true) : sext 8 (zext 8 ((v.setWidth 8).setWidth 64)) = v := by
  simpa [zext, BitVec.setWidth_setWidth_of_le] using sext_of_fitsS h
theorem mk8_x8 (h : fitsS v 8 = true) (x : BitVec 2) :
    (mk8 blk z q n m x (v.setWidth 8)).x8 (p1s ((v.setWidth 8).setWidth 64)) = some v := by
  simp only [Fields.x8, mk8_imm8, sext_p1s, sext_of_fitsS h (show 8 ≤ 64 by decide)]

/-! The operator of JCMPZ in three bits (46_branch.md R587). -/

theorem mkJcmpz_imm8 (c : ZCond) (w : BitVec 8) : (mkJcmpz q c n w).imm8 = w := by simp [Fields.imm8, mkJcmpz, mk3]
theorem zcondOf_zcondCode (c : ZCond) : zcondOf (zcondCode c) = some c := by cases c <;> rfl
theorem mkJcmpz_jcmpz (c : ZCond) (w : BitVec 8) (d : Word) : (mkJcmpz q c n w).jcmpz d = some (.jcmpz q c n d) := by
  have hr : (mkJcmpz q c n w).rn = n := mk3_rn
  have h5 : (mkJcmpz q c n w).m5 = false ∧ (mkJcmpz q c n w).o5 = false := by simp [mkJcmpz, mk3, Fields.m5, Fields.o5]
  have hc : slice (mkJcmpz q c n w).m 0 1 ++ slice (mkJcmpz q c n w).mx 0 1 ++ slice (mkJcmpz q c n w).ox 0 1 = zcondCode c := by
    simp [mkJcmpz, mk3]
  have hq : (mkJcmpz q c n w).q = q := rfl
  simp [Fields.jcmpz, hr, h5, hc, hq, zcondOf_zcondCode]
theorem p1s_setWidth : p1s v = p1s ((v.setWidth 8).setWidth 64) := by simp [p1s]

/-! A Disp20 and a Disp33 of a branch (R118, R161). -/

theorem mk20_disp20 (b : BitVec 1) (w : BitVec 20) : (mk20 z b w).disp20 = w := by
  have hq : BitVec.ofBool (bitAt w 11) = slice w 11 1 := by
    apply BitVec.eq_of_getLsbD_eq
    intro i hi
    obtain rfl : i = 0 := by omega
    simp [slice, bitAt, hi]
  simp [Fields.disp20, mk20, hq]
theorem mk20_n5 (b : BitVec 1) (w : BitVec 20) : (mk20 z b w).n5 = false := by simp [Fields.n5, mk20]
theorem mk20_m5 (b : BitVec 1) (w : BitVec 20) : (mk20 z b w).m5 = false := by simp [Fields.m5, mk20]
theorem mk20_d20 (h : fitsS v 20 = true) : (mk20 z 0#1 (v.setWidth 20)).d20 = some v := by
  have hx : (mk20 z 0#1 (v.setWidth 20)).xg2 = false := rfl
  have ho : (mk20 z 0#1 (v.setWidth 20)).o5 = false := by simp [Fields.o5, mk20]
  simpa [Fields.d20, mk20_disp20, mk20_n5, mk20_m5, hx, ho] using sext_of_fitsS h
theorem mk20_d33 (h : fitsS v 33 = true) :
    (mk20 z (slice v 32 1) (v.setWidth 20)).d33 (0#4 ++ slice v 20 12) = some v := by
  have ho : slice (mk20 z (slice v 32 1) (v.setWidth 20)).ox 1 1 = slice v 32 1 := by simp [mk20]
  simpa [Fields.d33, mk20_disp20, mk20_n5, mk20_m5, ho] using sext_of_fitsS h

/-! Jumbo immediates over an Imm8 (R155, R156). -/

theorem mk8_j32 (w : BitVec 32) (hm : slice m 4 2 = 0#2) :
    (mk8 blk z q n m 0#2 (w.setWidth 8)).j32 (slice w 8 24) = some w := by
  simp [Fields.j32]
  simp [mk8, mk3, hm]
theorem mk8_f56 (h : slice v 0 8 = 0#8) :
    (mk8 blk z q n m 0#2 (slice v 8 8)).f56 (slice v 40 24) (slice v 16 24) = some v := by
  simp [Fields.f56, ← h]
theorem mk8_f56z (h : slice v 0 8 = 0#8) (hm : slice m 4 2 = 0#2) :
    (mk8 blk z q n m 0#2 (slice v 8 8)).f56z (slice v 40 24) (slice v 16 24) = some v := by
  simp [Fields.f56z, mk8_f56 h]
  simp [mk8, mk3, hm]

/-! F8 forms (R116), and those behind two Jumbo prefixes (R157). -/

section
variable {r : Reg} {zz : BitVec 3} {sel : BitVec 2}

theorem ofBool_bitAt {w : Nat} (x : BitVec w) (i : Nat) : BitVec.ofBool (bitAt x i) = slice x i 1 := by
  apply BitVec.eq_of_getLsbD_eq
  intro j hj
  obtain rfl : j = 0 := by omega
  simp [slice, bitAt]
@[simp] theorem mk16_imm16 (w : Half) : (mk16 zz r sel w).imm16 = w := by simp [Fields.imm16, mk16, ofBool_bitAt]
@[simp] theorem mk16_hi2 (w : Half) : (mk16 zz r sel w).hi2 = sel := by simp [Fields.hi2, mk16]
@[simp] theorem mk16_r8 (w : Half) : (mk16 zz r sel w).r8 = r := by simp [Fields.r8, mk16]
theorem mk16_n (w : Half) : (mk16 zz r sel w).n = zz ++ slice r 4 1 := rfl
theorem mk16_z16 (h : fitsU v 16 = true) : (mk16 zz r 0#2 (v.setWidth 16)).z16 = some v := by
  simpa [Fields.z16, Fields.zHi] using setWidth_of_fitsU h
theorem mk16_x16u (h : fitsU v 16 = true) : (mk16 zz r 0#2 (v.setWidth 16)).x16u 0#16 = some v := by
  simpa [Fields.x16u, Fields.x24] using setWidth_of_fitsU h
theorem mk16_n16 (h : fitsN v 16 = true) : (mk16 zz r 0#2 (v.setWidth 16)).n16 = some v := by
  simpa [Fields.n16, Fields.nHi] using (oext_allOnes_append (l := 2) (v.setWidth 16)).trans (oext_of_fitsN h (by decide))
theorem mk16_x16n (h : fitsN v 16 = true) : (mk16 zz r 0#2 (v.setWidth 16)).x16n p1n = some v := by
  simpa [Fields.x16n, Fields.x24] using (oext_allOnes_append (l := 8) (v.setWidth 16)).trans (oext_of_fitsN h (by decide))
theorem mk16_u16 (h : fitsU v 16 = true) : (mk16 zz r 0#2 (v.setWidth 16)).u16 = some v := by
  simpa [Fields.u16, Fields.uHi] using
    (sext_zero_append (l := 2) (v.setWidth 16) (by decide) (by decide)).trans (setWidth_of_fitsU h)
theorem mk16_h16 {w : BitVec 40} (h : slice w 0 24 = 0#24) : (mk16 zz r 0#2 (slice w 24 16)).h16 = some w := by
  have hw : slice w 24 16 ++ slice w 0 24 = w := (slice_append_slice w rfl).trans (slice_self w)
  have hz : slice w 24 16 ++ 0#2 ++ 0#22 = slice w 24 16 ++ 0#24 := BitVec.append_assoc
  simp only [Fields.h16, mk16_hi2, mk16_imm16]
  exact congrArg some (hz.trans (h ▸ hw))
theorem mk16_x32 (w : BitVec 32) (sel' : BitVec 2) :
    (mk16 zz r sel (imm32Base w)).x32 (imm32P1 w) sel' = onlyIf (sel == sel') (some w) := by
  have hs : slice (mk16 zz r sel (imm32Base w)).mx 1 1 ++ slice (mk16 zz r sel (imm32Base w)).ox 1 1 = sel := mk16_hi2 _
  rw [Fields.x32, hs]
  simp [imm32Of, imm32P1, imm32Base, Config.imm32PrefixHigh]
@[simp] theorem mkBank_rb (b : BitVec 2) (w : Half) : (mkBank b r w).rb = r := by simp [Fields.rb, mkBank]
theorem mkBank_i64 (b : BitVec 2) : (mkBank b r (v.setWidth 16)).i64 (slice v 40 24) (slice v 16 24) = some v := by
  have hw : (mkBank b r (v.setWidth 16)).imm16 = v.setWidth 16 := mk16_imm16 (zz := 0#3) (r := 0#6) (sel := 0#2) _
  have h5 : (mkBank b r (v.setWidth 16)).n5 = false ∧ (mkBank b r (v.setWidth 16)).m5 = false ∧
      (mkBank b r (v.setWidth 16)).o5 = false := by simp [Fields.n5, Fields.m5, Fields.o5, mkBank, mk16]
  simp [Fields.i64, hw, h5]
end

/-! Immediates of the 2-operand compares (41_compare_flags.md R262). -/

section
variable {f : Flag}

@[simp] theorem mkCmp_rn (w : BitVec 9) : (mkCmp z op q n f w).rn = n := mk3_rn
@[simp] theorem mkCmp_imm9 (w : BitVec 9) : (mkCmp z op q n f w).imm9 = w := by simp [Fields.imm9, mkCmp, mk3]
@[simp] theorem mkCmp_o5 (w : BitVec 9) : (mkCmp z op q n f w).o5 = false := by simp [Fields.o5, mkCmp, mk3]
@[simp] theorem mkCmp_oHi (w : BitVec 9) : slice (mkCmp z op q n f w).ox 1 1 = 0#1 := by simp [mkCmp, mk3]
@[simp] theorem mkCmp_flag (w : BitVec 9) : (mkCmp z op q n f w).flag = f := by
  cases f <;> simp [Fields.flag, Fields.m5, mkCmp, mk3]
  rfl
theorem mkCmp_cmpOk (w : BitVec 9) : (mkCmp z op q n f w).cmpOk = true := by
  cases f <;> simp [Fields.cmpOk, Fields.m5, mkCmp, mk3, Config.cmpImmWide, Config.features]
  rfl
theorem mkCmp_c9u (h : fitsU v 9 = true) : (mkCmp z op q n f (v.setWidth 9)).c9u = some v := by
  simpa [Fields.c9u, mkCmp_cmpOk, Config.cmpImmWide, Fields.u9, oneExt] using setWidth_of_fitsU h
theorem mkCmp_xc9u (h : fitsU v 9 = true) : (mkCmp z op q n f (v.setWidth 9)).xc9u 0#16 = some v := by
  simpa [Fields.xc9u, Fields.xcOk, mkCmp_cmpOk, Config.cmpImmWide, Fields.x9] using
    (sext_zero_append (l := 9) (v.setWidth 9) (by decide) (by decide)).trans (setWidth_of_fitsU h)
theorem mkCmp_c9n (h : fitsN v 9 = true) : (mkCmp z op q n f (v.setWidth 9)).c9n = some v := by
  simpa [Fields.c9n, mkCmp_cmpOk, Config.cmpImmWide, Fields.n9] using oext_of_fitsN h
theorem mkCmp_xc9n (h : fitsN v 9 = true) : (mkCmp z op q n f (v.setWidth 9)).xc9n p1n = some v := by
  simpa [Fields.xc9n, Fields.xcOk, mkCmp_cmpOk, Config.cmpImmWide, Config.acceptDropped, Fields.x9n] using
    (oext_allOnes_append (l := 8) (v.setWidth 9)).trans (oext_of_fitsN h (by decide))
theorem mkCmp_c33 (h : fitsS v 33 = true) : (mkCmp z op q n .t (v.setWidth 9)).c33 (slice v 9 24) = some v := by
  have hm : (mkCmp z op q n .t (v.setWidth 9)).mx = 0#2 := by simp [mkCmp, mk3]
  simpa [Fields.c33, Fields.s33h, Fields.s33, hm] using sext_of_fitsS h
end

end

/-! ### Rules for round trips -/

noncomputable section
/-- The rows behind Op64. -/
def op64Rows (wq : Bool) (p1 : Half) (f : Fields) : Option Instr :=
  match f.blk with
  | 0#4 => op64F0 f wq p1
  | 1#4 => op64F1 f wq p1
  | 2#4 => op64F2 f wq p1
  | 8#4 => op64F8 f wq p1
  | _ => none
end

section
variable {α : Type} {i j : Instr} {f : Fields} {p1 : Half} {wq : Bool} {v : α} {a c : Option α} {g : α → Instr}
  {k l : BitVec 24}

/-- A row behind Op64 comes before the form Op64 only widens (R160). -/
theorem classify_op64 (h : op64Rows wq p1 f = some i) : classify (.op64 wq p1) f = some i := by
  show (op64Rows wq p1 f <|> _) = _
  rw [h]; rfl
/-- The encoder's choice: the rule of each branch, under what its test says. -/
theorem Encodes.ite {p : Bool} {c d : Option Code} (hc : p = true → Encodes i c) (hd : p = false → Encodes i d) :
    Encodes i (if p then c else d) := by
  cases p
  · exact hd rfl
  · exact hc rfl
/-- A form of the F0 block, which stands alone with any register. -/
theorem Encodes.f0 (hr : plainF0 f = some j) (hj : j = i) (hf : f.xg2 = false)
    (hb : f.blk = 0#4) : Encodes i (some (.b f)) := by
  have hp : plain f = plainF0 f := by simp [plain, plainAll, hb, Config.profileFix32D]
  exact ⟨_, rfl, ⟨hf, by rw [hb]; rfl⟩, by simp [Code.read, Fields.readBase, hp, hb, hr, hj]⟩
theorem Encodes.f0Imm (ha : a = some v) (hr : plainF0 f = a.map g) (hi : g v = i) (hf : f.xg2 = false)
    (hb : f.blk = 0#4) : Encodes i (some (.b f)) := .f0 (by rw [hr, ha]; rfl) hi hf hb

theorem Encodes.f0Bind {g : α → Option Instr} (ha : a = some v) (hr : plainF0 f = a.bind g) (hi : g v = some i)
    (hf : f.xg2 = false) (hb : f.blk = 0#4) : Encodes i (some (.b f)) :=
  .f0 (by rw [hr, ha]; exact hi) rfl hf hb

theorem isBase_of_blk (hf : f.xg2 = false) (hb : [1#4, 2#4, 8#4].contains f.blk = true) : f.IsBase := by
  refine ⟨hf, ?_⟩
  generalize f.blk = b at hb
  revert b
  decide
/-- A base instruction with an immediate: what holds it alone, and what behind Op64. -/
theorem Encodes.baseWith (ha : a = some v) (hc : c = some v) (hp : plain f = a.map g) (hx : op64Rows false p1 f = c.map g)
    (hi : g v = i) (hf : f.xg2 = false) (hblk : [1#4, 2#4, 8#4].contains f.blk = true) :
    Encodes i (some (.bx p1 f)) := by
  have h0 : f.blk ≠ 0#4 := fun h => by rw [h] at hblk; exact absurd hblk (by decide)
  subst ha hc hi
  exact ⟨_, rfl, isBase_of_blk hf hblk, by simp [Code.read, Fields.readBase, hp, classify_op64 hx, h0]⟩
theorem Encodes.base (ha : a = some v) (hc : c = some v) (hp : plain f = a.map g) (hx : op64Rows false 0#16 f = c.map g)
    (hi : g v = i) (hf : f.xg2 = false) (hblk : [1#4, 2#4, 8#4].contains f.blk = true) :
    Encodes i (some (.b f)) := by
  obtain ⟨_, hk, h⟩ := Encodes.baseWith ha hc hp hx hi hf hblk
  obtain rfl := Option.some.inj hk
  exact ⟨_, rfl, h⟩
/-- An instruction behind one Jumbo, behind two, and behind Op64. -/
theorem Encodes.jumbo (ha : a = some v) (hr : classify (.jumbo k) f = a.map g) (he : f.ext = 0#3) (hi : g v = i)
    (hf : f.IsBase) : Encodes i (some (.j k f)) :=
  ⟨_, rfl, ⟨hf, he⟩, by simp [Code.read, hr, ha, hi]⟩
theorem Encodes.jumbo2 (ha : a = some v) (hr : classify (.jumbo2 k l) f = a.map g) (he : f.ext = 0#3) (hi : g v = i)
    (hf : f.IsBase) : Encodes i (some (.jj k l f)) :=
  ⟨_, rfl, ⟨hf, he⟩, by simp [Code.read, hr, ha, hi]⟩
theorem Encodes.jumboOf (hr : classify (.jumbo k) f = some j) (he : f.ext = 0#3) (hj : j = i)
    (hf : f.IsBase) : Encodes i (some (.j k f)) := ⟨_, rfl, ⟨hf, he⟩, by simp [Code.read, hr, hj]⟩
theorem Encodes.jumbo2Of (hr : classify (.jumbo2 k l) f = some j) (he : f.ext = 0#3) (hj : j = i)
    (hf : f.IsBase) : Encodes i (some (.jj k l f)) := ⟨_, rfl, ⟨hf, he⟩, by simp [Code.read, hr, hj]⟩
theorem Encodes.op64 (hr : op64Rows wq p1 f = some i) (hf : f.IsBase) : Encodes i (some (.x wq p1 f)) :=
  ⟨_, rfl, hf, classify_op64 hr⟩
end

section
variable {blk z y : BitVec 4} {q : Bool} {n m o : Reg} {v : Word} {i : Instr} {g : Word → Instr}

theorem mk3_ext (hn : small n = true) (hm : small m = true) (ho : slice o 5 1 = 0#1) : (mk3 blk z y q n m o).ext = 0#3 := by
  simp [small] at hn hm
  simp [Fields.ext, mk3, hn, hm, ho]
theorem mk9_ext (hn : small n = true) (hm : small m = true) (w : BitVec 9) : (mk9 blk z q n m w).ext = 0#3 :=
  mk3_ext hn hm (by simp)

@[simp] theorem mk3_blk : (mk3 blk z y q n m o).blk = blk := rfl
@[simp] theorem mk3_z : (mk3 blk z y q n m o).z = z := rfl
@[simp] theorem mk3_y : (mk3 blk z y q n m o).y = y := rfl
@[simp] theorem mk3_q : (mk3 blk z y q n m o).q = q := rfl
end

section
variable {i : Instr} {f : Fields} {u : BitVec 4} {p1 : Half} {v : Word}

/-- A base instruction that reads the same alone and behind Op64. -/
theorem Encodes.baseOf (hp : plain f = some i) (hx : classify (.op64 false p1) f = some i) (hf : f.xg2 = false)
    (hblk : [1#4, 2#4, 8#4].contains f.blk = true) : Encodes i (some (.bx p1 f)) := by
  have h0 : f.blk ≠ 0#4 := fun h => by rw [h] at hblk; exact absurd hblk (by decide)
  exact ⟨_, rfl, isBase_of_blk hf hblk, by simp [Code.read, Fields.readBase, hp, hx, h0]⟩
theorem Encodes.baseOf' (hp : plain f = some i) (hx : classify (.op64 false 0#16) f = some i) (hf : f.xg2 = false)
    (hblk : [1#4, 2#4, 8#4].contains f.blk = true) : Encodes i (some (.b f)) := by
  obtain ⟨_, hk, h⟩ := Encodes.baseOf hp hx hf hblk
  obtain rfl := Option.some.inj hk
  exact ⟨_, rfl, h⟩
/-- A form that Op64 with P1 = 0 only widens. -/
theorem classify_widened (hp : plain f = some i) (hx : op64Rows false 0#16 f = none)
    (hblk : [1#4, 2#4, 8#4].contains f.blk = true) :
    classify (.op64 false 0#16) f = some i := by
  have h10 : (f.blk == 10#4) = false ∧ (f.blk == 11#4) = false := by
    generalize f.blk = b at hblk
    revert b
    decide
  show (op64Rows false 0#16 f <|> _) = _
  rw [hx]
  simp [hp, h10]

/-- A base instruction that names no register above R31. -/
theorem Encodes.short (hp : plain f = some i) (he : f.ext = 0#3) (hf : f.xg2 = false)
    (hblk : [1#4, 2#4, 8#4].contains f.blk = true) : Encodes i (some (.b f)) :=
  ⟨_, rfl, isBase_of_blk hf hblk, by simp [Code.read, Fields.readBase, he, hp]⟩

/-! The fields of P1 (R161): a condition of its own for each row. -/

theorem Encodes.op64Scaled {k : BitVec 2} {d : BitVec 9}
    (hf : f.IsBase)
    (hr : ∀ p1 : Half, slice p1 12 4 = u → bitAt p1 11 = true → slice p1 9 2 = k → slice p1 0 9 = d →
      op64Rows false p1 f = some i) :
    Encodes i (some (.x false (u ++ 1#1 ++ k ++ d) f)) :=
  .op64 (hr _ (by simp) (by simp; rfl) (by simp) (by simp)) hf
theorem Encodes.op64Disp {d : BitVec 11}
    (hf : f.IsBase)
    (hr : ∀ p1 : Half, slice p1 12 4 = u → bitAt p1 11 = false → p1.setWidth 11 = d → op64Rows false p1 f = some i) :
    Encodes i (some (.x false (u ++ 0#1 ++ d) f)) :=
  .op64 (hr _ (by simp) (by simp) (by rw [← slice_zero_eq_setWidth _ (by decide)]; simp)) hf
theorem Encodes.op64Reg {k : BitVec 8} {p : Reg}
    (hf : f.IsBase)
    (hr : ∀ p1 : Half, slice p1 6 10 = k ++ 0#2 → p4 p1 = p → op64Rows false p1 f = some i) :
    Encodes i (some (.x false (k ++ 0#2 ++ p) f)) :=
  .op64 (hr _ (by simp) (by simp [p4])) hf
theorem Encodes.op64Blend {k : BitVec 2} {p : Reg}
    (hf : f.IsBase)
    (hr : ∀ p1 : Half, slice p1 8 8 = 0#8 → slice p1 6 2 = k → p4 p1 = p → op64Rows false p1 f = some i) :
    Encodes i (some (.x false (0#8 ++ k ++ p) f)) :=
  .op64 (hr _ (by simp) (by simp) (by simp [p4])) hf
theorem Encodes.op64Shuffle {w : BitVec 11} (hw : shufOk w = true)
    (hf : f.IsBase)
    (hr : ∀ p1 : Half, f.sh11 p1 = some w → f.p8 p1 = none → op64Rows false p1 f = some i) :
    Encodes i (some (.x false (0#4 ++ 1#1 ++ w) f)) := by
  obtain ⟨hm, h8⟩ : slice w 9 2 ≠ 0#2 ∧ bitAt w 8 = false := by simpa [shufOk] using hw
  refine .op64 (hr _ ?_ ?_) hf
  · have h12 : slice 1#5 1 4 = 0#4 ∧ bitAt 1#5 0 = true := by decide
    simp [Fields.sh11, h8, h12, bne_iff_ne.2 hm]
  · have hs : slice (0#4 ++ 1#1 ++ w) 8 8 ≠ 0x08#8 := fun he => hm (by
      have h2 := congrArg (slice · 1 2) he
      rwa [slice_of_slice _ (by decide), slice_append_low _ _ (by decide)] at h2)
    rw [Fields.p8, beq_eq_false_iff_ne.2 hs]
    rfl
theorem Encodes.op64Byte {k r : BitVec 8}
    (hf : f.IsBase)
    (hr : ∀ p1 : Half, slice p1 8 8 = k → slice p1 0 8 = r → op64Rows false p1 f = some i) :
    Encodes i (some (.x false (k ++ r) f)) :=
  .op64 (hr _ (by simp) (by simp)) hf
end

/-- An Imm17s behind Op64, with what P1[15:11] selects, and an Imm11s (R161). -/
theorem Encodes.op64Imm17 {i : Instr} {u z y : BitVec 4} {b : BitVec 1} {q wq : Bool} {n m : Reg} {v : Word}
    (h : fitsS v 17 = true)
    (hr : ∀ p1 : Half, slice p1 12 4 = u → bitAt p1 11 = bitAt b 0 →
      (mk3 0#4 z y q n m (slice v 16 1 ++ v.setWidth 5)).s17 p1 = some v →
      op64Rows wq p1 (mk3 0#4 z y q n m (slice v 16 1 ++ v.setWidth 5)) = some i) :
    Encodes i (some (.x wq (u ++ b ++ slice v 5 11) (mk3 0#4 z y q n m (slice v 16 1 ++ v.setWidth 5)))) :=
  .op64 (hr _ (by simp) (by simp) (mk3_s17 h u b)) ⟨rfl, rfl⟩
theorem Encodes.op64Imm11 {i : Instr} {f : Fields} {v : Word} (h : fitsS v 11 = true)
    (hf : f.IsBase)
    (hr : ∀ p1 : Half, slice p1 12 4 = 0#4 → bitAt p1 11 = true → f.s11 p1 = some v → op64Rows false p1 f = some i) :
    Encodes i (some (.x false (0#4 ++ 1#1 ++ v.setWidth 11) f)) :=
  .op64 (hr _ (by simp; rfl) (by simp; rfl) (fields_s11 h f)) hf
@[simp] theorem bitAt_one : bitAt 1#1 0 = true := rfl

/-! An opcode nibble in the m position, and a selector above an Imm8: the field that decides the row, written out. -/

def Fields.withM (f : Fields) (x : BitVec 4) : Fields := { f with m := x }
def Fields.withOx (f : Fields) (x : BitVec 2) : Fields := { f with ox := x }
@[simp] theorem withM_rn (f : Fields) (x : BitVec 4) : (f.withM x).rn = f.rn := rfl
@[simp] theorem withOx_rn (f : Fields) (x : BitVec 2) : (f.withOx x).rn = f.rn := rfl
theorem withOx_ox (f : Fields) (x : BitVec 2) : (f.withOx x).ox = x := rfl
@[simp] theorem withOx_imm8 (f : Fields) (x : BitVec 2) : (f.withOx x).imm8 = f.imm8 := rfl
@[simp] theorem withOx_rm (f : Fields) (x : BitVec 2) : (f.withOx x).rm = f.rm := rfl

section
variable {i : Instr} {blk z op : BitVec 4} {q : Bool} {n m : Reg} {p1 : Half} {k l : BitVec 24}

theorem eq_withM {f : Fields} {x : BitVec 4} (h : f.m = x) : f = f.withM x := h ▸ rfl
theorem eq_withOx {f : Fields} {x : BitVec 2} (h : f.ox = x) : f = f.withOx x := h ▸ rfl
theorem mk10_eq (w : BitVec 10) : mk10 blk z op q n w = (mk10 blk z op q n w).withM op := eq_withM (by simp [mk10, mk3])
theorem mk8_eq (x : BitVec 2) (w : BitVec 8) : mk8 blk z q n m x w = (mk8 blk z q n m x w).withOx x := eq_withOx (mk8_ox x w)

theorem mk8_ext (hn : small n = true) (hm : small m = true) (x : BitVec 2) (w : BitVec 8) (hx : slice x 1 1 = 0#1) :
    ((mk8 blk z q n m x w).withOx x).ext = 0#3 := by
  rw [← mk8_eq]
  exact mk3_ext hn hm (by simp [hx])
/-- The same rule for the same fields. -/
theorem Encodes.of_eq {c c' : Code} (hc : c = c') (h : Encodes i (some c')) : Encodes i (some c) := hc ▸ h

section
variable {n : Reg} {v : Word} {w : BitVec 10} {g : Word → Instr}

theorem Encodes.imm10u (hu : fitsU v 10 = true)
    (hp : plain ((mk10 blk z op q n (v.setWidth 10)).withM op) =
      (mk10 blk z op q n (v.setWidth 10)).u10.map g)
    (hx : op64Rows false 0#16 ((mk10 blk z op q n (v.setWidth 10)).withM op) =
      ((mk10 blk z op q n (v.setWidth 10)).x10 0#16).map g)
    (hi : g v = i) (hblk : [1#4, 2#4, 8#4].contains blk = true) :
    Encodes i (some (.b (mk10 blk z op q n (v.setWidth 10)))) :=
  .of_eq (congrArg _ (mk10_eq _)) (.base (mk10_u10 hu) (mk10_x10 hu) hp hx hi rfl hblk)
theorem Encodes.imm8z (hu : fitsU v 8 = true)
    (hp : plain ((mk10 blk z op q n (v.setWidth 10)).withM op) =
      (mk10 blk z op q n (v.setWidth 10)).z8.map g)
    (hx : op64Rows false 0#16 ((mk10 blk z op q n (v.setWidth 10)).withM op) =
      ((mk10 blk z op q n (v.setWidth 10)).xz8 0#16).map g)
    (hi : g v = i) (hblk : [1#4, 2#4, 8#4].contains blk = true) :
    Encodes i (some (.b (mk10 blk z op q n (v.setWidth 10)))) :=
  .of_eq (congrArg _ (mk10_eq _)) (.base (mk10_z8 hu) (mk10_xz8 hu) hp hx hi rfl hblk)
theorem Encodes.imm10z (hu : fitsU v 10 = true)
    (hp : plain ((mk10 blk z op q n (v.setWidth 10)).withM op) =
      (mk10 blk z op q n (v.setWidth 10)).z10.map g)
    (hx : op64Rows false 0#16 ((mk10 blk z op q n (v.setWidth 10)).withM op) =
      ((mk10 blk z op q n (v.setWidth 10)).x10z 0#16).map g)
    (hi : g v = i) (hblk : [1#4, 2#4, 8#4].contains blk = true) :
    Encodes i (some (.b (mk10 blk z op q n (v.setWidth 10)))) :=
  .of_eq (congrArg _ (mk10_eq _)) (.base (mk10_z10 hu) (mk10_x10z hu) hp hx hi rfl hblk)
theorem Encodes.imm10n (hu : fitsN v 10 = true)
    (hp : plain ((mk10 blk z op q n (v.setWidth 10)).withM op) =
      (mk10 blk z op q n (v.setWidth 10)).n10.map g)
    (hx : op64Rows false p1n ((mk10 blk z op q n (v.setWidth 10)).withM op) =
      ((mk10 blk z op q n (v.setWidth 10)).x10n p1n).map g)
    (hi : g v = i) (hblk : [1#4, 2#4, 8#4].contains blk = true) :
    Encodes i (some (.bx p1n (mk10 blk z op q n (v.setWidth 10)))) :=
  .of_eq (congrArg _ (mk10_eq _)) (.baseWith (mk10_n10 hu) (mk10_x10n hu) hp hx hi rfl hblk)
end
theorem Encodes.ofSelJumbo {x : BitVec 2} {w : BitVec 8} (h : Encodes i (some (.j k ((mk8 blk z q n m x w).withOx x)))) :
    Encodes i (some (.j k (mk8 blk z q n m x w))) := .of_eq (congrArg _ (mk8_eq x w)) h
theorem Encodes.ofSelJumbo2 {x : BitVec 2} {w : BitVec 8} (h : Encodes i (some (.jj k l ((mk8 blk z q n m x w).withOx x)))) :
    Encodes i (some (.jj k l (mk8 blk z q n m x w))) := .of_eq (congrArg _ (mk8_eq x w)) h
end

/-- An Imm8 that nothing widens (45_load_store_ext.md). -/
theorem Encodes.imm8b {i : Instr} {z op : BitVec 4} {q : Bool} {n : Reg} {w : BitVec 8} {g : BitVec 8 → Instr}
    (hp : plain ((mk10 2#4 z op q n (w.setWidth 10)).withM op) = (mk10 2#4 z op q n (w.setWidth 10)).b8.map g)
    (hx : op64Rows false 0#16 ((mk10 2#4 z op q n (w.setWidth 10)).withM op) = none) (hi : g w = i) :
    Encodes i (some (.b (mk10 2#4 z op q n (w.setWidth 10)))) := by
  rw [mk10_b8, Option.map_some, hi] at hp
  exact .of_eq (congrArg _ (mk10_eq _)) (.baseOf' hp (classify_widened hp hx rfl) rfl rfl)
/-- An Imm32 behind one Jumbo (R155). -/
theorem Encodes.imm32 {i : Instr} {z : BitVec 4} {q : Bool} {n m : Reg} {w : BitVec 32} {g : BitVec 32 → Instr}
    (hn : small n = true)
    (hr : classify (.jumbo (slice w 8 24)) (mk8 2#4 z q n m 0#2 (w.setWidth 8)) =
      ((mk8 2#4 z q n m 0#2 (w.setWidth 8)).j32 (slice w 8 24)).map g) (hi : g w = i) (hm : slice m 4 2 = 0#2) :
    Encodes i (some (.j (slice w 8 24) (mk8 2#4 z q n m 0#2 (w.setWidth 8)))) := by
  have hs : small m = true := by
    have : slice m 5 1 = slice (slice m 4 2) 1 1 := by simp
    simp [small, this, hm]
  exact .jumbo (mk8_j32 w hm) hr (mk3_ext hn hs (by simp)) hi ⟨rfl, rfl⟩
/-! What the encoder tries for an immediate, one width after another (R114, R155, R161). -/

theorem and_small {p : Bool} {n m : Reg} (h : (p && small n && small m) = true) :
    p = true ∧ small n = true ∧ small m = true := by
  simpa [and_assoc] using h

section
variable {i : Instr} {blk z y : BitVec 4} {q : Bool} {n m : Reg} {v : Word} {d : Option Code} {g : Word → Instr}

/-- An Imm9u, zeros above it. -/
theorem Encodes.ifU9
    (hp : plain (mk9 blk z q n m (v.setWidth 9)) = (mk9 blk z q n m (v.setWidth 9)).u9.map g)
    (hx : op64Rows false 0#16 (mk9 blk z q n m (v.setWidth 9)) = ((mk9 blk z q n m (v.setWidth 9)).x9 0#16).map g)
    (hi : g v = i) (hblk : [1#4, 2#4, 8#4].contains blk = true) (hd : fitsU v 9 = false → Encodes i d) :
    Encodes i (if fitsU v 9 then some (.b (mk9 blk z q n m (v.setWidth 9))) else d) :=
  .ite (fun hu => .base (mk9_u9 hu) (mk9_x9 hu) hp hx hi rfl hblk) hd
/-- An Imm9n, ones above it. -/
theorem Encodes.ifN9
    (hp : plain (mk9 blk z q n m (v.setWidth 9)) = (mk9 blk z q n m (v.setWidth 9)).n9.map g)
    (hx : op64Rows false p1n (mk9 blk z q n m (v.setWidth 9)) = ((mk9 blk z q n m (v.setWidth 9)).x9n p1n).map g)
    (hi : g v = i) (hblk : [1#4, 2#4, 8#4].contains blk = true) (hd : fitsN v 9 = false → Encodes i d) :
    Encodes i (if fitsN v 9 then some (.bx p1n (mk9 blk z q n m (v.setWidth 9))) else d) :=
  .ite (fun hn => .baseWith (mk9_n9 hn) (mk9_x9n hn) hp hx hi rfl hblk) hd
theorem Encodes.ifS33
    (hr : classify (.jumbo (slice v 9 24)) (mk9 blk z q n m (v.setWidth 9)) =
      ((mk9 blk z q n m (v.setWidth 9)).s33 (slice v 9 24)).map g)
    (hi : g v = i) (hblk : [0#4, 1#4, 2#4, 8#4].contains blk = true)
    (hd : (fitsS v 33 && small n && small m) = false → Encodes i d) :
    Encodes i (if fitsS v 33 && small n && small m then some (.j (slice v 9 24) (mk9 blk z q n m (v.setWidth 9))) else d) :=
  .ite (fun hj => have ⟨h33, hn, hm⟩ := and_small hj; .jumbo (mk9_s33 h33) hr (mk9_ext hn hm _) hi ⟨rfl, hblk⟩) hd
theorem Encodes.ifS57
    (hr : classify (.jumbo2 (slice v 33 24) (slice v 9 24)) (mk9 blk z q n m (v.setWidth 9)) =
      ((mk9 blk z q n m (v.setWidth 9)).s57 (slice v 33 24) (slice v 9 24)).map g)
    (hi : g v = i) (hblk : [0#4, 1#4, 2#4, 8#4].contains blk = true)
    (hd : (fitsS v 57 && small n && small m) = false → Encodes i d) :
    Encodes i (if fitsS v 57 && small n && small m then
      some (.jj (slice v 33 24) (slice v 9 24) (mk9 blk z q n m (v.setWidth 9))) else d) :=
  .ite (fun hj => have ⟨h57, hn, hm⟩ := and_small hj; .jumbo2 (mk9_s57 h57) hr (mk9_ext hn hm _) hi ⟨rfl, hblk⟩) hd
/-- An Imm17s behind Op64. -/
theorem Encodes.ifS17 {u : BitVec 4} {b : BitVec 1} {wq : Bool}
    (hr : ∀ p1 : Half, slice p1 12 4 = u → bitAt p1 11 = bitAt b 0 →
      (mk3 0#4 z y q n m (slice v 16 1 ++ v.setWidth 5)).s17 p1 = some v →
      op64Rows wq p1 (mk3 0#4 z y q n m (slice v 16 1 ++ v.setWidth 5)) = some i)
    (hd : fitsS v 17 = false → Encodes i d) :
    Encodes i (if fitsS v 17 then
      some (.x wq (u ++ b ++ slice v 5 11) (mk3 0#4 z y q n m (slice v 16 1 ++ v.setWidth 5))) else d) :=
  .ite (fun h17 => .op64Imm17 h17 hr) hd
end

/-- A signed Imm8 or Disp8, whose sign P1 repeats (R115, R160). -/
theorem Encodes.imm8s {i : Instr} {blk z : BitVec 4} {q : Bool} {n m : Reg} {x : BitVec 2} {v : Word} {g : Word → Instr}
    (h : fitsS v 8 = true)
    (hp : plain ((mk8 blk z q n m x (v.setWidth 8)).withOx x) =
      some (g (sext 8 (zext 8 ((mk8 blk z q n m x (v.setWidth 8)).imm8.setWidth 64)))))
    (hx : op64Rows false (p1s ((v.setWidth 8).setWidth 64)) ((mk8 blk z q n m x (v.setWidth 8)).withOx x) =
      onlyIf (slice (p1s ((v.setWidth 8).setWidth 64)) 8 8 == 0#8)
        (((mk8 blk z q n m x (v.setWidth 8)).x8 (p1s ((v.setWidth 8).setWidth 64))).map g))
    (hi : g v = i) (hblk : [1#4, 2#4, 8#4].contains blk = true) :
    Encodes i (some (.bx (p1s ((v.setWidth 8).setWidth 64)) (mk8 blk z q n m x (v.setWidth 8)))) := by
  refine .of_eq (congrArg _ (mk8_eq _ _)) (.baseOf ?_ (classify_op64 ?_) rfl hblk)
  · rw [hp, mk8_imm8, sext_zext_of_fitsS h, hi]
  · rw [hx, slice_p1s, mk8_x8 h, ← hi]; rfl

/-- A 16-bit form (R111). -/
theorem Encodes.half {i : Instr} {w : Half} (hw : slice w 13 3 ≠ 7#3 ∧ slice w 12 4 ≠ 7#4 ∧ slice w 12 4 ≠ 9#4)
    (hr : half16 (slice w 12 4) (slice w 8 4) (slice w 4 4) (slice w 0 4) = some i) : Encodes i (some (.h w)) := by
  obtain ⟨h13, h7, h9⟩ := hw
  have hF : slice w 8 8 ≠ 0xFF#8 ∧ slice w 8 8 ≠ 0xFE#8 := by
    have hs : slice w 13 3 = slice (slice w 8 8) 5 3 := by simp
    constructor <;> intro h <;> rw [hs, h] at h13 <;> exact h13 rfl
  refine ⟨_, rfl, ?_, ?_⟩
  · simp [Code.Sound, wordsNeeded, isOp64, isJumbo, hF, h13, h7, h9]
  · simp [Code.read, decodeHalf, Config.profileFix32D, Config.isBreakOverlap, hr]
@[simp] theorem small_regOf (p : Pair) : small (regOf p) = true := by decide +revert
/-- A compare with an Imm33s, which writes SR.T (41_compare_flags.md R262). -/
theorem Encodes.cmp33 {i : Instr} {f : Flag} {v : Word} {n : Reg} {z op : BitVec 4} {q : Bool} {g : Word → Instr}
    (h : (f == .t && fitsS v 33 && small n) = true)
    (hr : classify (.jumbo (slice v 9 24)) (mkCmp z op q n .t (v.setWidth 9)) =
      ((mkCmp z op q n .t (v.setWidth 9)).c33 (slice v 9 24)).map g)
    (hi : f = .t → g v = i) : Encodes i (some (.j (slice v 9 24) (mkCmp z op q n .t (v.setWidth 9)))) := by
  simp only [Bool.and_eq_true, beq_iff_eq] at h
  obtain ⟨⟨hf, h33⟩, hn⟩ := h
  have hm : small (HAppend.hAppend (γ := no_index (BitVec 6)) 0#2 op) = true := by simp [small]
  exact .jumbo (mkCmp_c33 h33) hr (mk3_ext hn hm (by simp)) (hi hf) ⟨rfl, rfl⟩
theorem mk16_blk (z : BitVec 3) (r : Reg) (x : BitVec 2) (w : Half) : (mk16 z r x w).blk = 8#4 := rfl
theorem mkBank_blk (b : BitVec 2) (r : Reg) (w : Half) : (mkBank b r w).blk = 8#4 := rfl
theorem mkBank_n (b : BitVec 2) (r : Reg) (w : Half) : (mkBank b r w).n = b ++ slice r 4 2 := rfl
theorem mkBank_ext (b : BitVec 2) {r : Reg} (w : Half) : (mkBank b r w).ext = 0#3 := by simp [Fields.ext, mkBank, mk16]
theorem bits_cases (x : BitVec 2) : x = 0#2 ∨ x = 1#2 ∨ x = 2#2 ∨ x = 3#2 := by decide +revert
theorem bit_cases (x : BitVec 1) : x = 0#1 ∨ x = 1#1 := by decide +revert

/-! ### Arithmetic and logic with an immediate (40_alu.md, 42_shift_muldiv.md) -/

section
variable {m n : Reg} {s : Src} {v d : Word}

/-- Every register has a bank of its own behind two Jumbo prefixes (30_encoding.md R157). -/
theorem encodes_addImm64 (v : Word) (n : Reg) :
    Encodes (.add n (.imm v) n) (some (.jj (slice v 40 24) (slice v 16 24) (mkBank 1#2 n (v.setWidth 16)))) := by
  refine .jumbo2Of (j := .add n (.imm v) n) ?_ (mkBank_ext _ _) rfl ⟨rfl, rfl⟩
  rcases bits_cases (slice n 4 2) with hb | hb | hb | hb <;>
    simp [classify, jumbo2F8, mkBank_blk, mkBank_n, hb, mkBank_i64, Config.features]
theorem encodes_ldi64 (v : Word) (n : Reg) : Encodes (.ldi64 v n) (encodeCode (.ldi64 v n)) := by
  refine .jumbo2Of (j := .ldi64 v n) ?_ (mkBank_ext _ _) rfl ⟨rfl, rfl⟩
  rcases bits_cases (slice n 4 2) with hb | hb | hb | hb <;>
    simp [classify, jumbo2F8, mkBank_blk, mkBank_n, hb, mkBank_i64, Config.features]

theorem encodes_add (h : immAdd s m n = true) : Encodes (.add m s n) (encodeCode (.add m s n)) := by
  cases s with
  | reg r => exact .f0 rfl (by simp) rfl rfl
  | imm v =>
    exact .ifU9 rfl rfl (by simp) rfl fun hu =>
      .ifN9 rfl rfl (by simp) rfl fun hn =>
      .ifS33 rfl (by simp) rfl fun hj =>
      .ifS57 rfl (by simp) rfl fun hjj =>
      .ite (fun he => by obtain rfl : n = m := eq_of_beq he; exact encodes_addImm64 v n) fun he =>
      absurd h (by simp_all [immAdd, small2]; grind)
theorem encodes_addL (h : immAddL s m n = true) :
    ∀ i ∈ [Instr.addsL m s n, .adduL m s n], Encodes i (encodeCode i) := by
  intro i hi
  cases s with
  | reg r => fin_cases hi <;> exact .f0 rfl (by simp) rfl rfl
  | imm v =>
    fin_cases hi <;> exact .ifU9 rfl rfl (by simp) rfl fun hu =>
      .ifN9 rfl rfl (by simp) rfl fun hn =>
      .ifS33 rfl (by simp) rfl fun hj =>
      absurd h (by simp_all [immAddL, small2])
theorem encodes_logic (h : immLogic s m n = true) :
    ∀ i ∈ [Instr.and m s n, .or m s n, .xor m s n], Encodes i (encodeCode i) := by
  intro i hi
  cases s with
  | reg r => fin_cases hi <;> exact .f0 rfl (by simp) rfl rfl
  | imm v =>
    fin_cases hi <;> exact .ifU9 rfl rfl (by simp) rfl fun hu =>
      .ifS33 rfl (by simp) rfl fun hj =>
      .ifS57 rfl (by simp) rfl fun hjj =>
      absurd h (by simp_all [immLogic, small2])
theorem encodes_mul (h : immU9 s = true) : ∀ i ∈ [Instr.muls m s n, .mulu m s n], Encodes i (encodeCode i) := by
  intro i hi
  cases s with
  | reg r => fin_cases hi <;> exact .f0 rfl (by simp) rfl rfl
  | imm v =>
    fin_cases hi <;> exact .ifU9 rfl rfl (by simp) rfl fun hu => absurd h (by simp [immU9, hu])
theorem encodes_mulW (h : immMulW s m n = true) :
    ∀ i ∈ [Instr.mulsW m s n, .muluW m s n], Encodes i (encodeCode i) := by
  intro i hi
  cases s with
  | reg r => fin_cases hi <;> exact .f0 rfl (by simp) rfl rfl
  | imm v =>
    have himm {p : Bool} (hp : (n == m && p) = true) : n = m ∧ p = true := by simpa using hp
    fin_cases hi <;> exact .ite (fun hu => .f0Imm (mk3_u5 hu) rfl (by simp) rfl rfl) fun hu =>
      .ite (fun hu => by obtain ⟨rfl, hv⟩ := himm hu; exact .imm10u hv rfl rfl (by simp) rfl) fun _ =>
      .ite (fun hn => by obtain ⟨rfl, hv⟩ := himm hn; exact .imm10n hv rfl rfl (by simp) rfl) fun _ =>
      absurd h (by simp_all [immMulW])
theorem encodes_shift (h : immShift s = true) :
    ∀ i ∈ [Instr.shad m s n, .shadq m s n, .shld m s n, .shldq m s n], Encodes i (encodeCode i) := by
  intro i hi
  cases s with
  | reg r => fin_cases hi <;> exact .f0 rfl (by simp) rfl rfl
  | imm v =>
    fin_cases hi <;> exact .ite (fun h8 => .imm8s h8 rfl rfl (by simp) rfl) fun h8 =>
      absurd h (by simp [immShift, h8])
theorem encodes_mac {b : Src} {a : Reg} (h : immMac b m a n = true) :
    ∀ i ∈ [Instr.macsL m b a n, .macuL m b a n, .dmacsL m b a n, .dmacuL m b a n], Encodes i (encodeCode i) := by
  intro i hi
  cases b with
  | reg r =>
    fin_cases hi <;> exact .ite (fun hn => by obtain rfl := eq_of_beq hn; exact .f0 rfl (by simp) rfl rfl) fun hn =>
      .op64Reg ⟨rfl, rfl⟩ fun p1 hk hp => by simp [op64Rows, op64F0, op64F0z6, hk, hp]
  | imm v =>
    have himm {p : Bool} (hp : (n == a && p) = true) : n = a ∧ p = true := by simpa using hp
    fin_cases hi <;> exact .ite (fun h11 => .op64Imm11 h11 ⟨rfl, rfl⟩ fun p1 hu hb hv => by
        simp [op64Rows, op64F0, op64F0z6, hu, hb, hv]) fun h11 =>
      .ite (fun h17 => by
        obtain ⟨rfl, hv⟩ := himm h17
        exact .op64Imm17 hv fun p1 hu hb hv => by simp [op64Rows, op64F0, op64F0z6, hu, hb, hv]) fun h17 =>
      .ite (fun h29 => by
        obtain ⟨hna, hn, hm⟩ := and_small h29
        obtain ⟨rfl, hv⟩ := himm hna
        exact .jumbo (mk3_s29 hv) rfl (mk3_ext hn hm (by simp)) (by simp) ⟨rfl, rfl⟩) fun _ =>
      absurd h (by simp_all [immMac, small2])

/-! ### Compares and tests (41_compare_flags.md) -/

theorem encodes_cmp {f : Flag} (h : immCmp s n f = true) :
    ∀ i ∈ [Instr.cmpEQ s n f, .cmpGT s n f, .cmpHI s n f, .cmpGE s n f, .cmpHS s n f, .cmpQEQ s n f, .cmpQGT s n f, .cmpQHI s n f,
      .cmpQGE s n f, .cmpQHS s n f], Encodes i (encodeCode i) := by
  intro i hi
  cases s with
  | reg r =>
    obtain rfl : f = .t := eq_of_beq h
    fin_cases hi <;> exact .f0 rfl (by simp) rfl rfl
  | imm v =>
    cases f <;> fin_cases hi <;> exact .ite (fun hu => .base (mkCmp_c9u hu) (mkCmp_xc9u hu) rfl rfl (by simp) rfl rfl) fun hu =>
      .ite (fun hn => .baseWith (mkCmp_c9n hn) (mkCmp_xc9n hn) rfl rfl (by simp) rfl rfl) fun hn =>
      .ite (fun hj => .cmp33 hj rfl (by simp)) fun hj => absurd h (by simp_all [immCmp])
theorem encodes_tst {f : Flag} (h : immTst s n f = true) :
    ∀ i ∈ [Instr.tst s n f, .tstQ s n f], Encodes i (encodeCode i) := by
  intro i hi
  cases s with
  | reg r =>
    obtain rfl : f = .t := eq_of_beq h
    fin_cases hi <;> exact .f0 rfl (by simp) rfl rfl
  | imm v =>
    cases f <;> fin_cases hi <;> exact .ite (fun hu => .base (mkCmp_c9u hu) (mkCmp_xc9u hu) rfl rfl (by simp) rfl rfl) fun hu =>
      .ite (fun hn => .baseWith (mkCmp_c9n hn) (mkCmp_xc9n hn) rfl rfl (by simp) rfl rfl) fun hn =>
      absurd h (by simp [immTst, hu, hn])
end

section
variable {m n : Reg} {s : Src} {v d : Word} {t : Target}

/-- The three ways to hold the immediate of a CMP3R (R280). -/
theorem encodes_cmp3Imm (h : immCmp3 (.imm v) m n = true) :
    ∀ i ∈ [Instr.cmp3EQ m (.imm v) n, .cmp3GT m (.imm v) n, .cmp3NE m (.imm v) n, .cmp3LT m v n],
      Encodes i (encodeCode i) := by
  intro i hi
  have himm {c d : Option Code} (h5 : fitsU v 5 = true → Encodes i c) (h17 : fitsS v 17 = true → Encodes i d)
      {e : Option Code} (h29 : fitsS v 29 = true → small n = true → small m = true → Encodes i e) :
      Encodes i (if fitsU v 5 then c else if fitsS v 17 then d else if fitsS v 29 && small n && small m then e else none) :=
    .ite h5 fun hu => .ite h17 fun h17 => .ite (fun hj => have ⟨h, hn, hm⟩ := and_small hj; h29 h hn hm) fun hj =>
      absurd h (by simp_all [immCmp3, small2])
  fin_cases hi
  · exact himm (fun hu => .f0Imm (mk3_u5 hu) rfl (by simp) rfl rfl)
      (fun h17 => .op64Imm17 h17 fun p1 hu hb hv => by simp [op64Rows, op64F0, op64F0z9, hu, hb, hv])
      fun h29 hn hm => .jumbo (mk3_s29x h29) rfl (mk3_ext hn hm (by simp)) (by simp) ⟨rfl, rfl⟩
  · exact himm (fun hu => .f0Imm (mk3_u5 hu) rfl (by simp) rfl rfl)
      (fun h17 => .op64Imm17 h17 fun p1 hu hb hv => by simp [op64Rows, op64F0, op64F0z9, hu, hb, hv])
      fun h29 hn hm => .jumbo (mk3_s29 h29) rfl (mk3_ext hn hm (by simp)) (by simp) ⟨rfl, rfl⟩
  · exact himm (fun hu => .f0Imm (mk3_u5 hu) rfl (by simp) rfl rfl)
      (fun h17 => .op64Imm17 h17 fun p1 hu hb hv => by simp [op64Rows, op64F0, op64F0z9, hu, hb, hv])
      fun h29 hn hm => .jumbo (mk3_s29x h29) rfl (mk3_ext hn hm (by simp)) (by simp) ⟨rfl, rfl⟩
  · exact himm (fun hu => .f0Imm (mk3_u5 hu) rfl (by simp) rfl rfl)
      (fun h17 => .op64Imm17 h17 fun p1 hu hb hv => by simp [op64Rows, op64F0, op64F0z9, hu, hb, hv])
      fun h29 hn hm => .jumbo (mk3_s29 h29) rfl (mk3_ext hn hm (by simp)) (by simp) ⟨rfl, rfl⟩
theorem encodes_cmp3 (h : immCmp3 s m n = true) :
    ∀ i ∈ [Instr.cmp3EQ m s n, .cmp3GT m s n, .cmp3NE m s n], Encodes i (encodeCode i) := by
  intro i hi
  cases s with
  | reg r => fin_cases hi <;> exact .f0 rfl (by simp) rfl rfl
  | imm v => exact encodes_cmp3Imm h i (by simp at hi ⊢; tauto)
theorem encodes_cmp3Unsigned (h : fitsS v 17 = true) :
    ∀ i ∈ [Instr.cmp3HI m v n, .cmp3BI m v n], Encodes i (encodeCode i) := by
  intro i hi
  fin_cases hi <;> exact .ifS17 (fun p1 hu hb hv => by simp [op64Rows, op64F0, op64F0z9, hu, hb, hv])
    fun h17 => absurd h (by simp [h17])

/-! ### Branches (46_branch.md) -/

theorem encodes_branch (h : targetOk t = true) :
    ∀ i ∈ [Instr.bra t, .bsr t, .bt t, .bf t], Encodes i (encodeCode i) := by
  intro i hi
  cases t with
  | reg r => fin_cases hi <;> exact .f0 rfl (by simp) rfl rfl
  | disp d =>
    fin_cases hi <;> exact .ite (fun h20 => .f0Imm (mk20_d20 h20) rfl (by simp) rfl rfl) fun h20 =>
      .ite (fun h33 => .op64 (congrArg (Option.map _) (mk20_d33 h33)) ⟨rfl, rfl⟩) fun h33 =>
      absurd h (by simp [targetOk, h33])
theorem encodes_compareZeroBranch (h : fits10 d = true) :
    ∀ i ∈ [Instr.brEQL n d, .brEQQ n d, .brNEL n d, .brNEQ n d, .brLTL n d, .brLTQ n d, .brGEL n d, .brGEQ n d, .brLEL n d,
      .brLEQ n d, .brGTL n d, .brGTQ n d], Encodes i (encodeCode i) := by
  intro i hi
  fin_cases hi <;> exact .ite (fun hu => .imm10u hu rfl rfl (by simp) rfl) fun hu =>
    .ite (fun hn => .imm10n hn rfl rfl (by simp) rfl) fun hn => absurd h (by simp [fits10, hu, hn])
theorem encodes_compareBranch (h : fitsS d 8 = true) :
    ∀ i ∈ [Instr.jtstT m n d, .jtstQT m n d, .jtstF m n d, .jtstQF m n d, .jcmpGT m n d, .jcmpQGT m n d, .jcmpLE m n d,
      .jcmpQLE m n d, .jcmpHI m n d, .jcmpQHI m n d, .jcmpLS m n d, .jcmpQLS m n d, .jcmpEQ m n d, .jcmpQEQ m n d,
      .jcmpNE m n d, .jcmpQNE m n d], Encodes i (encodeCode i) := by
  intro i hi
  fin_cases hi <;> exact .ite (fun h8 => .imm8s h8 rfl rfl (by simp) rfl) fun h8 => absurd h (by simp [h8])
theorem encodes_jcmpz {q : Bool} {c : ZCond} (h : fitsS d 8 = true) :
    Encodes (.jcmpz q c n d) (encodeCode (.jcmpz q c n d)) := by
  have hp : plain (mkJcmpz q c n (d.setWidth 8)) =
      (mkJcmpz q c n (d.setWidth 8)).jcmpz (sext 8 ((mkJcmpz q c n (d.setWidth 8)).imm8.setWidth 64)) := by cases c <;> rfl
  have hx : op64Rows false (p1s d) (mkJcmpz q c n (d.setWidth 8)) = onlyIf (slice (p1s d) 8 8 == 0#8)
      ((mkJcmpz q c n (d.setWidth 8)).jcmpz
        (sext 16 ((slice (p1s d) 0 8 ++ (mkJcmpz q c n (d.setWidth 8)).imm8).setWidth 64))) := by cases c <;> rfl
  have hd := sext_of_fitsS h (by decide)
  refine .ite (fun h8 => .baseOf ?_ (classify_op64 ?_) rfl rfl) fun h8 => absurd h (by simp [h8])
  · rw [hp, mkJcmpz_imm8, mkJcmpz_jcmpz, hd]
  · rw [hx, p1s_setWidth, slice_p1s, mkJcmpz_imm8, mkJcmpz_jcmpz, sext_p1s, hd]
    rfl

/-! ### Loads of immediates (43_load_immediate.md) -/

theorem encodes_imm10z (h : fitsU v 10 = true) :
    ∀ i ∈ [Instr.ldimiz v n, .ldihi v n, .ldihiq v n], Encodes i (encodeCode i) := by
  intro i hi
  fin_cases hi <;> exact .ite (fun hu => .imm10z hu rfl rfl (by simp) rfl) fun hu => absurd h (by simp [hu])
theorem encodes_ldimin (h : fitsN v 10 = true) : Encodes (.ldimin v n) (encodeCode (.ldimin v n)) :=
  .ite (fun hu => .imm10n hu rfl rfl (by simp) rfl) fun hu => absurd h (by simp [hu])
theorem encodes_ldihi32 {w : BitVec 32} (h : small n = true) :
    ∀ i ∈ [Instr.ldihiL w n, .ldihiQ w n], Encodes i (encodeCode i) := by
  intro i hi
  fin_cases hi <;> exact .ite (fun hn => .imm32 hn rfl (by simp) rfl) fun hn => absurd h (by simp [hn])
theorem encodes_ldish (h : fitsU v 8 = true) : Encodes (.ldish v n) (encodeCode (.ldish v n)) :=
  .ite (fun hu => .imm8z hu rfl rfl (by simp) rfl) fun hu => absurd h (by simp [hu])
theorem encodes_rbs (w : BitVec 8) (p : Pair) :
    ∀ i ∈ [Instr.rbsldQ w n, .rbsldX w p, .rbsstQ w n, .rbsstX w p], Encodes i (encodeCode i) := by
  intro i hi
  fin_cases hi <;> exact .imm8b rfl rfl (by simp)
/-- An F8 form, whose opcode nibble ends in bit 4 of its register (R116). -/
theorem encodes_ldish16 (h : fitsU v 16 = true) : Encodes (.ldish16 v n) (encodeCode (.ldish16 v n)) := by
  refine .ite (fun hu => .baseOf' ?_ (classify_op64 ?_) rfl rfl) fun hu => absurd h (by simp [hu])
  · rcases bit_cases (slice n 4 1) with hb | hb <;>
      simp [plain, plainAll, plainF8, Config.profileFix32D, mk16_blk, mk16_n, hb, mk16_z16 hu]
  · rcases bit_cases (slice n 4 1) with hb | hb <;>
      simp [op64Rows, op64F8, mk16_blk, mk16_n, hb, mk16_x16u hu]
theorem encodes_ldiz (h : fitsLdiz v n = true) : Encodes (.ldiz v n) (encodeCode (.ldiz v n)) := by
  refine .ite (fun hu => .imm10z hu rfl rfl (by simp) rfl) fun hu =>
    .ite (fun hu => .baseOf' ?_ (classify_op64 ?_) rfl rfl) fun hu =>
    .ite (fun hj => have ⟨hu, hn⟩ := Bool.and_eq_true_iff.1 hj
      .imm32 hn rfl (by simp only [mk8_rn, setWidth_of_fitsU hu]) rfl) fun hj => absurd h (by simp_all [fitsLdiz])
  · rcases bit_cases (slice n 4 1) with hb | hb <;>
      simp [plain, plainAll, plainF8, Config.profileFix32D, mk16_blk, mk16_n, hb, mk16_z16 hu]
  · rcases bit_cases (slice n 4 1) with hb | hb <;>
      simp [op64Rows, op64F8, mk16_blk, mk16_n, hb, mk16_x16u hu]
theorem encodes_ldin (h : fitsLdin v n = true) : Encodes (.ldin v n) (encodeCode (.ldin v n)) := by
  refine .ite (fun hu => .imm10n hu rfl rfl (by simp) rfl) fun hu =>
    .ite (fun hu => .baseOf ?_ (classify_op64 ?_) rfl rfl) fun hu =>
    .ite (fun hj => have ⟨hu, hn⟩ := Bool.and_eq_true_iff.1 hj
      .imm32 hn rfl (by simp only [mk8_rn, oext_of_fitsN hu (show 32 ≤ 64 by decide)]) rfl) fun hj => absurd h (by simp_all [fitsLdin])
  · rcases bit_cases (slice n 4 1) with hb | hb <;>
      simp [plain, plainAll, plainF8, Config.profileFix32D, mk16_blk, mk16_n, hb, mk16_n16 hu]
  · rcases bit_cases (slice n 4 1) with hb | hb <;>
      simp [op64Rows, op64F8, mk16_blk, mk16_n, hb, mk16_x16n hu, slice_p1n_high]
theorem encodes_leaGbr (h : fitsU d 16 = true) : Encodes (.leaQ n (.gbr d)) (encodeCode (.leaQ n (.gbr d))) := by
  refine .ite (fun hu => .baseOf' ?_ (classify_op64 ?_) rfl rfl) fun hu => absurd h (by simp [hu])
  · rcases bit_cases (slice n 4 1) with hb | hb <;>
      simp [plain, plainAll, plainF8, Config.profileFix32D, mk16_blk, mk16_n, hb, mk16_u16 hu]
  · rcases bit_cases (slice n 4 1) with hb | hb <;>
      simp [op64Rows, op64F8, mk16_blk, mk16_n, hb, mk16_x16u hu]

/-! ### Fields with a condition of their own -/

theorem encodes_bounds (h : fitsU v 6 = true) :
    ∀ i ∈ [Instr.bndchkImm v n, .bndcmpImm v n], Encodes i (encodeCode i) := by
  intro i hi
  fin_cases hi <;> exact .ite (fun h6 => .f0 (by simp [plainF0, plainF0z1, mk3_o, mk3_u6 h6]; rfl) (by simp) rfl rfl) fun h6 =>
    absurd h (by simp [h6])
theorem encodes_cmpTTEQ {w : BitVec 6} (h : ttKnown (slice w 0 5) = true) :
    Encodes (.cmpTTEQ w n) (encodeCode (.cmpTTEQ w n)) :=
  .f0 (j := .cmpTTEQ w n) (by simp [plainF0, plainF0z1, mk3_o, mk3_m6, cmpTTEQOf, h]) rfl rfl rfl
theorem encodes_srttwid {w : BitVec 5} (h : srttwidKnown w = true) : Encodes (.srttwid w) (encodeCode (.srttwid w)) :=
  .f0Bind (mk3_i5 w) rfl (by simp [srttwidOf, h]) rfl rfl
theorem encodes_movTTTag {w : BitVec 5} (h : ttKnown w = true) :
    Encodes (.movTTTag m w n) (encodeCode (.movTTTag m w n)) :=
  .f0Bind (mk3_i5 w) rfl (by simp [movTTOf, h]) rfl rfl
theorem encodes_imm5 (w : BitVec 5) : ∀ i ∈ [Instr.srtprop w, .cpuid w, .wexmd w], Encodes i (encodeCode i) := by
  intro i hi
  fin_cases hi <;> exact .f0Imm (mk3_i5 w) rfl (by simp) rfl rfl
theorem encodes_modeJump (w : BitVec 4) : ∀ i ∈ [Instr.jmpmd w n, .jsrmd w n], Encodes i (encodeCode i) := by
  intro i hi
  fin_cases hi <;> exact .f0Imm (mk3_mi4 w) rfl (by simp) rfl rfl
theorem encodes_pdott (w : BitVec 2) : ∀ i ∈ [Instr.pdottH w n, .pdottF w n], Encodes i (encodeCode i) := by
  intro i hi
  fin_cases hi <;> exact .f0Imm (mk3_mi2 w) rfl (by simp) rfl rfl

/-! ### Register forms behind Op64 (R161) -/

theorem encodes_bitmovReg (m o p n : Reg) (m' p' n' : Pair) :
    ∀ i ∈ [Instr.bitmovReg m o p n, .bitmovxReg m' o p' n', .bitmovsReg m o p n, .bitmovsxReg m' o p' n'],
      Encodes i (encodeCode i) := by
  intro i hi
  fin_cases hi <;> exact .op64Reg ⟨rfl, rfl⟩ fun p1 hk hp => by simp [op64Rows, op64F0, op64F0z2, hk, hp]
theorem encodes_mulAccumulate (m o p n : Reg) :
    ∀ i ∈ [Instr.fmas m o p n, .fmrs m o p n, .fmra m o p n, .pmacH m o p n, .pmasH m o p n, .pmrsH m o p n, .pmraH m o p n],
      Encodes i (encodeCode i) := by
  intro i hi
  fin_cases hi <;> exact .op64Reg ⟨rfl, rfl⟩ fun p1 hk hp => by simp [op64Rows, op64F0, op64F0z5, hk, hp]
theorem encodes_mulAccumulatePair (m o p n : Pair) :
    ∀ i ∈ [Instr.fmasx m o p n, .fmrsx m o p n, .fmrax m o p n, .pmacF m o p n, .pmasF m o p n, .pmrsF m o p n, .pmraF m o p n],
      Encodes i (encodeCode i) := by
  intro i hi
  fin_cases hi <;> exact .op64Reg ⟨rfl, rfl⟩ fun p1 hk hp => by simp [op64Rows, op64F0, op64F0z5, hk, hp]
theorem encodes_fmac (m o p n : Reg) : Encodes (.fmac m o p n) (encodeCode (.fmac m o p n)) :=
  .ite (fun hn => by obtain rfl := eq_of_beq hn; exact .f0 rfl (by simp) rfl rfl) fun hn =>
    .op64Reg ⟨rfl, rfl⟩ fun p1 hk hp => by simp [op64Rows, op64F0, op64F0z5, hk, hp]
theorem encodes_fmacx (m o p n : Pair) : Encodes (.fmacx m o p n) (encodeCode (.fmacx m o p n)) :=
  .ite (fun hn => by obtain rfl := eq_of_beq hn; exact .f0 rfl (by simp) rfl rfl) fun hn =>
    .op64Reg ⟨rfl, rfl⟩ fun p1 hk hp => by simp [op64Rows, op64F0, op64F0z5, hk, hp]
theorem encodes_blerp4 (m o p n : Reg) (k : BitVec 2) : Encodes (.blerp4 m o p k n) (encodeCode (.blerp4 m o p k n)) :=
  .op64Blend ⟨rfl, rfl⟩ fun p1 h8 hk hp => by simp [op64Rows, op64F0, op64F0z6, Fields.k2, h8, hk, hp]
theorem encodes_blkuvf1 (m o n : Reg) :
    ∀ i ∈ [Instr.blkuvf1VL m o n, .blkuvf1VH m o n, .blkuvf1SL m o n, .blkuvf1SH m o n], Encodes i (encodeCode i) := by
  intro i hi
  fin_cases hi <;> exact .op64 (by simp [op64Rows, op64F0, op64F0z7]) ⟨rfl, rfl⟩
theorem encodes_rounded (m o n : Reg) (m' o' n' : Pair) (r : BitVec 8) :
    ∀ i ∈ [Instr.paddXrm m o n r, .paddxXrm m' o' n' r, .pmulXrm m o n r, .pmulxXrm m' o' n' r],
      Encodes i (encodeCode i) := by
  intro i hi
  fin_cases hi <;> exact .op64Byte ⟨rfl, rfl⟩ fun p1 hk hr => by simp [op64Rows, op64F0, op64F0z2, Fields.p8, hk, hr]
theorem encodes_shuffled {m o n : Reg} {m' o' n' : Pair} {w : BitVec 11} (h : shufOk w = true) :
    ∀ i ∈ [Instr.paddshxX m' o' w n', .psubshxX m' o' w n', .pmulshxX m' o' w n', .paddshH m o w n, .psubshH m o w n,
      .pmulshH m o w n], Encodes i (encodeCode i) := by
  intro i hi
  fin_cases hi <;> exact .op64Shuffle h ⟨rfl, rfl⟩ fun p1 hs h8 => by simp [op64Rows, op64F0, op64F0z2, hs, h8]
theorem encodes_fpReg (m o n : Reg) (r : BitVec 8) :
    ∀ i ∈ [Instr.fadd m (.reg o) n r, .fsub m (.reg o) n r, .fmul m (.reg o) n r], Encodes i (encodeCode i) := by
  intro i hi
  fin_cases hi <;> exact .ite (fun h0 => by obtain rfl := eq_of_beq h0; exact .f0 rfl (by simp) rfl rfl) fun h0 =>
    .op64Byte ⟨rfl, rfl⟩ fun p1 hk hr => by simp [op64Rows, op64F0, op64F0z5, Fields.p8, hk, hr]
theorem encodes_fpPair (m o n : Pair) (r : BitVec 8) :
    ∀ i ∈ [Instr.faddx m o n r, .fsubx m o n r, .fmulx m o n r], Encodes i (encodeCode i) := by
  intro i hi
  fin_cases hi <;> exact .ite (fun h0 => by obtain rfl := eq_of_beq h0; exact .f0 rfl (by simp) rfl rfl) fun h0 =>
    .op64Byte ⟨rfl, rfl⟩ fun p1 hk hr => by simp [op64Rows, op64F0, op64F0z5, Fields.p8, hk, hr]
theorem encodes_movTTImm (h : fitsS v 17 = true) : Encodes (.movTTImm m v n) (encodeCode (.movTTImm m v n)) :=
  .ifS17 (fun p1 hu hb hv => by simp [op64Rows, op64F0, op64F0z3, Config.features, hu, hb, hv])
    fun h17 => absurd h (by simp [h17])
end

/-! ### F8 forms behind Op64, with an Imm32 (R116, R166) -/

section
variable {m n : Reg} {v : Word} {r : BitVec 8}

theorem encodes_halfVector {w : BitVec 32} (h : even8 n = true) :
    ∀ i ∈ [Instr.pldcHImm w n, .pldcM8SHImm w n, .pldcM8UHImm w n], Encodes i (encodeCode i) := by
  have hb : slice n 4 1 = 0#1 := by revert h; clear * -; decide +revert
  intro i hi
  fin_cases hi <;> exact .op64 (by simp [op64Rows, op64F8, mk16_blk, mk16_n, hb, mk16_x32]) ⟨rfl, rfl⟩
theorem encodes_fldcfImm (w : BitVec 32) (n : Reg) : Encodes (.fldcfImm w n) (encodeCode (.fldcfImm w n)) := by
  refine .op64 ?_ ⟨rfl, rfl⟩
  rcases bit_cases (slice n 4 1) with hb | hb <;> simp [op64Rows, op64F8, mk16_blk, mk16_n, hb, mk16_x32]
theorem encodes_xmovTTImm {w : BitVec 32} {p : Pair} (h : xmovttOk p = true) :
    Encodes (.xmovTTImm w p) (encodeCode (.xmovTTImm w p)) := by
  have hb : slice (regOf p) 4 1 = 0#1 := by revert h; clear * -; decide +revert
  exact .op64 (by simp [op64Rows, op64F8, mk16_blk, mk16_n, hb, mk16_x32]) ⟨rfl, rfl⟩
theorem encodes_fldchImm {w : BitVec 40} (h : (slice w 0 24 == 0#24 && small n) = true) :
    Encodes (.fldchImm w n) (encodeCode (.fldchImm w n)) := by
  obtain ⟨h0, hn⟩ := Bool.and_eq_true_iff.1 h
  refine .ite (fun h0 => .short ?_ ?_ rfl rfl) fun h0' => absurd h0 (by simp [h0'])
  · rcases bit_cases (slice n 4 1) with hb | hb <;>
      simp [plain, plainAll, plainF8, Config.profileFix32D, mk16_blk, mk16_n, hb, mk16_h16 (eq_of_beq h0)]
  · simp [small] at hn
    simp [Fields.ext, mk16, hn]

/-! ### Shuffles and vectors of halves (48_gsv_media.md) -/

theorem encodes_pshufB (m n : Reg) (w : BitVec 8) : Encodes (.pshufB m w n) (encodeCode (.pshufB m w n)) := by
  let f : Fields := mk8 2#4 8#4 false n m 1#2 w
  have hp : plain (f.withOx 1#2) = some (.pshufB m w n) :=
    .trans (b := some (.pshufB f.rm f.imm8 f.rn)) rfl (by simp [f])
  exact .of_eq (congrArg _ (mk8_eq _ _)) (.baseOf' hp (classify_widened hp rfl rfl) rfl rfl)
theorem encodes_pshufW {w : BitVec 8} (h : (small m && small n) = true) :
    Encodes (.pshufW m w n) (encodeCode (.pshufW m w n)) := by
  obtain ⟨hm, hn⟩ := Bool.and_eq_true_iff.1 h
  let f : Fields := mk8 2#4 8#4 true n m 1#2 w
  have hp : plain (f.withOx 1#2) = some (.pshufW m w n) :=
    .trans (b := some (.pshufW f.rm f.imm8 f.rn)) rfl (by simp [f])
  exact .short ((congrArg plain (mk8_eq _ _)).trans hp)
    ((congrArg Fields.ext (mk8_eq _ _)).trans (mk8_ext hn hm _ _ rfl)) rfl rfl
theorem encodes_pshufW33 {w : BitVec 33} (h : (bitAt w 8 && small m && small n) = true) :
    Encodes (.pshufW33 m w n) (encodeCode (.pshufW33 m w n)) := by
  obtain ⟨hb, hm, hn⟩ := and_small h
  have hw : slice w 9 24 ++ 1#1 ++ w.setWidth 8 = w := by
    have h1 : 1#1 = slice w 8 1 := by rw [← ofBool_bitAt, hb]; rfl
    simp [h1]
  exact .ite (fun hs => .ofSelJumbo (.jumboOf rfl (mk8_ext hn hm _ _ rfl) (by simp [hw]) ⟨rfl, rfl⟩)) fun hs =>
    absurd h (by simp_all)
theorem encodes_pshufW17 {w : BitVec 17} (hb : bitAt w 8 = true) :
    Encodes (.pshufW17 m w n) (encodeCode (.pshufW17 m w n)) := by
  have hw : slice w 9 8 ++ 1#1 ++ w.setWidth 8 = w := by
    have h1 : 1#1 = slice w 8 1 := by rw [← ofBool_bitAt, hb]; rfl
    simp [h1]
  let f : Fields := (mk8 2#4 8#4 true n m 1#2 (w.setWidth 8)).withOx 1#2
  refine .of_eq (congrArg _ (mk8_eq _ _)) (.op64Byte ⟨rfl, rfl⟩ fun p1 h0 hp1 => ?_)
  exact .trans (b := (f.q17 p1).map fun v => .pshufW17 f.rm v f.rn) rfl (by simp [f, Fields.q17, h0, hp1, hw, withOx_ox])
theorem encodes_constVector {w : BitVec 56} (h : (small n && small m) = true) :
    ∀ i ∈ [Instr.pmacshHV m w n, .paddHV m w n, .pmulHV m w n, .paddshHV m w n, .pmulshHV m w n],
      Encodes i (encodeCode i) := by
  obtain ⟨hn, hm⟩ := Bool.and_eq_true_iff.1 h
  intro i hi
  fin_cases hi <;> exact .ite (fun _ => .ofSelJumbo2 (.jumbo2Of rfl (mk8_ext hn hm _ _ rfl) (by simp) ⟨rfl, rfl⟩)) fun hs =>
    absurd h (by simp [hs])
theorem encodes_constVectorPair (w : BitVec 56) (m n : Pair) :
    ∀ i ∈ [Instr.pmacshFV m w n, .paddFV m w n, .pmulFV m w n, .paddshFV m w n, .pmulshFV m w n],
      Encodes i (encodeCode i) := by
  intro i hi
  fin_cases hi <;> exact .ofSelJumbo2 (.jumbo2Of rfl (mk8_ext (small_regOf _) (small_regOf _) _ _ rfl) (by simp) ⟨rfl, rfl⟩)
theorem encodes_bitmovImm {o : Reg} {c : BitVec 24} (h : small3 m o n = true) :
    ∀ i ∈ [Instr.bitmovImm m o n c, .bitmovsImm m o n c], Encodes i (encodeCode i) := by
  simp [small3, and_assoc] at h
  intro i hi
  fin_cases hi <;> exact .ite (fun hs => .jumboOf rfl (mk3_ext h.2.2 h.1 (eq_of_beq h.2.1)) (by simp) ⟨rfl, rfl⟩) fun hs =>
    absurd hs (by simp [h])
theorem encodes_bitmovxImm {m n : Pair} {o : Reg} {c : BitVec 24} (h : small o = true) :
    ∀ i ∈ [Instr.bitmovxImm m o n c, .bitmovsxImm m o n c], Encodes i (encodeCode i) := by
  intro i hi
  fin_cases hi <;> exact .ite (fun hs => .jumboOf rfl (mk3_ext (small_regOf _) (small_regOf _) (eq_of_beq h)) (by simp) ⟨rfl, rfl⟩) fun hs =>
    absurd h (by simp [hs])

/-! ### Immediates of the floating-point unit (49_gfp.md R783) -/

theorem encodes_fp56 (h : (r == 0#8 && slice v 0 8 == 0#8 && small2 m n) = true) :
    ∀ i ∈ [Instr.fadd m (.imm v) n r, .fmul m (.imm v) n r], Encodes i (encodeCode i) := by
  simp only [small2, Bool.and_eq_true, beq_iff_eq] at h
  obtain ⟨⟨rfl, hv⟩, hm, hn⟩ := h
  intro i hi
  fin_cases hi <;> exact .ite (fun _ => .jumbo2 (mk8_f56 hv) rfl (mk3_ext hn hm (by simp)) (by simp) ⟨rfl, rfl⟩) fun hs =>
    absurd hs (by simp [hv, hm, hn])
theorem encodes_fp32 (h : fsrc32 (.imm v) m n = true) :
    ∀ i ∈ [Instr.fadda m (.imm v) n, .fmula m (.imm v) n], Encodes i (encodeCode i) := by
  simp only [fsrc32, small2, Bool.and_eq_true, beq_iff_eq] at h
  obtain ⟨hv, hm, hn⟩ := h
  have hw : slice v 32 32 ++ 0#32 = v := by simp [← hv]
  intro i hi
  fin_cases hi <;> exact .ite (fun _ => .ofSelJumbo (.jumboOf rfl (mk8_ext hn hm _ _ rfl) (by simp [hw]) ⟨rfl, rfl⟩)) fun hs =>
    absurd hs (by simp [hv, hm, hn])
theorem encodes_fcmpImm (h : fsrcCmp (.imm v) n = true) :
    ∀ i ∈ [Instr.fcmpEQ (.imm v) n, .fcmpGE v n, .fcmpGT (.imm v) n], Encodes i (encodeCode i) := by
  obtain ⟨h0, hn⟩ := Bool.and_eq_true_iff.1 h
  intro i hi
  fin_cases hi <;> exact .ite (fun _ => .jumbo2 (mk8_f56z (eq_of_beq h0) rfl) rfl (mk3_ext hn rfl (by simp)) (by simp) ⟨rfl, rfl⟩) fun hs =>
    absurd h (by simpa [fsrcCmp] using hs)
/-- A microfloat and the value it stands for (R783). -/
theorem halfToDouble_microHalf (k : BitVec 5) : halfToDouble (microHalf false k) = (k.setWidth 64 + 0xFF0#64) <<< 50 := by
  decide +revert
theorem halfToDouble_microOf (h : isMicro v = true) : halfToDouble (microHalf false (microOf v)) = v := by
  simp only [isMicro, Bool.and_eq_true, beq_iff_eq, decide_eq_true_eq] at h
  obtain ⟨⟨h0, hlo⟩, hhi⟩ := h
  rw [halfToDouble_microHalf]
  have hk : (microOf v).setWidth 64 + 0xFF0#64 = v >>> 50 := by
    simp only [microOf]
    bv_omega
  have h0' := congrArg BitVec.toNat h0
  simp [slice] at h0'
  rw [hk]
  bv_omega
theorem mk3_fp5 {z y : BitVec 4} {q : Bool} (h : isMicro v = true) :
    (mk3 0#4 z y q n m ((microOf v).setWidth 6)).fp5 = some v := by
  simp [Fields.fp5, halfToDouble_microOf h]
theorem encodes_fsubImm (h : (r == 0#8 && isMicro v) = true) :
    Encodes (.fsub m (.imm v) n r) (encodeCode (.fsub m (.imm v) n r)) := by
  obtain ⟨h0, hv⟩ := Bool.and_eq_true_iff.1 h
  obtain rfl := eq_of_beq h0
  exact .ite (fun _ => .f0Imm (mk3_fp5 hv) rfl (by simp) rfl rfl) fun hs => absurd h (by simpa using hs)

/-! ### 16-bit forms (R111) -/

/-- The rows of the second nibbles 3 and B, and 6 and E: their top bit is one of the operand. -/
theorem half3_negc (t : BitVec 1) (c : BitVec 4) : half3 (t ++ 3#3) c 2#4 = some (.negc (mir4 (t ++ 3#3) c)) := by
  rcases bit_cases t with rfl | rfl <;> rfl
theorem half3_trapImm (t : BitVec 1) (c : BitVec 4) : half3 (t ++ 6#3) c 3#4 = some (.trapImm (slice (t ++ 6#3) 3 1 ++ c)) := by
  rcases bit_cases t with rfl | rfl <;> rfl
theorem slice_second (t : BitVec 1) (c : BitVec 3) : slice (3#4 ++ t ++ c) 0 4 = t ++ c := by decide +revert
theorem encodes_negc (h : small n = true) : Encodes (.negc n) (encodeCode (.negc n)) := by
  have hn : mir4 (slice n 4 1 ++ 3#3) (slice n 0 4) = n := by
    simp [small] at h
    simp [mir4, ← h]
  refine .half (by simp; decide) ?_
  simp [half16, slice_second, half3_negc, hn]
theorem encodes_ldi8 (h : (fitsS v 8 && nib n) = true) : Encodes (.ldi8 v n) (encodeCode (.ldi8 v n)) := by
  refine .ite (fun hs => .half (by simp; decide) ?_) fun hs => absurd h (by simp [hs])
  obtain ⟨hv, hn⟩ := Bool.and_eq_true_iff.1 h
  have hl : lo4 (slice n 0 4) = n := by
    rw [nib, beq_iff_eq] at hn
    rw [lo4, ← hn, reg_bits]
  have hs := sext_of_fitsS hv (by decide)
  rw [← slice_zero_eq_setWidth v (by decide)] at hs
  simp [half16, hl, hs]
theorem encodes_trapImm (w : BitVec 5) : Encodes (.trapImm w) (encodeCode (.trapImm w)) := by
  refine .half (by simp; decide) ?_
  simp [half16, slice_second, half3_trapImm]
theorem encodes_breakOp : Encodes .breakOp (encodeCode .breakOp) := .half (by decide) rfl
end

/-! ### Loads and stores (44_load_store.md, 45_load_store_ext.md) -/

section
variable {n : Reg} {p : Pair} {a : Addr} {b x : Reg} {v : Word}

theorem mk3_ox {blk z y : BitVec 4} {q : Bool} {m o : Reg} : bitAt (mk3 blk z y q n m o).ox 0 = bitAt o 4 := by simp [mk3]
theorem lo4_slice (h : nib n = true) : lo4 (slice n 0 4) = n := by
  rw [nib, beq_iff_eq] at h
  rw [lo4, ← h, reg_bits]
/-- A move through (Rm) in 16 bits, which names R0 to R15 (R111). -/
theorem Encodes.indirect {i j : Instr} {e : BitVec 8} (h : (nib b && nib n) = true)
    (hr : half16 (slice e 4 4) (slice e 0 4) (slice n 0 4) (slice b 0 4) = some j)
    (he : slice e 5 3 ≠ 7#3 ∧ slice e 4 4 ≠ 7#4 ∧ slice e 4 4 ≠ 9#4)
    (hj : lo4 (slice n 0 4) = n → lo4 (slice b 0 4) = b → j = i) :
    Encodes i (if nib n && nib b then some (.h (e ++ slice n 0 4 ++ slice b 0 4)) else none) := by
  obtain ⟨hb, hn⟩ := Bool.and_eq_true_iff.1 h
  obtain rfl := hj (lo4_slice hn) (lo4_slice hb)
  exact .ite (fun _ => .half (by simpa using he) (by simpa using hr)) fun hs => absurd hs (by simp [hn, hb])

theorem encodes_byteMove (h : addrOk .b a n = true) :
    ∀ i ∈ [Instr.movB .store n a, .movB .load n a, .movuB n a], Encodes i (encodeCode i) := by
  intro i hi
  cases a with
  | ind b => fin_cases hi <;> exact .indirect h rfl (by decide) fun hn hb => by rw [hn, hb]
  | index b x => fin_cases hi <;> exact .f0 rfl (by simp) rfl rfl
  | indexDisp b x d =>
    fin_cases hi <;> exact .op64Disp ⟨rfl, rfl⟩ fun p1 hu hb hd =>
      by simp [op64Rows, op64F0, op64F0z0, Config.features, hu, hb, hd]
  | indexSc b x k d =>
    fin_cases hi <;> exact .op64Scaled ⟨rfl, rfl⟩ fun p1 hu hb hk hd =>
      by simp [op64Rows, op64F0, op64F0z0, Config.features, hu, hb, hk, hd]
  | gbr d => exact (Bool.false_ne_true h).elim
  | disp b d =>
    fin_cases hi <;> exact .ifU9 rfl rfl (by simp) rfl fun h9 =>
      .ifS17 (fun p1 hu hb hv => by simp [op64Rows, op64F0, op64F0z0, Config.features, hu, hb, hv])
      fun h17 => absurd h (by simp [addrOk, h9, h17])
  | dispByte b d =>
    fin_cases hi <;> exact .ifS33 rfl (by simp) rfl fun hj => absurd h (by simp_all [addrOk, small2])
theorem encodes_wordMove (h : addrOk .w a n = true) :
    ∀ i ∈ [Instr.movW .store n a, .movW .load n a, .movuW n a], Encodes i (encodeCode i) := by
  intro i hi
  cases a with
  | ind b => fin_cases hi <;> exact .indirect h rfl (by decide) fun hn hb => by rw [hn, hb]
  | index b x => fin_cases hi <;> exact .f0 rfl (by simp) rfl rfl
  | indexDisp b x d =>
    fin_cases hi <;> exact .op64Disp ⟨rfl, rfl⟩ fun p1 hu hb hd =>
      by simp [op64Rows, op64F0, op64F0z0, Config.features, hu, hb, hd]
  | indexSc b x k d =>
    fin_cases hi <;> exact .op64Scaled ⟨rfl, rfl⟩ fun p1 hu hb hk hd =>
      by simp [op64Rows, op64F0, op64F0z0, Config.features, hu, hb, hk, hd]
  | gbr d => exact (Bool.false_ne_true h).elim
  | disp b d =>
    fin_cases hi <;> exact .ifU9 rfl rfl (by simp) rfl fun h9 =>
      .ifS17 (fun p1 hu hb hv => by simp [op64Rows, op64F0, op64F0z0, Config.features, hu, hb, hv])
      fun h17 => absurd h (by simp [addrOk, h9, h17])
  | dispByte b d =>
    fin_cases hi <;> exact .ifS17 (fun p1 hu hb hv => by simp [op64Rows, op64F0, op64F0z0, Config.features, hu, hb, hv])
      fun h17 => .ifS33 rfl (by simp) rfl fun hj => absurd h (by simp_all [addrOk, small2])
theorem encodes_longMove (h : addrOk .lq a n = true) :
    ∀ i ∈ [Instr.movL .store n a, .movL .load n a, .movQ .store n a, .movQ .load n a, .movuL n a],
      Encodes i (encodeCode i) := by
  intro i hi
  cases a with
  | ind b => fin_cases hi <;> exact .indirect h rfl (by decide) fun hn hb => by rw [hn, hb]
  | index b x => fin_cases hi <;> exact .f0 rfl (by simp) rfl rfl
  | indexDisp b x d =>
    fin_cases hi <;> exact .op64Disp ⟨rfl, rfl⟩ fun p1 hu hb hd =>
      by simp [op64Rows, op64F0, op64F0z0, Config.features, hu, hb, hd]
  | indexSc b x k d =>
    fin_cases hi <;> exact .op64Scaled ⟨rfl, rfl⟩ fun p1 hu hb hk hd =>
      by simp [op64Rows, op64F0, op64F0z0, Config.features, hu, hb, hk, hd]
  | gbr d =>
    fin_cases hi <;> exact .ite (fun hu => .imm10u hu rfl rfl (by simp) rfl) fun hu =>
      absurd h (by simp [addrOk, hu])
  | disp b d =>
    fin_cases hi <;> exact .ifU9 rfl rfl (by simp) rfl fun h9 =>
      .ifS17 (fun p1 hu hb hv => by simp [op64Rows, op64F0, op64F0z0, Config.features, hu, hb, hv])
      fun h17 => absurd h (by simp [addrOk, h9, h17])
  | dispByte b d =>
    fin_cases hi <;> exact .ifS17 (fun p1 hu hb hv => by simp [op64Rows, op64F0, op64F0z0, Config.features, hu, hb, hv])
      fun h17 => .ifS33 rfl (by simp) rfl fun hj => absurd h (by simp_all [addrOk, small2])
theorem addrOk_ul (h : addrOk .ul a n = true) : addrOk .lq a n = true := by cases a <;> exact h
theorem encodes_pairMove (h : addrOk .x a 0#6 = true) :
    ∀ i ∈ [Instr.movX .store p a, .movX .load p a], Encodes i (encodeCode i) := by
  intro i hi
  cases a with
  | ind b => exact (Bool.false_ne_true h).elim
  | index b x => fin_cases hi <;> exact .f0 rfl (by simp) rfl rfl
  | indexDisp b x d =>
    fin_cases hi <;> exact .op64Disp ⟨rfl, rfl⟩ fun p1 hu hb hd =>
      by simp [op64Rows, op64F0, op64F0z4, Config.features, hu, hb, hd]
  | indexSc b x k d =>
    fin_cases hi <;> exact .op64Scaled ⟨rfl, rfl⟩ fun p1 hu hb hk hd =>
      by simp [op64Rows, op64F0, op64F0z4, Config.features, hu, hb, hk, hd]
  | gbr d =>
    fin_cases hi <;> exact .ite (fun hu => .imm10u hu rfl rfl (by simp) rfl) fun hu =>
      absurd h (by simp [addrOk, hu])
  | disp b d =>
    fin_cases hi <;> exact .ifU9 rfl rfl (by simp) rfl fun h9 =>
      .ifS17 (fun p1 hu hb hv => by simp [op64Rows, op64F0, op64F0z4, Config.features, hu, hb, hv])
      fun h17 => absurd h (by simp [addrOk, h9, h17])
  | dispByte b d =>
    have ⟨hm, h33⟩ : small b = true ∧ fitsS d 33 = true := by
      have h0 : small 0#6 = true := rfl
      simpa [addrOk, small2, h0] using h
    fin_cases hi <;> exact .ite (fun hj => .jumbo (mk9_s33 h33) rfl (mk9_ext (small_regOf p) hm _) (by simp) ⟨rfl, rfl⟩) fun hj =>
      absurd hj (by simp [hm, h33])
theorem encodes_controlMove {c : Reg} (h : addrOk .c a c = true) :
    ∀ i ∈ [Instr.movC .store c a, .movC .load c a], Encodes i (encodeCode i) := by
  intro i hi
  cases a with
  | ind b => exact (Bool.false_ne_true h).elim
  | index b x => fin_cases hi <;> exact .f0 rfl (by simp) rfl rfl
  | indexDisp b x d =>
    fin_cases hi <;> exact .op64Disp ⟨rfl, rfl⟩ fun p1 hu hb hd =>
      by simp [op64Rows, op64F0, op64F0z4, Config.features, Config.acceptDropped, hu, hb, hd]
  | indexSc b x k d =>
    fin_cases hi <;> exact .op64Scaled ⟨rfl, rfl⟩ fun p1 hu hb hk hd =>
      by simp [op64Rows, op64F0, op64F0z4, Config.features, Config.acceptDropped, hu, hb, hk, hd]
  | gbr d => exact (Bool.false_ne_true h).elim
  | disp b d =>
    fin_cases hi <;> exact .ifU9 rfl rfl (by simp) rfl fun h9 => absurd h (by simp [addrOk, h9])
  | dispByte b d =>
    fin_cases hi <;> exact .ifS33 rfl (by simp) rfl fun hj => absurd h (by simp_all [addrOk, small2])
theorem encodes_imm5Move (h : addrOk .d5 a n = true) :
    ∀ i ∈ [Instr.movnL n a, .movTW .store n a, .movTW .load n a, .movuTW n a, .movHTW .store n a, .movHTW .load n a],
      Encodes i (encodeCode i) := by
  intro i hi
  cases a with
  | index b x => fin_cases hi <;> exact .f0 rfl (by simp) rfl rfl
  | disp b d =>
    fin_cases hi <;> exact .ite (fun h5 => .f0Imm (mk3_u5 h5) rfl (by simp) rfl rfl) fun h5 =>
      absurd h (by simp [addrOk, h5])
  | ind | indexDisp | indexSc | gbr | dispByte => exact (Bool.false_ne_true h).elim
theorem encodes_lea (h : addrOk .lea a n = true) :
    ∀ i ∈ [Instr.leaB n a, .leaW n a, .leaL n a, .leaQ n a], Encodes i (encodeCode i) := by
  intro i hi
  cases a with
  | index b x => fin_cases hi <;> exact .f0 rfl (by simp) rfl rfl
  | disp b d =>
    fin_cases hi <;> exact .ifU9 rfl rfl (by simp) rfl fun h9 => absurd h (by simp [addrOk, h9])
  | dispByte b d =>
    fin_cases hi <;> exact .ifS33 rfl (by simp) rfl fun hj => absurd h (by simp_all [addrOk, small2])
  | ind | indexDisp | indexSc | gbr => exact (Bool.false_ne_true h).elim
theorem addrOk_lea (hg : ∀ d, a ≠ .gbr d) (h : addrOk .leaq a n = true) : addrOk .lea a n = true := by
  cases a with
  | gbr d => exact absurd rfl (hg d)
  | ind | index | indexDisp | indexSc | disp | dispByte => exact h
theorem encodes_leaQ (h : addrOk .leaq a n = true) : Encodes (.leaQ n a) (encodeCode (.leaQ n a)) := by
  cases a with
  | gbr d => exact encodes_leaGbr h
  | ind | index | indexDisp | indexSc | disp | dispByte => exact encodes_lea (addrOk_lea (by simp) h) _ (by simp)
theorem encodes_leat (h : addrOk .leat a n = true) :
    ∀ i ∈ [Instr.leatB n a, .leatW n a, .leatL n a, .leatQ n a], Encodes i (encodeCode i) := by
  intro i hi
  cases a with
  | index b x =>
    have hx : bitAt x 4 = false := by simpa [addrOk] using h
    fin_cases hi <;> exact .f0 (by simp [plainF0, plainF0z4, mk3_ox, hx]; rfl) (by simp) rfl rfl
  | disp b d =>
    fin_cases hi <;> exact .ite (fun h5 => .f0Imm (mk3_u5 h5) rfl (by simp) rfl rfl) fun h5 =>
      absurd h (by simp [addrOk, h5])
  | dispByte b d =>
    fin_cases hi <;> exact .ite (fun hj => have ⟨h29, hn, hm⟩ := and_small hj
        .jumbo (mk3_s29 h29) rfl (mk3_ext hn hm (by simp)) (by simp) ⟨rfl, rfl⟩)
      fun hj => absurd h (by simp_all [addrOk, small2])
  | ind | indexDisp | indexSc | gbr => exact (Bool.false_ne_true h).elim
theorem encodes_ldtex (m o n : Reg) (d : TexDisp) : Encodes (.ldtex m o d n) (encodeCode (.ldtex m o d n)) := by
  cases d with
  | none => exact .f0 rfl (by simp) rfl rfl
  | disp d =>
    exact .op64Disp ⟨rfl, rfl⟩ fun p1 hu hb hd =>
      by simp [op64Rows, op64F0, op64F0z0, Config.features, hu, hb, hd]
  | scaled k d =>
    exact .op64Scaled ⟨rfl, rfl⟩ fun p1 hu hb hk hd =>
      by simp [op64Rows, op64F0, op64F0z0, Config.features, hu, hb, hk, hd]
theorem encodes_ldop {u : BitVec 4} {d : Dir} {k : LdOpSize} (h : ldopOk u d k a n = true) :
    Encodes (.ldop u d k n a) (encodeCode (.ldop u d k n a)) := by
  obtain ⟨hh, ha⟩ := Bool.and_eq_true_iff.1 h
  obtain ⟨h0, hd⟩ := Bool.and_eq_true_iff.1 hh
  have hu0 : (u == 0#4) = false := by simpa using h0
  cases d <;> cases k <;> cases hd <;> cases a with
  | indexDisp b x d =>
    exact .op64Disp ⟨rfl, rfl⟩ fun p1 hu hb hd => by simp [op64Rows, op64F0, op64F0z0, hu, hb, hd, h0, hu0]
  | indexSc b x k d =>
    exact .op64Scaled ⟨rfl, rfl⟩ fun p1 hu hb hk hd => by simp [op64Rows, op64F0, op64F0z0, hu, hb, hk, hd, h0, hu0]
  | disp b d =>
    exact .ifS17 (fun p1 hu hb hv => by simp [op64Rows, op64F0, op64F0z0, hu, hb, hv, h0, hu0])
      fun h17 => absurd ha (by simp [h17])
  | ind | index | gbr | dispByte => exact (Bool.false_ne_true ha).elim
end

/-- Every well-formed instruction has an encoding that reads as it. -/
theorem encodes_encodeCode {i : Instr} (h : wellFormed i = true) : Encodes i (encodeCode i) := by
  cases i with
  | add m s n => exact encodes_add h
  | addsL m s n | adduL m s n => exact encodes_addL h _ (by simp)
  | and m s n | or m s n | xor m s n => exact encodes_logic h _ (by simp)
  | muls m s n | mulu m s n => exact encodes_mul (m := m) (n := n) h _ (by simp)
  | mulsW m s n | muluW m s n => exact encodes_mulW h _ (by simp)
  | shad m s n | shadq m s n | shld m s n | shldq m s n => exact encodes_shift (m := m) (n := n) h _ (by simp)
  | macsL m b a n | macuL m b a n | dmacsL m b a n | dmacuL m b a n => exact encodes_mac h _ (by simp)
  | cmpEQ s n f | cmpGT s n f | cmpHI s n f | cmpGE s n f | cmpHS s n f | cmpQEQ s n f | cmpQGT s n f | cmpQHI s n f
  | cmpQGE s n f | cmpQHS s n f => exact encodes_cmp h _ (by simp)
  | tst s n f | tstQ s n f => exact encodes_tst (n := n) h _ (by simp)
  | cmp3EQ m s n | cmp3GT m s n | cmp3NE m s n => exact encodes_cmp3 h _ (by simp)
  | cmp3LT m v n => exact encodes_cmp3Imm h _ (by simp)
  | cmp3HI m v n | cmp3BI m v n => exact encodes_cmp3Unsigned (m := m) (n := n) h _ (by simp)
  | bra t | bsr t | bt t | bf t => exact encodes_branch h _ (by simp)
  | jmpAbs a | jsrAbs a => exact ⟨_, rfl, trivial, rfl⟩
  | brEQL n d | brEQQ n d | brNEL n d | brNEQ n d | brLTL n d | brLTQ n d | brGEL n d | brGEQ n d | brLEL n d | brLEQ n d
  | brGTL n d | brGTQ n d => exact encodes_compareZeroBranch (n := n) h _ (by simp)
  | jtstT m n d | jtstQT m n d | jtstF m n d | jtstQF m n d | jcmpGT m n d | jcmpQGT m n d | jcmpLE m n d | jcmpQLE m n d
  | jcmpHI m n d | jcmpQHI m n d | jcmpLS m n d | jcmpQLS m n d | jcmpEQ m n d | jcmpQEQ m n d | jcmpNE m n d
  | jcmpQNE m n d => exact encodes_compareBranch (m := m) (n := n) h _ (by simp)
  | jcmpz q c n d => exact encodes_jcmpz h
  | ldimiz v n | ldihi v n | ldihiq v n => exact encodes_imm10z (n := n) h _ (by simp)
  | ldimin v n => exact encodes_ldimin h
  | ldihiL w n | ldihiQ w n => exact encodes_ldihi32 (w := w) h _ (by simp)
  | ldish v n => exact encodes_ldish h
  | ldish16 v n => exact encodes_ldish16 h
  | ldiz v n => exact encodes_ldiz h
  | ldin v n => exact encodes_ldin h
  | ldi8 v n => exact encodes_ldi8 h
  | ldi64 v n => exact encodes_ldi64 v n
  | rbsldQ w n | rbsstQ w n => exact encodes_rbs (n := n) w 0#5 _ (by simp)
  | rbsldX w p | rbsstX w p => exact encodes_rbs w p (n := 0#6) _ (by simp)
  | movB d n a => cases d <;> exact encodes_byteMove h _ (by simp)
  | movuB n a => exact encodes_byteMove h _ (by simp)
  | movW d n a => cases d <;> exact encodes_wordMove h _ (by simp)
  | movuW n a => exact encodes_wordMove h _ (by simp)
  | movL d n a | movQ d n a => cases d <;> exact encodes_longMove h _ (by simp)
  | movuL n a => exact encodes_longMove (addrOk_ul h) _ (by simp)
  | movX d p a => cases d <;> exact encodes_pairMove (p := p) h _ (by simp)
  | movC d c a => cases d <;> exact encodes_controlMove h _ (by simp)
  | movTW d n a | movHTW d n a => cases d <;> exact encodes_imm5Move h _ (by simp)
  | movnL n a | movuTW n a => exact encodes_imm5Move h _ (by simp)
  | leaB n a | leaW n a | leaL n a => exact encodes_lea h _ (by simp)
  | leaQ n a => exact encodes_leaQ h
  | leatB n a | leatW n a | leatL n a | leatQ n a => exact encodes_leat h _ (by simp)
  | ldtex m o d n => exact encodes_ldtex m o n d
  | ldop u d k n a => exact encodes_ldop h
  | bndchkImm v n | bndcmpImm v n => exact encodes_bounds (n := n) h _ (by simp)
  | cmpTTEQ w n => exact encodes_cmpTTEQ h
  | srttwid w => exact encodes_srttwid h
  | srtprop w | cpuid w | wexmd w => exact encodes_imm5 w _ (by simp)
  | jmpmd w n | jsrmd w n => exact encodes_modeJump (n := n) w _ (by simp)
  | pdottH w n | pdottF w n => exact encodes_pdott (n := n) w _ (by simp)
  | movTTTag m w n => exact encodes_movTTTag h
  | movTTImm m v n => exact encodes_movTTImm h
  | xmovTTImm w p => exact encodes_xmovTTImm h
  | bitmovImm m o n c | bitmovsImm m o n c => exact encodes_bitmovImm (c := c) h _ (by simp)
  | bitmovxImm m o n c | bitmovsxImm m o n c => exact encodes_bitmovxImm (m := m) (n := n) (c := c) h _ (by simp)
  | bitmovReg m o p n | bitmovsReg m o p n => exact encodes_bitmovReg m o p n 0#5 0#5 0#5 _ (by simp)
  | bitmovxReg m o p n | bitmovsxReg m o p n => exact encodes_bitmovReg 0#6 o 0#6 0#6 m p n _ (by simp)
  | fmac m o p n => exact encodes_fmac m o p n
  | fmacx m o p n => exact encodes_fmacx m o p n
  | fmas m o p n | fmrs m o p n | fmra m o p n | pmacH m o p n | pmasH m o p n | pmrsH m o p n | pmraH m o p n =>
    exact encodes_mulAccumulate m o p n _ (by simp)
  | fmasx m o p n | fmrsx m o p n | fmrax m o p n | pmacF m o p n | pmasF m o p n | pmrsF m o p n | pmraF m o p n =>
    exact encodes_mulAccumulatePair m o p n _ (by simp)
  | blerp4 m o p k n => exact encodes_blerp4 m o p n k
  | blkuvf1VL m o n | blkuvf1VH m o n | blkuvf1SL m o n | blkuvf1SH m o n => exact encodes_blkuvf1 m o n _ (by simp)
  | paddXrm m o n r | pmulXrm m o n r => exact encodes_rounded m o n 0#5 0#5 0#5 r _ (by simp)
  | paddxXrm m o n r | pmulxXrm m o n r => exact encodes_rounded 0#6 0#6 0#6 m o n r _ (by simp)
  | paddshxX m o w n | psubshxX m o w n | pmulshxX m o w n => exact encodes_shuffled (m := 0#6) (o := 0#6) (n := 0#6) (m' := m) (o' := o) (n' := n) h _ (by simp)
  | paddshH m o w n | psubshH m o w n | pmulshH m o w n => exact encodes_shuffled (m := m) (o := o) (n := n) (m' := 0#5) (o' := 0#5) (n' := 0#5) h _ (by simp)
  | faddx m o n r | fsubx m o n r | fmulx m o n r => exact encodes_fpPair m o n r _ (by simp)
  | fadd m b n r | fmul m b n r =>
    cases b with
    | reg o => exact encodes_fpReg m o n r _ (by simp)
    | imm v => exact encodes_fp56 h _ (by simp)
  | fsub m b n r =>
    cases b with
    | reg o => exact encodes_fpReg m o n r _ (by simp)
    | imm v => exact encodes_fsubImm h
  | fadda m b n | fmula m b n =>
    cases b with
    | reg o => exact .f0 rfl (by simp) rfl rfl
    | imm v => exact encodes_fp32 h _ (by simp)
  | fcmpEQ b n | fcmpGT b n =>
    cases b with
    | reg o => exact .f0 rfl (by simp) rfl rfl
    | imm v => exact encodes_fcmpImm h _ (by simp)
  | fcmpGE v n => exact encodes_fcmpImm h _ (by simp)
  | pldcHImm w n | pldcM8SHImm w n | pldcM8UHImm w n => exact encodes_halfVector (w := w) h _ (by simp)
  | fldcfImm w n => exact encodes_fldcfImm w n
  | fldchImm w n => exact encodes_fldchImm h
  | pshufB m w n => exact encodes_pshufB m n w
  | pshufW m w n => exact encodes_pshufW h
  | pshufW33 m w n => exact encodes_pshufW33 h
  | pshufW17 m w n => exact encodes_pshufW17 h
  | pmacshHV m w n | paddHV m w n | pmulHV m w n | paddshHV m w n | pmulshHV m w n => exact encodes_constVector (w := w) h _ (by simp)
  | pmacshFV m w n | paddFV m w n | pmulFV m w n | paddshFV m w n | pmulshFV m w n =>
    exact encodes_constVectorPair w m n _ (by simp)
  | negc n => exact encodes_negc h
  | trapImm w => exact encodes_trapImm w
  | breakOp => exact encodes_breakOp
  | movd | ldiroz | ldirozq | ldiron | ldironq | xmovB | xmovW | xmovL | xmovQ | xmovX | movHLD2 | movLHD2 | pselTW | pselTL
  | pmultxL | pmultW | pconv | pconvx => exact (Bool.false_ne_true h).elim
  | _ => exact .f0 rfl (by simp) rfl rfl

/-- Settles O2: each row of the encoder is one the decoder reads back. -/
theorem encodedInstructionDecodesBack : Obligations.EncodedInstructionDecodesBack :=
  fun _ h => (encodes_encodeCode h).decode_encode

end Sys2Proof

/-! ### One step: the instruction or the bundle at the pc (30_encoding.md R135 to R150, 60_exceptions.md R858, R865) -/

namespace Sys2Proof.Machine

open Sys2Proof

/-! ### A fetch leaves SR and the fault count (20_memory.md R97) -/

/-- SR and the count of faults are what they were. -/
def KeepsStatus (s t : State) : Prop := t.sr = s.sr ∧ t.faults = s.faults

theorem KeepsStatus.trans {s t u : State} (h : KeepsStatus s t) (h' : KeepsStatus t u) : KeepsStatus s u :=
  ⟨h'.1.trans h.1, h'.2.trans h.2⟩
theorem Drew.keepsStatus {s t : State} (h : Drew s t) : KeepsStatus s t := by
  obtain ⟨k, rfl⟩ := h
  exact ⟨rfl, rfl⟩
theorem fetchWords_keepsStatus {base a : VAddr} {k : Nat} {s t : State} {ws : List Half}
    (h : fetchWords base k a s = .ok ws t) : KeepsStatus s t := by
  unfold fetchWords at h
  split at h
  · cases h
  · next pas s1 hr =>
    split at h <;> cases h
    have hevict : KeepsStatus s1 (evictI s1 pas) := ⟨rfl, rfl⟩
    exact ((resolveAll_ok hr).2.keepsStatus.trans hevict).trans (fetchBytes_drew pas _).keepsStatus
theorem fetchMore_keepsStatus {a : VAddr} {ws ws' : List Half} {s t : State} (h : fetchMore ws a s = .ok ws' t) :
    KeepsStatus s t := by
  unfold fetchMore at h
  split at h <;> cases h
  next hf => exact fetchWords_keepsStatus hf
theorem fetchInstr_keepsStatus {a : VAddr} {ws : List Half} {s t : State} (h : fetchInstr a s = .ok ws t) :
    KeepsStatus s t := by
  unfold fetchInstr at h
  split at h
  · cases h
  · next h0 =>
    split at h
    · cases h
    · next h1 => exact ((fetchMore_keepsStatus h0).trans (fetchMore_keepsStatus h1)).trans (fetchMore_keepsStatus h)

/-! ### What stands at an address -/

section Steps

variable {s t : State} {a : VAddr}

theorem findAt_of_decode {ws : List Half} {d : Decoded} (hf : fetchInstr a s = .ok ws t)
    (hd : decode (isXG2 s) ws = .ok d) : findAt a s = .ok { addr := a, d := d } t := by
  simp [findAt, hf, hd, registersExist_true]
/-- Words no row of the table matches raise UndefinedInstruction (30_encoding.md R150). -/
theorem findAt_of_undefined {ws : List Half} (hf : fetchInstr a s = .ok ws t)
    (hd : decode (isXG2 s) ws = .error .undefined) :
    findAt a s = .stop (.next (t.trapped .undefinedInstruction none)) := by
  simp [findAt, hf, hd, raise_eq]

/-- A flagged instruction, with SR.WXE = 1, is followed by the slots behind it (R140). -/
theorem gather_flagged {k : Nat} {x : Slot} (hx : findAt a s = .ok x t) (hw : x.d.wex = true) (he : srWXE s = true) :
    gather (k + 1) a s = (gather k (a + BitVec.ofNat 48 x.d.len) t).cons x := by
  simp [gather, hx, hw, he, Config.features]
/-- An unflagged instruction, or one met with SR.WXE = 0, is the last slot (R140). -/
theorem gather_last {k : Nat} {x : Slot} (hx : findAt a s = .ok x t) (hw : x.d.wex = true → srWXE s = false) :
    gather (k + 1) a s = .all [x] t := by
  cases h : x.d.wex <;> simp_all [gather]
theorem gather_stop {k : Nat} {o : Out State} (h : findAt a s = .stop o) : gather (k + 1) a s = .cut [] s o := by
  simp [gather, h]

/-! ### The end of a step -/

theorem step_eq_execute (hd : deliverable (tick s) = none) (hs : s.sleeping = false) : step s = execute (tick s) := by
  simp [step, advance, hd, hs]

theorem execute_eq_of_all_singleton {x : Slot} (hm : modeKnown s = true) (hp : pcAligned s = true)
    (hg : gather Config.wexWidth s.pc s = .all [x] t) : execute s = settle s (runSlot x (aged t)) := by
  simp [execute, hm, hp, hg]
theorem execute_eq_of_all {l : List Slot} (hm : modeKnown s = true) (hp : pcAligned s = true)
    (hg : gather Config.wexWidth s.pc s = .all l t) (hl : 2 ≤ l.length) :
    execute s = if bundleOk l then settle s (abandonOn (aged t) (runSlots l (aged t))) else .refused .bundleObligation := by
  match l, hl with
  | _ :: _ :: _, _ => simp [execute, hm, hp, hg]
theorem execute_eq_of_cut_refused {l : List Slot} {r : Refusal} (hm : modeKnown s = true) (hp : pcAligned s = true)
    (hg : gather Config.wexWidth s.pc s = .cut l t (.refused r)) : execute s = .refused r := by
  simp [execute, hm, hp, hg]
/-- A fault of the first fetch: no slot before it has run. -/
theorem execute_eq_of_cut_nil {u : State} (hm : modeKnown s = true) (hp : pcAligned s = true)
    (hg : gather Config.wexWidth s.pc s = .cut [] s (.next u)) : execute s = .next u := by
  have hmay : bundleMay 1 [] = true := by decide
  simp [execute, hm, hp, hg, hmay, runSlots, abandonOn, settle, aged]

/-- A completed instruction keeps the count of instructions since LR was written. -/
theorem settle_next {u : State} (h : u.faults = s.faults) : settle s (.next u) = .next u := by
  simp [settle, h]

/-! ### One slot (R135) -/

theorem runSlot_eq_exec {x : Slot} (h : ∀ want, x.d.pred = some want → srT s = want) :
    runSlot x s = exec x.d.instr { s with pc := x.addr, npc := x.addr + BitVec.ofNat 48 x.d.len } := by
  unfold runSlot
  cases hp : x.d.pred with
  | none => rfl
  | some want => exact if_pos (beq_iff_eq.2 (h want hp))
theorem runSlot_eq_skip {x : Slot} {want : Bool} (hp : x.d.pred = some want) (h : srT s ≠ want) :
    runSlot x s =
      .next { s with pc := x.addr + BitVec.ofNat 48 x.d.len, npc := x.addr + BitVec.ofNat 48 x.d.len } := by
  simp only [runSlot, hp]
  exact if_neg fun hb => h (beq_iff_eq.1 hb)

/-- A step at a single instruction. -/
theorem step_eq_runSlot {ws : List Half} {d : Decoded} (hint : deliverable (tick s) = none) (hs : s.sleeping = false)
    (hm : modeKnown s = true) (hp : pcAligned s = true) (hf : fetchInstr s.pc (tick s) = .ok ws t)
    (hd : decode (isXG2 s) ws = .ok d) (hw : d.wex = true → srWXE s = false) :
    step s = settle (tick s) (runSlot { addr := s.pc, d := d } (aged t)) := by
  have hg : gather Config.wexWidth s.pc (tick s) = .all [{ addr := s.pc, d := d }] t :=
    gather_last (findAt_of_decode hf hd) hw
  rw [step_eq_execute hint hs]
  exact execute_eq_of_all_singleton hm hp hg

/-! ### The slots of a bundle (R140) -/

theorem fetchesBundle_singleton {x : Slot} (h : FetchesBundle a s [x] t) : findAt a s = .ok x t ∧ x.d.wex = false := by
  obtain ⟨rfl, ws, s', hf, hd, hw, ht⟩ := h
  cases ht
  exact ⟨findAt_of_decode hf hd, hw⟩
theorem fetchesBundle_cons {x y : Slot} {l : List Slot} (h : FetchesBundle a s (x :: y :: l) t) :
    ∃ u, findAt a s = .ok x u ∧ x.d.wex = true ∧ srWXE u = srWXE s ∧
      FetchesBundle (a + BitVec.ofNat 48 x.d.len) u (y :: l) t := by
  obtain ⟨rfl, ws, u, hf, hd, hw, hl⟩ := h
  exact ⟨u, findAt_of_decode hf hd, hw, congrArg (bitAt · 27) (fetchInstr_keepsStatus hf).1, hl⟩

theorem gather_fetchesBundle {l : List Slot} {k : Nat} (h : FetchesBundle a s l t) (he : srWXE s = true)
    (hk : l.length ≤ k) : gather k a s = .all l t := by
  induction l generalizing a s k with
  | nil => exact h.elim
  | cons x l ih =>
    obtain ⟨k, rfl⟩ := Nat.exists_eq_add_one_of_ne_zero (Nat.ne_zero_of_lt hk)
    cases l with
    | nil =>
      obtain ⟨hx, hw⟩ := fetchesBundle_singleton h
      exact gather_last hx (by simp [hw])
    | cons y l =>
      obtain ⟨u, hx, hw, hu, hl⟩ := fetchesBundle_cons h
      rw [gather_flagged hx hw he, ih hl (hu.trans he) (Nat.le_of_succ_le_succ hk)]
      rfl
/-- A bundle of more slots than are looked for breaks R141. -/
theorem gather_overlong {l : List Slot} {k : Nat} (h : FetchesBundle a s l t) (he : srWXE s = true)
    (hk : k < l.length) : ∃ l' u, gather k a s = .cut l' u (.refused .bundleObligation) := by
  induction l generalizing a s k with
  | nil => exact h.elim
  | cons x l ih =>
    cases k with
    | zero => exact ⟨[], s, rfl⟩
    | succ k =>
      cases l with
      | nil => exact absurd hk (by simp)
      | cons y l =>
        obtain ⟨u, hx, hw, hu, hl⟩ := fetchesBundle_cons h
        obtain ⟨l', v, hg⟩ := ih hl (hu.trans he) (Nat.lt_of_succ_lt_succ hk)
        exact ⟨x :: l', v, by rw [gather_flagged hx hw he, hg]; rfl⟩

/-- A step at a bundle of two or more slots. -/
theorem step_fetchesBundle {l : List Slot} (hint : deliverable (tick s) = none) (hs : s.sleeping = false)
    (hm : modeKnown s = true) (hp : pcAligned s = true) (he : srWXE s = true)
    (h : FetchesBundle s.pc (tick s) l t) (hl : 2 ≤ l.length) :
    (Config.wexWidth < l.length ∨ bundleOk l = false → step s = .refused .bundleObligation) ∧
      (bundleOk l = true → step s = settle (tick s) (abandonOn (aged t) (runSlots l (aged t)))) := by
  have htick : srWXE (tick s) = true := he
  rw [step_eq_execute hint hs]
  by_cases hk : l.length ≤ Config.wexWidth
  · have hg : gather Config.wexWidth (tick s).pc (tick s) = .all l t := gather_fetchesBundle h htick hk
    rw [execute_eq_of_all (s := tick s) hm hp hg hl]
    refine ⟨fun hbad => ?_, fun hok => if_pos hok⟩
    have hno : bundleOk l = false := hbad.resolve_left (Nat.not_lt.2 hk)
    simp [hno]
  · obtain ⟨l', u, hg⟩ := gather_overlong h htick (Nat.lt_of_not_le hk)
    refine ⟨fun _ => execute_eq_of_cut_refused hm hp hg, fun hok => absurd ?_ hk⟩
    simp only [bundleOk, bundleMay, Bool.and_eq_true, decide_eq_true_eq, and_assoc] at hok
    exact hok.1

theorem runSlots_singleton (x : Slot) (s : State) : runSlots [x] s = runSlot x s := rfl
/-- The next slot runs from the state the one before it has left (R140). -/
theorem runSlots_cons {x y : Slot} {l : List Slot} {u : State} (hadc : x.uses.adc = false)
    (hu : runSlot x s = .next u) (hfaults : u.faults = s.faults) : runSlots (x :: y :: l) s = runSlots (y :: l) u := by
  simp [runSlots, hu, hfaults, adcFree, hadc]

end Steps

/-- Settles O3: the one slot gathered at the pc runs, after a fetch that has kept SR.T and the fault count; where no row
matches, the step is the entry raised by the fetch. -/
theorem stepRunsTheDecodedInstruction : Obligations.StepRunsTheDecodedInstruction := by
  refine ⟨fun s s1 ws d hint hs hm hp hf hd hw => ?_, fun s s1 ws hint hs hm hp hf hd => ?_⟩
  · obtain ⟨hsr, hfaults⟩ := fetchInstr_keepsStatus hf
    have hT : srT (aged s1) = srT s := congrArg (bitAt · 0) hsr
    rw [step_eq_runSlot hint hs hm hp hf hd hw]
    refine ⟨fun hwant => ?_, fun want hpred hne => ?_⟩
    · rw [runSlot_eq_exec fun want hpred => hT.trans (hwant want hpred)]
    · rw [runSlot_eq_skip hpred (hT ▸ hne)]
      exact settle_next hfaults
  · rw [step_eq_execute hint hs]
    exact execute_eq_of_cut_nil hm hp (gather_stop (findAt_of_undefined hf hd))

/-! ### What R141 asks -/

theorem bundleOk_iff (l : List Slot) : bundleOk l = true ↔
    l.length ≤ Config.wexWidth ∧ (∀ x ∈ l, x.d.len ≤ 4) ∧ ((l.map Slot.uses).filter fun u => u.mem).length ≤ 1 ∧
      pairwiseB independent (l.map Slot.uses) = true ∧ pairwiseB fpuPair (l.map Slot.uses) = true ∧
      lanesOk l.length 0 (l.map Slot.uses) = true := by
  simp [bundleOk, bundleMay, and_assoc]

theorem Slot.uses_of_unpredicated {x : Slot} (h : x.d.pred = none) : x.uses = Machine.uses x.d.instr := by
  simp [Slot.uses, h]
/-- The head of a bundle stands in the lane whose number is the bundle's length. -/
theorem laneOk_of_bundleOk {x : Slot} {l : List Slot} (h : bundleOk (x :: l) = true) :
    laneOk (l.length + 1) (l.length + 1) x.uses = true := by
  obtain ⟨-, -, -, -, -, hlanes⟩ := (bundleOk_iff _).1 h
  simp only [List.map_cons, lanesOk, Bool.and_eq_true, List.length_map] at hlanes
  exact hlanes.1
/-- What stands in Lane 1 only is not the first of two. -/
theorem bundleOk_pair_of_lane_one {x : Slot} (h : x.uses.lane = .one) (y : Slot) : bundleOk [x, y] = false := by
  refine Bool.eq_false_iff.2 fun hok => ?_
  have hlane := laneOk_of_bundleOk hok
  simp [laneOk, h] at hlane
/-- A shift in Lane 3 needs a core that lets it stand there. -/
theorem lane3Shift_of_bundleOk {x y z : Slot} (h : x.uses.lane = .shift) (hok : bundleOk [x, y, z] = true) :
    Config.lane3Shift = true := by
  have hlane := laneOk_of_bundleOk hok
  simpa [laneOk, h] using hlane
theorem bundleOk_eq_false_of_prefixed {l : List Slot} {x : Slot} (hx : x ∈ l) (h : 4 < x.d.len) : bundleOk l = false := by
  refine Bool.eq_false_iff.2 fun hok => ?_
  obtain ⟨-, hlen, -⟩ := (bundleOk_iff l).1 hok
  exact absurd (hlen x hx) (Nat.not_le.2 h)

theorem Res.clash_reg (m n : Reg) : (Res.reg m).clash (.reg n) = decide (m = n) := by
  rw [Bool.eq_iff_iff]
  simp [Res.clash, Res.holds]
theorem uses_add (m o n : Reg) : uses (.add m (.reg o) n) = useU [.reg m, .reg o] [.reg n] .any := rfl
theorem uses_sub (m o n : Reg) : uses (.sub m o n) = useU [.reg m, .reg o] [.reg n] .any := rfl
/-- Two uses of registers alone are independent where neither writes what the other reads or writes. -/
theorem independent_add_sub (m o n p q r : Reg) :
    independent (uses (.add m (.reg o) n)) (uses (.sub p q r)) = true ↔ n ≠ p ∧ n ≠ q ∧ n ≠ r ∧ r ≠ m ∧ r ≠ o := by
  simp [independent, uses_add, uses_sub, useU, Res.clash_reg, and_assoc, ne_comm (b := r)]

/-- An unpredicated 32-bit instruction at an address. -/
def plainSlot (a : VAddr) (w : Bool) (i : Instr) : Slot := { addr := a, d := { len := 4, pred := none, wex := w, instr := i } }

theorem plainSlot_len (a : VAddr) (w : Bool) (i : Instr) : (plainSlot a w i).d.len = 4 := rfl
theorem plainSlot_uses (a : VAddr) (w : Bool) (i : Instr) : (plainSlot a w i).uses = uses i := Slot.uses_of_unpredicated rfl

theorem bundleOk_add_sub (a b : VAddr) (wx wy : Bool) (m o n p q r : Reg) :
    bundleOk [plainSlot a wx (.add m (.reg o) n), plainSlot b wy (.sub p q r)] = true ↔
      n ≠ p ∧ n ≠ q ∧ n ≠ r ∧ r ≠ m ∧ r ≠ o := by
  rw [← independent_add_sub, bundleOk_iff]
  simp [plainSlot_uses, plainSlot_len, pairwiseB, fpuPair, lanesOk, laneOk, uses_add, uses_sub, useU, Config.wexWidth, Config.features]

/-- Settles O60: the slots gathered at the pc are those fetched, at most the width; R141 is read off `bundleMay`. -/
theorem wexBundleIsOneStep : Obligations.WexBundleIsOneStep := by
  refine ⟨fun s t l hint hs hm hp he h hl => step_fetchesBundle hint hs hm hp he h hl, fun x y l s u hp hadc hu hx => ?_,
    fun x s hp => (runSlots_singleton x s).trans (runSlot_eq_exec (by simp [hp])), ?_⟩
  · exact runSlots_cons hadc ((runSlot_eq_exec (by simp [hp])).trans hx) hu
  · refine fun a b c wx wy wz m o n p q r src t e i j k => ⟨bundleOk_add_sub a b wx wy m o n p q r, fun hi => ?_,
      fun hi => ?_, fun x y hlen => ?_⟩
    · have hlane : (uses i).lane = .one := by
        simp only [List.mem_cons, List.not_mem_nil, or_false] at hi
        rcases hi with rfl | rfl | rfl | rfl | rfl | rfl | rfl | rfl | rfl | rfl | rfl | rfl | rfl | rfl | rfl | rfl | rfl |
          rfl | rfl <;> rfl
      exact bundleOk_pair_of_lane_one ((congrArg Uses.lane (plainSlot_uses a wx i)).trans hlane) _
    · have hlane : (uses i).lane = .shift := by
        simp only [List.mem_cons, List.not_mem_nil, or_false] at hi
        rcases hi with rfl | rfl | rfl | rfl <;> rfl
      exact lane3Shift_of_bundleOk ((congrArg Uses.lane (plainSlot_uses a wx i)).trans hlane)
    · rcases hlen with hlen | hlen
      · exact bundleOk_eq_false_of_prefixed (by simp) hlen
      · exact bundleOk_eq_false_of_prefixed (by simp) hlen

end Sys2Proof.Machine

/-! ### How an instruction of 40_alu.md completes -/

namespace Sys2Proof.Machine

open Sys2Proof

section

variable {i : Instr} {n : Reg} {p : Pair} {ps : List Pair} {s : State}

theorem Gives.of_retire {v : Word} {P : Word → Prop} (hi : exec i s = retire (setReg s n v)) (h : P v) : Gives i n s P :=
  ⟨v, hi, h⟩

theorem loWord_eq_slice (v : Quad) : loWord v = slice v 0 64 := (slice_zero_eq_setWidth v (by decide)).symm
theorem hiWord_eq_slice (v : Quad) : hiWord v = slice v 64 64 := BitVec.setWidth_ushiftRight_eq_extractLsb
theorem retire_setPair (s : State) (p : Pair) (v : Quad) : retire (setPair s p v) = .next (s.wrotePair p v) := by
  rw [setPair, loWord_eq_slice, hiWord_eq_slice]
  rfl
theorem GivesPair.of_retire {v : Quad} {P : Quad → Prop}
    (hi : exec i s = withPairs ps (retire (setPair s p v))) (h : P v) : GivesPair i ps 0 p s P :=
  ⟨fun hps => ⟨v, hi.trans ((withPairs_eq hps).trans (retire_setPair s p v)), h⟩,
    fun hps => hi.trans (withPairs_refused hps)⟩

theorem oneBit_setBit {v : Word} {j : Nat} {b : Bool} : OneBit j b v (setBit v j b) := by
  intro k hk
  rw [getLsbD_setBit]
  simp only [hk, and_true]
theorem GivesT.of_retire {r : Word × Bool} {P : Word → Bool → Prop}
    (hi : exec i s = retire (setT (setReg s n r.1) r.2)) (h : P r.1 r.2) : GivesT i n s P :=
  ⟨r.1, setBit s.sr 0 r.2, r.2, hi, oneBit_setBit, h⟩

end

/-! ### The bits and the number of an extended value (00_scope.md R15) -/

section

variable {k : Nat} (v : Word)

theorem getLsbD_zext {i : Nat} (hi : i < 64) : (zext k v).getLsbD i = (decide (i < k) && v.getLsbD i) := by
  simp [zext, hi]
theorem getLsbD_sext {i : Nat} (hk : 0 < k) (hi : i < 64) :
    (sext k v).getLsbD i = if i < k then v.getLsbD i else v.getLsbD (k - 1) := by
  have hmsb : (v.setWidth k).msb = v.getLsbD (k - 1) := by
    rw [BitVec.msb_eq_getLsbD_last, BitVec.getLsbD_setWidth]
    simp [hk]
  rw [sext, BitVec.getLsbD_signExtend, hmsb]
  by_cases h : i < k <;> simp [h, hi]
theorem toNat_zext (hk : k ≤ 64) : (zext k v).toNat = v.toNat % 2 ^ k := by
  rw [zext, BitVec.toNat_setWidth_of_le hk, BitVec.toNat_setWidth]
theorem toInt_sext (hk : k ≤ 64) : (sext k v).toInt = v.toInt.bmod (2 ^ k) := by
  rw [sext, BitVec.toInt_signExtend_of_le hk, BitVec.toInt_setWidth, BitVec.toInt_eq_toNat_bmod,
    Int.bmod_bmod_of_dvd (Nat.pow_dvd_pow 2 hk)]

end

/-- Settles O22, by the bits of an extended value. -/
theorem extensionsBitByBit : Obligations.ExtensionsBitByBit := by
  intro m n s
  simp only [List.forall_mem_cons, List.not_mem_nil, false_implies, implies_true, and_true]
  exact ⟨⟨.of_retire rfl fun _ => getLsbD_sext _ (by decide), .of_retire rfl fun _ => getLsbD_sext _ (by decide),
      .of_retire rfl fun _ => getLsbD_sext _ (by decide)⟩,
    .of_retire rfl fun _ => getLsbD_zext _, .of_retire rfl fun _ => getLsbD_zext _, .of_retire rfl fun _ => getLsbD_zext _⟩

/-! ### Logic, moves and selects (40_alu.md R210 to R228, R242, R243) -/

theorem getLsbD_bitSelect {w : Nat} (a mask b : BitVec w) (k : Nat) :
    (bitSelect a mask b).getLsbD k = if mask.getLsbD k then a.getLsbD k else b.getLsbD k := by
  by_cases hk : k < w
  · simp only [bitSelect, BitVec.getLsbD_or, BitVec.getLsbD_and, BitVec.getLsbD_not, hk]
    cases mask.getLsbD k <;> simp
  · simp [BitVec.getLsbD_of_ge, Nat.not_lt.1 hk]
theorem toNat_not_add_one_add (v : Word) : ((~~~v + 1#64).toNat + v.toNat) % 2 ^ 64 = 0 := by
  rw [← BitVec.neg_eq_not_add, ← BitVec.toNat_add, BitVec.add_left_neg]
  rfl

/-- Settles O21, each operation by its bits. -/
theorem logicAndMovesBitByBit : Obligations.LogicAndMovesBitByBit := by
  intro m o n src pm po pn s a b c
  refine ⟨.of_retire rfl fun k _ => BitVec.getLsbD_and, .of_retire rfl fun k _ => BitVec.getLsbD_or,
    .of_retire rfl fun k _ => BitVec.getLsbD_xor, .of_retire rfl fun k hk => ?not, .of_retire rfl (toNat_not_add_one_add a),
    .of_retire rfl rfl, .of_retire rfl (toNat_zext a (by decide)), .of_retire rfl rfl, .of_retire rfl rfl,
    .of_retire rfl fun k _ => getLsbD_bitSelect .., .of_retire rfl fun k _ => getLsbD_bitSelect .., fun i hi => ?nop⟩
  case not => simp [hk, a]
  case nop =>
    simp only [List.mem_cons, List.not_mem_nil, or_false] at hi
    rcases hi with rfl | rfl | rfl <;> rfl

/-! ### Sums and differences (40_alu.md R200 to R209) -/

/-- Only the low bits of the numbers added or subtracted count for those of the result. -/
theorem toInt_sext_add {k : Nat} (a b : Word) (hk : k ≤ 64) :
    (sext k (a + b)).toInt = (a.toInt + b.toInt).bmod (2 ^ k) := by
  rw [toInt_sext _ hk, BitVec.toInt_add, Int.bmod_bmod_of_dvd (Nat.pow_dvd_pow 2 hk)]
theorem toInt_sext_sub {k : Nat} (a b : Word) (hk : k ≤ 64) :
    (sext k (a - b)).toInt = (a.toInt - b.toInt).bmod (2 ^ k) := by
  rw [toInt_sext _ hk, BitVec.toInt_sub, Int.bmod_bmod_of_dvd (Nat.pow_dvd_pow 2 hk)]
theorem toNat_zext_add {k : Nat} (a b : Word) (hk : k ≤ 64) : (zext k (a + b)).toNat = (a.toNat + b.toNat) % 2 ^ k := by
  rw [toNat_zext _ hk, BitVec.toNat_add, Nat.mod_mod_of_dvd _ (Nat.pow_dvd_pow 2 hk)]
theorem toNat_zext_sub_add {k : Nat} (a b : Word) (hk : k ≤ 64) :
    ((zext k (a - b)).toNat + b.toNat) % 2 ^ k = a.toNat % 2 ^ k := by
  rw [toNat_zext _ hk, Nat.mod_add_mod, ← Nat.mod_mod_of_dvd _ (Nat.pow_dvd_pow 2 hk), ← BitVec.toNat_add,
    BitVec.sub_add_cancel]
theorem toNat_sub_add (a b : Word) : ((a - b).toNat + b.toNat) % 2 ^ 64 = a.toNat := by
  rw [← BitVec.toNat_add, BitVec.sub_add_cancel]

/-- The 96-bit address in a pair, as a number (41_compare_flags.md R277). -/
theorem toNat_ptr96_getPair (s : State) (p : Pair) :
    (ptr96 (getPair s p)).toNat = (getReg s (pairHi p)).toNat % 2 ^ 48 * 2 ^ 48 + (getReg s (pairLo p)).toNat % 2 ^ 48 := by
  have hhi : hiWord (getPair s p) = getReg s (pairHi p) := by
    rw [hiWord_eq_slice]
    exact BitVec.extractLsb'_append_eq_left
  have hlo : loWord (getPair s p) = getReg s (pairLo p) := by
    rw [loWord_eq_slice]
    exact BitVec.extractLsb'_append_eq_right
  have hlt : (ptr48 (getReg s (pairLo p))).toNat < 2 ^ 48 := BitVec.isLt _
  rw [ptr96, hhi, hlo, BitVec.toNat_append, ← Nat.shiftLeft_add_eq_or_of_lt hlt, Nat.shiftLeft_eq]
  simp only [ptr48, BitVec.toNat_setWidth]
/-- The difference of two 96-bit addresses fits in 128 bits. -/
theorem toInt_setWidth_sub (x y : BitVec 96) :
    (x.setWidth 128 - y.setWidth 128).toInt = (x.toNat : Int) - y.toNat := by
  have hx := x.isLt
  have hy := y.isLt
  rw [BitVec.toInt_sub, BitVec.toInt_setWidth, BitVec.toInt_setWidth, Int.bmod_sub_bmod, Int.sub_bmod_bmod]
  exact Int.bmod_eq_of_le (by omega) (by omega)

/-- Settles O19: each value is the one sum or difference, extended from its width. -/
theorem addAndSubtractResults : Obligations.AddAndSubtractResults := by
  intro m o n src pm po pn s a b c
  refine ⟨.of_retire rfl (BitVec.toNat_add a c), .of_retire rfl (toInt_sext_add a c (by decide)),
    .of_retire rfl (toNat_zext_add a c (by decide)), .of_retire rfl (toNat_sub_add a b),
    .of_retire rfl (toInt_sext_sub a b (by decide)), .of_retire rfl ⟨?_, toNat_zext_sub_add a b (by decide)⟩,
    .of_retire rfl (toInt_sext_sub a b (by decide)), .of_retire rfl ?_⟩
  · rw [toNat_zext _ (by decide)]
    exact Nat.mod_lt _ (by decide)
  · intro at96
    rw [toInt_setWidth_sub, toNat_ptr96_getPair, toNat_ptr96_getPair]
    simp [at96]

end Sys2Proof.Machine

/-! ### Carry and borrow (40_alu.md R201, R207, R217, R254) -/

namespace Sys2Proof.Machine

open Sys2Proof

/-- A sum below twice the modulus is its residue and its carry. -/
theorem mod_add_mul_carry {x q : Nat} (h : x < 2 * q) : x % q + q * (decide (q ≤ x)).toNat = x := by
  by_cases hq : q ≤ x
  · rw [Nat.mod_eq_sub_mod hq, Nat.mod_eq_of_lt (by omega)]
    simp [hq]
  · simp [hq, Nat.mod_eq_of_lt (Nat.not_le.1 hq)]
/-- The difference of two residues with a borrow, formed by adding the complement. -/
theorem mod_add_eq_add_mul_borrow {x y q : Nat} (t : Bool) (hx : x < q) (hy : y < q) :
    (x + (q - 1 - y) + (!t).toNat) % q + y + t.toNat = x + q * (decide (x + (q - 1 - y) + (!t).toNat < q)).toNat := by
  have ht : (!t).toNat = 1 - t.toNat := by cases t <;> rfl
  have ht' := t.toNat_le
  have hcarry := mod_add_mul_carry (x := x + (q - 1 - y) + (!t).toNat) (q := q) (by omega)
  by_cases hb : x + (q - 1 - y) + (!t).toNat < q
  · simp only [hb, Nat.not_le.2 hb, decide_true, decide_false, Bool.toNat_true, Bool.toNat_false] at hcarry ⊢
    omega
  · simp only [hb, Nat.not_lt.1 hb, decide_true, decide_false, Bool.toNat_true, Bool.toNat_false] at hcarry ⊢
    omega

theorem addCarry_value (a b : Word) (c : Bool) :
    (addCarry a b c).1.toNat + 2 ^ 64 * (addCarry a b c).2.toNat = a.toNat + b.toNat + c.toNat := by
  have ha := a.isLt
  have hb := b.isLt
  have hc := c.toNat_le
  rw [addCarry, BitVec.toNat_ofNat]
  exact mod_add_mul_carry (by omega)
theorem subBorrow_value (a b : Word) (t : Bool) :
    (subBorrow a b t).1.toNat + b.toNat + t.toNat = a.toNat + 2 ^ 64 * (subBorrow a b t).2.toNat := by
  rw [subBorrow, BitVec.toNat_ofNat]
  exact mod_add_eq_add_mul_borrow t a.isLt b.isLt

theorem low32_sext (v : Word) : low32 (sext 32 v) = v.setWidth 32 := by
  apply BitVec.eq_of_getLsbD_eq
  intro i hi
  rw [low32, BitVec.getLsbD_setWidth, BitVec.getLsbD_setWidth, getLsbD_sext v (by decide) (by omega), if_pos hi]
theorem toInt_sext_eq_low32 (v : Word) : (sext 32 v).toInt = (low32 (sext 32 v)).toInt := by
  rw [low32_sext, sext, BitVec.toInt_signExtend_of_le (by decide)]
theorem toNat_low32_sext_ofNat (x : Nat) : (low32 (sext 32 (BitVec.ofNat 64 x))).toNat = x % 2 ^ 32 := by
  rw [low32_sext, BitVec.toNat_setWidth, BitVec.toNat_ofNat, Nat.mod_mod_of_dvd _ (by decide)]
theorem addCarry32_value (a b : Word) (c : Bool) :
    (low32 (addCarry32 a b c).1).toNat + 2 ^ 32 * (addCarry32 a b c).2.toNat =
      a.toNat % 2 ^ 32 + b.toNat % 2 ^ 32 + c.toNat := by
  have hc := c.toNat_le
  rw [addCarry32, toNat_low32_sext_ofNat]
  simp only [BitVec.toNat_setWidth]
  exact mod_add_mul_carry (by omega)
theorem subBorrow32_value (a b : Word) (t : Bool) :
    (low32 (subBorrow32 a b t).1).toNat + b.toNat % 2 ^ 32 + t.toNat =
      a.toNat % 2 ^ 32 + 2 ^ 32 * (subBorrow32 a b t).2.toNat := by
  rw [subBorrow32, toNat_low32_sext_ofNat]
  simp only [BitVec.toNat_setWidth]
  exact mod_add_eq_add_mul_borrow t (Nat.mod_lt _ (by decide)) (Nat.mod_lt _ (by decide))

/-! ### Decimal digits (40_alu.md R237, R238) -/

/-- The number k digits stand for, the digits of a function from i up, the lowest first. -/
def digitsFrom (d : Nat → Nat) (i : Nat) : Nat → Nat
  | 0 => 0
  | k + 1 => d i + 10 * digitsFrom d (i + 1) k
theorem decimal_eq_digitsFrom (v : Word) : decimal v = digitsFrom (bcdDigit v) 0 16 := rfl
theorem digitsFrom_succ_start (d : Nat → Nat) (i k : Nat) :
    digitsFrom d (i + 1) k = digitsFrom (fun j => d (j + 1)) i k := by
  induction k generalizing i with
  | zero => rfl
  | succ k ih => simp only [digitsFrom, ih]
/-- A number and its nines' complement add up to nines. -/
theorem digitsFrom_nines {d : Nat → Nat} (hd : ∀ j, d j ≤ 9) (i k : Nat) :
    digitsFrom (fun j => 9 - d j) i k + digitsFrom d i k + 1 = 10 ^ k := by
  induction k generalizing i with
  | zero => rfl
  | succ k ih =>
    have hrest := ih (i + 1)
    have hi := hd i
    simp only [digitsFrom, Nat.pow_succ]
    omega

/-- The hexadecimal digits of a number, the lowest first. -/
def hexDigit (x i : Nat) : Nat := x / 16 ^ i % 16
theorem hexDigit_cons_zero {e : Nat} (x : Nat) (he : e ≤ 9) : hexDigit (e + 16 * x) 0 = e := by
  simp only [hexDigit]
  omega
theorem hexDigit_cons_succ {e : Nat} (x i : Nat) (he : e ≤ 9) : hexDigit (e + 16 * x) (i + 1) = hexDigit x i := by
  have hdiv : (e + 16 * x) / 16 = x := by omega
  rw [hexDigit, Nat.pow_succ', ← Nat.div_div_eq_div_mul, hdiv, hexDigit]
theorem bcdDigit_eq_hexDigit (v : Word) (i : Nat) : bcdDigit v i = hexDigit v.toNat i := by
  rw [bcdDigit, BitVec.extractLsb'_toNat, Nat.shiftRight_eq_div_pow, Nat.pow_mul, hexDigit]

theorem bcdValid_iff (v : Word) : bcdValid v = true ↔ ∀ i, bcdDigit v i ≤ 9 := by
  have habove (i : Nat) (hi : 16 ≤ i) : bcdDigit v i = 0 := by
    have hlt : v.toNat < 16 ^ i := Nat.lt_of_lt_of_le v.isLt (Nat.pow_le_pow_right (n := 16) (by decide) hi)
    rw [bcdDigit_eq_hexDigit, hexDigit, Nat.div_eq_of_lt hlt]
  simp only [bcdValid, List.all_eq_true, List.mem_range, decide_eq_true_eq]
  refine ⟨fun h i => ?_, fun h i _ => h i⟩
  by_cases hi : i < 16
  · exact h i hi
  · simp [habove i (Nat.not_lt.1 hi)]

/-- A BCD number of k digits and a carry, which together stand for a total. -/
structure BcdResult (r : Nat × Nat) (k total : Nat) : Prop where
  lt : r.1 < 16 ^ k
  digit : ∀ j, hexDigit r.1 j ≤ 9
  carry : r.2 ≤ 1
  value : digitsFrom (hexDigit r.1) 0 k + 10 ^ k * r.2 = total

/-- One more digit below. -/
theorem BcdResult.cons {r : Nat × Nat} {k total e : Nat} (h : BcdResult r k total) (he : e ≤ 9) :
    BcdResult (e + 16 * r.1, r.2) (k + 1) (e + 10 * total) where
  lt := by
    have hlt := h.lt
    rw [Nat.pow_succ]
    omega
  digit
    | 0 => (hexDigit_cons_zero r.1 he).symm ▸ he
    | j + 1 => (hexDigit_cons_succ r.1 j he).symm ▸ h.digit j
  carry := h.carry
  value := by
    have hrest : (fun j => hexDigit (e + 16 * r.1) (j + 1)) = hexDigit r.1 := funext fun j => hexDigit_cons_succ r.1 j he
    rw [digitsFrom, hexDigit_cons_zero r.1 he, digitsFrom_succ_start, hrest, ← h.value, Nat.pow_succ]
    ring
/-- The digit loop adds two numbers of decimal digits. -/
theorem bcdLoop_result {a b : Nat → Nat} (ha : ∀ j, a j ≤ 9) (hb : ∀ j, b j ≤ 9) (i k : Nat) {c : Nat} (hc : c ≤ 1) :
    BcdResult (bcdLoop a b i c k) k (digitsFrom a i k + digitsFrom b i k + c) := by
  induction k generalizing i c with
  | zero => exact ⟨by simp [bcdLoop], by simp [bcdLoop, hexDigit], hc, by simp [bcdLoop, digitsFrom]⟩
  | succ k ih =>
    have hai := ha i
    have hbi := hb i
    by_cases hs : 9 < a i + b i + c
    · have hrest := (ih (i + 1) (c := 1) (by decide)).cons (e := (a i + b i + c + 6) % 16) (by omega)
      simp only [bcdLoop, hs, if_true, digitsFrom]
      convert hrest using 1
      omega
    · have hrest := (ih (i + 1) (c := 0) (by decide)).cons (e := (a i + b i + c) % 16) (by omega)
      simp only [bcdLoop, hs, if_false, digitsFrom]
      convert hrest using 1
      omega

section

variable {r : Nat × Nat} {total : Nat}

theorem BcdResult.bcdDigit_ofNat (h : BcdResult r 16 total) : bcdDigit (BitVec.ofNat 64 r.1) = hexDigit r.1 := by
  have hlt : r.1 < 2 ^ 64 := h.lt
  funext i
  rw [bcdDigit_eq_hexDigit, BitVec.toNat_ofNat, Nat.mod_eq_of_lt hlt]
theorem BcdResult.bcdValid_ofNat (h : BcdResult r 16 total) : bcdValid (BitVec.ofNat 64 r.1) = true :=
  (bcdValid_iff _).2 fun i => h.bcdDigit_ofNat ▸ h.digit i
theorem BcdResult.decimal_ofNat (h : BcdResult r 16 total) :
    decimal (BitVec.ofNat 64 r.1) + 10 ^ 16 * r.2 = total := by
  rw [decimal_eq_digitsFrom, h.bcdDigit_ofNat]
  exact h.value

end

theorem toNat_beq_one {c : Nat} (h : c ≤ 1) : (c == 1).toNat = c := by
  rcases Nat.le_one_iff_eq_zero_or_eq_one.1 h with rfl | rfl <;> rfl
theorem toNat_beq_zero {c : Nat} (h : c ≤ 1) : (c == 0).toNat = 1 - c := by
  rcases Nat.le_one_iff_eq_zero_or_eq_one.1 h with rfl | rfl <;> rfl

theorem bcdAdd_value {a b : Word} (ha : bcdValid a = true) (hb : bcdValid b = true) (t : Bool) :
    bcdValid (bcdAdd a b t).1 = true ∧
      decimal (bcdAdd a b t).1 + 10 ^ 16 * (bcdAdd a b t).2.toNat = decimal a + decimal b + t.toNat := by
  have h := bcdLoop_result ((bcdValid_iff a).1 ha) ((bcdValid_iff b).1 hb) 0 16 t.toNat_le
  simp only [bcdAdd]
  generalize bcdLoop (bcdDigit a) (bcdDigit b) 0 t.toNat 16 = r at h
  rw [toNat_beq_one h.carry]
  exact ⟨h.bcdValid_ofNat, h.decimal_ofNat⟩
theorem bcdSub_value {a b : Word} (ha : bcdValid a = true) (hb : bcdValid b = true) (t : Bool) :
    bcdValid (bcdSub a b t).1 = true ∧
      decimal (bcdSub a b t).1 + decimal b + t.toNat = decimal a + 10 ^ 16 * (bcdSub a b t).2.toNat := by
  have h := bcdLoop_result ((bcdValid_iff a).1 ha) (b := fun i => 9 - bcdDigit b i) (fun _ => Nat.sub_le _ _) 0 16
    (!t).toNat_le
  have hnines := digitsFrom_nines ((bcdValid_iff b).1 hb) 0 16
  have ht : (!t).toNat + t.toNat = 1 := by cases t <;> rfl
  simp only [bcdSub]
  generalize bcdLoop (bcdDigit a) (fun i => 9 - bcdDigit b i) 0 (!t).toNat 16 = r at h
  have hcarry := h.carry
  have hvalue := h.decimal_ofNat
  rw [toNat_beq_zero hcarry, decimal_eq_digitsFrom a, decimal_eq_digitsFrom b]
  exact ⟨h.bcdValid_ofNat, by omega⟩

theorem bcdOp_of_valid {f : Word → Word → Bool → Word × Bool} {m n : Reg} {s : State}
    (h : bcdValid (getReg s m) = true ∧ bcdValid (getReg s n) = true) : bcdOp f m n s = aluT f m n s := by
  simp only [bcdOp, h.1, h.2, Bool.and_self, if_true]
theorem bcdOp_of_invalid {f : Word → Word → Bool → Word × Bool} {m n : Reg} {s : State}
    (h : ¬ (bcdValid (getReg s m) = true ∧ bcdValid (getReg s n) = true)) :
    bcdOp f m n s = retire (setT (setReg (drawn2 s) n (freeWord s)) (freeBit (drawn s))) :=
  if_neg fun hv => h (Bool.and_eq_true_iff.1 hv)

/-- Settles O20, by the value of each sum or difference with its carry or borrow. -/
theorem carriesBinaryAndDecimal : Obligations.CarriesBinaryAndDecimal := by
  refine ⟨fun m n s => ?binary, fun m n s => ?decimal⟩
  case binary =>
    refine ⟨.of_retire rfl (addCarry_value ..), .of_retire rfl (subBorrow_value ..), .of_retire rfl ?_,
      .of_retire rfl ⟨toInt_sext_eq_low32 _, addCarry32_value ..⟩,
      .of_retire rfl ⟨toInt_sext_eq_low32 _, subBorrow32_value ..⟩⟩
    exact (subBorrow_value 0#64 _ _).trans (Nat.zero_add _)
  case decimal =>
    refine ⟨fun h => ⟨.of_retire (bcdOp_of_valid h) (bcdAdd_value h.2 h.1 _),
      .of_retire (bcdOp_of_valid h) (bcdSub_value h.2 h.1 _)⟩, fun h i hi => ?_⟩
    have hfree : exec i s = retire (setT (setReg (drawn2 s) n (freeWord s)) (freeBit (drawn s))) := by
      simp only [List.mem_cons, List.not_mem_nil, or_false] at hi
      rcases hi with rfl | rfl <;> exact bcdOp_of_invalid h
    exact ⟨_, hfree, oneBit_setBit⟩

end Sys2Proof.Machine

/-! ### Counts, reversals, Morton order (40_alu.md R213, R214, R229 to R236, R240, R241) -/

namespace Sys2Proof.Machine

open Sys2Proof

section

variable {w : Nat} {v : BitVec w}

theorem highestBit_eq_none {k : Nat} (h : highestBit v k = none) : ∀ j, j < k → v.getLsbD j = false := by
  induction k with
  | zero => simp
  | succ k ih =>
    unfold highestBit at h
    split at h
    · cases h
    · next hk =>
      intro j hj
      rcases Nat.lt_succ_iff_lt_or_eq.1 hj with hj | rfl
      · exact ih h j hj
      · simpa using hk
theorem highestBit_eq_some {k i : Nat} (h : highestBit v k = some i) :
    i < k ∧ v.getLsbD i = true ∧ ∀ j, i < j → j < k → v.getLsbD j = false := by
  induction k with
  | zero => cases h
  | succ k ih =>
    unfold highestBit at h
    split at h
    · next hk =>
      cases h
      exact ⟨Nat.lt_succ_self _, hk, fun j hj hjk => absurd hjk (by omega)⟩
    · next hk =>
      obtain ⟨hi, hbit, habove⟩ := ih h
      refine ⟨Nat.lt_succ_of_lt hi, hbit, fun j hj hjk => ?_⟩
      rcases Nat.lt_succ_iff_lt_or_eq.1 hjk with hjk | rfl
      · exact habove j hj hjk
      · simpa using hk
theorem lowestBit_eq_none {k i : Nat} (h : lowestBit v i k = none) : ∀ j, j < k → v.getLsbD (i + j) = false := by
  induction k generalizing i with
  | zero => simp
  | succ k ih =>
    unfold lowestBit at h
    split at h
    · cases h
    · next hi =>
      intro j hj
      cases j with
      | zero => simpa using hi
      | succ j =>
        have hrest := ih h j (by omega)
        rwa [Nat.add_right_comm] at hrest
theorem lowestBit_eq_some {k i l : Nat} (h : lowestBit v i k = some l) :
    l < i + k ∧ v.getLsbD l = true ∧ ∀ j, i ≤ j → j < l → v.getLsbD j = false := by
  induction k generalizing i with
  | zero => cases h
  | succ k ih =>
    unfold lowestBit at h
    split at h
    · next hi =>
      cases h
      exact ⟨by omega, hi, fun j hj hjl => absurd hjl (by omega)⟩
    · next hi =>
      obtain ⟨hl, hbit, hbelow⟩ := ih h
      refine ⟨by omega, hbit, fun j hj hjl => ?_⟩
      rcases Nat.eq_or_lt_of_le hj with rfl | hj
      · simpa using hi
      · exact hbelow j hj hjl

end

/-- The count is of the zeros above the highest set bit. -/
theorem leadingZeros_spec (w : Nat) (v : Word) (hw : w ≤ 64) :
    (leadingZeros w v).toNat ≤ w ∧ (∀ k, k < (leadingZeros w v).toNat → v.getLsbD (w - 1 - k) = false) ∧
      ((leadingZeros w v).toNat < w → v.getLsbD (w - 1 - (leadingZeros w v).toNat) = true) := by
  unfold leadingZeros
  split
  · next h =>
    have hzero := highestBit_eq_none h
    rw [BitVec.toNat_ofNat, Nat.mod_eq_of_lt (by omega)]
    exact ⟨Nat.le_refl w, fun k hk => hzero _ (by omega), fun hlt => absurd hlt (Nat.lt_irrefl w)⟩
  · next i h =>
    obtain ⟨hi, hbit, habove⟩ := highestBit_eq_some h
    have hback : w - 1 - (w - 1 - i) = i := by omega
    rw [BitVec.toNat_ofNat, Nat.mod_eq_of_lt (by omega), hback]
    exact ⟨by omega, fun k hk => habove _ (by omega) (by omega), fun _ => hbit⟩
/-- The count is of the zeros below the lowest set bit. -/
theorem trailingZeros_spec (w : Nat) (v : Word) (hw : w ≤ 64) :
    (trailingZeros w v).toNat ≤ w ∧ (∀ k, k < (trailingZeros w v).toNat → v.getLsbD k = false) ∧
      ((trailingZeros w v).toNat < w → v.getLsbD (trailingZeros w v).toNat = true) := by
  unfold trailingZeros
  split
  · next h =>
    have hzero := lowestBit_eq_none h
    rw [BitVec.toNat_ofNat, Nat.mod_eq_of_lt (by omega)]
    exact ⟨Nat.le_refl w, fun k hk => k.zero_add ▸ hzero k hk, fun hlt => absurd hlt (Nat.lt_irrefl w)⟩
  · next i h =>
    obtain ⟨hi, hbit, hbelow⟩ := lowestBit_eq_some h
    rw [BitVec.toNat_ofNat, Nat.mod_eq_of_lt (by omega)]
    exact ⟨by omega, fun k hk => hbelow k (Nat.zero_le k) hk, fun _ => hbit⟩

/-- Fields of c bits shifted in one after another: the last one stands lowest. -/
theorem getLsbD_foldl_shiftLeft_or {w c : Nat} (hc : 0 < c) (f : Nat → BitVec w)
    (hf : ∀ i k, c ≤ k → (f i).getLsbD k = false) (j : Nat) {k : Nat} (hk : k < w) :
    ((List.range j).foldl (fun (acc : BitVec w) i => acc <<< c ||| f i) 0#w).getLsbD k =
      (decide (k / c < j) && (f (j - 1 - k / c)).getLsbD (k % c)) := by
  induction j generalizing k with
  | zero => simp
  | succ j ih =>
    rw [List.range_succ, List.foldl_append, List.foldl_cons, List.foldl_nil, BitVec.getLsbD_or, BitVec.getLsbD_shiftLeft]
    by_cases hkc : k < c
    · simp [hkc, Nat.div_eq_of_lt hkc, Nat.mod_eq_of_lt hkc]
    · obtain ⟨l, rfl⟩ := Nat.exists_eq_add_of_le' (Nat.not_lt.1 hkc)
      have hlt : decide (l / c < j) = decide (l / c + 1 < j + 1) := decide_eq_decide.2 (by omega)
      have hidx : j - 1 - l / c = j + 1 - 1 - (l / c + 1) := by omega
      rw [hf j _ (Nat.not_lt.1 hkc), Nat.add_sub_cancel, ih (by omega), Nat.add_div_right l hc, Nat.add_mod_right, hidx, hlt]
      simp [hkc, hk]

/-- Bit k goes to the opposite end (R235, R236). -/
theorem getLsbD_reverseBits {w : Nat} (v : BitVec w) {k : Nat} (hk : k < w) :
    (reverseBits v).getLsbD k = v.getLsbD (w - 1 - k) := by
  have hf (i j : Nat) (hj : 1 ≤ j) : ((BitVec.ofBool (v.getLsbD i)).setWidth w).getLsbD j = false := by
    rw [BitVec.getLsbD_setWidth, BitVec.getLsbD_of_ge _ j hj, Bool.and_false]
  have h0 : 0 < w := by omega
  rw [reverseBits, getLsbD_foldl_shiftLeft_or Nat.one_pos _ hf w hk]
  simp [hk, Nat.mod_one, h0]
/-- Byte k goes to the opposite end of the n bytes, with zeros above them (R213, R214). -/
theorem lane8_reverseBytes (n : Nat) (v : Word) {k : Nat} (hk : k < 8) :
    lane8 (reverseBytes n v) k = if k < n then lane8 v (n - 1 - k) else 0#8 := by
  have hf (i j : Nat) (hj : 8 ≤ j) : (zext 8 (v >>> (8 * i))).getLsbD j = false := by
    by_cases hj' : j < 64
    · simp [getLsbD_zext _ hj', Nat.not_lt.2 hj]
    · exact BitVec.getLsbD_of_ge _ j (Nat.not_lt.1 hj')
  apply BitVec.eq_of_getLsbD_eq
  intro j hj
  have hdiv : (8 * k + j) / 8 = k := by omega
  have hmod : (8 * k + j) % 8 = j := by omega
  rw [lane8, BitVec.getLsbD_extractLsb', reverseBytes,
    getLsbD_foldl_shiftLeft_or (by decide) _ hf n (by omega : 8 * k + j < 64), hdiv, hmod, getLsbD_zext _ (by omega)]
  by_cases hkn : k < n <;> simp [hkn, hj, lane8]

theorem getLsbD_boolWord (b : Bool) (k : Nat) : (boolWord b).getLsbD k = (decide (k = 0) && b) := by
  cases b <;> simp [boolWord]
/-- Two bits side by side. -/
theorem getLsbD_boolWord_or (a b : Bool) (k : Nat) : (boolWord b ||| boolWord a <<< 1).getLsbD k =
    (decide (k = 0) && b || decide (k = 1) && a) := by
  have hone : k < 64 ∧ ¬ k < 1 ∧ k - 1 = 0 ↔ k = 1 := by omega
  simp only [BitVec.getLsbD_or, BitVec.getLsbD_shiftLeft, getLsbD_boolWord, ← hone]
  simp [Bool.and_assoc]
/-- The bits of u and v alternate, those of v at the even places (R240). -/
theorem getLsbD_morton (u v : BitVec 32) {k : Nat} (hk : k < 32) :
    (morton u v).getLsbD (2 * k + 1) = u.getLsbD k ∧ (morton u v).getLsbD (2 * k) = v.getLsbD k := by
  have hf (i j : Nat) (hj : 2 ≤ j) :
      (boolWord (bitAt v (31 - i)) ||| boolWord (bitAt u (31 - i)) <<< 1).getLsbD j = false := by
    have h0 : j ≠ 0 := by omega
    have h1 : j ≠ 1 := by omega
    rw [getLsbD_boolWord_or]
    simp [h0, h1]
  have hbit (j : Nat) (hj : j < 64) : (morton u v).getLsbD j = (decide (j / 2 < 32) &&
      (boolWord (bitAt v (31 - (31 - j / 2))) ||| boolWord (bitAt u (31 - (31 - j / 2))) <<< 1).getLsbD (j % 2)) := by
    simp only [morton, BitVec.or_assoc]
    exact getLsbD_foldl_shiftLeft_or (by decide)
      (fun i => boolWord (bitAt v (31 - i)) ||| boolWord (bitAt u (31 - i)) <<< 1) hf 32 hj
  have hdiv : (2 * k + 1) / 2 = k := by omega
  have hmod : (2 * k + 1) % 2 = 1 := by omega
  have hback : 31 - (31 - k) = k := by omega
  constructor
  · rw [hbit _ (by omega), hdiv, hmod, hback, getLsbD_boolWord_or]
    simp [hk, bitAt]
  · rw [hbit _ (by omega), Nat.mul_div_cancel_left k (by decide), Nat.mul_mod_right, hback, getLsbD_boolWord_or]
    simp [hk, bitAt]
theorem getLsbD_mortonOf (v : Word) {k : Nat} (hk : k < 32) :
    (mortonOf v).getLsbD (2 * k + 1) = v.getLsbD (if Config.pmortUIsHigh then 32 + k else k) ∧
      (mortonOf v).getLsbD (2 * k) = v.getLsbD (if Config.pmortUIsHigh then k else 32 + k) := by
  have hlow : (lane32 v 0).getLsbD k = v.getLsbD k := by simp [lane32, hk]
  have hhigh : (lane32 v 1).getLsbD k = v.getLsbD (32 + k) := by simp [lane32, hk]
  cases h : Config.pmortUIsHigh <;> simp [mortonOf, h, getLsbD_morton _ _ hk, hlow, hhigh]

theorem spec_of_eq_min {a b v : Word} (h : v = if a.toInt ≤ b.toInt then a else b) :
    (v = a ∨ v = b) ∧ v.toInt ≤ a.toInt ∧ v.toInt ≤ b.toInt := by
  split at h <;> subst h
  · exact ⟨.inl rfl, Int.le_refl _, ‹_›⟩
  · exact ⟨.inr rfl, by omega, Int.le_refl _⟩
theorem spec_of_eq_max {a b v : Word} (h : v = if b.toInt ≤ a.toInt then a else b) :
    (v = a ∨ v = b) ∧ a.toInt ≤ v.toInt ∧ b.toInt ≤ v.toInt := by
  split at h <;> subst h
  · exact ⟨.inl rfl, Int.le_refl _, ‹_›⟩
  · exact ⟨.inr rfl, by omega, Int.le_refl _⟩

/-- Settles O23, by what each count and each reversal is. -/
theorem countsReversalsMinimum : Obligations.CountsReversalsMinimum := by
  intro m o n s a b
  simp only [List.forall_mem_cons, List.not_mem_nil, false_implies, implies_true, and_true]
  refine ⟨.of_retire rfl (spec_of_eq_min rfl), .of_retire rfl (spec_of_eq_max rfl),
    ⟨.of_retire rfl (leadingZeros_spec 32 a (by decide)), .of_retire rfl (leadingZeros_spec 64 a (by decide))⟩,
    ⟨.of_retire rfl (trailingZeros_spec 32 a (by decide)), .of_retire rfl (trailingZeros_spec 64 a (by decide))⟩,
    .of_retire rfl fun k hk => ?btrns, .of_retire rfl fun k hk => getLsbD_reverseBits a hk,
    .of_retire rfl fun k hk => lane8_reverseBytes 4 a hk, .of_retire rfl fun k hk => ?bswapQ,
    mortonOf a, fun k hk => getLsbD_mortonOf a hk, .of_retire rfl rfl, .of_retire rfl ?pmortL⟩
  case btrns =>
    rw [BitVec.getLsbD_setWidth]
    by_cases hk32 : k < 32
    · rw [getLsbD_reverseBits (low32 a) hk32, low32, BitVec.getLsbD_setWidth]
      have hlow : 31 - k < 32 := by omega
      simp [hk, hk32, hlow]
    · simp [hk32, BitVec.getLsbD_of_ge _ k (Nat.not_lt.1 hk32)]
  case bswapQ => rw [lane8_reverseBytes 8 a hk, if_pos hk]
  case pmortL => rw [BitVec.toNat_ushiftRight, Nat.shiftRight_eq_div_pow]

end Sys2Proof.Machine

/-! ### BITNN (40_alu.md R239) -/

namespace Sys2Proof.Machine

open Sys2Proof

/-- An input of two bits is a sign and a digit. -/
theorem nnInput_eq (two : Bool) (v : Word) (i : Nat) : nnInput two v i =
    if two then (if v.getLsbD (2 * i) then (if v.getLsbD (2 * i + 1) then -1 else 1) else 0)
    else if v.getLsbD i then 1 else -1 := by
  have hbits (x : BitVec 2) : (match x with | 1#2 => (1 : Int) | 3#2 => -1 | _ => 0) =
      if x.getLsbD 0 then (if x.getLsbD 1 then -1 else 1) else 0 := by revert x; decide
  have h0 : (v.extractLsb' (2 * i) 2).getLsbD 0 = v.getLsbD (2 * i) := by simp
  have h1 : (v.extractLsb' (2 * i) 2).getLsbD 1 = v.getLsbD (2 * i + 1) := by simp
  rw [← h0, ← h1, ← hbits]
  rfl
/-- A weight is a sign and one of 0, 1, 3, 7. -/
theorem nnWeight_slice (c : Word) (i : Nat) : nnWeight (slice c (3 * i) 3) =
    (if c.getLsbD (3 * i + 2) then -1 else 1) *
      (match c.getLsbD (3 * i + 1), c.getLsbD (3 * i) with
        | false, false => 0 | false, true => 1 | true, false => 3 | true, true => 7) := by
  have hbits (x : BitVec 3) : nnWeight x = (if x.getLsbD 2 then -1 else 1) *
      (match x.getLsbD 1, x.getLsbD 0 with
        | false, false => 0 | false, true => 1 | true, false => 3 | true, true => 7) := by revert x; decide
  have h0 : (slice c (3 * i) 3).getLsbD 0 = c.getLsbD (3 * i) := by simp [slice]
  have h1 : (slice c (3 * i) 3).getLsbD 1 = c.getLsbD (3 * i + 1) := by simp [slice]
  have h2 : (slice c (3 * i) 3).getLsbD 2 = c.getLsbD (3 * i + 2) := by simp [slice]
  rw [hbits, h0, h1, h2]

theorem foldl_add_eq_sum_map (f : Nat → Int) (l : List Nat) (x : Int) :
    l.foldl (fun acc i => acc + f i) x = (l.map f).sum + x := by
  induction l generalizing x with
  | nil => simp
  | cons i l ih =>
    rw [List.foldl_cons, ih, List.map_cons, List.sum_cons]
    omega
theorem nnSum_eq (two : Bool) (v c : Word) : nnSum two v c =
    ((List.range 16).map fun i => nnInput two v i * nnWeight (slice c (3 * i) 3)).sum + (slice c 48 8).toInt :=
  foldl_add_eq_sum_map _ _ _

/-- Each term lies between -7 and 7. -/
theorem nnTerm_bounds (two : Bool) (v : Word) (i : Nat) (w : BitVec 3) :
    -7 ≤ nnInput two v i * nnWeight w ∧ nnInput two v i * nnWeight w ≤ 7 := by
  have hw : -7 ≤ nnWeight w ∧ nnWeight w ≤ 7 := by revert w; decide
  have hi : nnInput two v i = -1 ∨ nnInput two v i = 0 ∨ nnInput two v i = 1 := by
    rw [nnInput_eq]
    split_ifs <;> simp
  obtain ⟨hlo, hhi⟩ := hw
  rcases hi with hi | hi | hi <;> rw [hi] <;> omega
theorem sum_map_range_bounds {f : Nat → Int} {b : Int} (h : ∀ i, -b ≤ f i ∧ f i ≤ b) (k : Nat) :
    -(k * b) ≤ ((List.range k).map f).sum ∧ ((List.range k).map f).sum ≤ k * b := by
  induction k with
  | zero => simp
  | succ k ih =>
    obtain ⟨hlo, hhi⟩ := ih
    obtain ⟨hflo, hfhi⟩ := h k
    have hmul : ((k + 1 : Nat) : Int) * b = k * b + b := by push_cast; ring
    rw [List.range_succ, List.map_append, List.sum_append, List.map_singleton, List.sum_singleton, hmul]
    omega
/-- 16 terms and a bias of 8 bits. -/
theorem nnSum_bounds (two : Bool) (v c : Word) : -240 ≤ nnSum two v c ∧ nnSum two v c ≤ 239 := by
  have hbias : -128 ≤ (slice c 48 8).toInt ∧ (slice c 48 8).toInt ≤ 127 :=
    ⟨BitVec.le_toInt _, Int.le_of_lt_add_one BitVec.toInt_lt⟩
  obtain ⟨hlo, hhi⟩ := sum_map_range_bounds (fun i => nnTerm_bounds two v i (slice c (3 * i) 3)) 16
  rw [nnSum_eq]
  omega

theorem nnShift_eq (two : Bool) (r : Word) (res : Int) :
    if two then nnShift two r res = r <<< 2 ||| (if res < 0 then 3#64 else 1#64)
    else nnShift two r res = r <<< 1 ||| (if res < 0 then 0#64 else 1#64) := by
  cases two
  · by_cases h : res < 0
    · simp [nnShift, h, Int.not_le.2 h]
    · simp [nnShift, h, Int.not_lt.1 h]
  · rfl

section

variable {m o n : Reg} {s : State} {sum : Int}

theorem exec_bitnn_of_reserved (h : slice (getReg s o) 59 5 ≠ 0#5) : exec (.bitnn m o n) s = .refused .bitnnReserved :=
  if_pos (bne_iff_ne.2 h)
/-- The sum enters where the range flag is set or the sum fits in 8 bits. -/
theorem exec_bitnn_of_fits (h : slice (getReg s o) 59 5 = 0#5)
    (hsum : nnSum (bitAt (getReg s o) 56) (getReg s m) (getReg s o) = sum)
    (hfits : (getReg s o).getLsbD 58 = true ∨ (-128 ≤ sum ∧ sum ≤ 127)) :
    exec (.bitnn m o n) s = retire (setReg s n (nnShift (bitAt (getReg s o) 57) (getReg s n) sum)) := by
  subst hsum
  exact (if_neg (by simp [h])).trans (if_pos (by simpa [bitAt] using hfits))
/-- Elsewhere a free value of 8 bits does. -/
theorem exec_bitnn_of_not_fits (h : slice (getReg s o) 59 5 = 0#5)
    (hsum : nnSum (bitAt (getReg s o) 56) (getReg s m) (getReg s o) = sum)
    (hfits : ¬ ((getReg s o).getLsbD 58 = true ∨ (-128 ≤ sum ∧ sum ≤ 127))) :
    exec (.bitnn m o n) s = retire (setReg (drawn s) n
      (nnShift (bitAt (getReg s o) 57) (getReg s n) (slice (freeWord s) 0 8).toInt)) := by
  subst hsum
  exact (if_neg (by simp [h])).trans (if_neg (by simpa [bitAt] using hfits))

end

/-! ### Bit-field moves (40_alu.md R250 to R253) -/

/-- A control word in the stated ranges: a shift by fewer bits than there are, and positions within them. -/
def FieldCtl (w : Nat) (c : BitVec 24) : Prop :=
  (-(w : Int) < (slice c 0 8).toInt ∧ (slice c 0 8).toInt < w) ∧ (slice c 8 8).toNat ≤ w ∧ (slice c 16 8).toNat ≤ w
/-- Bit k of a source shifted by a signed count. -/
def movedBit {w : Nat} (sh : Int) (x : BitVec w) (k : Nat) : Bool := decide (sh ≤ k) && x.getLsbD (k - sh).toNat
/-- Whether bit k lies inside the mask from l to h. -/
abbrev InField (l h k : Nat) : Prop := if l < h then l ≤ k ∧ k < h else l ≤ k ∨ k < h
/-- v is a background with a field of the shifted source moved in; with `signed`, the background is inverted where the
field's top bit is set. -/
def IsFieldMove {w : Nat} (c : BitVec 24) (x bg v : BitVec w) (signed : Bool) : Prop :=
  ∀ k, k < w → v.getLsbD k =
    if InField (slice c 8 8).toNat (slice c 16 8).toNat k then movedBit (slice c 0 8).toInt x k
    else (bg.getLsbD k != (signed && movedBit (slice c 0 8).toInt x ((slice c 16 8).toNat - 1)))

section

variable {w : Nat}

theorem getLsbD_shiftSigned (x : BitVec w) (sh : Int) {k : Nat} (hk : k < w) :
    (shiftSigned x sh).getLsbD k = movedBit sh x k := by
  unfold shiftSigned movedBit
  split
  · have hidx : (k - sh).toNat = k - sh.toNat := by omega
    have hlt : (sh ≤ k) ↔ ¬ k < sh.toNat := by omega
    rw [BitVec.getLsbD_shiftLeft, hidx, decide_eq_decide.2 hlt, decide_not]
    simp [hk]
  · have hidx : (k - sh).toNat = (-sh).toNat + k := by omega
    have hle : sh ≤ k := by omega
    rw [BitVec.getLsbD_ushiftRight, hidx, decide_eq_true hle, Bool.true_and]
theorem getLsbD_allOnes_shiftLeft (l : Nat) {k : Nat} (hk : k < w) :
    (BitVec.allOnes w <<< l).getLsbD k = decide (l ≤ k) := by
  rw [Bool.eq_iff_iff]
  simp [hk]
theorem getLsbD_fieldMask (l h : Nat) {k : Nat} (hk : k < w) :
    (fieldMask w l h).getLsbD k = decide (InField l h k) := by
  have hbelow : (~~~(BitVec.allOnes w <<< h)).getLsbD k = decide (k < h) := by
    rw [BitVec.getLsbD_not, getLsbD_allOnes_shiftLeft h hk, Bool.eq_iff_iff]
    simp [hk]
  unfold fieldMask InField
  by_cases hlh : l < h
  · simp only [hlh, if_true, BitVec.getLsbD_and, getLsbD_allOnes_shiftLeft l hk, hbelow, Bool.decide_and]
  · simp only [hlh, if_false, BitVec.getLsbD_or, getLsbD_allOnes_shiftLeft l hk, hbelow, Bool.decide_or]
/-- The shifted source inside the mask, the background outside. -/
theorem getLsbD_bitSelect_fieldMask (x bg : BitVec w) (sh : Int) (l h : Nat) {k : Nat} (hk : k < w) :
    (bitSelect (shiftSigned x sh) (fieldMask w l h) bg).getLsbD k =
      if InField l h k then movedBit sh x k else bg.getLsbD k := by
  simp only [getLsbD_bitSelect, getLsbD_shiftSigned x sh hk, getLsbD_fieldMask l h hk, decide_eq_true_eq]

theorem fieldCtlOk_iff {c : BitVec 24} : fieldCtlOk w c = true ↔ FieldCtl w c := by
  simp only [fieldCtlOk, FieldCtl, Bool.and_eq_true, decide_eq_true_eq, and_assoc]
theorem fieldCtlOk_and_above_iff {c : BitVec 24} :
    (fieldCtlOk w c && fieldHighAbove c) = true ↔ FieldCtl w c ∧ (slice c 8 8).toNat < (slice c 16 8).toNat := by
  rw [Bool.and_eq_true, fieldCtlOk_iff, fieldHighAbove, decide_eq_true_eq]

theorem isFieldMove_fieldMove (c : BitVec 24) (x bg : BitVec w) : IsFieldMove c x bg (fieldMove x bg c) false := by
  intro k hk
  rw [fieldMove, getLsbD_bitSelect_fieldMask x bg _ _ _ hk, Bool.false_and, Bool.bne_false]
theorem isFieldMove_fieldMoveS {c : BitVec 24} (hc : (fieldCtlOk w c && fieldHighAbove c) = true) (x bg : BitVec w) :
    IsFieldMove c x bg (fieldMoveS x bg c) true := by
  obtain ⟨⟨-, -, hh⟩, habove⟩ := fieldCtlOk_and_above_iff.1 hc
  intro k hk
  have htop : bitAt (shiftSigned x (slice c 0 8).toInt) ((slice c 16 8).toNat - 1) =
      movedBit (slice c 0 8).toInt x ((slice c 16 8).toNat - 1) := getLsbD_shiftSigned x _ (by omega)
  rw [fieldMoveS, getLsbD_bitSelect_fieldMask x _ _ _ _ hk, htop, Bool.true_and]
  cases movedBit (slice c 0 8).toInt x ((slice c 16 8).toNat - 1) <;> simp [hk]

end

section

variable {i : Instr} {m n : Reg} {pm pn : Pair} {ps : List Pair} {b : Word} {q : Quad} {c : BitVec 24} {s : State}

/-! Each of the four operations completes where its control word is accepted, and refuses another. -/
theorem gives_of_bitmov64 (hi : exec i s = bitmov64 m b c n s) (hc : fieldCtlOk 64 c = true) :
    Gives i n s fun v => IsFieldMove c (getReg s m) b v false :=
  .of_retire (hi.trans (if_pos hc)) (isFieldMove_fieldMove _ _ _)
theorem gives_of_bitmovs64 (hi : exec i s = bitmovs64 m b c n s) (hc : (fieldCtlOk 64 c && fieldHighAbove c) = true) :
    Gives i n s fun v => IsFieldMove c (getReg s m) b v true :=
  .of_retire (hi.trans (if_pos hc)) (isFieldMove_fieldMoveS hc _ _)
theorem givesPair_of_bitmov128 (hi : exec i s = bitmov128 ps pm q c pn s) (hc : fieldCtlOk 128 c = true) :
    GivesPair i ps 0 pn s fun v => IsFieldMove c (getPair s pm) q v false :=
  .of_retire (hi.trans (congrArg (withPairs ps) (if_pos hc))) (isFieldMove_fieldMove _ _ _)
theorem givesPair_of_bitmovs128 (hi : exec i s = bitmovs128 ps pm q c pn s)
    (hc : (fieldCtlOk 128 c && fieldHighAbove c) = true) :
    GivesPair i ps 0 pn s fun v => IsFieldMove c (getPair s pm) q v true :=
  .of_retire (hi.trans (congrArg (withPairs ps) (if_pos hc))) (isFieldMove_fieldMoveS hc _ _)
theorem bitmov128_refused (hps : ps.all pairAllowed = true) (hc : ¬ fieldCtlOk 128 c = true) :
    bitmov128 ps pm q c pn s = .refused .bitmovControl :=
  (withPairs_eq hps).trans (if_neg hc)
theorem bitmovs128_refused (hps : ps.all pairAllowed = true) (hc : ¬ (fieldCtlOk 128 c && fieldHighAbove c) = true) :
    bitmovs128 ps pm q c pn s = .refused .bitmovControl :=
  (withPairs_eq hps).trans (if_neg hc)

end

/-- Settles O24: the sum by its terms, the fields by their bits. -/
theorem neuronAndBitFields : Obligations.NeuronAndBitFields := by
  refine ⟨fun m o n s => ?neuron, fun m o q n pm pq pn c s => ?fields⟩
  case neuron =>
    intro c input weight sum
    have hsum : nnSum (bitAt c 56) (getReg s m) c = sum := by
      simp only [nnSum_eq, nnInput_eq, nnWeight_slice]
      rfl
    refine ⟨fun hc => ?_, exec_bitnn_of_reserved⟩
    by_cases hfits : c.getLsbD 58 = true ∨ (-128 ≤ sum ∧ sum ≤ 127)
    · exact ⟨0, sum, fun _ => ⟨rfl, rfl⟩, hsum ▸ nnSum_bounds .., fun h => absurd rfl h,
        _, exec_bitnn_of_fits hc hsum hfits, nnShift_eq ..⟩
    · have hlo : -128 ≤ (slice (freeWord s) 0 8).toInt := BitVec.le_toInt _
      have hhi : (slice (freeWord s) 0 8).toInt < 128 := BitVec.toInt_lt
      exact ⟨1, (slice (freeWord s) 0 8).toInt, fun h => absurd h hfits, by omega, fun _ => by omega,
        _, exec_bitnn_of_not_fits hc hsum hfits, nnShift_eq ..⟩
  case fields =>
    intro ok above field cr
    refine ⟨fun hc => gives_of_bitmov64 rfl (fieldCtlOk_iff.2 hc), fun hc => gives_of_bitmov64 rfl (fieldCtlOk_iff.2 hc),
      fun hc ha => gives_of_bitmovs64 rfl (fieldCtlOk_and_above_iff.2 ⟨hc, ha⟩),
      fun hc ha => gives_of_bitmovs64 rfl (fieldCtlOk_and_above_iff.2 ⟨hc, ha⟩),
      fun hc => givesPair_of_bitmov128 rfl (fieldCtlOk_iff.2 hc), fun hc => givesPair_of_bitmov128 rfl (fieldCtlOk_iff.2 hc),
      fun hc ha => givesPair_of_bitmovs128 rfl (fieldCtlOk_and_above_iff.2 ⟨hc, ha⟩),
      fun hc ha => givesPair_of_bitmovs128 rfl (fieldCtlOk_and_above_iff.2 ⟨hc, ha⟩),
      fun hc => if_neg (mt fieldCtlOk_iff.1 hc), fun hc => if_neg (mt fieldCtlOk_iff.1 hc),
      fun hc => if_neg (mt fieldCtlOk_and_above_iff.1 hc), fun hc => if_neg (mt fieldCtlOk_and_above_iff.1 hc),
      fun hps => ?refusedPairs⟩
    case refusedPairs =>
      have hpair : [pm, pn].all pairAllowed = true := by
        simp only [List.all_cons, List.all_nil, Bool.and_true, Bool.and_eq_true] at hps ⊢
        obtain ⟨hpm, -, hpn⟩ := hps
        exact ⟨hpm, hpn⟩
      exact ⟨fun hc => bitmov128_refused hpair (mt fieldCtlOk_iff.1 hc),
        fun hc => bitmov128_refused hps (mt fieldCtlOk_iff.1 hc),
        fun hc => bitmovs128_refused hpair (mt fieldCtlOk_and_above_iff.1 hc),
        fun hc => bitmovs128_refused hps (mt fieldCtlOk_and_above_iff.1 hc)⟩

end Sys2Proof.Machine

/-! ### How an instruction of 41_compare_flags.md completes -/

namespace Sys2Proof.Machine

open Sys2Proof

/-- The SR bit a compare writes (41_compare_flags.md R260). -/
def flagBit : Flag → Nat
  | .t => 0
  | .s => 1

section

variable {i : Instr} {n : Reg} {s : State}

theorem setFlag_eq (f : Flag) (b : Bool) (s : State) : setFlag f b s = { s with sr := setBit s.sr (flagBit f) b } := by
  cases f <;> rfl
theorem SetsBit.of_retire {f : Flag} {k : Nat} {b : Bool} (hi : exec i s = retire (setFlag f b s)) (hk : flagBit f = k) :
    SetsBit i k s b :=
  ⟨setBit s.sr k b, by rw [hi, setFlag_eq, hk]; rfl, oneBit_setBit⟩
theorem SetsBit.of_compare {op : Word → Word → Bool} {src : Src} {f : Flag} {k : Nat} {b : Bool}
    (hi : exec i s = compare op src n f s) (hk : flagBit f = k) (h : op (getReg s n) (srcVal s src) = b) : SetsBit i k s b :=
  h ▸ .of_retire hi hk
theorem SetsBit.of_comparePair {op : Quad → Quad → Bool} {pm pn : Pair} {b : Bool}
    (hi : exec i s = comparePair op pm pn s) (hps : [pm, pn].all pairAllowed = true)
    (h : op (getPair s pn) (getPair s pm) = b) : SetsBit i 0 s b :=
  h ▸ .of_retire (f := .t) (hi.trans (withPairs_eq hps)) rfl
theorem Gives.of_compareTo {op : Word → Word → Bool} {m : Reg} {src : Src} {v : Word}
    (hi : exec i s = compareTo op m src n s) (h : boolWord (op (getReg s m) (srcVal s src)) = v) : Gives i n s (· = v) :=
  .of_retire hi h

end

/-! ### Compares (41_compare_flags.md R260 to R286) -/

theorem tst32_eq (a b : Word) : tst32 a b = (a.setWidth 32 &&& b.setWidth 32 == 0#32) := by
  rw [tst32, low32, BitVec.setWidth_and]
theorem toNat_ptr48 (v : Word) : (ptr48 v).toNat = v.toNat % 2 ^ 48 := BitVec.toNat_setWidth ..
theorem boolWord_decide (p : Prop) [Decidable p] : boolWord (decide p) = if p then 1#64 else 0#64 := by
  simp [boolWord]
theorem boolWord_not (b : Bool) : boolWord (!b) = if b then 0#64 else 1#64 := by
  cases b <;> rfl

/-- Settles O25: each relation on the bits its width reads. -/
theorem comparesOfEveryKind : Obligations.ComparesOfEveryKind := by
  refine ⟨fun src m n f s => ?compares, fun src m o n x pm pn s => ?pointersAndRegisters⟩
  case compares =>
    exact ⟨⟨.of_compare rfl rfl rfl, .of_compare rfl rfl rfl⟩, ⟨.of_compare rfl rfl rfl, .of_compare rfl rfl rfl⟩,
      ⟨.of_compare rfl rfl rfl, .of_compare rfl rfl rfl⟩, ⟨.of_compare rfl rfl rfl, .of_compare rfl rfl rfl⟩,
      ⟨.of_compare rfl rfl rfl, .of_compare rfl rfl rfl⟩,
      ⟨.of_compare rfl rfl (tst32_eq ..), .of_compare rfl rfl (tst32_eq ..)⟩,
      ⟨.of_compare rfl rfl rfl, .of_compare rfl rfl rfl⟩, ⟨.of_compare rfl rfl rfl, .of_compare rfl rfl rfl⟩,
      ⟨.of_compare rfl rfl rfl, .of_compare rfl rfl rfl⟩, ⟨.of_compare rfl rfl rfl, .of_compare rfl rfl rfl⟩,
      ⟨.of_compare rfl rfl rfl, .of_compare rfl rfl rfl⟩, .of_compare rfl rfl rfl, .of_compare rfl rfl rfl⟩
  case pointersAndRegisters =>
    intro a c adr adrx
    refine ⟨.of_compare (op := fun a b => ptr48 a == ptr48 b) rfl rfl ?eq48,
      .of_compare (op := fun a b => decide ((ptr48 b).toNat < (ptr48 a).toNat)) rfl rfl ?gt48,
      fun hps => ⟨.of_comparePair (op := fun a b => ptr96 a == ptr96 b) rfl hps ?eq96,
        .of_comparePair (op := fun a b => decide ((ptr96 b).toNat < (ptr96 a).toNat)) rfl hps ?gt96⟩,
      fun hps => ⟨withPairs_refused hps, withPairs_refused hps⟩,
      .of_compareTo rfl (boolWord_decide _), .of_compareTo (op := fun a b => !eq64 a b) rfl ?ne,
      .of_compareTo rfl (boolWord_decide _), .of_compareTo rfl (boolWord_decide _),
      .of_compareTo (op := fun a b => gt64 b a) rfl (boolWord_decide _), .of_compareTo rfl (boolWord_decide _),
      .of_compareTo (op := fun a b => hi64 b a) rfl (boolWord_decide _)⟩
    case eq48 => simp only [beq_eq_decide, ← BitVec.toNat_inj, toNat_ptr48, srcVal, adr]
    case gt48 => simp only [toNat_ptr48, srcVal, adr]
    case eq96 => simp only [beq_eq_decide, ← BitVec.toNat_inj, toNat_ptr96_getPair, adrx, adr]
    case gt96 => simp only [toNat_ptr96_getPair, adrx, adr]
    case ne => simp only [boolWord_not, eq64, beq_iff_eq, a, c]

/-! ### The flag instructions (41_compare_flags.md R290 to R295) -/

theorem laneOk_iff_of_lane_one {u : Uses} (h : u.lane = .one) (width lane : Nat) :
    laneOk width lane u = true ↔ lane = 1 := by
  simp [laneOk, h]

/-- Settles O26: the words are closed, and each instruction is one flag write. -/
theorem flagInstructionsChangeTheirFlag : Obligations.FlagInstructionsChangeTheirFlag := by
  refine ⟨fun s => ⟨.of_retire (f := .t) rfl rfl, .of_retire (f := .t) rfl rfl, .of_retire (f := .s) rfl rfl,
    .of_retire (f := .s) rfl rfl, .of_retire (f := .t) rfl rfl, .of_retire (f := .s) rfl rfl⟩, ?words, ?predicated,
    fun i hi => laneOk_iff_of_lane_one ?lane⟩
  case words =>
    simp only [List.forall_mem_cons, List.not_mem_nil, false_implies, implies_true, and_true]
    decide
  case predicated =>
    simp only [List.forall_mem_cons, List.not_mem_nil, false_implies, implies_true, and_true]
    decide
  case lane =>
    simp only [List.mem_cons, List.not_mem_nil, or_false] at hi
    rcases hi with rfl | rfl | rfl | rfl | rfl <;> rfl

/-! ### The predicate stack (41_compare_flags.md R296 to R298) -/

section

variable {i : BitVec 5}

/-- Bits 4:2 of SRTPROP's immediate name the bit of U, bits 1:0 the operation. -/
theorem srtprop_index (i : BitVec 5) : i.toNat >>> 2 % 8 = i.toNat / 4 := by
  rw [Nat.shiftRight_eq_div_pow]
  omega
theorem srtprop_op (i : BitVec 5) : i.extractLsb' 0 2 = BitVec.ofNat 2 (i.toNat % 4) := by
  decide +revert
theorem srtpropFlags_store (h : i.toNat % 4 = 0) (t : Bool) (u : BitVec 8) :
    srtpropFlags i t u = (t, setBit u (i.toNat / 4) t) := by
  simp [srtpropFlags, srtprop_index, srtprop_op, h]
theorem srtpropFlags_load (h : i.toNat % 4 = 1) (t : Bool) (u : BitVec 8) :
    srtpropFlags i t u = (bitAt u (i.toNat / 4), u) := by
  simp [srtpropFlags, srtprop_index, srtprop_op, h]
theorem srtpropFlags_and (h : i.toNat % 4 = 2) (t : Bool) (u : BitVec 8) :
    srtpropFlags i t u = (t && bitAt u (i.toNat / 4), u) := by
  simp [srtpropFlags, srtprop_index, srtprop_op, h]
theorem srtpropFlags_or (h : i.toNat % 4 = 3) (t : Bool) (u : BitVec 8) :
    srtpropFlags i t u = (t || bitAt u (i.toNat / 4), u) := by
  simp [srtpropFlags, srtprop_index, srtprop_op, h]

theorem getLsbD_pushT (t : Bool) (u : BitVec 8) {k : Nat} (hk : k < 8) :
    (pushT t u).getLsbD k = if k = 0 then t else u.getLsbD (k - 1) := by
  cases k with
  | zero => simp [pushT]
  | succ k =>
    have hk' : k < 8 := by omega
    simp [pushT, hk, BitVec.getLsbD_eq_getElem hk']
theorem srttwidFlags_eq_none (h : 9 ≤ i.toNat) (t : Bool) (u : BitVec 8) : srttwidFlags i t u = none := by
  unfold srttwidFlags
  split
  case h_10 => rfl
  all_goals exact absurd h (by decide)

theorem exec_srtprop {t : Bool} {u : BitVec 8} {s : State} (h : srtpropFlags i (srT s) (srU s) = (t, u)) :
    exec (.srtprop i) s = retire (setU (setT s t) u) := by
  show execSrtprop i s = _
  simp only [execSrtprop, h]
theorem exec_srttwid {t : Bool} {u : BitVec 8} {s : State} (h : srttwidFlags i (srT s) (srU s) = some (t, u)) :
    exec (.srttwid i) s = retire (setU (setT s t) u) := by
  show execSrttwid i s = _
  simp only [execSrttwid, h]
theorem exec_srttwid_of_ifElse (h : 0x0E ≤ i.toNat ∧ i.toNat ≤ 0x17) (s : State) :
    exec (.srttwid i) s = .refused .srttwid := by
  show execSrttwid i s = _
  simp [execSrttwid, srttwidFlags_eq_none (by omega : 9 ≤ i.toNat), h]
theorem exec_srttwid_of_undefined (h : (0x09 ≤ i.toNat ∧ i.toNat ≤ 0x0D) ∨ 0x18 ≤ i.toNat) (s : State) :
    exec (.srttwid i) s = .next (s.trapped .undefinedInstruction none) := by
  show execSrttwid i s = _
  have hout : ¬ (14 ≤ i.toNat ∧ i.toNat ≤ 23) := by omega
  simp [execSrttwid, srttwidFlags_eq_none (by omega : 9 ≤ i.toNat), hout, raise_eq]

end

section

variable {j : Instr} {s : State}

/-- From s, j answers a next state in which T and U7..U0 have values and nothing else but the pc has changed. -/
def SetsTU (j : Instr) (s : State) (t : Bool) (u : Nat → Bool) : Prop :=
  ∃ v, exec j s = .next (s.wroteSR v) ∧
    ∀ k, k < 64 → v.getLsbD k = if k = 0 then t else if 8 ≤ k ∧ k < 16 then u (k - 8) else s.sr.getLsbD k

theorem getLsbD_srU (s : State) (k : Nat) : (srU s).getLsbD k = (decide (k < 8) && s.sr.getLsbD (8 + k)) :=
  BitVec.getLsbD_extractLsb' ..
theorem SetsTU.of_retire {t : Bool} {u : BitVec 8} {f : Nat → Bool} (hj : exec j s = retire (setU (setT s t) u))
    (hu : ∀ k, k < 8 → u.getLsbD k = f k) : SetsTU j s t f := by
  refine ⟨setSlice (setBit s.sr 0 t) 8 8 u, hj, fun k hk => ?_⟩
  rw [getLsbD_setSlice, getLsbD_setBit]
  simp only [hk, and_true]
  by_cases h : 8 ≤ k ∧ k < 16
  · rw [if_pos h, if_neg (by omega), if_pos h, hu _ (by omega)]
  · simp only [if_neg h]

theorem getLsbD_sr_clearTS (s : State) {k : Nat} (hk : k < 64) :
    (setS (setT s false) false).sr.getLsbD k = (decide (2 ≤ k) && s.sr.getLsbD k) := by
  show (setBit (setBit s.sr 0 false) 1 false).getLsbD k = _
  simp only [getLsbD_setBit, hk, and_true]
  match k with
  | 0 => rfl
  | 1 => rfl
  | k + 2 => simp

end

/-- Settles O27: each command by the T and the U it computes. -/
theorem predicateStackCommands : Obligations.PredicateStackCommands := by
  intro s i n t u result x
  have hu : u = (srU s).getLsbD := funext fun k => (getLsbD_srU s k).symm
  clear_value u
  subst hu
  have prop {t' : Bool} {v : BitVec 8} {f : Nat → Bool} (h : srtpropFlags i (srT s) (srU s) = (t', v))
      (hv : ∀ k, k < 8 → v.getLsbD k = f k) : result (.srtprop i) t' f := SetsTU.of_retire (exec_srtprop h) hv
  have twid {c : BitVec 5} {t' : Bool} {v : BitVec 8} {f : Nat → Bool} (h : srttwidFlags c (srT s) (srU s) = some (t', v))
      (hv : ∀ k, k < 8 → v.getLsbD k = f k) : result (.srttwid c) t' f := SetsTU.of_retire (exec_srttwid h) hv
  have stored (k : Nat) (hk : k < 8) : (setBit (srU s) x t).getLsbD k = if k = x then t else (srU s).getLsbD k := by
    rw [getLsbD_setBit]
    simp only [hk, and_true]
  have kept (k : Nat) (_ : k < 8) : (srU s).getLsbD k = (srU s).getLsbD k := rfl
  have pushed (b : Bool) (k : Nat) (hk : k < 8) := getLsbD_pushT b (srU s) hk
  have popped (d k : Nat) (_ : k < 8) : (srU s >>> d).getLsbD k = (srU s).getLsbD (k + d) := by
    rw [BitVec.getLsbD_ushiftRight, Nat.add_comm]
  have cleared (k : Nat) (_ : k < 8) : (0#8).getLsbD k = false := BitVec.getLsbD_zero
  exact ⟨fun h => prop (srtpropFlags_store h t _) stored, fun h => prop (srtpropFlags_load h t _) kept,
    fun h => prop (srtpropFlags_and h t _) kept, fun h => prop (srtpropFlags_or h t _) kept,
    twid rfl (pushed t), twid rfl (popped 1), twid rfl (popped 2), twid rfl (popped 3), twid rfl kept, twid rfl kept,
    twid rfl (pushed _), twid rfl (pushed _), twid rfl cleared, (exec_srttwid_of_ifElse · s),
    (exec_srttwid_of_undefined · s), .of_retire rfl rfl, .of_retire rfl (boolWord_not t),
    _, rfl, fun _ => getLsbD_sr_clearTS s⟩

end Sys2Proof.Machine

/-! ### How an instruction of 42_shift_muldiv.md completes -/

namespace Sys2Proof.Machine

open Sys2Proof

section

variable {i : Instr} {n : Reg} {p : Pair} {ps : List Pair} {s : State}

/-- A free value is written, and one has been read (00_scope.md R15; log 3). -/
theorem GivesFree.of_freeWord (hi : exec i s = retire (setReg (drawn s) n (freeWord s))) :
    GivesFree i 1 n s (fun v => v = Config.draw s.draws) :=
  ⟨freeWord s, hi, rfl⟩
theorem GivesPair.of_freeQuad (hi : exec i s = withPairs ps (retire (setPair (drawn2 s) p (freeQuad s)))) :
    GivesPair i ps 2 p s (fun v => v = Config.draw (s.draws + 1) ++ Config.draw s.draws) :=
  ⟨fun hps => ⟨freeQuad s, hi.trans ((withPairs_eq hps).trans (retire_setPair (drawn2 s) p _)), rfl⟩,
    fun hps => hi.trans (withPairs_refused hps)⟩

end

/-! ### A 32-bit result in a 64-bit register (42_shift_muldiv.md R321, R339) -/

section

variable {k : Nat} (x : BitVec 32) (v : Word)

theorem getLsbD_low32 (hk : k < 32) : (low32 v).getLsbD k = v.getLsbD k := by
  simp [low32, hk]
theorem getLsbD_signExtend_low (hk : k < 32) : (x.signExtend 64).getLsbD k = x.getLsbD k := by
  rw [BitVec.getLsbD_signExtend, if_pos hk, decide_eq_true (Nat.lt_trans hk (by decide)), Bool.true_and]
@[simp] theorem low32_signExtend : low32 (x.signExtend 64) = x := by
  apply BitVec.eq_of_getLsbD_eq
  intro k hk
  rw [getLsbD_low32 _ hk, getLsbD_signExtend_low x hk]
@[simp] theorem low32_setWidth : low32 (x.setWidth 64) = x := by
  rw [low32, BitVec.setWidth_setWidth_of_le x (by decide), BitVec.setWidth_eq]
theorem toInt_signExtend_eq_low32 : (x.signExtend 64).toInt = (low32 (x.signExtend 64)).toInt := by
  rw [low32_signExtend, BitVec.toInt_signExtend_of_le (by decide)]
theorem toNat_setWidth_eq_low32 : (x.setWidth 64).toNat = (low32 (x.setWidth 64)).toNat := by
  rw [low32_setWidth, BitVec.toNat_setWidth_of_le (by decide)]

end

/-! ### Barrel shifts (42_shift_muldiv.md R320 to R333) -/

theorem shiftCount_eq (v : Word) : shiftCount v = (BitVec.ofNat 8 v.toNat).toInt := by
  rw [shiftCount, slice_zero_eq_setWidth v (by decide), ← BitVec.ofNat_toNat]

theorem getLsbD_sshiftRight_of_lt {w : Nat} (x : BitVec w) (d : Nat) {k : Nat} (hk : k < w) :
    (x.sshiftRight d).getLsbD k = if k + d < w then x.getLsbD (k + d) else x.getLsbD (w - 1) := by
  rw [BitVec.getLsbD_sshiftRight, BitVec.msb_eq_getLsbD_last, Nat.add_comm d k]
  simp [hk]
theorem shifted_barrel {w : Nat} (ar : Bool) (x : BitVec w) (c : Int) : Shifted ar c x (barrel ar x c) := by
  intro k hk
  unfold barrel
  by_cases hc : 0 ≤ c
  · rw [if_pos hc, if_pos hc, BitVec.getLsbD_shiftLeft]
    by_cases hlow : k < c.toNat % w <;> simp [hk, hlow]
  · rw [if_neg hc, if_neg hc]
    cases ar
    · rw [if_neg Bool.false_ne_true, BitVec.getLsbD_ushiftRight, Nat.add_comm, Bool.false_and]
      split
      · rfl
      · next hout => exact BitVec.getLsbD_of_ge x _ (Nat.not_lt.1 hout)
    · rw [if_pos rfl, getLsbD_sshiftRight_of_lt x _ hk, Bool.true_and]

section

variable {w : Nat} {c : Int} (hc : 0 ≤ c)
include hc

/-- A right shift by a count is a barrel shift by its negative. -/
theorem barrel_neg (ar : Bool) (x : BitVec w) :
    barrel ar x (-c) = if ar then x.sshiftRight (c.toNat % w) else x >>> (c.toNat % w) := by
  unfold barrel
  rcases Int.lt_or_eq_of_le hc with hpos | rfl
  · rw [if_neg (by omega), Int.neg_neg]
  · cases ar <;> simp
theorem shifted_sshiftRight (x : BitVec w) : Shifted true (-c) x (x.sshiftRight (c.toNat % w)) := by
  have h := shifted_barrel true x (-c)
  rwa [barrel_neg hc] at h
theorem shifted_ushiftRight (x : BitVec w) : Shifted false (-c) x (x >>> (c.toNat % w)) := by
  have h := shifted_barrel false x (-c)
  rwa [barrel_neg hc] at h

end

section

variable {i : Instr} {ar : Bool} {pm pn : Pair} {o : Reg} {s : State}

theorem GivesPair.of_shiftRightX (hi : exec i s = shiftRightX ar pm o pn s) (h : 0 ≤ shiftCount (getReg s o)) :
    GivesPair i [pm, pn] 0 pn s (Shifted ar (-shiftCount (getReg s o)) (getPair s pm)) :=
  .of_retire (hi.trans (congrArg (withPairs [pm, pn]) (if_pos h))) (shifted_barrel _ _ _)
/-- A negative count leaves a free value (R330, R333). -/
theorem GivesPair.of_shiftRightX_neg (hi : exec i s = shiftRightX ar pm o pn s) (h : shiftCount (getReg s o) < 0) :
    GivesPair i [pm, pn] 2 pn s (fun v => v = Config.draw (s.draws + 1) ++ Config.draw s.draws) :=
  .of_freeQuad (hi.trans (congrArg (withPairs [pm, pn]) (if_neg (Int.not_le.2 h))))

end

section

variable {ar : Bool} {c : Int} {a : Word} {x : BitVec 32}

theorem shifted_signExtend (h : Shifted ar c (low32 a) x) :
    Shifted ar c (low32 a) (low32 (x.signExtend 64)) ∧ (x.signExtend 64).toInt = (low32 (x.signExtend 64)).toInt :=
  ⟨(low32_signExtend x).symm ▸ h, toInt_signExtend_eq_low32 x⟩
theorem shifted_setWidth (h : Shifted ar c (low32 a) x) :
    Shifted ar c (low32 a) (low32 (x.setWidth 64)) ∧ (x.setWidth 64).toNat = (low32 (x.setWidth 64)).toNat :=
  ⟨(low32_setWidth x).symm ▸ h, toNat_setWidth_eq_low32 x⟩

end

/-- Settles O28: every shift is the barrel shift by its count, or by the negative of it. -/
theorem barrelShifts : Obligations.BarrelShifts := by
  intro m o n src pm pn s a c r signed zeroed
  have hc : c = shiftCount (srcVal s src) := (shiftCount_eq _).symm
  have hr : r = shiftCount (getReg s o) := (shiftCount_eq _).symm
  clear_value c r
  subst hc hr
  refine ⟨.of_retire rfl (shifted_signExtend (shifted_barrel _ _ _)),
    .of_retire rfl (shifted_setWidth (shifted_barrel _ _ _)),
    .of_retire rfl (shifted_barrel _ _ _), .of_retire rfl (shifted_barrel _ _ _), .of_retire rfl (shifted_barrel _ _ _),
    .of_retire rfl (shifted_barrel _ _ _), fun h => ?right, fun h => ⟨fun i hi => ?free, fun i hi => ?freePair⟩⟩
  case right =>
    exact ⟨.of_retire (if_pos h) (shifted_signExtend (shifted_sshiftRight h _)),
      .of_retire (if_pos h) (shifted_setWidth (shifted_ushiftRight h _)),
      .of_retire (if_pos h) (shifted_sshiftRight h a), .of_retire (if_pos h) (shifted_ushiftRight h a),
      .of_shiftRightX rfl h, .of_shiftRightX rfl h⟩
  case free =>
    simp only [List.mem_cons, List.not_mem_nil, or_false] at hi
    rcases hi with rfl | rfl | rfl | rfl <;> exact .of_freeWord (if_neg (Int.not_le.2 h))
  case freePair =>
    simp only [List.mem_cons, List.not_mem_nil, or_false] at hi
    rcases hi with rfl | rfl <;> exact .of_shiftRightX_neg rfl h

end Sys2Proof.Machine

/-! ### Rotates (42_shift_muldiv.md R339 to R349; 43_load_immediate.md R412 to R415) -/

namespace Sys2Proof.Machine

open Sys2Proof

section

variable {w d r k : Nat} (x : BitVec w) (hd : d % w = r % w) (hk : k < w)
include hd hk

/-- Bit k goes up by the count, around the end. -/
theorem getLsbD_rotateLeft_add_mod : (x.rotateLeft d).getLsbD ((k + r) % w) = x.getLsbD k := by
  have hr : r % w < w := Nat.mod_lt _ (by omega)
  rw [BitVec.getLsbD_rotateLeft, hd, ← Nat.add_mod_mod]
  by_cases h : k + r % w < w
  · rw [Nat.mod_eq_of_lt h]
    simp [h]
  · have hidx : (k + r % w) % w = k + r % w - w := by
      rw [Nat.mod_eq_sub_mod (by omega), Nat.mod_eq_of_lt (by omega)]
    have hback : w - r % w + (k + r % w - w) = k := by omega
    have hlow : k + r % w - w < r % w := by omega
    rw [hidx, hback]
    simp [hlow]
/-- Bit k comes down by the count, around the end. -/
theorem getLsbD_rotateRight_eq : (x.rotateRight d).getLsbD k = x.getLsbD ((k + r) % w) := by
  have hr : r % w < w := Nat.mod_lt _ (by omega)
  rw [BitVec.getLsbD_rotateRight, hd, ← Nat.add_mod_mod]
  by_cases h : k + r % w < w
  · have hlow : k < w - r % w := by omega
    rw [Nat.mod_eq_of_lt h, Nat.add_comm]
    simp [hlow]
  · have hhigh : ¬ k < w - r % w := by omega
    have hidx : (k + r % w) % w = k - (w - r % w) := by
      rw [Nat.mod_eq_sub_mod (by omega), Nat.mod_eq_of_lt (by omega)]
      omega
    rw [hidx]
    simp [hhigh, hk]

end

section

variable (v : Word) (t : Bool) {k : Nat}

/-- Up by one, a bit entering at the bottom. -/
theorem getLsbD_shiftLeft_one_or_boolWord (hk : k < 64) :
    (v <<< 1 ||| boolWord t).getLsbD k = if k = 0 then t else v.getLsbD (k - 1) := by
  rw [BitVec.getLsbD_or, BitVec.getLsbD_shiftLeft, getLsbD_boolWord]
  by_cases h : k = 0
  · simp [h]
  · have h1 : ¬ k < 1 := by omega
    simp [h, h1, hk]
/-- Down by one, a bit entering at bit w - 1 above the bits that move. -/
theorem getLsbD_ushiftRight_one_or_boolWord {w : Nat} (hw : w ≤ 64) (hk : k < w) :
    (zext w v >>> 1 ||| boolWord t <<< (w - 1)).getLsbD k = if k = w - 1 then t else v.getLsbD (k + 1) := by
  rw [BitVec.getLsbD_or, BitVec.getLsbD_ushiftRight, BitVec.getLsbD_shiftLeft, getLsbD_boolWord, Nat.add_comm 1 k]
  by_cases h : k = w - 1
  · have hout : (zext w v).getLsbD (k + 1) = false := by
      by_cases h64 : k + 1 < 64
      · rw [getLsbD_zext v h64, decide_eq_false (by omega), Bool.false_and]
      · exact BitVec.getLsbD_of_ge _ _ (Nat.not_lt.1 h64)
    have hk64 : w - 1 < 64 := by omega
    rw [hout, if_pos h, h]
    simp [hk64]
  · have hlt : k < w - 1 := by omega
    have hlt' : k + 1 < w := by omega
    rw [getLsbD_zext v (by omega), if_neg h]
    simp [hlt, hlt']

end

/-- The bits of a 32-bit value in a sign-extended register. -/
theorem bits_signExtend {x : BitVec 32} {f : Nat → Bool} (h : ∀ k, k < 32 → x.getLsbD k = f k) :
    (∀ k, k < 32 → (x.signExtend 64).getLsbD k = f k) ∧ (x.signExtend 64).toInt = (low32 (x.signExtend 64)).toInt :=
  ⟨fun k hk => (getLsbD_signExtend_low x hk).trans (h k hk), toInt_signExtend_eq_low32 x⟩
theorem bits_sext {v : Word} {f : Nat → Bool} (h : ∀ k, k < 32 → v.getLsbD k = f k) :
    (∀ k, k < 32 → (sext 32 v).getLsbD k = f k) ∧ (sext 32 v).toInt = (low32 (sext 32 v)).toInt :=
  bits_signExtend (x := low32 v) fun k hk => (getLsbD_low32 v hk).trans (h k hk)
theorem bits_rotateLeft_signExtend {d r : Nat} (v : Word) (hd : d % 32 = r % 32) :
    (∀ k, k < 32 → (((low32 v).rotateLeft d).signExtend 64).getLsbD ((k + r) % 32) = v.getLsbD k) ∧
      (((low32 v).rotateLeft d).signExtend 64).toInt = (low32 (((low32 v).rotateLeft d).signExtend 64)).toInt :=
  ⟨fun k hk => by
    rw [getLsbD_signExtend_low _ (Nat.mod_lt _ (by decide)), getLsbD_rotateLeft_add_mod _ hd hk, getLsbD_low32 v hk],
    toInt_signExtend_eq_low32 _⟩

section

variable {w : Nat}

/-- A field at the bottom, with zeros or ones above it, rotated left. -/
theorem getLsbD_rotateLeft_field {wi f lo : Nat} (i : BitVec wi) (ones : Bool) (r : Nat) {k : Nat} (hk : k < w) :
    (((if ones then BitVec.allOnes w <<< f else 0#w) ||| (slice i lo f).setWidth w).rotateLeft (r % w)).getLsbD
      ((k + r) % w) = if k < f then (i.toNat / 2 ^ lo).testBit k else ones := by
  have hfield : (slice i lo f).getLsbD k = (decide (k < f) && (i.toNat / 2 ^ lo).testBit k) := by
    rw [slice, BitVec.getLsbD_extractLsb', ← BitVec.testBit_toNat, Nat.testBit_div_two_pow, Nat.add_comm]
  have habove : (if ones then BitVec.allOnes w <<< f else 0#w).getLsbD k = (ones && decide (f ≤ k)) := by
    cases ones
    · simp
    · rw [if_pos rfl, getLsbD_allOnes_shiftLeft f hk, Bool.true_and]
  rw [getLsbD_rotateLeft_add_mod _ (Nat.mod_mod r w) hk, BitVec.getLsbD_or, habove,
    BitVec.getLsbD_setWidth, hfield]
  by_cases h : k < f
  · simp [h, hk, Nat.not_le.2 h]
  · simp [h, Nat.not_lt.1 h]
theorem getLsbD_rotImmValue_short (step : Nat) (ones : Bool) (i : BitVec 10) (k : Nat) (hk : k < w) :
    (rotImmValue w step ones (.short i)).getLsbD ((k + step * (i.toNat % 16)) % w) =
      if k < 6 then (i.toNat / 16).testBit k else ones := by
  have hturn : (slice i 0 4).toNat = i.toNat % 16 := BitVec.extractLsb'_toNat ..
  rw [← hturn]
  exact getLsbD_rotateLeft_field i ones _ hk
theorem getLsbD_rotImmValue_jumbo (step : Nat) (ones : Bool) (i : BitVec 33) (k : Nat) (hk : k < w) :
    (rotImmValue w step ones (.jumbo i)).getLsbD ((k + i.toNat % 256) % w) =
      if k < 25 then (i.toNat / 256).testBit k else ones := by
  have hturn : (slice i 0 8).toNat = i.toNat % 256 := BitVec.extractLsb'_toNat ..
  rw [← hturn]
  exact getLsbD_rotateLeft_field i ones _ hk

end

/-- What the four load-immediates give of an immediate whose bits before the rotation are known. -/
theorem gives_of_rotImmValue {i : RotImm} {k32 k64 : Nat} {bit : Bool → Nat → Bool} (n : Reg) (s : State)
    (h32 : ∀ ones k, k < 32 → (rotImmValue 32 2 ones i).getLsbD ((k + k32) % 32) = bit ones k)
    (h64 : ∀ ones k, k < 64 → (rotImmValue 64 4 ones i).getLsbD ((k + k64) % 64) = bit ones k) :
    Gives (.ldiroz i n) n s (fun v => (∀ k, k < 32 → v.getLsbD ((k + k32) % 32) = bit false k) ∧ v.toNat < 2 ^ 32) ∧
    Gives (.ldiron i n) n s (fun v =>
      (∀ k, k < 32 → v.getLsbD ((k + k32) % 32) = bit true k) ∧ 2 ^ 64 - 2 ^ 32 ≤ v.toNat) ∧
    Gives (.ldirozq i n) n s (fun v => ∀ k, k < 64 → v.getLsbD ((k + k64) % 64) = bit false k) ∧
    Gives (.ldironq i n) n s (fun v => ∀ k, k < 64 → v.getLsbD ((k + k64) % 64) = bit true k) := by
  have hlt (k : Nat) : (k + k32) % 32 < 32 := Nat.mod_lt _ (by decide)
  refine ⟨.of_retire rfl ⟨fun k hk => ?_, ?_⟩, .of_retire rfl ⟨fun k hk => ?_, ?_⟩, .of_retire rfl (h64 false),
    .of_retire rfl (h64 true)⟩
  · rw [BitVec.getLsbD_setWidth, h32 false k hk, decide_eq_true (Nat.lt_trans (hlt k) (by decide)), Bool.true_and]
  · rw [BitVec.toNat_setWidth_of_le (by decide)]
    exact BitVec.isLt _
  · rw [BitVec.getLsbD_append, if_pos (hlt k), h32 true k hk]
  · have hone : (BitVec.allOnes 32).toNat = 2 ^ 32 - 1 := rfl
    rw [BitVec.toNat_append, ← Nat.shiftLeft_add_eq_or_of_lt (BitVec.isLt _), hone]
    omega

/-- Settles O29: each rotate by where it takes bit k. -/
theorem rotatesBitByBit : Obligations.RotatesBitByBit := by
  intro m o n pm pn i10 i33 s x a b t signed
  refine ⟨.of_retire rfl (and_assoc.1 ⟨bits_sext fun k hk => ?rotclL, rfl⟩), .of_retire rfl ⟨fun k hk => ?rotclQ, rfl⟩,
    .of_retire rfl (and_assoc.1 ⟨bits_sext fun k hk => ?rotcrL, rfl⟩), .of_retire rfl ⟨fun k hk => ?rotcrQ, rfl⟩,
    .of_retire rfl (bits_rotateLeft_signExtend x rfl), .of_retire rfl (bits_signExtend fun k hk => ?rotr),
    .of_retire rfl (bits_rotateLeft_signExtend a (Nat.mod_mod b 32)),
    .of_retire rfl fun k hk => getLsbD_rotateLeft_add_mod a (Nat.mod_mod b 64) hk,
    .of_retire rfl fun k hk => getLsbD_rotateRight_eq a (Nat.mod_mod b 64) hk,
    .of_retire rfl fun k hk => getLsbD_rotateLeft_add_mod (getPair s pm) (Nat.mod_mod b 128) hk, ?immediates⟩
  case rotclL => exact getLsbD_shiftLeft_one_or_boolWord x t (Nat.lt_trans hk (by decide))
  case rotclQ => exact getLsbD_shiftLeft_one_or_boolWord x t hk
  case rotcrL => exact getLsbD_ushiftRight_one_or_boolWord x t (by decide) hk
  case rotcrQ =>
    have h := getLsbD_ushiftRight_one_or_boolWord x t (Nat.le_refl 64) hk
    rwa [zext, BitVec.setWidth_eq, BitVec.setWidth_eq] at h
  case rotr => rw [getLsbD_rotateRight_eq _ rfl hk, getLsbD_low32 x (Nat.mod_lt _ (by decide))]
  case immediates =>
    simp only [List.forall_mem_cons, List.not_mem_nil, false_implies, implies_true, and_true]
    exact ⟨gives_of_rotImmValue n s (fun ones => getLsbD_rotImmValue_short 2 ones i10)
        fun ones => getLsbD_rotImmValue_short 4 ones i10,
      gives_of_rotImmValue n s (fun ones => getLsbD_rotImmValue_jumbo 2 ones i33)
        fun ones => getLsbD_rotImmValue_jumbo 4 ones i33⟩

end Sys2Proof.Machine

/-! ### Multiplies and multiply-accumulates (42_shift_muldiv.md R355 to R366, R370 to R373) -/

namespace Sys2Proof.Machine

open Sys2Proof

section

variable {k : Nat} (d a b : Word) (hk : k ≤ 64)
include hk

/-- Only the low bits of the numbers multiplied and added count for those of the result. -/
theorem toInt_sext_mul : (sext k (a * b)).toInt = (a.toInt * b.toInt).bmod (2 ^ k) := by
  rw [toInt_sext _ hk, BitVec.toInt_mul, Int.bmod_bmod_of_dvd (Nat.pow_dvd_pow 2 hk)]
theorem toNat_zext_mul : (zext k (a * b)).toNat = a.toNat * b.toNat % 2 ^ k := by
  rw [toNat_zext _ hk, BitVec.toNat_mul, Nat.mod_mod_of_dvd _ (Nat.pow_dvd_pow 2 hk)]
theorem toInt_sext_add_mul : (sext k (d + a * b)).toInt = (d.toInt + a.toInt * b.toInt).bmod (2 ^ k) := by
  rw [toInt_sext_add _ _ hk, BitVec.toInt_mul, ← Int.add_bmod_bmod, Int.bmod_bmod_of_dvd (Nat.pow_dvd_pow 2 hk),
    Int.add_bmod_bmod]
theorem toNat_zext_add_mul : (zext k (d + a * b)).toNat = (d.toNat + a.toNat * b.toNat) % 2 ^ k := by
  rw [toNat_zext_add _ _ hk, BitVec.toNat_mul, ← Nat.add_mod_mod, Nat.mod_mod_of_dvd _ (Nat.pow_dvd_pow 2 hk),
    Nat.add_mod_mod]

end

section

variable {w v : Nat} (x y : BitVec w)

/-- A product of two numbers of w bits fits in twice as many. -/
theorem toInt_ofInt_mul (hw : 0 < w) (hv : 2 * w ≤ v) : (BitVec.ofInt v (x.toInt * y.toInt)).toInt = x.toInt * y.toInt := by
  have hle : x.toInt * y.toInt ≤ 2 ^ (w * 2 - 2) := BitVec.toInt_mul_toInt_le
  have hge : -2 ^ (w * 2 - 2) ≤ x.toInt * y.toInt := BitVec.le_toInt_mul_toInt
  have hpow : (2 : Int) ^ (w * 2 - 2) < 2 ^ (v - 1) := pow_lt_pow_right₀ (by decide) (by omega)
  exact BitVec.toInt_ofInt_eq_self (by omega) (by omega) (by omega)
theorem toNat_ofNat_mul (hv : 2 * w ≤ v) : (BitVec.ofNat v (x.toNat * y.toNat)).toNat = x.toNat * y.toNat := by
  have hlt : x.toNat * y.toNat < 2 ^ w * 2 ^ w := Nat.mul_lt_mul'' x.isLt y.isLt
  have hpow : 2 ^ w * 2 ^ w ≤ 2 ^ v := by
    rw [← Nat.pow_add]
    exact Nat.pow_le_pow_right (by decide) (by omega)
  rw [BitVec.toNat_ofNat, Nat.mod_eq_of_lt (Nat.lt_of_lt_of_le hlt hpow)]

end

theorem toNat_hiWord (q : Quad) : (hiWord q).toNat = q.toNat / 2 ^ 64 := by
  have hq := q.isLt
  rw [hiWord, BitVec.toNat_setWidth, BitVec.toNat_ushiftRight, Nat.shiftRight_eq_div_pow]
  omega
theorem toInt_hiWord (q : Quad) : (hiWord q).toInt = q.toInt / 2 ^ 64 := by
  have hq := q.isLt
  rw [BitVec.toInt_eq_toNat_cond, BitVec.toInt_eq_toNat_cond, toNat_hiWord]
  omega
theorem lane16_zero (v : Word) : lane16 v 0 = v.setWidth 16 := slice_zero_eq_setWidth v (by decide)

/-- Settles O30: each result is the product or the sum, as far as it fits in the width. -/
theorem productsAndSums : Obligations.ProductsAndSums := by
  intro m o n acc src pm pn s a b c d lo w
  have hlane (v : Word) : lane16 v 0 = w v := lane16_zero v
  refine ⟨.of_retire rfl (toInt_sext_mul a c (by decide)), .of_retire rfl (toNat_zext_mul a c (by decide)),
    .of_retire rfl (BitVec.toInt_ofInt _), .of_retire rfl (BitVec.toNat_ofNat ..), .of_retire rfl ?mulhsQ,
    .of_retire rfl ?mulhuQ, .of_retire rfl (toInt_ofInt_mul (lo a) (lo b) (by decide) (by decide)),
    .of_retire rfl (toNat_ofNat_mul (lo a) (lo b) (by decide)), .of_retire rfl ?mulsW, .of_retire rfl ?muluW,
    .of_retire rfl ?muluX, .of_retire rfl ?mulhuX,
    .of_retire rfl (toInt_sext_add_mul d a c (by decide)), .of_retire rfl (toNat_zext_add_mul d a c (by decide)),
    .of_retire rfl ?dmacsL, .of_retire rfl ?dmacuL⟩
  case mulhsQ => exact (toInt_hiWord _).trans (congrArg (· / 2 ^ 64) (toInt_ofInt_mul a b (by decide) (by decide)))
  case mulhuQ => exact (toNat_hiWord _).trans (congrArg (· / 2 ^ 64) (toNat_ofNat_mul a b (by decide)))
  case mulsW =>
    rw [← hlane, ← hlane]
    exact toInt_ofInt_mul (lane16 a 0) (lane16 c 0) (by decide) (by decide)
  case muluW =>
    rw [← hlane, ← hlane]
    exact toNat_ofNat_mul (lane16 a 0) (lane16 c 0) (by decide)
  case muluX => rw [BitVec.toNat_mul, Nat.mul_comm]
  case mulhuX =>
    have hlt : (getPair s pm).toNat * (getPair s pn).toNat < 2 ^ 128 * 2 ^ 128 :=
      Nat.mul_lt_mul'' (getPair s pm).isLt (getPair s pn).isLt
    rw [BitVec.toNat_ofNat, Nat.mod_eq_of_lt (Nat.div_lt_of_lt_mul hlt), Nat.mul_comm]
  case dmacsL =>
    rw [BitVec.toInt_add]
    exact congrArg (fun x => (d.toInt + x).bmod (2 ^ 64)) (toInt_ofInt_mul (lo a) (lo c) (by decide) (by decide))
  case dmacuL =>
    rw [BitVec.toNat_add]
    exact congrArg (fun x => (d.toNat + x) % 2 ^ 64) (toNat_ofNat_mul (lo a) (lo c) (by decide))

end Sys2Proof.Machine

/-! ### Division (42_shift_muldiv.md R375 to R383, R385, R386) -/

namespace Sys2Proof.Machine

open Sys2Proof

/-! The operands that have a quotient: in range, the divisor not zero, and not the most negative number by -1. -/

section

variable {w : Nat}

theorem eq_intMin_iff (hw : 0 < w) (x : BitVec w) : x = BitVec.intMin w ↔ x.toInt = -(2 ^ (w - 1)) := by
  have hpow : 2 ^ (w - 1) < 2 ^ w := Nat.pow_lt_pow_right (by decide) (by omega)
  rw [← BitVec.toInt_inj, BitVec.toInt_intMin, Nat.mod_eq_of_lt hpow]
  push_cast
  rfl
theorem eq_allOnes_iff (hw : 0 < w) (x : BitVec w) : x = BitVec.allOnes w ↔ x.toInt = -1 := by
  rw [← BitVec.toInt_inj, BitVec.toInt_allOnes, if_pos hw]
theorem toInt_ne_zero_iff (x : BitVec w) : x.toInt ≠ 0 ↔ x ≠ 0#w := by
  rw [ne_eq, ne_eq, ← BitVec.toInt_inj, BitVec.toInt_zero]
/-- The overflow case of a signed division. -/
theorem not_overflow_iff (hw : 0 < w) (x y : BitVec w) :
    (!(x == BitVec.intMin w && y == BitVec.allOnes w)) = true ↔ x.toInt ≠ -(2 ^ (w - 1)) ∨ y.toInt ≠ -1 := by
  rw [ne_eq, ne_eq, ← eq_intMin_iff hw, ← eq_allOnes_iff hw, ← not_and_or]
  simp [imp_iff_not_or]

end

section

variable (a b : Word)

theorem sext_eq_self_iff : sext 32 a = a ↔ a.toInt = (low32 a).toInt := by
  rw [← BitVec.toInt_inj, sext, BitVec.toInt_signExtend_of_le (by decide)]
  exact eq_comm
theorem zext_eq_self_iff : zext 32 a = a ↔ a.toNat < 2 ^ 32 := by
  rw [← BitVec.toNat_inj, toNat_zext a (by decide)]
  exact Nat.mod_eq_iff_lt (by decide)

theorem divOkS64_iff : divOkS64 a b = true ↔ b ≠ 0#64 ∧ (a.toInt ≠ -(2 ^ 63) ∨ b.toInt ≠ -1) := by
  rw [divOkS64, Bool.and_eq_true, not_overflow_iff (by decide), bne_iff_ne]
theorem divOkU64_iff : divOkU64 a b = true ↔ b ≠ 0#64 := bne_iff_ne
theorem divOkS32_iff : divOkS32 a b = true ↔
    a.toInt = (low32 a).toInt ∧ b.toInt = (low32 b).toInt ∧ b ≠ 0#64 ∧ (a.toInt ≠ -(2 ^ 31) ∨ b.toInt ≠ -1) := by
  simp only [divOkS32, Bool.and_eq_true, not_overflow_iff (w := 32) (by decide), beq_iff_eq, bne_iff_ne, sext_eq_self_iff,
    and_assoc]
  refine and_congr_right fun ha => and_congr_right fun hb => ?_
  rw [← ha, ← hb]
theorem divOkU32_iff : divOkU32 a b = true ↔ a.toNat < 2 ^ 32 ∧ b.toNat < 2 ^ 32 ∧ b ≠ 0#64 := by
  simp only [divOkU32, Bool.and_eq_true, beq_iff_eq, bne_iff_ne, zext_eq_self_iff, and_assoc]

end

/-! The division law. -/

/-- With truncation (decision D22) the remainder is smaller than the divisor and of the dividend's sign. -/
def DivisionLaw (x y q r : Int) : Prop := x = q * y + r ∧ r.natAbs < y.natAbs ∧ 0 ≤ x * r

theorem divisionLaw_tdiv_tmod (x : Int) {y : Int} (hy : y ≠ 0) : DivisionLaw x y (x.tdiv y) (x.tmod y) := by
  refine ⟨(Int.tdiv_mul_add_tmod x y).symm, ?_, ?_⟩
  · rw [Int.natAbs_tmod]
    exact Nat.mod_lt _ (Int.natAbs_pos.2 hy)
  · rcases Int.le_total 0 x with hx | hx
    · exact Int.mul_nonneg hx (Int.tmod_nonneg y hx)
    · have hneg : 0 ≤ (-x).tmod y := Int.tmod_nonneg y (by omega)
      rw [Int.neg_tmod] at hneg
      exact Int.mul_nonneg_of_nonpos_of_nonpos hx (by omega)

section

variable {w : Nat} {x y : BitVec w}

theorem toInt_sdiv_of_not_overflow (hw : 0 < w) (h : x.toInt ≠ -(2 ^ (w - 1)) ∨ y.toInt ≠ -1) :
    (x.sdiv y).toInt = x.toInt.tdiv y.toInt := by
  refine BitVec.toInt_sdiv_of_ne_or_ne x y ?_
  rwa [BitVec.neg_one_eq_allOnes, ne_eq, ne_eq, eq_intMin_iff hw, eq_allOnes_iff hw]
theorem divisionLaw_sdiv_srem (hw : 0 < w) (h : x.toInt ≠ -(2 ^ (w - 1)) ∨ y.toInt ≠ -1) (hy : y.toInt ≠ 0) :
    DivisionLaw x.toInt y.toInt (x.sdiv y).toInt (x.srem y).toInt := by
  rw [toInt_sdiv_of_not_overflow hw h, BitVec.toInt_srem]
  exact divisionLaw_tdiv_tmod _ hy
/-- The number a division writes is the quotient at the operands' width, sign-extended. -/
theorem ofInt_tdiv (v : Nat) (hw : 0 < w) (h : x.toInt ≠ -(2 ^ (w - 1)) ∨ y.toInt ≠ -1) :
    BitVec.ofInt v (x.toInt.tdiv y.toInt) = (x.sdiv y).signExtend v := by
  rw [← toInt_sdiv_of_not_overflow hw h]
  rfl
theorem ofInt_tmod (v : Nat) (x y : BitVec w) : BitVec.ofInt v (x.toInt.tmod y.toInt) = (x.srem y).signExtend v := by
  rw [← BitVec.toInt_srem]
  rfl

end

/-- Quotient and remainder of natural numbers, as words. -/
theorem eq_div_mul_add_mod_ofNat {x y : Nat} (hx : x < 2 ^ 64) (hy : y < 2 ^ 64) (hy0 : y ≠ 0) :
    x = (BitVec.ofNat 64 (x / y)).toNat * y + (BitVec.ofNat 64 (x % y)).toNat ∧ (BitVec.ofNat 64 (x % y)).toNat < y := by
  have hr : x % y < y := Nat.mod_lt x (Nat.pos_of_ne_zero hy0)
  rw [BitVec.toNat_ofNat, BitVec.toNat_ofNat, Nat.mod_eq_of_lt (Nat.lt_of_le_of_lt (Nat.div_le_self x y) hx),
    Nat.mod_eq_of_lt (Nat.lt_trans hr hy)]
  exact ⟨(Nat.div_add_mod' x y).symm, hr⟩

/-! The divide instructions. -/

section

variable {m o n : Reg} {s : State}

theorem gives_of_divOkS64 (h : divOkS64 (getReg s m) (getReg s o) = true) :
    ∃ q r : Word, DivisionLaw (getReg s m).toInt (getReg s o).toInt q.toInt r.toInt ∧
      Gives (.divsQ m o n) n s (fun v => v = q) ∧ Gives (.modsQ m o n) n s (fun v => v = r) := by
  obtain ⟨hb, hover⟩ := (divOkS64_iff _ _).1 h
  refine ⟨(getReg s m).sdiv (getReg s o), (getReg s m).srem (getReg s o),
    divisionLaw_sdiv_srem (by decide) hover ((toInt_ne_zero_iff _).2 hb), .of_retire (if_pos h) ?_, .of_retire (if_pos h) ?_⟩
  · exact (ofInt_tdiv 64 (by decide) hover).trans (BitVec.signExtend_eq _)
  · exact (ofInt_tmod 64 _ _).trans (BitVec.signExtend_eq _)
theorem gives_of_divOkU64 (h : divOkU64 (getReg s m) (getReg s o) = true) :
    ∃ q r : Word, (getReg s m).toNat = q.toNat * (getReg s o).toNat + r.toNat ∧ r.toNat < (getReg s o).toNat ∧
      Gives (.divuQ m o n) n s (fun v => v = q) ∧ Gives (.moduQ m o n) n s (fun v => v = r) := by
  have hb := (BitVec.toNat_ne_iff_ne).2 ((divOkU64_iff _ _).1 h)
  obtain ⟨hlaw, hlt⟩ := eq_div_mul_add_mod_ofNat (getReg s m).isLt (getReg s o).isLt hb
  exact ⟨_, _, hlaw, hlt, .of_retire (if_pos h) rfl, .of_retire (if_pos h) rfl⟩
theorem gives_of_divOkS32 (h : divOkS32 (getReg s m) (getReg s o) = true) :
    ∃ q r : Word, DivisionLaw (getReg s m).toInt (getReg s o).toInt q.toInt r.toInt ∧
      q.toInt = (low32 q).toInt ∧ r.toInt = (low32 r).toInt ∧
      Gives (.divsL m o n) n s (fun v => v = q) ∧ Gives (.modsL m o n) n s (fun v => v = r) := by
  obtain ⟨ha, hb, hb0, hover⟩ := (divOkS32_iff _ _).1 h
  have hy := (toInt_ne_zero_iff _).2 hb0
  rw [ha, hb] at hover
  rw [hb] at hy
  refine ⟨((low32 (getReg s m)).sdiv (low32 (getReg s o))).signExtend 64,
    ((low32 (getReg s m)).srem (low32 (getReg s o))).signExtend 64, ?law, toInt_signExtend_eq_low32 _,
    toInt_signExtend_eq_low32 _, .of_retire (if_pos h) (ofInt_tdiv 64 (by decide) hover),
    .of_retire (if_pos h) (ofInt_tmod 64 _ _)⟩
  rw [ha, hb, BitVec.toInt_signExtend_of_le (by decide), BitVec.toInt_signExtend_of_le (by decide)]
  exact divisionLaw_sdiv_srem (by decide) hover hy
theorem gives_of_divOkU32 (h : divOkU32 (getReg s m) (getReg s o) = true) :
    ∃ q r : Word, (getReg s m).toNat = q.toNat * (getReg s o).toNat + r.toNat ∧ r.toNat < (getReg s o).toNat ∧
      Gives (.divuL m o n) n s (fun v => v = q) ∧ Gives (.moduL m o n) n s (fun v => v = r) := by
  obtain ⟨ha, hb, hb0⟩ := (divOkU32_iff _ _).1 h
  have hu {v : Word} (hv : v.toNat < 2 ^ 32) : u32 v = v.toNat :=
    (BitVec.toNat_setWidth ..).trans (Nat.mod_eq_of_lt hv)
  obtain ⟨hlaw, hlt⟩ := eq_div_mul_add_mod_ofNat (getReg s m).isLt (getReg s o).isLt ((BitVec.toNat_ne_iff_ne).2 hb0)
  rw [← hu ha, ← hu hb] at hlaw hlt ⊢
  exact ⟨_, _, hlaw, hlt, .of_retire (if_pos h) rfl, .of_retire (if_pos h) rfl⟩

/-! Without a quotient a free value is written (R375, log 21). -/
theorem free_of_not_divOkS64 (h : ¬ divOkS64 (getReg s m) (getReg s o) = true) :
    GivesFree (.divsQ m o n) 1 n s (· = Config.draw s.draws) ∧ GivesFree (.modsQ m o n) 1 n s (· = Config.draw s.draws) :=
  ⟨.of_freeWord (if_neg h), .of_freeWord (if_neg h)⟩
theorem free_of_not_divOkU64 (h : ¬ divOkU64 (getReg s m) (getReg s o) = true) :
    GivesFree (.divuQ m o n) 1 n s (· = Config.draw s.draws) ∧ GivesFree (.moduQ m o n) 1 n s (· = Config.draw s.draws) :=
  ⟨.of_freeWord (if_neg h), .of_freeWord (if_neg h)⟩
theorem free_of_not_divOkS32 (h : ¬ divOkS32 (getReg s m) (getReg s o) = true) :
    GivesFree (.divsL m o n) 1 n s (· = Config.draw s.draws) ∧ GivesFree (.modsL m o n) 1 n s (· = Config.draw s.draws) :=
  ⟨.of_freeWord (if_neg h), .of_freeWord (if_neg h)⟩
theorem free_of_not_divOkU32 (h : ¬ divOkU32 (getReg s m) (getReg s o) = true) :
    GivesFree (.divuL m o n) 1 n s (· = Config.draw s.draws) ∧ GivesFree (.moduL m o n) 1 n s (· = Config.draw s.draws) :=
  ⟨.of_freeWord (if_neg h), .of_freeWord (if_neg h)⟩

end

/-! ### Step divide (42_shift_muldiv.md R386) -/

theorem shiftLeft_one_or_boolWord (v : Word) (t : Bool) : v <<< 1 ||| boolWord t = v + v + boolWord t := by
  have hdouble : v <<< 1 = v + v := by
    rw [BitVec.shiftLeft_eq_mul_twoPow, BitVec.mul_comm]
    exact BitVec.two_mul
  have hdisjoint : v <<< 1 &&& boolWord t = 0#64 := by
    apply BitVec.eq_of_getLsbD_eq
    intro k hk
    rw [BitVec.getLsbD_and, BitVec.getLsbD_shiftLeft, getLsbD_boolWord]
    by_cases h : k = 0 <;> simp [h]
  rw [← BitVec.add_eq_or_of_and_eq_zero _ _ hdisjoint, hdouble]
theorem exec_div1 {s : State} {d : Word} (h : getReg s dlr <<< 1 ||| boolWord (srT s) = d) : exec .div1 s =
    let e := if srS s then d + getReg s dhr else d - getReg s dhr
    let q := bitAt (getReg s dlr) 31 != bitAt e 32
    retire (setT (setS (setReg s dlr e) q) (!q)) := by
  subst h
  rfl
theorem getLsbD_setBit_setBit (v : Word) (q t : Bool) {k : Nat} (hk : k < 64) :
    (setBit (setBit v 1 q) 0 t).getLsbD k = if k = 0 then t else if k = 1 then q else v.getLsbD k := by
  simp only [getLsbD_setBit, hk, and_true]

/-- Settles O31: the law of truncated division where the operands have a quotient, a free value elsewhere. -/
theorem divisionLawAndItsGaps : Obligations.DivisionLawAndItsGaps := by
  refine ⟨fun m o n s => ?law, fun m o n s => ?gaps⟩
  case law =>
    exact ⟨fun hb hover => gives_of_divOkS64 ((divOkS64_iff _ _).2 ⟨hb, hover⟩),
      fun hb => gives_of_divOkU64 ((divOkU64_iff _ _).2 hb),
      fun ha hb hb0 hover => gives_of_divOkS32 ((divOkS32_iff _ _).2 ⟨ha, hb, hb0, hover⟩),
      fun ha hb hb0 => gives_of_divOkU32 ((divOkU32_iff _ _).2 ⟨ha, hb, hb0⟩)⟩
  case gaps =>
    intro a b free lo
    refine ⟨fun hb i hi => ?zero, fun ha hb => free_of_not_divOkS64 (mt (divOkS64_iff a b).1 (by tauto)),
      fun h => free_of_not_divOkS32 (mt (divOkS32_iff a b).1 (by tauto)),
      fun h => free_of_not_divOkU32 (mt (divOkU32_iff a b).1 (by omega)), ?div1⟩
    case zero =>
      obtain ⟨hdivsQ, hmodsQ⟩ := free_of_not_divOkS64 (n := n) (mt (divOkS64_iff a b).1 fun ok => ok.1 hb)
      obtain ⟨hdivuQ, hmoduQ⟩ := free_of_not_divOkU64 (n := n) (mt (divOkU64_iff a b).1 fun ok => ok hb)
      obtain ⟨hdivsL, hmodsL⟩ := free_of_not_divOkS32 (n := n) (mt (divOkS32_iff a b).1 fun ⟨_, _, hb0, _⟩ => hb0 hb)
      obtain ⟨hdivuL, hmoduL⟩ := free_of_not_divOkU32 (n := n) (mt (divOkU32_iff a b).1 fun ⟨_, _, hb0⟩ => hb0 hb)
      simp only [List.mem_cons, List.not_mem_nil, or_false] at hi
      rcases hi with rfl | rfl | rfl | rfl | rfl | rfl | rfl | rfl <;> assumption
    case div1 => exact ⟨_, exec_div1 (shiftLeft_one_or_boolWord _ _), fun k hk => getLsbD_setBit_setBit _ _ _ hk⟩

end Sys2Proof.Machine

/-! ### Load immediate (43_load_immediate.md R391 to R402) -/

namespace Sys2Proof.Machine

open Sys2Proof

section

variable {w e : Nat}

theorem toNat_shiftLeft_eq_mul_mod (v : BitVec w) : (v <<< e).toNat = v.toNat * 2 ^ e % 2 ^ w := by
  rw [BitVec.toNat_shiftLeft, Nat.shiftLeft_eq]
/-- An immediate that still fits after its shift loses nothing. -/
theorem toNat_setWidth_shiftLeft {u : Nat} (i : BitVec u) (h : u + e ≤ w) : (i.setWidth w <<< e).toNat = i.toNat * 2 ^ e := by
  have hfits : i.toNat * 2 ^ e < 2 ^ w := calc
    i.toNat * 2 ^ e < 2 ^ u * 2 ^ e := Nat.mul_lt_mul_of_pos_right i.isLt (Nat.two_pow_pos e)
    _ = 2 ^ (u + e) := (Nat.pow_add ..).symm
    _ ≤ 2 ^ w := Nat.pow_le_pow_right (by decide) h
  rw [toNat_shiftLeft_eq_mul_mod, BitVec.toNat_setWidth_of_le (by omega), Nat.mod_eq_of_lt hfits]
/-- The bits that enter at the bottom add to those that move up. -/
theorem toNat_shiftLeft_or {v x : BitVec w} (h : x.toNat < 2 ^ e) :
    (v <<< e ||| x).toNat = (v.toNat * 2 ^ e + x.toNat) % 2 ^ w := calc
  (v <<< e ||| x).toNat = v.toNat <<< e % 2 ^ w ||| x.toNat % 2 ^ w := by
    rw [BitVec.toNat_or, BitVec.toNat_shiftLeft, Nat.mod_eq_of_lt x.isLt]
  _ = (v.toNat <<< e ||| x.toNat) % 2 ^ w := (Nat.or_mod_two_pow ..).symm
  _ = (v.toNat * 2 ^ e + x.toNat) % 2 ^ w := by rw [← Nat.shiftLeft_add_eq_or_of_lt h, Nat.shiftLeft_eq]
theorem getLsbD_shiftLeft_or (v x : BitVec w) {k : Nat} (hk : k < w) :
    (v <<< e ||| x).getLsbD k = (x.getLsbD k || decide (e ≤ k) && v.getLsbD (k - e)) := by
  rw [BitVec.getLsbD_or, Bool.or_comm, BitVec.getLsbD_shiftLeft, decide_eq_true hk, Bool.true_and, ← decide_not]
  simp only [Nat.not_lt]

end

/-- One-extended, an immediate of 10 bits is 2^10 below its number (R390), and the shift by 16 keeps that. -/
theorem toInt_ones_append_shiftLeft (i : BitVec 10) :
    ((BitVec.allOnes 54 ++ i) <<< 16).toInt = ((i.toNat : Int) - 2 ^ 10) * 2 ^ 16 := by
  have hi := i.isLt
  have hones : (BitVec.allOnes 54 ++ i).toNat = (2 ^ 54 - 1) * 2 ^ 10 + i.toNat := by
    rw [BitVec.toNat_append, ← Nat.shiftLeft_add_eq_or_of_lt hi, Nat.shiftLeft_eq, BitVec.toNat_allOnes]
  rw [BitVec.toInt_eq_toNat_cond, toNat_shiftLeft_eq_mul_mod, hones]
  omega

/-- Settles O32, each value as the immediate shifted to its place. -/
theorem loadImmediateValues : Obligations.LoadImmediateValues := by
  intro x i10 i32 n s r
  simp only [List.forall_mem_cons, List.not_mem_nil, false_implies, implies_true, and_true]
  exact ⟨⟨.of_retire rfl rfl, .of_retire rfl rfl, .of_retire rfl rfl, .of_retire rfl rfl⟩,
    .of_retire rfl (toNat_shiftLeft_eq_mul_mod x), .of_retire rfl (toNat_shiftLeft_eq_mul_mod x),
    .of_retire rfl (toInt_ones_append_shiftLeft i10),
    ⟨.of_retire rfl (toNat_setWidth_shiftLeft i10 (by decide)), .of_retire rfl (toNat_setWidth_shiftLeft i10 (by decide)),
      .of_retire rfl (toNat_setWidth_shiftLeft i10 (by decide))⟩,
    ⟨.of_retire rfl ⟨toNat_shiftLeft_or, fun _ => getLsbD_shiftLeft_or _ x⟩,
      .of_retire rfl ⟨toNat_shiftLeft_or, fun _ => getLsbD_shiftLeft_or _ x⟩⟩,
    .of_retire rfl (toNat_shiftLeft_eq_mul_mod x), .of_retire rfl (toNat_setWidth_shiftLeft i32 (by decide)),
    .of_retire rfl (toNat_shiftLeft_eq_mul_mod x), .of_retire rfl (toNat_setWidth_shiftLeft i32 (by decide))⟩

end Sys2Proof.Machine

/-! ### Loads (44_load_store.md R435 to R442; 45_load_store_ext.md R480, R510 to R512) -/

namespace Sys2Proof.Machine

open Sys2Proof

section

variable {i : Instr} {n : Reg} {a : Addr} {s s' : State} {space va size : Nat} {ext : Word → Word} {P : Nat → Word → Prop}

/-- The number of size bytes is below 2^(8 * size). -/
theorem Access.bytesLE_lt {k : Config.Access} {pas : List Nat} (t : State) (h : Access k space va size s pas s') :
    bytesLE t pas < 256 ^ size := by
  have hlen : pas.length = size := (resolveAll_ok h.1).1.trans (spanOf_length ..)
  exact hlen ▸ Machine.bytesLE_lt t pas

/-- A read goes on with the number of the bytes, after the draws of its translation. -/
theorem readVA_eq_drew {pas : List Nat} (h : Access .read space va size s pas s') :
    ∃ k, s' = s.drew k ∧ ∀ go, readVA space va size s go = go (bytesLE s pas) (touched (s.drew k) pas) := by
  obtain ⟨-, k, rfl⟩ := resolveAll_ok h.1
  have hdrew : bytesLE (s.drew k) pas = bytesLE s pas := bytesLE_congr pas fun _ _ => rfl
  exact ⟨k, rfl, fun go => hdrew ▸ readVA_eq h⟩

/-- An instruction that writes the extended value of the bytes it reads. -/
theorem Loads.of_readVA (hi : exec i s = readVA space va size s fun v t => retire (setReg t n (ext (BitVec.ofNat 64 v))))
    (hP : ∀ x, x < 256 ^ size → P x (ext (BitVec.ofNat 64 x))) : Loads i n space va size s P := by
  intro pas s' h
  obtain ⟨k, rfl, hread⟩ := readVA_eq_drew h
  exact ⟨k, (touched (s.drew k) pas).stale, _, rfl, hi.trans (hread _), touched_sameOlder _ _, hP _ (h.bytesLE_lt s)⟩
theorem Loads.of_load (hi : exec i s = load size ext n a s) (hP : ∀ x, x < 256 ^ size → P x (ext (BitVec.ofNat 64 x))) :
    Loads i n (vaSpace s) (vaOf s (effAddr s size a)) size s P := .of_readVA hi hP

theorem aligned_eq {k : Nat} {ea : Word} (go : Out State) (h : ea.toNat % k = 0) : aligned k ea go = go := if_pos h
theorem aligned_refused {k : Nat} {ea : Word} (go : Out State) (h : ea.toNat % k ≠ 0) : aligned k ea go = .refused .misaligned :=
  if_neg h

theorem Loads.of_loadTW (hi : exec i s = loadTW ext n a s) (ha : (effAddr s 2 a).toNat % 2 = 0)
    (hP : ∀ x, x < 256 ^ 6 → P x (ext (BitVec.ofNat 64 x))) : Loads i n (vaSpace s) (vaOf s (effAddr s 2 a)) 6 s P :=
  .of_readVA (hi.trans (aligned_eq _ ha)) hP

/-! The value of n bytes, extended. -/

theorem toInt_sext_ofNat {k : Nat} (hk : k ≤ 64) (x : Nat) : (sext k (BitVec.ofNat 64 x)).toInt = (BitVec.ofNat k x).toInt := by
  rw [sext, BitVec.toInt_signExtend_of_le hk, BitVec.setWidth_ofNat_of_le hk]
theorem toNat_zext_ofNat {k x : Nat} (hk : k ≤ 64) (hx : x < 2 ^ k) : (zext k (BitVec.ofNat 64 x)).toNat = x := by
  have h64 : x < 2 ^ 64 := Nat.lt_of_lt_of_le hx (Nat.pow_le_pow_right (by decide) hk)
  rw [toNat_zext _ hk, BitVec.toNat_ofNat, Nat.mod_eq_of_lt h64, Nat.mod_eq_of_lt hx]
/-- The ones above bit 31 add 2^64 - 2^32. -/
theorem toNat_oext_ofNat {x : Nat} (hx : x < 2 ^ 32) : (oext 32 (BitVec.ofNat 64 x)).toNat = 2 ^ 64 - 2 ^ 32 + x := by
  have hz : (zext 32 (BitVec.ofNat 64 x)).toNat = x := toNat_zext_ofNat (by decide) hx
  rw [oext, toNat_shiftLeft_or (hz.symm ▸ hx), hz, BitVec.toNat_allOnes]
  omega

/-- MOV.X is one access of 16 bytes at an address of scale 8 (45_load_store_ext.md R480). -/
theorem movX_load_eq {p : Pair} (hp : pairAllowed p = true) (ha : (effAddr s 8 a).toNat % 8 = 0) :
    exec (.movX .load p a) s = readMem (effAddr s 8 a) 16 s fun v t => retire (setPair t p (BitVec.ofNat 128 v)) :=
  (withPairs_eq (by simpa using hp)).trans (aligned_eq _ ha)
theorem movX_store_eq {p : Pair} (hp : pairAllowed p = true) (ha : (effAddr s 8 a).toNat % 8 = 0) :
    exec (.movX .store p a) s = writeMem (effAddr s 8 a) 16 (getPair s p).toNat s retire :=
  (withPairs_eq (by simpa using hp)).trans (aligned_eq _ ha)
/-- MOV.X refuses a misaligned address and a forbidden pair, in either direction (20_memory.md R73, 45_load_store_ext.md R481). -/
theorem movX_misaligned (d : Dir) {p : Pair} (hp : pairAllowed p = true) (ha : (effAddr s 8 a).toNat % 8 ≠ 0) :
    exec (.movX d p a) s = .refused .misaligned :=
  (withPairs_eq (by simpa using hp)).trans (aligned_refused _ ha)
theorem movX_forbidden (d : Dir) {p : Pair} (hp : pairAllowed p = false) : exec (.movX d p a) s = .refused .forbiddenPair :=
  withPairs_refused (by simpa using hp)

end

/-- Settles O35: each load is the one read, followed by its extension. -/
theorem loadsExtendTheirBytes : Obligations.LoadsExtendTheirBytes := by
  intro n p a s at' S
  refine ⟨.of_load rfl fun x _ => toInt_sext_ofNat (k := 8) (by decide) x,
    .of_load rfl fun x _ => toInt_sext_ofNat (k := 16) (by decide) x,
    .of_load rfl fun x _ => toInt_sext_ofNat (k := 32) (by decide) x, .of_load (ext := id) rfl fun x hx => Nat.mod_eq_of_lt hx,
    .of_load rfl fun x => toNat_zext_ofNat (k := 8) (by decide), .of_load rfl fun x => toNat_zext_ofNat (k := 16) (by decide),
    .of_load rfl fun x => toNat_zext_ofNat (k := 32) (by decide), .of_load rfl fun x => toNat_oext_ofNat,
    fun ha => ⟨.of_loadTW rfl ha fun x _ => toInt_sext_ofNat (k := 48) (by decide) x,
      .of_loadTW rfl ha fun x => toNat_zext_ofNat (k := 48) (by decide),
      .of_loadTW (ext := fun v => v <<< 16) rfl ha fun x hx => ?high⟩,
    fun ha => ?misaligned, fun hp ha pas s' h => ?pair, fun hp => movX_misaligned .load hp, movX_forbidden .load⟩
  case high =>
    rw [toNat_shiftLeft_eq_mul_mod, BitVec.toNat_ofNat]
    omega
  case misaligned =>
    simp only [List.forall_mem_cons, List.not_mem_nil, false_implies, implies_true, and_true]
    exact ⟨aligned_refused _ ha, aligned_refused _ ha, aligned_refused _ ha⟩
  case pair =>
    obtain ⟨k, rfl, hread⟩ := readVA_eq_drew h
    exact ⟨k, (touched (s.drew k) pas).stale, BitVec.ofNat 128 (bytesLE s pas), rfl,
      (movX_load_eq hp ha).trans ((hread _).trans (retire_setPair ..)), touched_sameOlder _ _, Nat.mod_eq_of_lt (h.bytesLE_lt s)⟩

end Sys2Proof.Machine

/-! ### Stores (44_load_store.md R435 to R438; 45_load_store_ext.md R480, R510, R512) -/

namespace Sys2Proof.Machine

open Sys2Proof

section

variable {i : Instr} {n : Reg} {a : Addr} {s : State} {space va size v : Nat}

/-- A store of several bytes changes memory and what fetch may see late (20_memory.md R97). -/
theorem storeLE_eq (l : List Nat) (v : Nat) (s : State) :
    storeLE l v s = { s with mem := (storeLE l v s).mem, stale := (storeLE l v s).stale } := by
  induction l generalizing v s with
  | nil => rfl
  | cons b l ih => exact ih (v / 256) (storeByte s b (BitVec.ofNat 8 v))

theorem stored_eq (pas : List Nat) (v : Nat) (s : State) :
    s.stored pas v = { s.done with mem := (s.stored pas v).mem, stale := (s.stored pas v).stale } := by
  rw [State.stored, storeLE_eq]
  rfl
theorem stored_recorded (pas : List Nat) (v : Nat) (s : State) : Recorded s pas (s.stored pas v).stale :=
  .of_sameOlder (t := touched s pas) rfl (touched_sameOlder s pas) (storeLE_recorded ..)

/-- An instruction that writes a number. -/
theorem Stores.of_writeVA (hi : exec i s = writeVA space va size v s retire) : Stores i space va size s v := by
  intro pas s' h
  have hram := h.ram
  obtain ⟨hlen, k, rfl⟩ := resolveAll_ok h.1
  refine ⟨k, ((s.drew k).stored pas v).stale, ((s.drew k).stored pas v).mem, rfl, ?next, stored_recorded pas v (s.drew k),
    fun b hb => read_storeLE_of_not_mem pas v _ b hb, fun hwf hnodup => ?number⟩
  case next => rw [hi, writeVA_eq h, retire_eq, ← State.stored, ← stored_eq]
  case number => calc
    bytesLE { s with mem := ((s.drew k).stored pas v).mem } pas
    _ = bytesLE ((s.drew k).stored pas v) pas :=
      bytesLE_congr pas fun b _ => readByte_congr (storeLE_map pas v (touched (s.drew k) pas)).symm rfl
    _ = v % 256 ^ pas.length := bytesLE_stored v hwf hnodup hram
    _ = v % 256 ^ size := by rw [hlen, spanOf_length]
theorem Stores.of_store (hi : exec i s = store size n a s) :
    Stores i (vaSpace s) (vaOf s (effAddr s size a)) size s (getReg s n).toNat := .of_writeVA hi
theorem Stores.of_storeTW {x : Word} (hi : exec i s = storeTW x a s) (ha : (effAddr s 2 a).toNat % 2 = 0) :
    Stores i (vaSpace s) (vaOf s (effAddr s 2 a)) 6 s x.toNat := .of_writeVA (hi.trans (aligned_eq _ ha))

end

/-- Settles O36: each store is the one write, of the register or of its bits 63:16. -/
theorem storesWriteOnlyTheirBytes : Obligations.StoresWriteOnlyTheirBytes := by
  intro n p a s at' S x
  have hhigh : (getReg s n >>> 16).toNat = x / 2 ^ 16 := by rw [BitVec.toNat_ushiftRight, Nat.shiftRight_eq_div_pow]
  exact ⟨.of_store rfl, .of_store rfl, .of_store rfl, .of_store rfl,
    fun ha => ⟨.of_storeTW rfl ha, hhigh ▸ .of_storeTW rfl ha⟩, fun ha => ⟨aligned_refused _ ha, aligned_refused _ ha⟩,
    fun hp ha => .of_writeVA (movX_store_eq hp ha), fun hp => movX_misaligned .store hp, movX_forbidden .store⟩

end Sys2Proof.Machine

/-! ### Effective addresses through LEA (44_load_store.md R421 to R449) -/

namespace Sys2Proof.Machine

open Sys2Proof

section

variable {i : Instr} {m n o : Reg} {s : State}

/-! The base, the index and the scale (R421, R422). -/

theorem dispBase_reg (hm : m ≠ 0#6 ∧ m ≠ 1#6) : dispBase s m = (getReg s m, false) := by
  rw [dispBase, if_neg hm.1, if_neg hm.2]
theorem indexParts_dlr (s : State) : indexParts s 0#6 1#6 = (getReg s 0#6, 0#64, false) := rfl
theorem indexParts_tbr (s : State) : indexParts s 1#6 1#6 = (s.tbr, getReg s 0#6, true) := rfl
theorem indexParts_pc (ho : o ≠ 1#6) : indexParts s 0#6 o = (npcWord s, getReg s o, true) := by simp [indexParts, ho]
theorem indexParts_gbr (ho : o ≠ 1#6) : indexParts s 1#6 o = (gbrAddr s, getReg s o, true) := by simp [indexParts, ho]
theorem indexParts_reg_dlr (hm : m ≠ 0#6 ∧ m ≠ 1#6) : indexParts s m 1#6 = (getReg s m, getReg s 0#6, true) := by
  simp [indexParts, hm, dlr]
theorem indexParts_reg (hm : m ≠ 0#6 ∧ m ≠ 1#6) (ho : o ≠ 1#6) : indexParts s m o = (getReg s m, getReg s o, false) := by
  simp [indexParts, hm, ho]
/-- The registers that are ordinary bases and indices. -/
theorem two_le_toNat_iff : 2 ≤ m.toNat ↔ m ≠ 0#6 ∧ m ≠ 1#6 := by bv_omega


/-! The address of the indexed forms, by their parts (R422, R426). -/

section

variable {b x : Word} (scale : Nat) (d11 : BitVec 11) (sc : BitVec 2) (d9 : BitVec 9)

theorem effAddr_index_of_byte (h : indexParts s m o = (b, x, true)) : effAddr s scale (.index m o) = b + x := by
  rw [effAddr, h]; rfl
theorem effAddr_indexDisp_of_byte (h : indexParts s m o = (b, x, true)) :
    effAddr s scale (.indexDisp m o d11) = b + x + d11.setWidth 64 := by
  rw [effAddr, h]; rfl
theorem effAddr_indexSc_of_byte (h : indexParts s m o = (b, x, true)) :
    effAddr s scale (.indexSc m o sc d9) = b + (if o = 1#6 then x else x <<< sc.toNat) + d9.setWidth 64 := by
  rw [effAddr, h]; rfl
theorem effAddr_index_of_scaled (h : indexParts s m o = (b, x, false)) :
    effAddr s scale (.index m o) = b + BitVec.ofNat 64 scale * x := by
  rw [effAddr, h]; rfl
theorem effAddr_indexDisp_of_scaled (h : indexParts s m o = (b, x, false)) :
    effAddr s scale (.indexDisp m o d11) = b + BitVec.ofNat 64 scale * x + BitVec.ofNat 64 scale * d11.setWidth 64 := by
  rw [effAddr, h]; rfl
theorem effAddr_indexSc_of_scaled (h : indexParts s m o = (b, x, false)) :
    effAddr s scale (.indexSc m o sc d9) = b + x <<< sc.toNat + BitVec.ofNat 64 scale * d9.setWidth 64 := by
  rw [effAddr, h]; rfl

end

/-- LEA writes the address reduced to the mode's space (20_memory.md R83). -/
theorem toNat_leaResult (s : State) (ea : Word) :
    (leaResult s ea).toNat = if s.sr.getLsbD 31 then ea.toNat % 2 ^ 48 else ea.toNat % 2 ^ 32 := by
  rw [leaResult, vaOf_eq, vaSpace_eq, BitVec.toNat_ofNat]
  split <;> omega
theorem Gives.of_lea {size : Nat} {a : Addr} {ea : Word} (hi : exec i s = lea size n a s) (hea : effAddr s size a = ea) :
    Gives i n s (fun v => v.toNat = if s.sr.getLsbD 31 then ea.toNat % 2 ^ 48 else ea.toNat % 2 ^ 32) :=
  .of_retire hi (hea ▸ toNat_leaResult s _)

/-- The special bases and index: GBR, TBR, the next pc, DLR (R421). -/
theorem indexParts_special (h : m.toNat < 2 ∨ o = 1#6) (hdlr : ¬ (m = 0#6 ∧ o = 1#6)) :
    indexParts s m o =
      (if m = 0#6 then (if o = 1#6 then getReg s 0#6 else npcWord s)
        else if m = 1#6 then (if o = 1#6 then s.tbr else gbrAddr s) else getReg s m,
       if o = 1#6 then (if m = 0#6 then 0#64 else getReg s 0#6) else getReg s o, true) := by
  by_cases hm0 : m = 0#6
  · subst hm0
    have ho : o ≠ 1#6 := fun ho => hdlr ⟨rfl, ho⟩
    simp [indexParts_pc ho, ho]
  · by_cases hm1 : m = 1#6
    · subst hm1
      by_cases ho : o = 1#6
      · subst ho; exact indexParts_tbr s
      · simp [indexParts_gbr ho, ho]
    · have hge : ¬ m.toNat < 2 := Nat.not_lt.2 (two_le_toNat_iff.2 ⟨hm0, hm1⟩)
      have ho : o = 1#6 := h.resolve_left hge
      subst ho
      simp [indexParts_reg_dlr ⟨hm0, hm1⟩, hm0, hm1]

/-! ### The tag LEAT writes (47_system_ttag.md R660) -/

variable {a : Addr} {b : Word}

/-- v carries the tag LEAT gives an address moved from the pointer b: all of it where it is 1111, a bounded pointer's bound
or none, else none. -/
def CarriesTag (b v : Word) : Prop :=
  (slice b 60 4 = 0xF#4 → (slice v 48 16 : BitVec 16) = slice b 48 16) ∧
  (slice b 60 4 = 3#4 → (slice v 60 4 = 3#4 ∧ (slice v 48 8 : BitVec 8) = slice b 48 8) ∨ slice v 48 16 = 0#16) ∧
  (slice b 60 4 ≠ 0xF#4 → slice b 60 4 ≠ 3#4 → slice v 48 16 = 0#16)

theorem slice_tagged (tag : BitVec 16) (x : BitVec 48) : slice (tag ++ x : Word) 48 16 = tag := by simp
/-- Below the tag stands the address as LEA forms it. -/
theorem toNat_tagged_mod (tag : BitVec 16) (ea : Word) :
    (tag ++ slice (leaResult s ea) 0 48 : Word).toNat % 2 ^ 48 =
      if s.sr.getLsbD 31 then ea.toNat % 2 ^ 48 else ea.toNat % 2 ^ 32 := by
  rw [← BitVec.toNat_setWidth, BitVec.setWidth_append_eq_right, slice_zero_eq_setWidth _ (by decide), BitVec.toNat_setWidth,
    toNat_leaResult]
  split <;> omega
theorem leatTagOf_of_none (h : leatPointer s a = none) (ea : Word) :
    leatTagOf s a ea = 0#8 ++ slice s.sr 4 4 ++ 0#1 ++ slice s.sr 26 1 ++ 0#2 := by rw [leatTagOf, h]
theorem leatTagOf_of_some (h : leatPointer s a = some b) (ea : Word) (x : BitVec 48) :
    CarriesTag b (leatTagOf s a ea ++ x) := by
  simp only [leatTagOf, h, ptrTag, beq_iff_eq]
  refine ⟨fun hF => ?_, fun h3 => ?_, fun hF h3 => ?_⟩
  · rw [if_pos hF, slice_tagged]
  · have hF : slice b 60 4 ≠ 0xF#4 := by simp [h3]
    rw [if_neg hF, if_pos h3]
    cases Config.leatBias b (ea - zext 48 b) with
    | none => exact .inr (slice_tagged _ x)
    | some bias => exact .inl ⟨by simp, by simp⟩
  · rw [if_neg hF, if_neg h3, slice_tagged]
theorem leatTagOf_of_untagged (h : leatPointer s a = some 0#64) (ea : Word) : leatTagOf s a ea = 0#16 := by
  simp [leatTagOf, h, ptrTag]

end

/-- Settles O33: each address is the base and index the form names; LEA reduces it, and LEAT puts the tag of the pointer
moved above it. -/
theorem effectiveAddressesAndTheirTags : Obligations.EffectiveAddressesAndTheirTags := by
  refine ⟨?lea, ?leat⟩
  case lea =>
    intro m o n d d11 d9 sc s pc gbr r is e he
    have hlea : ∀ a, exec (e.1 a) s = lea e.2 n a s := by
      simp only [List.mem_cons, List.not_mem_nil, or_false] at he
      rcases he with rfl | rfl | rfl | rfl <;> exact fun _ => rfl
    obtain ⟨f, S⟩ := e
    have via {a : Addr} {ea : Word} (h : effAddr s S a = ea) : is (f a) ea := .of_lea (hlea a) h
    refine ⟨via rfl, via rfl, via rfl, via rfl, via rfl, via rfl, via rfl, via ?dlr, via rfl, via rfl,
      fun hm => ?base, fun ho => ?index, fun hm ho => ?scaled, fun h => ?special⟩
    case dlr => simp [effAddr_index_of_scaled S (indexParts_dlr s), r]
    case base =>
      have hm := two_le_toNat_iff.1 hm
      exact ⟨via (by simp only [effAddr, dispBase_reg hm]; rfl), via (by rw [effAddr, dispBase_reg hm]),
        via (effAddr_index_of_byte S (indexParts_reg_dlr hm))⟩
    case index =>
      obtain ⟨-, ho⟩ := two_le_toNat_iff.1 ho
      exact ⟨via (effAddr_index_of_byte S (indexParts_pc ho)), via (effAddr_index_of_byte S (indexParts_gbr ho))⟩
    case scaled =>
      have hparts := indexParts_reg (s := s) (two_le_toNat_iff.1 hm) ho
      exact ⟨via (effAddr_index_of_scaled S hparts), via (effAddr_indexDisp_of_scaled S d11 hparts),
        via (effAddr_indexSc_of_scaled S sc d9 hparts)⟩
    case special =>
      intro base index unit
      by_cases hdlr : m = 0#6 ∧ o = 1#6
      · obtain ⟨rfl, rfl⟩ := hdlr
        have hparts := indexParts_dlr s
        exact ⟨via (by simp [effAddr_index_of_scaled S hparts, base, index, r]),
          via (by simp [effAddr_indexDisp_of_scaled S d11 hparts, base, index, unit, r]),
          via (by simp [effAddr_indexSc_of_scaled S sc d9 hparts, base, index, unit, r])⟩
      · have hparts : indexParts s m o = (base, index, true) := indexParts_special h hdlr
        have hunit : unit = 1#64 := if_neg hdlr
        rw [hunit, BitVec.one_mul, BitVec.one_mul]
        exact ⟨via (effAddr_index_of_byte S hparts), via (effAddr_indexDisp_of_byte S d11 hparts),
          via (effAddr_indexSc_of_byte S sc d9 hparts)⟩
  case leat =>
    intro n a s e he ea dlrAlone under
    have hleat : exec e.1 s = leat e.2 n a s := by
      simp only [List.mem_cons, List.not_mem_nil, or_false] at he
      rcases he with rfl | rfl | rfl | rfl <;> rfl
    have hdlr (h0 : addrBase a = 0#6) : dlrAlone = indexIsDlr a := by
      cases a <;> simp_all [dlrAlone, indexIsDlr, addrBase]
    refine .of_retire hleat
      ⟨toNat_tagged_mod _ _, fun h0 halone => ?pc, fun h0 halone => ?link, fun h1 => ?untagged, fun h0 h1 => ?reg⟩
    case pc =>
      rw [slice_tagged]
      exact leatTagOf_of_none (by rw [leatPointer, if_pos h0, ← hdlr h0, halone]; rfl) _
    case link => exact leatTagOf_of_some (by rw [leatPointer, if_pos h0, ← hdlr h0, halone]; rfl) _ _
    case untagged =>
      rw [slice_tagged]
      exact leatTagOf_of_untagged (by rw [leatPointer, h1]; rfl) _
    case reg => exact leatTagOf_of_some (by rw [leatPointer, if_neg h0, if_neg h1]) _ _

end Sys2Proof.Machine

/-! ### What translation answers, and an access that faults or meets a device (20_memory.md R72 to R76, R86 to R89; 60_exceptions.md
R853) -/

namespace Sys2Proof.Machine

open Sys2Proof

section

variable {k : Config.Access} {s : State} {pas : List Nat}

/-! ### The translation of one byte -/

/-- The outcome of a translation that names a physical address, by what stands there (R86). -/
def arriveAt (s : State) (k : Config.Access) (pa : Nat) : Xlat :=
  if reachable k (regionOf s.map pa) then .ok pa else .bad (.exc .accessFault)

theorem translateByte_mmuOff (hm : s.mmcr = 0#64) (va : Nat) : translateByte s k va = arriveAt s k va := by
  simp [translateByte, translate, mmuOff, hm, arriveAt]
theorem translate_mmuOn (hm : s.mmcr ≠ 0#64) (va : Nat) :
    translate s k va =
      (s.tlb.reverse.findSome? fun e => Config.tlbHit e.ext e.bits e.regs s.krr s.sr va k).map (answerOf s k) := by
  have hon : mmuOff s = false := by simp [mmuOff, hm, Config.features]
  rw [translate, hon, tlbLook_eq]
  rfl

/-- The four keys of KRR (R89). -/
theorem any_key_eq_contains (krr : Word) (x : Half) :
    (List.range 4).any (fun k => slice krr (16 * k) 16 == x) =
      [slice krr 0 16, slice krr 16 16, slice krr 32 16, slice krr 48 16].contains x := by
  rw [List.contains_eq_any_beq]
  simp only [BEq.comm (a := x)]
  rfl

/-! What the ACL says of a VUGID, by the first entry found (R89). -/

theorem aclCheck_of_none {pa : Nat} {vugid : Half} (h : aclFind s vugid = none) : aclCheck s k pa vugid = .aclDenied := by
  rw [aclCheck, h]
theorem aclCheck_of_user {pa : Nat} {vugid : Half} {e : Word} (h : aclFind s vugid = some e)
    (hmode : Config.aclMode (slice e 32 12) = 1#3) :
    aclCheck s k pa vugid = if Config.aclGrants (slice e 32 12) s.sr k then .ok pa else .denied := by
  simp only [aclCheck, h, hmode, if_true]
theorem aclCheck_of_reserved {pa : Nat} {vugid : Half} {e : Word} (h : aclFind s vugid = some e)
    (hmode : Config.aclMode (slice e 32 12) ≠ 1#3) : aclCheck s k pa vugid = .aclReserved := by
  simp only [aclCheck, h, hmode, if_false]

/-! ### The first byte that does not translate -/

/-- The physical address a translation names. -/
def Xlat.pa? : Xlat → Option Nat
  | .ok pa => some pa
  | .bad _ => none
/-- Whether a translation fails. -/
def Xlat.fails : Xlat → Bool
  | .ok _ => false
  | .bad _ => true

theorem mapAll_of_none_fails {vas : List Nat}
    (h : (vas.map fun va => (va, translateByte s k va)).find? (fun x => x.2.fails) = none) :
    mapAll s k vas = .all (vas.filterMap fun va => (translateByte s k va).pa?) := by
  induction vas with
  | nil => rfl
  | cons va vas ih =>
    rw [List.map_cons, List.find?_cons] at h
    rw [mapAll, List.filterMap_cons]
    cases hx : translateByte s k va with
    | bad b => simp [hx, Xlat.fails] at h
    | ok pa =>
      rw [hx] at h
      rw [ih h]
      rfl
theorem mapAll_of_first_fails {vas : List Nat} {va : Nat} {x : Xlat}
    (h : (vas.map fun va => (va, translateByte s k va)).find? (fun x => x.2.fails) = some (va, x)) :
    ∃ b, x = .bad b ∧ mapAll s k vas = .fails va b := by
  induction vas with
  | nil => cases h
  | cons va' vas ih =>
    rw [List.map_cons, List.find?_cons] at h
    rw [mapAll]
    cases hx : translateByte s k va' with
    | bad b =>
      rw [hx] at h
      cases h
      exact ⟨b, rfl, rfl⟩
    | ok pa =>
      rw [hx] at h
      obtain ⟨b, hb, hfails⟩ := ih h
      exact ⟨b, hb, by rw [hfails]; rfl⟩

theorem resolve_of_all {space va n : Nat} {go : List Nat → State → Out State} (hw : s.tripwires = [])
    (h : mapAll s k (spanOf space va n) = .all pas) : resolve k space va n s go = go pas s := by
  simp only [resolve, resolveAll, h, tripped_of_no_tripwires _ _ hw]
theorem resolve_of_fails {space va n x : Nat} {b : Barred} {go : List Nat → State → Out State} (hw : s.tripwires = [])
    (h : mapAll s k (spanOf space va n) = .fails x b) : resolve k space va n s go = barAt (va % space) x b s := by
  simp only [resolve, resolveAll, h, tripped_of_no_tripwires _ _ hw]
/-- R853: the access's own address, or the first of the page of the byte that fails. -/
theorem teaOf_eq (va b : Nat) :
    teaOf va b = if pageOf b = pageOf va then va else pageOf b * 2 ^ Config.pageBytesLog2 := by
  by_cases hb : b = va
  · rw [teaOf, if_pos (.inl hb), if_pos (congrArg pageOf hb)]
  · simp only [teaOf, hb, false_or]

/-! ### An access to some physical addresses (R72, R75, R76) -/

theorem touched_nil (s : State) : touched s [] = s := by
  have hstage (e : StaleByte) : { e with stage := touchStage s [] e } = e := by simp [touchStage, snipes]
  simp only [touched, hstage, List.map_id']

theorem deviceAccess_eq {st : Option Nat} {go : Nat → State → Out State} (hlen : pas.length ∣ 8)
    (hdev : ∀ pa ∈ pas, regionOf s.map pa = .mmio) (ha : pas.headD 0 % pas.length = 0) :
    ∃ v, deviceAccess pas st s go =
      go v { s with device := s.device ++ [{ addr := pas.headD 0, size := pas.length, stored := st }] } := by
  have hall : pas.all (isMmio s) = true := List.all_eq_true.2 fun pa h => beq_iff_eq.2 (hdev pa h)
  exact ⟨_, if_pos (by rw [hall, Nat.gcd_eq_left hlen, Bool.true_and]; exact beq_iff_eq.2 ha)⟩
theorem deviceAccess_refused {st : Option Nat} {go : Nat → State → Out State} (hlen : pas.length ∣ 8)
    (h : ¬ ((∀ pa ∈ pas, regionOf s.map pa = .mmio) ∧ pas.headD 0 % pas.length = 0)) :
    deviceAccess pas st s go = .refused .mmio := by
  refine if_neg fun hok => h ?_
  rw [Nat.gcd_eq_left hlen] at hok
  simpa [isMmio] using hok

theorem any_isMmio_iff : pas.any (isMmio s) = false ↔ ∀ pa ∈ pas, regionOf s.map pa ≠ .mmio := by simp [isMmio]

/-- At most 8 bytes are one access (R72, R75). -/
theorem readAt_of_le {go : Nat → State → Out State} (hlen : pas.length ≤ 8) :
    readAt pas s go = if pas.any (isMmio s) then deviceAccess pas none s go else go (bytesLE s pas) (touched s pas) := by
  cases h : pas.any (isMmio s) <;>
    simp [readAt, readPiece, h, List.take_of_length_le hlen, List.drop_of_length_le hlen, bytesLE, touched_nil]
theorem writeAt_of_le {v : Nat} {go : State → Out State} (hlen : pas.length ≤ 8) :
    writeAt pas v s go =
      if pas.any (isMmio s) then deviceAccess pas (some (v % 256 ^ pas.length)) s fun _ => go
      else go (storeLE pas v (touched s pas)) := by
  cases h : pas.any (isMmio s) <;>
    simp [writeAt, writePiece, h, List.take_of_length_le hlen, List.drop_of_length_le hlen, storeLE, touched_nil]

/-- How an access of size bytes that all translate ends: it completes; where a device has all of them, aligned, it sees the
access; where it has them otherwise, the instruction is refused. -/
structure Answers (size : Nat) (st : Option Nat) (pas : List Nat) (s : State) (o : Out State) : Prop where
  ordinary : (∀ pa ∈ pas, regionOf s.map pa ≠ .mmio) → ∃ t, o = .next t ∧ t.faults = s.faults ∧ t.device = s.device
  device : ¬ (∀ pa ∈ pas, regionOf s.map pa ≠ .mmio) →
    (∀ pa ∈ pas, regionOf s.map pa = .mmio) ∧ pas.headD 0 % size = 0 →
    ∃ t, o = .next t ∧ t.faults = s.faults ∧ t.mem = s.mem ∧
      t.device = s.device ++ [{ addr := pas.headD 0, size := size, stored := st }]
  refused : ¬ (∀ pa ∈ pas, regionOf s.map pa ≠ .mmio) →
    ¬ ((∀ pa ∈ pas, regionOf s.map pa = .mmio) ∧ pas.headD 0 % size = 0) → o = .refused .mmio

/-- Of ordinary bytes o' is the outcome, of a device's what follows its answer, which changes no memory. -/
theorem Answers.of_deviceAccess {st : Option Nat} {o o' : Out State} {go : Nat → State → Out State} (hlen : pas.length ∣ 8)
    (ho : o = if pas.any (isMmio s) then deviceAccess pas st s go else o')
    (hgo : ∀ v u, ∃ t, go v u = .next t ∧ t.faults = u.faults ∧ t.mem = u.mem ∧ t.device = u.device)
    (ho' : ∃ t, o' = .next t ∧ t.faults = s.faults ∧ t.device = s.device) : Answers pas.length st pas s o := by
  have hany (h : ¬ ∀ pa ∈ pas, regionOf s.map pa ≠ .mmio) : o = deviceAccess pas st s go :=
    ho.trans (if_pos (Bool.eq_true_of_not_eq_false (mt any_isMmio_iff.1 h)))
  refine ⟨fun h => ?_, fun h hdev => ?_, fun h hbad => (hany h).trans (deviceAccess_refused hlen hbad)⟩
  · rwa [ho, any_isMmio_iff.2 h]
  · obtain ⟨hall, ha⟩ := hdev
    obtain ⟨v, hv⟩ := deviceAccess_eq (st := st) (go := go) hlen hall ha
    rw [hany h, hv]
    exact hgo v _
theorem readAt_answers {n : Reg} {x : Nat → Word} (hlen : pas.length ∣ 8) :
    Answers pas.length none pas s (readAt pas s fun v t => retire (setReg t n (x v))) :=
  .of_deviceAccess hlen (readAt_of_le (Nat.le_of_dvd (by decide) hlen)) (fun _ _ => ⟨_, rfl, rfl, rfl, rfl⟩) ⟨_, rfl, rfl, rfl⟩
theorem writeAt_answers {v : Nat} (hlen : pas.length ∣ 8) :
    Answers pas.length (some (v % 256 ^ pas.length)) pas s (writeAt pas v s retire) :=
  .of_deviceAccess hlen (writeAt_of_le (Nat.le_of_dvd (by decide) hlen)) (fun _ _ => ⟨_, rfl, rfl, rfl, rfl⟩)
    ⟨_, rfl, storeLE_faults _ _ _, storeLE_device _ _ _⟩

/-! ### The loads and stores of 1, 2, 4 and 8 bytes (44_load_store.md R425) -/

/-- An instruction that loads Rn from an address, or stores it there, its kind of access and its size. -/
inductive DataMove (n : Reg) (a : Addr) (s : State) : Instr × Config.Access × Nat → Prop
  | load {i : Instr} {size : Nat} (ext : Word → Word) (hi : exec i s = Machine.load size ext n a s) (hsize : size ∣ 8) :
    DataMove n a s (i, .read, size)
  | store {i : Instr} {size : Nat} (hi : exec i s = Machine.store size n a s) (hsize : size ∣ 8) :
    DataMove n a s (i, .write, size)

/-- It translates its bytes and then makes one access. -/
theorem DataMove.exec_eq {n : Reg} {a : Addr} {i : Instr} {size : Nat} (h : DataMove n a s (i, k, size)) :
    ∃ go, exec i s = resolve k (vaSpace s) (vaOf s (effAddr s size a)) size s go ∧ ∀ pas, pas.length = size →
      Answers size (if k = .write then some ((getReg s n).toNat % 256 ^ size) else none) pas s (go pas s) := by
  cases h with
  | load ext hi hsize => exact ⟨_, hi, fun pas hlen => hlen ▸ readAt_answers (hlen ▸ hsize)⟩
  | store hi hsize => exact ⟨_, hi, fun pas hlen => hlen ▸ writeAt_answers (hlen ▸ hsize)⟩

variable {n : Reg} {a : Addr} {i : Instr} {size : Nat}

/-- Where no byte fails, the access decides. -/
theorem DataMove.answers (h : DataMove n a s (i, k, size)) (hw : s.tripwires = [])
    (hnone : ((spanOf (vaSpace s) (vaOf s (effAddr s size a)) size).map fun va => (va, translateByte s k va)).find?
      (fun x => x.2.fails) = none)
    (hpas : pas = (spanOf (vaSpace s) (vaOf s (effAddr s size a)) size).filterMap fun va => (translateByte s k va).pa?) :
    Answers size (if k = .write then some ((getReg s n).toNat % 256 ^ size) else none) pas s (exec i s) := by
  obtain ⟨go, hi, hgo⟩ := h.exec_eq
  have hall := hpas ▸ mapAll_of_none_fails hnone
  rw [hi, resolve_of_all hw hall]
  exact hgo pas ((mapAll_all hall).trans (spanOf_length ..))
/-- The first byte that fails bars the rest. -/
theorem DataMove.barred (h : DataMove n a s (i, k, size)) (hw : s.tripwires = []) {va : Nat} {x : Xlat}
    (hfirst : ((spanOf (vaSpace s) (vaOf s (effAddr s size a)) size).map fun va => (va, translateByte s k va)).find?
      (fun x => x.2.fails) = some (va, x)) :
    ∃ b, x = .bad b ∧ exec i s = barAt (vaOf s (effAddr s size a) % vaSpace s) va b s := by
  obtain ⟨go, hi, -⟩ := h.exec_eq
  obtain ⟨b, hb, hfails⟩ := mapAll_of_first_fails hfirst
  exact ⟨b, hb, hi.trans (resolve_of_fails hw hfails)⟩

end

/-- Settles O38: a translation by what the TLB and the ACL say; an access by the first of its bytes that fails, or, where none
does, by the regions of their physical addresses. -/
theorem memoryFaultNamesItsFirstAddress : Obligations.MemoryFaultNamesItsFirstAddress := by
  refine ⟨?translation, ?access⟩
  case translation =>
    intro k va s fault there keyed mode newest
    have hthere : arriveAt s k = there := funext fun pa => by
      simp only [arriveAt, there, fault, reachable]
      cases regionOf s.map pa <;> cases k <;> rfl
    refine ⟨fun hm => (translateByte_mmuOff hm va).trans (congrFun hthere va), fun hm => ?_⟩
    have htranslate : translate s k va = newest.map (answerOf s k) := translate_mmuOn hm va
    have hfind (vugid : Half) : aclFind s vugid = s.acl.find? fun e => keyed vugid e && mode e != 0#3 := by
      refine congrArg (List.find? · s.acl) (funext fun e => ?_)
      rw [any_key_eq_contains]
    rw [translateByte, htranslate]
    clear_value newest
    rcases newest with _ | (pa | _ | ⟨pa, vugid⟩)
    · rfl
    · exact congrFun hthere pa
    · rfl
    · rw [Option.map_some, answerOf]
      dsimp only
      have hentry := hfind vugid
      rcases hacl : s.acl.find? (fun e => keyed vugid e && mode e != 0#3) with _ | e <;> rw [hacl] at hentry
      · rw [aclCheck_of_none hentry]
      · by_cases hmode : mode e = 1#3
        · rw [aclCheck_of_user hentry hmode]
          refine Eq.trans ?_ (if_neg (not_not.2 hmode)).symm
          cases Config.aclGrants (slice e 32 12) s.sr k
          · rfl
          · exact congrFun hthere pa
        · rw [aclCheck_of_reserved hentry hmode]
          exact (if_pos hmode).symm
  case access =>
    intro n a s hw e he
    have hmove : DataMove n a s e := by
      revert e
      simp only [List.forall_mem_cons, List.not_mem_nil, false_implies, implies_true, and_true]
      exact ⟨.load (sext 8) rfl (by decide), .load (zext 8) rfl (by decide), .store rfl (by decide),
        .load (sext 16) rfl (by decide), .load (zext 16) rfl (by decide), .store rfl (by decide),
        .load (sext 32) rfl (by decide), .load (zext 32) rfl (by decide), .load (oext 32) rfl (by decide), .store rfl (by decide),
        .load id rfl (by decide), .store rfl (by decide)⟩
    obtain ⟨i, k, size⟩ := e
    dsimp -zeta only
    intro va page first
    have hspan : spanOf (vaSpace s) (vaOf s (effAddr s size a)) size = (List.range size).map va := spanOf_eq_range ..
    have hfirst : (((List.range size).map va).map fun va => (va, translateByte s k va)).find? (fun x => x.2.fails) = first := by
      rw [List.map_map]; rfl
    rw [← hspan] at hfirst
    clear_value first
    rcases first with _ | ⟨x, y⟩
    · dsimp -zeta only
      intro pas
      have hpas : pas = (spanOf (vaSpace s) (vaOf s (effAddr s size a)) size).filterMap fun va => (translateByte s k va).pa? := by
        rw [hspan, List.filterMap_map]; rfl
      have hanswers := hmove.answers hw hfirst hpas
      by_cases hordinary : ∀ pa ∈ pas, regionOf s.map pa ≠ .mmio
      · rw [if_pos hordinary]
        exact hanswers.ordinary hordinary
      · rw [if_neg hordinary]
        by_cases hdevice : (∀ pa ∈ pas, regionOf s.map pa = .mmio) ∧ pas.headD 0 % size = 0
        · rw [if_pos hdevice]
          exact hanswers.device hordinary hdevice
        · rw [if_neg hdevice]
          exact hanswers.refused hordinary hdevice
    · obtain ⟨b, rfl, hend⟩ := hmove.barred hw hfirst
      cases b with
      | refuse r => exact hend
      | exc e =>
        rw [barAt, raiseAt_eq, teaOf_eq] at hend
        exact hend

end Sys2Proof.Machine

/-! ### LDOP (45_load_store_ext.md R525) -/

namespace Sys2Proof.Machine

open Sys2Proof

section

variable {s s1 s2 : State} {n : Reg} {a : Addr} {u : BitVec 4} {k : LdOpSize} {pas pas' : List Nat}

/-! Reading and writing ordinary bytes (20_memory.md R72). -/

theorem readAt_ordinary (h : pas.any (isMmio s) = false) (go : Nat → State → Out State) :
    readAt pas s go = go (bytesLE s pas) (touched s pas) := by simp [readAt, h]
theorem writeAt_ordinary (h : pas.any (isMmio s) = false) (v : Nat) (go : State → Out State) :
    writeAt pas v s go = go (storeLE pas v (touched s pas)) := by simp [writeAt, h]

/-- The bytes stored in a memory with a state's bytes and map are the low bytes of the number, in that state too. -/
theorem bytesLE_mem_stored {t : State} (v : Nat) (hmem : t.mem = s.mem) (hmap : t.map = s.map) (hwf : Memory.wf s.mem = true)
    (hnodup : pas.Nodup) (hram : ∀ pa ∈ pas, regionOf s.map pa = .ram) :
    bytesLE { s with mem := (t.stored pas v).mem } pas = v % 256 ^ pas.length :=
  calc bytesLE { s with mem := (t.stored pas v).mem } pas
    _ = bytesLE (t.stored pas v) pas :=
      bytesLE_congr pas fun _ _ => readByte_congr ((storeLE_map pas v (touched t pas)).trans hmap).symm rfl
    _ = v % 256 ^ pas.length := bytesLE_stored v (hmem ▸ hwf) hnodup (hmap ▸ hram)

section

variable {ea : Word} {size : Nat}

/-- Both accesses reach their bytes before either is made; the second stores a number computed from what the first reads. -/
theorem readModifyWrite_eq (f : Nat → Nat) (go : Nat → State → Out State)
    (hread : Access .read (vaSpace s) (vaOf s ea) size s pas s1) (hwrite : Access .write (vaSpace s) (vaOf s ea) size s1 pas' s2) :
    readModifyWrite ea size f s go =
      go (bytesLE s2 pas) (storeLE pas' (f (bytesLE s2 pas)) (touched (touched s2 pas) pas')) := by
  have hd : Drew s1 s2 := (resolveAll_ok hwrite.1).2
  have hread2 : pas.any (isMmio s2) = false := isMmio_of_drew ((resolveAll_ok hread.1).2.trans hd) ▸ hread.2
  have hwrite2 : pas'.any (isMmio (touched s2 pas)) = false := isMmio_of_drew hd ▸ hwrite.2
  simp only [readModifyWrite, resolve, hread.1, hwrite.1, readAt_ordinary hread2, writeAt_ordinary hwrite2]

/-- What follows a read and a write finds free values read, the bytes stored and their record for fetch, and nothing else
changed. -/
theorem readModifyWrite_stores (f : Nat → Nat) (hread : Access .read (vaSpace s) (vaOf s ea) size s pas s1)
    (hwrite : Access .write (vaSpace s) (vaOf s ea) size s1 pas' s2) :
    ∃ (j : Nat) (l : List StaleByte) (M : List Host.Cell), s2 = s.drew j ∧
      (∀ go, readModifyWrite ea size f s go = go (bytesLE s pas) { s.drew j with mem := M, stale := l }) ∧
      Recorded s pas' l ∧ (∀ b, b ∉ pas' → Memory.read M b = Memory.read s.mem b) ∧
      (Memory.wf s.mem = true → pas'.Nodup → bytesLE { s with mem := M } pas' = f (bytesLE s pas) % 256 ^ size) := by
  have hrun := readModifyWrite_eq f (hread := hread) (hwrite := hwrite)
  have hlen : pas'.length = size := (resolveAll_ok hwrite.1).1.trans (spanOf_length ..)
  have hmap : s1.map = s.map := (resolveAll_ok hread.1).2.elim fun _ h => h ▸ rfl
  have hram : ∀ pa ∈ pas', regionOf s.map pa = .ram := hmap ▸ hwrite.ram
  obtain ⟨j, rfl⟩ := (resolveAll_ok hread.1).2.trans (resolveAll_ok hwrite.1).2
  have hv : bytesLE (s.drew j) pas = bytesLE s pas := bytesLE_congr pas fun _ _ => rfl
  rw [hv] at hrun
  generalize f (bytesLE s pas) = v at hrun ⊢
  refine ⟨j, ((touched (s.drew j) pas).stored pas' v).stale, ((touched (s.drew j) pas).stored pas' v).mem, rfl, fun go => ?run,
    .of_sameOlder (t := touched (s.drew j) pas) rfl (touched_sameOlder (s.drew j) pas) (stored_recorded pas' v _),
    fun b hb => read_storeLE_of_not_mem pas' v _ b hb, fun hwf hnodup => hlen ▸ bytesLE_mem_stored v rfl rfl hwf hnodup hram⟩
  case run =>
    rw [hrun, storeLE_eq]
    rfl

end

/-! The operation, the exchange and the extension (R525, log 41). -/

theorem ldopAlu_eq (u : BitVec 4) (x y : Word) :
    ldopAlu u x y =
      if u.toNat % 8 = 2 then x + y else if u.toNat % 8 = 3 then x - y else if u.toNat % 8 = 4 then y - x
      else if u.toNat % 8 = 5 then x &&& y else if u.toNat % 8 = 6 then x ||| y else if u.toNat % 8 = 7 then x ^^^ y
      else y := by
  have hslice : u.toNat % 8 = (slice u 0 3 : BitVec 3).toNat := by decide +revert
  rw [ldopAlu, hslice]
  generalize slice u 0 3 = c
  obtain ⟨i, hi⟩ := c
  interval_cases i <;> rfl
theorem ldopXchg_iff : ldopXchg u = true ↔ u.toNat % 8 = 1 := by decide +revert

/-- Unless it exchanges, a load combines Rn with the value read (R525). -/
theorem exec_ldop_load (h : ldopXchg u = false) :
    exec (.ldop u .load k n a) s = readMem (effAddr s (ldopBytes k) a) (ldopBytes k) s fun v t =>
      retire (setReg t n (ldopAlu u (getReg s n) (ldopExt k (BitVec.ofNat 64 v)))) := by
  change execLdop u .load k n a s = _
  simp only [execLdop, h]
/-- A store combines the value read with Rn in memory. -/
theorem exec_ldop_store (h : ldopXchg u = false) :
    exec (.ldop u .store k n a) s =
      readModifyWrite (effAddr s (ldopBytes k) a) (ldopBytes k)
        (fun v => (ldopAlu u (ldopExt k (BitVec.ofNat 64 v)) (getReg s n)).toNat) s fun _ => retire := by
  change execLdop u .store k n a s = _
  simp only [execLdop, h]
/-- The exchange is one in either direction. -/
theorem exec_ldop_exchange (d : Dir) (h : ldopXchg u = true) :
    exec (.ldop u d k n a) s =
      readModifyWrite (effAddr s (ldopBytes k) a) (ldopBytes k) (fun _ => (getReg s n).toNat) s fun v t =>
        retire (setReg t n (ldopExt k (BitVec.ofNat 64 v))) := by
  have halu (x y : Word) : ldopAlu u x y = y := by simp [ldopAlu_eq, ldopXchg_iff.1 h]
  change execLdop u d k n a s = _
  cases d <;> simp only [execLdop, h, halu]

end

/-- Settles O39: the loads are the one read, the exchanges and the stores the read and the write at its address. -/
theorem loadOpAndStoreOp : Obligations.LoadOpAndStoreOp := by
  intro u k n a s size va S r op ext alu
  have hsize : size = ldopBytes k := by cases k <;> rfl
  have hext {x : Nat} (hx : x < 256 ^ size) : ldopExt k (BitVec.ofNat 64 x) = ext x := by
    rw [hsize] at hx
    cases k with
    | b | w | l => exact congrArg (BitVec.signExtend 64) (BitVec.setWidth_ofNat_of_le (by decide) x)
    | q => rfl
    | ub | uw | ul =>
      simp only [ldopBytes] at hx
      exact BitVec.eq_of_toNat_eq ((toNat_zext_ofNat (by decide) (by omega)).trans (Nat.mod_eq_of_lt (by omega)).symm)
  have halu (x y : Word) : ldopAlu u x y = alu x y := ldopAlu_eq u x y
  clear_value size ext alu
  subst hsize
  have hop : ldopXchg u = true ↔ op = 1 := ldopXchg_iff
  refine ⟨fun h => .of_readVA (ext := fun w => ldopAlu u r (ldopExt k w)) (exec_ldop_load (Bool.eq_false_iff.2 (mt hop.1 h)))
    fun x hx => by rw [halu, hext hx], ?_⟩
  intro pas s1 pas' s2 hread hwrite new v
  have hv : ldopExt k (BitVec.ofNat 64 (bytesLE s pas)) = v := hext (hread.bytesLE_lt s)
  have exchange (d : Dir) (h : op = 1) : new (.ldop u d k n a) (some v) r := by
    obtain ⟨j, l, M, hdrew, hrun, hstored⟩ := readModifyWrite_stores (fun _ => r.toNat) hread hwrite
    exact ⟨j, l, M, hdrew, by rw [exec_ldop_exchange d (hop.2 h), hrun, hv]; rfl, hstored⟩
  refine ⟨fun h => ⟨exchange .load h, exchange .store h⟩, fun h => ?_⟩
  obtain ⟨j, l, M, hdrew, hrun, hstored⟩ :=
    readModifyWrite_stores (fun v => (ldopAlu u (ldopExt k (BitVec.ofNat 64 v)) r).toNat) hread hwrite
  rw [hv, halu] at hstored
  exact ⟨j, l, M, hdrew, by rw [exec_ldop_store (Bool.eq_false_iff.2 (mt hop.1 h)), hrun]; rfl, hstored⟩

end Sys2Proof.Machine

/-! ### Banked registers, and control registers in memory (45_load_store_ext.md R485, R530 to R533) -/

namespace Sys2Proof.Machine

open Sys2Proof

section

variable {s t : State} {i : BitVec 8} {p : Pair} {c : CReg} {v w : Word} {a : Addr}

theorem loWord_getPair (s : State) (p : Pair) : loWord (getPair s p) = getReg s (pairLo p) :=
  (loWord_eq_slice _).trans BitVec.extractLsb'_append_eq_right
theorem hiWord_getPair (s : State) (p : Pair) : hiWord (getPair s p) = getReg s (pairHi p) :=
  (hiWord_eq_slice _).trans BitVec.extractLsb'_append_eq_left

/-! The pair forms go on for an even id alone (R531, log 35). -/

theorem exec_rbsldX (hs : supervisor s = true) (hi : i.getLsbD 0 = false) :
    exec (.rbsldX i p) s = withPairs [p] (retire (setPair s p (quad (getRbs s (i ||| 1#8)) (getRbs s i)))) :=
  (supervisorOnly_eq hs).trans (congrArg (withPairs [p]) (if_neg (Bool.eq_false_iff.1 hi)))
theorem exec_rbsstX (hs : supervisor s = true) (hi : i.getLsbD 0 = false) (hp : pairAllowed p = true) :
    exec (.rbsstX i p) s = retire (setRbs (setRbs s i (getReg s (pairLo p))) (i ||| 1#8) (getReg s (pairHi p))) := by
  rw [← loWord_getPair, ← hiWord_getPair]
  exact (supervisorOnly_eq hs).trans ((withPairs_eq (by simpa using hp)).trans (if_neg (Bool.eq_false_iff.1 hi)))
theorem exec_rbsldX_odd (hs : supervisor s = true) (hi : i.getLsbD 0 = true) (hp : pairAllowed p = true) :
    exec (.rbsldX i p) s = .refused .rbsPair :=
  (supervisorOnly_eq hs).trans ((withPairs_eq (by simpa using hp)).trans (if_pos hi))
theorem exec_rbsstX_odd (hs : supervisor s = true) (hi : i.getLsbD 0 = true) (hp : pairAllowed p = true) :
    exec (.rbsstX i p) s = .refused .rbsPair :=
  (supervisorOnly_eq hs).trans ((withPairs_eq (by simpa using hp)).trans (if_pos hi))

/-! Who may read and write a control register (47_system_ttag.md R590, R591). -/

theorem readControl_eq (hs : supervisor s = true) (hc : controlValue s c = some v) (go : Word → Out State) :
    readControl c s go = go v := by simp [readControl, hc, hs]
theorem readControl_undefined (hc : controlValue s c = none) (go : Word → Out State) :
    readControl c s go = .next (s.trapped .undefinedInstruction none) := by simp [readControl, hc, raise_eq]
theorem mayWriteControl_eq (hs : supervisor s = true) (hc : controlValue s c = some v) (h0 : c ≠ 0#6) (go : Out State) :
    mayWriteControl c s go = go := by simp [mayWriteControl, hc, h0, hs]
theorem mayWriteControl_undefined (hc : controlValue s c = none) (go : Out State) :
    mayWriteControl c s go = .next (s.trapped .undefinedInstruction none) := by simp [mayWriteControl, hc, raise_eq]
theorem exec_movC_load_pc (a : Addr) (s : State) : exec (.movC .load 0#6 a) s = .refused .writeToPC := rfl

/-- A state in which an assigned control register other than C0 holds a value; the others, the general registers, memory,
the bytes fetch may see late and npc are as they were. -/
structure SetsControl (c : CReg) (v : Word) (s t : State) : Prop where
  value : controlValue t c = some v
  others : ∀ c', c' ≠ c → c' ≠ 0#6 → controlValue t c' = controlValue s c'
  regs : t.regs = s.regs
  mem : t.mem = s.mem
  stale : t.stale = s.stale
  npc : t.npc = s.npc

/-- Setting a register goes on from such a state, but that a reserved SR bit stays clear (10_state.md R28). -/
theorem setControl_eq (hc : controlValue s c = some w) (h0 : c ≠ 0#6) (hsr : c = 2#6 → v &&& srReserved = 0#64)
    (go : State → Out State) : ∃ t, setControl c v s go = go t ∧ SetsControl c v s t := by
  unfold controlValue at hc
  split at hc
  case h_1 => exact absurd rfl h0
  case h_15 => cases hc
  case' h_3 => refine ⟨_, if_neg (by simp [hsr rfl]), rfl, fun c' hc' hc0 => ?_, rfl, rfl, rfl, rfl⟩
  case' h_2 | h_4 | h_5 | h_6 | h_7 | h_8 | h_9 | h_10 | h_11 | h_12 | h_13 | h_14 =>
    refine ⟨_, rfl, rfl, fun c' hc' hc0 => ?_, rfl, rfl, rfl, rfl⟩
  all_goals
    unfold controlValue
    split <;> trivial

/-- MOV.C loads a control register from 8 bytes in Supervisor mode (R485). -/
theorem exec_movC_load {pas : List Nat} (hs : supervisor s = true) (hc : controlValue s c = some v) (h0 : c ≠ 0#6)
    (h : Access .read (vaSpace s) (vaOf s (effAddr s 8 a)) 8 s pas t)
    (hsr : c = 2#6 → BitVec.ofNat 64 (bytesLE s pas) &&& srReserved = 0#64) :
    ∃ (k : Nat) (u : State), exec (.movC .load c a) s = .next u.done ∧
      SetsControl c (BitVec.ofNat 64 (bytesLE s pas)) (touched (s.drew k) pas) u := by
  obtain ⟨k, -, hread⟩ := readVA_eq_drew h
  have hvalue : controlValue (touched (s.drew k) pas) c = some v := hc
  obtain ⟨u, hset, hu⟩ := setControl_eq hvalue h0 hsr retire
  exact ⟨k, u, (mayWriteControl_eq hs hc h0 _).trans ((hread _).trans hset), hu⟩

end

end Sys2Proof.Machine

/-! ### Extended pointers and texels (45_load_store_ext.md R516 to R522, R528) -/

namespace Sys2Proof.Machine

open Sys2Proof

section

variable {s : State} {i : Instr} {n m o : Reg} {p q : Pair} {a : XAddr} {scale size : Nat} {go : Nat → Out State}

/-- The base and the scaled index modulo 2^96 (R520). -/
theorem xmovAddr_index (s : State) (k : Nat) (q : Pair) (o : Reg) :
    xmovAddr s k (.index q o) =
      ((getReg s (pairHi q)).toNat % 2 ^ 48 * 2 ^ 48 + (getReg s (pairLo q)).toNat % 2 ^ 48 + k * (getReg s o).toNat) % 2 ^ 96 := by
  have hbase : (slice (getReg s (pairHi q)) 0 48 ++ slice (getReg s (pairLo q)) 0 48 : BitVec 96) = ptr96 (getPair s q) := by
    rw [slice_zero_eq_setWidth _ (by decide), slice_zero_eq_setWidth _ (by decide), ptr96, hiWord_getPair, loWord_getPair]
    rfl
  have hindex : (getReg s o).toNat < 2 ^ 96 := Nat.lt_of_lt_of_le (BitVec.isLt _) (by decide)
  simp only [xmovAddr, BitVec.toNat_add, BitVec.toNat_mul, BitVec.toNat_ofNat, BitVec.toNat_setWidth, hbase,
    toNat_ptr96_getPair, Nat.mod_eq_of_lt hindex, Nat.add_mod_mod, Nat.mod_mul_mod]

/-! The pointer's tag (R522). -/

/-- Whether the mode may use extended pointers (60_exceptions.md R870). -/
def XmovOpen (s : State) : Prop := supervisor s = true ∨ s.sr.getLsbD 25 = true
/-- The tag of an address's pointer. -/
def xmovTag (s : State) (a : XAddr) : BitVec 4 := slice (getReg s (pairLo (xmovBase a))) 60 4
/-- The tags that let an access of some bytes pass. -/
def XmovPasses (s : State) (a : XAddr) (scale size : Nat) : Prop :=
  xmovTag s a = 0#4 ∨ (xmovTag s a = 1#4 ∧ boundsOn s = false) ∨
    ((xmovTag s a = 2#4 ∨ xmovTag s a = 3#4) ∧ Config.xmovBoundsOk (getPair s (xmovBase a)) (xmovAddr s scale a) size = true)

theorem slice_getPair_tag (s : State) (p : Pair) : (slice (getPair s p) 60 4 : BitVec 4) = slice (getReg s (pairLo p)) 60 4 :=
  BitVec.extractLsb'_append_eq_of_add_le (by decide)

theorem xmovChecked_closed (h : ¬ XmovOpen s) :
    xmovChecked s a scale size go = .next (s.trapped .privilegeViolation none) := by
  have hclosed : (!supervisor s && !srXMUE s) = true := by simpa [XmovOpen, srXMUE, bitAt] using h
  rw [xmovChecked, if_pos hclosed, raise_eq]

section

variable (h : XmovOpen s)
include h

theorem XmovOpen.not_closed : ¬ (!supervisor s && !srXMUE s) = true := by
  simpa [XmovOpen, srXMUE, bitAt, or_iff_not_imp_left] using h
theorem xmovChecked_zero (ht : xmovTag s a = 0#4) : xmovChecked s a scale size go = go (xmovAddr s scale a) := by
  rw [xmovTag] at ht
  simp only [xmovChecked, if_neg h.not_closed, slice_getPair_tag, ht]
theorem xmovChecked_one (ht : xmovTag s a = 1#4) :
    xmovChecked s a scale size go =
      if boundsOn s then raiseAt .xmovTagFault (xmovAddr s scale a) s else go (xmovAddr s scale a) := by
  rw [xmovTag] at ht
  simp only [xmovChecked, if_neg h.not_closed, slice_getPair_tag, ht]
theorem xmovChecked_bounded (ht : xmovTag s a = 2#4 ∨ xmovTag s a = 3#4) :
    xmovChecked s a scale size go =
      if Config.xmovBoundsOk (getPair s (xmovBase a)) (xmovAddr s scale a) size then go (xmovAddr s scale a)
      else raise .boundsCheck s := by
  rw [xmovTag] at ht
  rcases ht with ht | ht <;> simp only [xmovChecked, if_neg h.not_closed, slice_getPair_tag, ht]
theorem xmovChecked_high (ht : 4#4 ≤ xmovTag s a) :
    xmovChecked s a scale size go = raiseAt .xmovTagFault (xmovAddr s scale a) s := by
  rw [xmovTag] at ht
  simp only [xmovChecked, if_neg h.not_closed, slice_getPair_tag]
  split
  case h_5 => rfl
  all_goals
    rename_i hlow
    exact absurd (hlow ▸ ht) (by decide)

theorem xmovChecked_passes (hp : XmovPasses s a scale size) : xmovChecked s a scale size go = go (xmovAddr s scale a) := by
  rcases hp with ht | ⟨ht, hb⟩ | ⟨ht, hb⟩
  · exact xmovChecked_zero h ht
  · exact (xmovChecked_one h ht).trans (if_neg (Bool.eq_false_iff.1 hb))
  · exact (xmovChecked_bounded h ht).trans (if_pos hb)

end

/-! The accesses (R516 to R519, R521). -/

theorem setWidth_sext {k : Nat} (v : Word) (hk : k ≤ 64) : (sext k v).setWidth k = v.setWidth k := by
  apply BitVec.eq_of_getLsbD_eq
  intro j hj
  rw [BitVec.getLsbD_setWidth, BitVec.getLsbD_setWidth, getLsbD_sext v (by omega) (by omega), if_pos hj]
/-- Whatever the extension, the low bytes of a loaded value are the bytes loaded. -/
theorem toNat_xmovExt_mod {x : Nat} (hk : 8 * size ≤ 64) (hx : x < 256 ^ size) :
    (if Config.xmovSigned then sext (8 * size) (BitVec.ofNat 64 x) else BitVec.ofNat 64 x).toNat % 256 ^ size = x := by
  have hpow : 256 ^ size = 2 ^ (8 * size) := (Nat.pow_mul 2 8 size).symm
  have hlow : (BitVec.ofNat 64 x).toNat % 256 ^ size = x := by
    rw [BitVec.toNat_ofNat, hpow, Nat.mod_mod_of_dvd _ (Nat.pow_dvd_pow 2 hk), ← hpow, Nat.mod_eq_of_lt hx]
  split
  · rw [hpow, ← BitVec.toNat_setWidth, setWidth_sext _ hk, BitVec.toNat_setWidth, ← hpow, hlow]
  · exact hlow

theorem xmov_forbidden (d : Dir) (hb : pairAllowed (xmovBase a) = false) : xmov size d n a s = .refused .forbiddenPair :=
  withPairs_refused (by simpa using hb)

section

variable (hb : pairAllowed (xmovBase a) = true)
include hb

theorem xmov_eq {o : Out State} (d : Dir) (h : ∀ go, xmovChecked s a size size go = o) : xmov size d n a s = o :=
  (withPairs_eq (by simpa using hb)).trans (h _)
theorem xmov_closed (d : Dir) (h : ¬ XmovOpen s) : xmov size d n a s = .next (s.trapped .privilegeViolation none) :=
  xmov_eq hb d fun _ => xmovChecked_closed h
theorem xmov_tagFault (d : Dir) (h : XmovOpen s) (ht : (xmovTag s a = 1#4 ∧ boundsOn s = true) ∨ 4#4 ≤ xmovTag s a) :
    xmov size d n a s = .next (s.trapped .xmovTagFault (some (BitVec.ofNat 64 (xmovAddr s size a)))) := by
  refine xmov_eq hb d fun _ => .trans ?_ (raiseAt_eq ..)
  rcases ht with ⟨h1, hon⟩ | h4
  · exact (xmovChecked_one h h1).trans (if_pos hon)
  · exact xmovChecked_high h h4
theorem xmov_boundsCheck (d : Dir) (h : XmovOpen s) (ht : xmovTag s a = 2#4 ∨ xmovTag s a = 3#4)
    (hok : ¬ Config.xmovBoundsOk (getPair s (xmovBase a)) (xmovAddr s size a) size = true) :
    xmov size d n a s = .next (s.trapped .boundsCheck none) :=
  xmov_eq hb d fun _ => (xmovChecked_bounded h ht).trans ((if_neg hok).trans (raise_eq ..))

end

section

variable (h : XmovOpen s) (hb : pairAllowed (xmovBase a) = true) (hpass : XmovPasses s a size size)
include h hb hpass

theorem Loads.of_xmov (hi : exec i s = xmov size .load n a s) (hk : 8 * size ≤ 64) :
    Loads i n (2 ^ 96) (xmovAddr s size a) size s fun x v => v.toNat % 256 ^ size = x :=
  .of_readVA (ext := fun v => if Config.xmovSigned then sext (8 * size) v else v)
    (hi.trans ((withPairs_eq (by simpa using hb)).trans (xmovChecked_passes h hpass))) fun _ => toNat_xmovExt_mod hk
theorem Stores.of_xmov (hi : exec i s = xmov size .store n a s) :
    Stores i (2 ^ 96) (xmovAddr s size a) size s (getReg s n).toNat :=
  .of_writeVA (hi.trans ((withPairs_eq (by simpa using hb)).trans (xmovChecked_passes h hpass)))

end

section

variable (h : XmovOpen s) (hp : pairAllowed p = true) (hb : pairAllowed (xmovBase a) = true) (hpass : XmovPasses s a 8 16)
  (ha : xmovAddr s 8 a % 8 = 0)
include h hp hb hpass ha

theorem exec_xmovX_load : exec (.xmovX .load p a) s =
    readVA (2 ^ 96) (xmovAddr s 8 a) 16 s fun v t => retire (setPair t p (BitVec.ofNat 128 v)) :=
  (withPairs_eq (by simp [hp, hb])).trans ((xmovChecked_passes h hpass).trans (if_pos ha))
theorem exec_xmovX_store : exec (.xmovX .store p a) s =
    writeVA (2 ^ 96) (xmovAddr s 8 a) 16 (getPair s p).toNat s retire :=
  (withPairs_eq (by simp [hp, hb])).trans ((xmovChecked_passes h hpass).trans (if_pos ha))

end

/-- A pair loaded from 16 bytes. -/
theorem exec_of_readVA_pair {space va : Nat} {pas : List Nat} {s' : State}
    (hi : exec i s = readVA space va 16 s fun v t => retire (setPair t p (BitVec.ofNat 128 v)))
    (h : Access .read space va 16 s pas s') : ∃ k l v, s' = s.drew k ∧
      exec i s = .next { (s.drew k).wrotePair p v with stale := l } ∧ SameOlder l s.stale ∧ v.toNat = bytesLE s pas := by
  obtain ⟨k, rfl, hread⟩ := readVA_eq_drew h
  exact ⟨k, (touched (s.drew k) pas).stale, BitVec.ofNat 128 (bytesLE s pas), rfl,
    hi.trans ((hread _).trans (retire_setPair ..)), touched_sameOlder _ _, Nat.mod_eq_of_lt (h.bytesLE_lt s)⟩

/-! The texel (R528, log 26): memory at the moment of the access is the state's. -/

theorem loads_ldtex {d : TexDisp} (ha : (getReg s m).toNat % 8 = 0) :
    Loads (.ldtex m o d n) n (vaSpace s) (vaOf s (Config.ldtexAddr (getReg s m) (getReg s o) (texParam d))) 1 s
      fun _ v => v = Config.ldtex s.mem (getReg s m) (getReg s o) (texParam d) := by
  intro pas s' h
  obtain ⟨k, rfl, hread⟩ := readVA_eq_drew h
  have ha' : (zext 48 (getReg s m)).toNat % 8 = 0 := by rw [toNat_zext _ (by decide)]; omega
  exact ⟨k, (touched (s.drew k) pas).stale, _, rfl, (aligned_eq _ ha').trans (hread _), touched_sameOlder _ _, rfl⟩
theorem ldtex_misaligned {d : TexDisp} (ha : (getReg s m).toNat % 8 ≠ 0) : exec (.ldtex m o d n) s = .refused .misaligned :=
  aligned_refused _ (by rw [toNat_zext _ (by decide)]; omega)

end

/-- Settles O40: in Supervisor mode each bank and control form is its one move; of the extended pointers the mode and the tag
decide which forms end, and the others make their one access. -/
theorem controlMemoryBanksAndExtendedPointers : Obligations.ControlMemoryBanksAndExtendedPointers := by
  refine ⟨?banks, ?pointers⟩
  case banks =>
    intro i n p c a s v hs
    refine ⟨⟨.of_retire (supervisorOnly_eq hs) rfl, supervisorOnly_eq hs⟩,
      fun hi => ⟨.of_retire (exec_rbsldX hs hi) rfl, exec_rbsstX hs hi⟩,
      fun hi hp => ⟨exec_rbsldX_odd hs hi hp, exec_rbsstX_odd hs hi hp⟩, fun hc => .of_writeVA (readControl_eq hs hc _),
      fun hc h0 pas s' h hsr => ?controlLoad, exec_movC_load_pc a s,
      fun hc => ⟨mayWriteControl_undefined hc _, readControl_undefined hc _⟩⟩
    case controlLoad =>
      obtain ⟨k, u, hnext, hu⟩ := exec_movC_load hs hc h0 h hsr
      exact ⟨u.done, hnext, hu.value, hu.others, hu.regs, hu.mem, hu.stale ▸ touched_sameOlder (s.drew k) pas, hu.npc⟩
  case pointers =>
    intro n m o p a d s base tag open' low48
    have hbase : base = xmovBase a := by cases a <;> rfl
    clear_value base
    subst hbase
    refine ⟨fun q k => xmovAddr_index s k q o, ?_⟩
    intro all
    have hall {e : Instr × Nat} (he : e ∈ all) {r : Out State} (hr : ∀ d, xmov e.2 d n a s = r) : exec e.1 s = r := by
      have hform : ∀ e ∈ all, ∃ d, exec e.1 s = xmov e.2 d n a s := by
        simp only [all, List.forall_mem_cons, List.not_mem_nil, false_implies, implies_true, and_true]
        exact ⟨⟨.load, rfl⟩, ⟨.load, rfl⟩, ⟨.load, rfl⟩, ⟨.load, rfl⟩, ⟨.store, rfl⟩, ⟨.store, rfl⟩, ⟨.store, rfl⟩,
          ⟨.store, rfl⟩⟩
      obtain ⟨d, hd⟩ := hform e he
      exact hd.trans (hr d)
    clear_value all
    refine ⟨fun hb => ⟨fun hc e he => hall he fun d => xmov_closed hb d hc, fun h ht e he => ?tagged,
      fun h ht e he => or_iff_not_imp_left.2 fun hok => hall he fun d => xmov_boundsCheck hb d h ht hok, ?passing⟩,
      fun hb e he => hall he fun d => xmov_forbidden d hb, ?texel⟩
    case tagged =>
      refine or_iff_not_imp_left.2 fun hoff => hall he fun d => xmov_tagFault hb d h (ht.imp_left fun h1 => ⟨h1, ?_⟩)
      exact Bool.eq_true_of_not_eq_false fun hf => hoff ⟨h1, hf⟩
    case passing =>
      intro h passes
      simp only [List.forall_mem_cons, List.not_mem_nil, false_implies, implies_true, and_true]
      exact ⟨⟨fun hpass => .of_xmov h hb hpass rfl (by decide), fun hpass => .of_xmov h hb hpass rfl (by decide),
        fun hpass => .of_xmov h hb hpass rfl (by decide), fun hpass => .of_xmov h hb hpass rfl (by decide)⟩,
        ⟨fun hpass => .of_xmov h hb hpass rfl, fun hpass => .of_xmov h hb hpass rfl, fun hpass => .of_xmov h hb hpass rfl,
        fun hpass => .of_xmov h hb hpass rfl⟩, fun hp hpass ha => ⟨.of_writeVA (exec_xmovX_store h hp hb hpass ha),
        fun pas s' => exec_of_readVA_pair (exec_xmovX_load h hp hb hpass ha)⟩⟩
    case texel =>
      intro disp
      have hdisp : disp = texParam d := by cases d <;> rfl
      rw [hdisp]
      exact ⟨loads_ldtex, ldtex_misaligned⟩

end Sys2Proof.Machine

/-! ### How an instruction of 46_branch.md completes -/

namespace Sys2Proof.Machine

open Sys2Proof

section

variable {i : Instr} {s s' : State} {t t' : VAddr} {b : Bool} {c : Prop}

/-- A jump is taken or refused by the decode mode of the state it leaves. -/
theorem Goes.of_jumpTo (hi : exec i s = jumpTo t s') (ht : t = t') : Goes i s t' s' := by
  subst ht
  exact ⟨fun h => hi.trans (jumpTo_eq t s' h), fun h => hi.trans (jumpTo_refused t s' h)⟩
theorem Branches.of_branchIf (hi : exec i s = branchIf b t s) (hb : b = true ↔ c) (ht : t = t') : Branches i s c t' :=
  ⟨fun hc => .of_jumpTo (hi.trans (if_pos (hb.2 hc))) ht, fun hc => hi.trans (if_neg (mt hb.1 hc))⟩

theorem absTarget_eq (s : State) (n : Reg) : absTarget s n = (getReg s n).setWidth 48 := slice_zero_eq_setWidth _ (by decide)
theorem longTarget_eq (s : State) (n : Reg) : longTarget s n = s.npc + 4#48 * (getReg s n).setWidth 48 := by
  rw [longTarget, slice_zero_eq_setWidth _ (by decide)]

end

/-! ### SR and the link value (46_branch.md R545, R550, R561) -/

theorem getLsbD_setModeSR (v : Word) (m : BitVec 4) {k : Nat} (hk : k < 64) : (setModeSR v m).getLsbD k =
    if k = 22 then m.getLsbD 3 else if k = 23 then m.getLsbD 2 else if k = 26 then m.getLsbD 1
    else if k = 27 then m.getLsbD 0 else v.getLsbD k := by
  simp only [setModeSR, getLsbD_setBit, hk, and_true, bitAt]
  grind
/-- A field replaced by one of another value takes that one's bits. -/
theorem getLsbD_setSlice_slice {w w' : Nat} (x : BitVec w) (v : BitVec w') (lo lo' len : Nat) {k : Nat} (hk : k < w) :
    (setSlice x lo len (slice v lo' len)).getLsbD k =
      if lo ≤ k ∧ k < lo + len then v.getLsbD (lo' + (k - lo)) else x.getLsbD k := by
  rw [getLsbD_setSlice]
  by_cases h : lo ≤ k ∧ k < lo + len
  · have hlen : k - lo < len := by omega
    rw [if_pos h, if_pos ⟨h.1, h.2, hk⟩, slice, BitVec.getLsbD_extractLsb', decide_eq_true hlen, Bool.true_and]
  · rw [if_neg h, if_neg fun h' => h ⟨h'.1, h'.2.1⟩]
theorem setSlice_slice_self {w : Nat} (v : BitVec w) (lo len : Nat) : setSlice v lo len (slice v lo len) = v := by
  apply BitVec.eq_of_getLsbD_eq
  intro k hk
  rw [getLsbD_setSlice_slice v v lo lo len hk]
  split
  · next h => rw [Nat.add_sub_cancel' h.1]
  · rfl
/-- The three fields do not overlap. -/
theorem getLsbD_restoreFlags (v sr : Word) {k : Nat} (hk : k < 64) : (restoreFlags v sr).getLsbD k =
    if k < 2 then v.getLsbD (48 + k) else if 4 ≤ k ∧ k < 16 then v.getLsbD (48 + k)
    else if k = 26 ∨ k = 27 then v.getLsbD (24 + k) else sr.getLsbD k := by
  simp only [restoreFlags, getLsbD_setSlice_slice _ _ _ _ _ hk]
  grind

theorem slice_linkValue_npc (s : State) : slice (linkValue s) 0 48 = s.npc := by
  simp [linkValue]
theorem slice_linkValue_high (s : State) : slice (linkValue s) 52 12 = slice s.sr 4 12 := by
  simp [linkValue]
theorem slice_linkValue_mode (s : State) : slice (linkValue s) 50 2 = slice s.sr 26 2 := by
  simp [linkValue]
theorem slice_linkValue_TS (s : State) : slice (linkValue s) 48 2 = slice s.sr 0 2 := by
  simp [linkValue]
theorem restoreFlags_linkValue (s : State) : restoreFlags (linkValue s) s.sr = s.sr := by
  simp only [restoreFlags, slice_linkValue_high, slice_linkValue_mode, slice_linkValue_TS, setSlice_slice_self]

/-! ### What the conditions compare (46_branch.md R566 to R589) -/

theorem not_eq_true_iff {b : Bool} {p : Prop} (h : b = true ↔ p) : (!b) = true ↔ ¬ p := by
  rw [← h, Bool.not_eq_true', Bool.not_eq_true]
theorem tst32_iff (a b : Word) : tst32 a b = true ↔ (a &&& b).setWidth 32 = 0#32 := beq_iff_eq
theorem tst64_iff (a b : Word) : tst64 a b = true ↔ a &&& b = 0#64 := beq_iff_eq
theorem eq32_iff (a b : Word) : eq32 a b = true ↔ a.setWidth 32 = b.setWidth 32 := beq_iff_eq
theorem eq64_iff (a b : Word) : eq64 a b = true ↔ a = b := beq_iff_eq
theorem gt32_iff (a b : Word) : gt32 a b = true ↔ (b.setWidth 32).toInt < (a.setWidth 32).toInt := decide_eq_true_iff
theorem gt64_iff (a b : Word) : gt64 a b = true ↔ b.toInt < a.toInt := decide_eq_true_iff
theorem ge32_iff (a b : Word) : ge32 a b = true ↔ (b.setWidth 32).toInt ≤ (a.setWidth 32).toInt := decide_eq_true_iff
theorem ge64_iff (a b : Word) : ge64 a b = true ↔ b.toInt ≤ a.toInt := decide_eq_true_iff
theorem hi32_iff (a b : Word) : hi32 a b = true ↔ (b.setWidth 32).toNat < (a.setWidth 32).toNat := decide_eq_true_iff
theorem hi64_iff (a b : Word) : hi64 a b = true ↔ b.toNat < a.toNat := decide_eq_true_iff

theorem eq32_zero_iff (v : Word) : eq32 v 0#64 = true ↔ (v.setWidth 32).toInt = 0 :=
  (eq32_iff v 0#64).trans BitVec.toInt_inj.symm
theorem eq64_zero_iff (v : Word) : eq64 v 0#64 = true ↔ v.toInt = 0 := (eq64_iff v 0#64).trans BitVec.toInt_inj.symm

/-- What the compare with zero on Q or 32 bits reads (R587). -/
theorem toInt_ite_sext32 (q : Bool) (v : Word) :
    (if q then v else sext 32 v).toInt = if q then v.toInt else (v.setWidth 32).toInt := by
  cases q
  · exact BitVec.toInt_signExtend_of_le (by decide)
  · rfl

/-- Settles O41: each jump by its target, each conditional branch by its condition. -/
theorem jumpsAndConditionalBranches : Obligations.JumpsAndConditionalBranches := by
  refine ⟨fun n d a i s => ?jumps, fun m n d t s => ?branches⟩
  case jumps =>
    exact ⟨.of_jumpTo rfl rfl, .of_jumpTo rfl rfl, .of_jumpTo rfl (longTarget_eq s n), .of_jumpTo rfl rfl,
      fun hn => .of_jumpTo (if_neg hn) (absTarget_eq s n),
      ⟨restoreFlags (getReg s 1#6) s.sr, fun _ => getLsbD_restoreFlags _ s.sr, .of_jumpTo rfl (absTarget_eq s 1#6)⟩,
      setModeSR s.sr i, fun _ => getLsbD_setModeSR s.sr i, .of_jumpTo rfl (absTarget_eq s n)⟩
  case branches =>
    intro a b lo near far T
    have hfar : branchTarget s t = far := by cases t <;> rfl
    have hT : srT s = true ↔ T := Iff.rfl
    have hF : (!srT s) = true ↔ ¬ T := not_eq_true_iff hT
    refine ⟨?flags, ?compares, ?zeroes, fun q => ?zconds⟩
    case' zconds =>
      intro z
      have hz : (if q then a else sext 32 a).toInt = z := toInt_ite_sext32 q a
      clear_value z
      subst hz
    all_goals simp only [List.forall_mem_cons, List.not_mem_nil, false_implies, implies_true, and_true]
    case flags =>
      exact ⟨.of_branchIf rfl hT hfar, .of_branchIf rfl hF hfar, .of_branchIf rfl hT (absTarget_eq s n),
        .of_branchIf rfl hF (absTarget_eq s n), .of_branchIf rfl hT (longTarget_eq s n),
        .of_branchIf rfl hF (longTarget_eq s n)⟩
    case compares =>
      exact ⟨.of_branchIf rfl (tst32_iff a b) rfl, .of_branchIf rfl (tst64_iff a b) rfl,
        .of_branchIf rfl (not_eq_true_iff (tst32_iff a b)) rfl, .of_branchIf rfl (not_eq_true_iff (tst64_iff a b)) rfl,
        .of_branchIf rfl (gt32_iff a b) rfl, .of_branchIf rfl (gt64_iff a b) rfl,
        .of_branchIf rfl ((not_eq_true_iff (gt32_iff a b)).trans not_lt) rfl,
        .of_branchIf rfl ((not_eq_true_iff (gt64_iff a b)).trans not_lt) rfl,
        .of_branchIf rfl (hi32_iff a b) rfl, .of_branchIf rfl (hi64_iff a b) rfl,
        .of_branchIf rfl ((not_eq_true_iff (hi32_iff a b)).trans not_lt) rfl,
        .of_branchIf rfl ((not_eq_true_iff (hi64_iff a b)).trans not_lt) rfl,
        .of_branchIf rfl (eq32_iff a b) rfl, .of_branchIf rfl (eq64_iff a b) rfl,
        .of_branchIf rfl (not_eq_true_iff (eq32_iff a b)) rfl, .of_branchIf rfl (not_eq_true_iff (eq64_iff a b)) rfl⟩
    case zeroes =>
      exact ⟨.of_branchIf rfl (eq32_zero_iff a) rfl, .of_branchIf rfl (eq64_zero_iff a) rfl,
        .of_branchIf rfl (not_eq_true_iff (eq32_zero_iff a)) rfl, .of_branchIf rfl (not_eq_true_iff (eq64_zero_iff a)) rfl,
        .of_branchIf rfl (gt32_iff 0#64 a) rfl, .of_branchIf rfl (gt64_iff 0#64 a) rfl,
        .of_branchIf rfl (ge32_iff a 0#64) rfl, .of_branchIf rfl (ge64_iff a 0#64) rfl,
        .of_branchIf rfl (ge32_iff 0#64 a) rfl, .of_branchIf rfl (ge64_iff 0#64 a) rfl,
        .of_branchIf rfl (gt32_iff a 0#64) rfl, .of_branchIf rfl (gt64_iff a 0#64) rfl⟩
    case zconds =>
      exact ⟨.of_branchIf rfl (eq64_zero_iff _) rfl, .of_branchIf rfl (not_eq_true_iff (eq64_zero_iff _)) rfl,
        .of_branchIf rfl (ge64_iff 0#64 _) rfl, .of_branchIf rfl (gt64_iff _ 0#64) rfl, .of_branchIf rfl (gt64_iff 0#64 _) rfl,
        .of_branchIf rfl (ge64_iff _ 0#64) rfl⟩

/-! ### Calls and returns (46_branch.md R545 to R551) -/

/-- A return right after a call goes on behind it, with SR as it was. -/
theorem exec_rts_after_call (t : VAddr) (s : State) :
    exec .rts ((setLR s (linkValue s)).jumped t) = jumpTo s.npc ((setLR s (linkValue s)).jumped t) := by
  show jumpTo (slice (linkValue s) 0 48)
    { (setLR s (linkValue s)).jumped t with sr := restoreFlags (linkValue s) s.sr } = _
  rw [slice_linkValue_npc, restoreFlags_linkValue]
  rfl

/-- Settles O42: a call jumps with the link value in LR, and a return jumps to the address a link value holds, with its flags. -/
theorem callsAndReturns : Obligations.CallsAndReturns := by
  refine ⟨fun n d a i s => ⟨linkValue s, slice_linkValue_npc s, slice_linkValue_high s, slice_linkValue_mode s,
    slice_linkValue_TS s, .of_jumpTo rfl rfl, .of_jumpTo rfl rfl, .of_jumpTo rfl (longTarget_eq s n),
    .of_jumpTo rfl (absTarget_eq s n), .of_jumpTo rfl rfl, setModeSR s.sr i, fun _ => getLsbD_setModeSR s.sr i,
    .of_jumpTo rfl (absTarget_eq s n)⟩,
    fun n s => ⟨?returns, fun hage => if_neg (Nat.not_lt.2 hage), fun hr hnpc => ?callThenReturn⟩⟩
  case returns =>
    have hpc : slice s.lr 0 48 = s.lr.setWidth 48 := slice_zero_eq_setWidth _ (by decide)
    exact ⟨restoreFlags s.lr s.sr, fun _ => getLsbD_restoreFlags s.lr s.sr, .of_jumpTo rfl hpc,
      fun hage => .of_jumpTo (if_pos hage) hpc⟩
  case callThenReturn =>
    obtain ⟨hcall, -⟩ : Goes (.jsr n) s ((getReg s n).setWidth 48) (setLR s (linkValue s)) :=
      .of_jumpTo rfl (absTarget_eq s n)
    exact ⟨_, _, hcall hr, (exec_rts_after_call _ s).trans (jumpTo_eq _ _ hnpc), rfl, rfl, rfl, rfl⟩

end Sys2Proof.Machine

/-! ### Control-register moves (47_system_ttag.md R590, R591) -/

namespace Sys2Proof.Machine

open Sys2Proof

section

variable {s : State} {c : CReg} {v : Word}

/-- The numbers 14 and up name no register (10_state.md R26, decision D6). -/
theorem controlValue_isSome_iff : (controlValue s c).isSome ↔ c.toNat ≤ 13 := by
  unfold controlValue
  split
  case h_15 =>
    simp only [imp_false, Option.isSome_none, Bool.false_eq_true, false_iff] at *
    bv_omega
  all_goals simp

theorem readControl_of_mode (hc : controlValue s c = some v) (hmay : supervisor s = true ∨ controlReadable c = true)
    (go : Word → Out State) : readControl c s go = go v := by
  simp only [readControl, hc]
  exact if_pos (Bool.or_eq_true_iff.2 hmay)
theorem mayWriteControl_of_mode (hc : controlValue s c = some v) (h0 : c ≠ 0#6)
    (hmay : supervisor s = true ∨ controlWritable c = true) (go : Out State) : mayWriteControl c s go = go := by
  simp only [mayWriteControl, hc, Option.isNone_some, Bool.false_eq_true, if_false, beq_iff_eq, h0]
  exact if_pos (Bool.or_eq_true_iff.2 hmay)
/-- Setting a control register leaves the TLB and the banked registers alone. -/
theorem setControl_ensures_same_tables (c : CReg) (v : Word) (s : State) :
    Ensures (fun t => t.tlb = s.tlb ∧ t.rbs = s.rbs) (setControl c v s retire) := by
  unfold setControl
  split
  case h_2 => exact .ite (fun _ => .refused _) fun _ => .retire ⟨rfl, rfl⟩
  case h_14 => exact .refused _
  all_goals exact .retire ⟨rfl, rfl⟩

end

/-- Settles O43: a move reads or sets the register its number names, where the mode may. -/
theorem controlRegisterMoves : Obligations.ControlRegisterMoves := by
  intro c m n s
  refine ⟨?reads, fun h1 h13 hmay hsr => ?writes, rfl, fun hs hsr => ?reserved, fun h14 => ?undefined⟩
  case reads =>
    intro e he hmay
    have hc : controlValue s e.1 = some e.2 := by
      clear hmay
      revert e
      simp [controlValue]
    refine .of_retire (readControl_of_mode hc (hmay.imp_right fun hmem => ?_) _) rfl
    simpa [controlReadable, or_assoc] using hmem
  case writes =>
    obtain ⟨w, hc⟩ := Option.isSome_iff_exists.1 (controlValue_isSome_iff (s := s).2 h13)
    have h0 : c ≠ 0#6 := by bv_omega
    have hmode : supervisor s = true ∨ controlWritable c = true := hmay.imp_right fun hmem => by
      rcases List.mem_pair.1 hmem with rfl | rfl <;> rfl
    obtain ⟨t, hset, ht⟩ := setControl_eq hc h0 hsr retire
    obtain ⟨htlb, hrbs⟩ := setControl_ensures_same_tables c (getReg s m) s t.done hset
    refine ⟨t.done, (mayWriteControl_of_mode hc h0 hmode _).trans hset, ht.value, fun c' hc' => ?_, ht.regs, ht.mem, ht.npc,
      htlb, hrbs⟩
    by_cases hpc : c' = 0#6
    · subst hpc
      exact congrArg (fun a : VAddr => some (a.setWidth 64)) ht.npc
    · exact ht.others c' hc' hpc
  case reserved =>
    exact (mayWriteControl_eq (c := 2#6) hs rfl (by decide) _).trans (if_pos (bne_iff_ne.2 hsr))
  case undefined =>
    have hc : controlValue s c = none :=
      Option.not_isSome_iff_eq_none.1 fun h => absurd (controlValue_isSome_iff.1 h) (by omega)
    exact ⟨mayWriteControl_undefined hc _, readControl_undefined hc _⟩

end Sys2Proof.Machine

/-! ### BREAK and TRAP (47_system_ttag.md R596, R640; 60_exceptions.md R851, R885) -/

namespace Sys2Proof.Machine

open Sys2Proof

section

variable {s : State} {c : Half} {tea : Option Word}

/-- The class of an exception's own code is 8 or A (R851). -/
theorem slice_code_class (e : Exc) : slice e.code 12 4 = e.cls := by
  simp [Exc.code]
theorem isExcCode_iff : isExcCode c = true ↔ ∃ e : Exc, c = e.code := by
  simp only [isExcCode, List.any_eq_true, beq_iff_eq]
  constructor
  · rintro ⟨e, -, rfl⟩
    exact ⟨e, rfl⟩
  · rintro ⟨e, rfl⟩
    exact ⟨e, by cases e <;> decide, rfl⟩
theorem trapAllowed_iff : trapAllowed s c = true ↔
    slice c 12 4 = 0xE#4 ∨ supervisor s = true ∧ (slice c 12 4 = 0xC#4 ∨ ∃ e : Exc, c = e.code) := by
  simp only [trapAllowed, Bool.or_eq_true, Bool.and_eq_true, beq_iff_eq, isExcCode_iff]
/-- Class 0xF is allowed in no mode (60_exceptions.md R886). -/
theorem trapAllowed_of_class_F (h : slice c 12 4 = 0xF#4) : trapAllowed s c ≠ true := by
  rw [ne_eq, trapAllowed_iff, h]
  rintro (h' | ⟨-, h' | ⟨e, rfl⟩⟩)
  · exact absurd h' (by decide)
  · exact absurd h' (by decide)
  · rw [slice_code_class] at h
    revert h
    cases e <;> decide

theorem trapCode_here (h : trapAllowed s c = true) (hcore : slice c 8 4 = 0#4) :
    trapCode c tea s = .next (enterTrap c tea s.npc s) := by
  simp only [trapCode, h, hcore, beq_self_eq_true, if_true, trapTo_eq]
theorem clear_routing (c : Half) : setSlice c 8 4 0#4 = c &&& 0xF0FF#16 := by
  simp only [setSlice, BitVec.setWidth_zero, BitVec.zero_shiftLeft, BitVec.or_zero]
  rfl
/-- Every core the routing field can name is there. -/
theorem trapCode_remote (h : trapAllowed s c = true) (hcore : slice c 8 4 ≠ 0#4) :
    trapCode c tea s = .next { s.done with
      remote := s.remote ++ [{ core := slice c 8 4, code := c &&& 0xF0FF#16, tea := tea }] } := by
  have hthere : (slice c 8 4).toNat < Config.numCores := BitVec.isLt _
  rw [trapCode, if_pos h, if_neg (mt beq_iff_eq.1 hcore), if_pos hthere, clear_routing]
  rfl
theorem trapCode_refused (h : trapAllowed s c ≠ true) : trapCode c tea s = .refused .trapPattern := if_neg h

/-- The code of TRAP with an immediate is of class 0xC and for this core. -/
theorem slice_trapImm (k : BitVec 5) :
    slice (0xC080#16 ||| k.setWidth 16) 12 4 = 0xC#4 ∧ slice (0xC080#16 ||| k.setWidth 16) 8 4 = 0#4 := by
  decide +revert

end

/-- Settles O17: BREAK is the one exception, and TRAP what its pattern and the mode allow. -/
theorem breakAndTrapTakeTheirExceptions : Obligations.BreakAndTrapTakeTheirExceptions := by
  refine ⟨fun s => ⟨raise_eq _ s, raise_eq _ s⟩, fun s => ⟨fun k hs => ?immediate, fun n => ?register,
    fun k hs => ?user, fun _ => rfl⟩⟩
  case immediate =>
    obtain ⟨hclass, hcore⟩ := slice_trapImm k
    exact trapCode_here (trapAllowed_iff.2 (.inr ⟨hs, .inl hclass⟩)) hcore
  case register =>
    exact ⟨fun h => trapCode_here (trapAllowed_iff.2 h), fun h => trapCode_remote (trapAllowed_iff.2 h),
      fun h => trapCode_refused (mt trapAllowed_iff.1 h), fun h => trapCode_refused (trapAllowed_of_class_F h)⟩
  case user =>
    refine trapCode_refused fun h => ?_
    rw [trapAllowed_iff, (slice_trapImm k).1, hs] at h
    exact h.elim (by decide) fun h => absurd h.1 (by decide)

end Sys2Proof.Machine

/-! ### Tag compares and tag moves (47_system_ttag.md R668, R669, R930 to R940) -/

namespace Sys2Proof.Machine

open Sys2Proof

section

variable {k : Nat} (v : Word)

/-! Fields of a word, as numbers. -/

theorem toNat_slice {w : Nat} (x : BitVec w) (lo len : Nat) : (slice x lo len).toNat = x.toNat / 2 ^ lo % 2 ^ len := by
  rw [slice, BitVec.extractLsb'_toNat, Nat.shiftRight_eq_div_pow]
theorem toNat_slice_top (hk : k ≤ 4) : (slice v 60 4).toNat / 2 ^ (4 - k) = v.toNat / 2 ^ (64 - k) := by
  have hv : v.toNat / 2 ^ 60 < 2 ^ 4 := Nat.div_lt_of_lt_mul v.isLt
  rw [toNat_slice, Nat.mod_eq_of_lt hv, Nat.div_div_eq_div_mul, ← pow_add]
  congr 2
  omega
theorem toNat_slice_bottom (hk : k ≤ 4) : (slice v 0 4).toNat % 2 ^ k = v.toNat % 2 ^ k := by
  rw [toNat_slice, pow_zero, Nat.div_one, Nat.mod_mod_of_dvd _ (Nat.pow_dvd_pow 2 hk)]
/-- A word whose top k bits are replaced. -/
theorem toNat_zext_or_shiftLeft (hk : k ≤ 64) {x : Nat} (hx : x < 2 ^ k) :
    (zext (64 - k) v ||| (BitVec.ofNat 64 x <<< (64 - k))).toNat = x * 2 ^ (64 - k) + v.toNat % 2 ^ (64 - k) := by
  have hpow : 2 ^ k * 2 ^ (64 - k) = 2 ^ 64 := by rw [← pow_add, Nat.add_sub_cancel' hk]
  have hlow : v.toNat % 2 ^ (64 - k) < 2 ^ (64 - k) := Nat.mod_lt _ (Nat.two_pow_pos _)
  have hzext : (zext (64 - k) v).toNat = v.toNat % 2 ^ (64 - k) := toNat_zext v (Nat.sub_le ..)
  have hx64 : x < 2 ^ 64 := Nat.lt_of_lt_of_le hx (Nat.pow_le_pow_right (by decide) hk)
  have hfits : x * 2 ^ (64 - k) + v.toNat % 2 ^ (64 - k) < 2 ^ 64 := calc
    _ < x * 2 ^ (64 - k) + 2 ^ (64 - k) := Nat.add_lt_add_left hlow _
    _ = (x + 1) * 2 ^ (64 - k) := (Nat.succ_mul ..).symm
    _ ≤ 2 ^ 64 := hpow ▸ Nat.mul_le_mul_right _ hx
  rw [BitVec.or_comm, toNat_shiftLeft_or (hzext.symm ▸ hlow), hzext, BitVec.toNat_ofNat, Nat.mod_eq_of_lt hx64,
    Nat.mod_eq_of_lt hfits]

theorem sext48_toInt : (sext 48 v).toInt = (slice v 0 48).toInt := by
  rw [sext, BitVec.toInt_signExtend_of_le (by decide), slice_zero_eq_setWidth v (by decide)]
theorem zext48_toNat : (zext 48 v).toNat = (slice v 0 48).toNat := by
  rw [toNat_zext v (by decide), toNat_slice, pow_zero, Nat.div_one]
theorem loWord_quad (hi lo : Word) : loWord (quad hi lo) = lo := (loWord_eq_slice _).trans BitVec.extractLsb'_append_eq_right
theorem hiWord_quad (hi lo : Word) : hiWord (quad hi lo) = hi := (hiWord_eq_slice _).trans BitVec.extractLsb'_append_eq_left
/-- The 16 bits a tag move writes, above the address it copies. -/
theorem slice_withTag (t : BitVec 16) : slice (withTag t v) 0 48 = slice v 0 48 ∧ slice (withTag t v) 48 16 = t := by
  simp [withTag]

end

section

variable {m n : Reg} {s : State}

/-! The bits a pattern names (R931, R939). -/

theorem ttLen_eq_some {e : Nat × Nat × Nat} (he : e ∈ [(2, 0, 4), (4, 1, 3), (8, 3, 2), (16, 7, 1)]) (i : BitVec 5)
    (hi : i.toNat % e.1 = e.2.1) : ttLen i = some e.2.2 := by
  revert e i
  decide
theorem ttLen_eq_none {i : BitVec 5} (hi : i.toNat % 16 = 15) : ttLen i = none := by
  decide +revert
/-- Bit 5 of a pattern says which end of the word it names (R931). -/
theorem bitAt_five_iff (i : BitVec 6) : bitAt i 5 = true ↔ ¬ i.toNat < 32 := by
  decide +revert
theorem ttLen_le {i : BitVec 5} {k : Nat} (h : ttLen i = some k) : k ≤ 4 := by
  unfold ttLen at h
  grind
theorem toNat_div_two_pow_lt {i : BitVec 5} {k : Nat} (hk : k ≤ 4) : i.toNat / 2 ^ (5 - k) < 2 ^ k := by
  refine Nat.div_lt_of_lt_mul ?_
  rw [← pow_add, Nat.sub_add_cancel (by omega)]
  exact i.isLt

theorem SetsBit.of_cmpTag {i : Instr} {op : BitVec 32 → BitVec 32 → Bool} {b : Bool} (hi : exec i s = cmpTag op m n s)
    (h : op ((slice (getReg s n) 48 12).setWidth 32) (low32 (getReg s m)) = b) : SetsBit i 0 s b :=
  h ▸ .of_retire (f := .t) hi rfl
theorem exec_cmpTTEQ {i : BitVec 6} {k : Nat} (h : ttLen (slice i 0 5) = some k) :
    exec (.cmpTTEQ i n) s = retire (setFlag .t ((if bitAt i 5 then (slice (getReg s n) 0 4).toNat % 2 ^ k
      else (slice (getReg s n) 60 4).toNat / 2 ^ (4 - k)) == (slice i 0 5).toNat / 2 ^ (5 - k)) s) := by
  show execCmpTTEQ i n s = _
  rw [execCmpTTEQ, h]
  rfl
theorem exec_cmpTTEQ_undefined {i : BitVec 6} (h : ttLen (slice i 0 5) = none) :
    exec (.cmpTTEQ i n) s = .next (s.trapped .undefinedInstruction none) := by
  show execCmpTTEQ i n s = _
  rw [execCmpTTEQ, h]
  exact raise_eq _ s
theorem exec_movTTTag {i : BitVec 5} {k : Nat} (h : ttLen i = some k) :
    exec (.movTTTag m i n) s = retire (setReg s n
      (zext (64 - k) (getReg s m) ||| (BitVec.ofNat 64 (i.toNat / 2 ^ (5 - k)) <<< (64 - k)))) := by
  show execMovTTTag m i n s = _
  rw [execMovTTTag, h]
  rfl
theorem exec_movTTTag_undefined {i : BitVec 5} (h : ttLen i = none) :
    exec (.movTTTag m i n) s = .next (s.trapped .undefinedInstruction none) := by
  show execMovTTTag m i n s = _
  rw [execMovTTTag, h]
  exact raise_eq _ s

end

/-- Settles O48: a compare is one of two numbers, and a move puts the new tag bits above those it copies. -/
theorem tagComparesAndMoves : Obligations.TagComparesAndMoves := by
  refine ⟨fun m n i s => ?compares, fun m o n pm pn x i s => ?moves⟩
  case compares =>
    intro tag ref top low pat
    have htag : ((slice (getReg s n) 48 12).setWidth 32).toNat = tag := BitVec.toNat_setWidth_of_le (by decide)
    have href : (low32 (getReg s m)).toNat = ref := by rw [low32, ← slice_zero_eq_setWidth _ (by decide)]
    have hpattern : (slice i 0 5).toNat = i.toNat % 32 := by rw [toNat_slice, pow_zero, Nat.div_one]; rfl
    refine ⟨.of_cmpTag (op := fun x y => x == y) rfl ?eq, .of_cmpTag (op := fun x y => decide (y.toNat < x.toNat)) rfl ?hi,
      .of_cmpTag (op := fun x y => decide (y.toNat ≤ x.toNat)) rfl ?hs, fun e he hi => ?pattern,
      fun hi => exec_cmpTTEQ_undefined (ttLen_eq_none (by omega))⟩
    case eq =>
      rw [← htag, ← href, Bool.eq_iff_iff, beq_iff_eq, decide_eq_true_iff]
      exact BitVec.toNat_inj.symm
    case hi => rw [← htag, ← href]
    case hs => rw [← htag, ← href]
    case pattern =>
      have hdvd : e.1 ∣ 32 := by
        clear hi
        revert e
        decide
      have hlen : ttLen (slice i 0 5) = some e.2.2 :=
        ttLen_eq_some he _ (by rw [hpattern, Nat.mod_mod_of_dvd _ hdvd, hi])
      have hk := ttLen_le hlen
      obtain ⟨d, r, k⟩ := e
      have hfield : (if bitAt i 5 then (slice (getReg s n) 0 4).toNat % 2 ^ k else (slice (getReg s n) 60 4).toNat / 2 ^ (4 - k)) =
          if i.toNat < 32 then top k else low k := by
        simp only [bitAt_five_iff, ite_not, toNat_slice_top _ hk, toNat_slice_bottom _ hk, top, low]
      have hset := SetsBit.of_retire (i := .cmpTTEQ i n) (exec_cmpTTEQ (n := n) (s := s) hlen) rfl
      rw [hfield, hpattern] at hset
      exact hset
  case moves =>
    intro a adr
    refine ⟨.of_retire rfl (by simp [a]), .of_retire rfl (by simp [a]), .of_retire rfl (sext48_toInt a),
      .of_retire rfl (zext48_toNat a), .of_retire rfl ?xmovST, .of_retire rfl ?xmovZT, .of_retire rfl (slice_withTag _ _),
      .of_retire rfl (slice_withTag _ _), fun e he hi => ?tag, fun hi => exec_movTTTag_undefined (ttLen_eq_none hi)⟩
    case xmovST =>
      simp only [loWord_quad, hiWord_quad, loWord_getPair, hiWord_getPair]
      exact ⟨sext48_toInt _, sext48_toInt _⟩
    case xmovZT =>
      simp only [loWord_quad, hiWord_quad, loWord_getPair, hiWord_getPair]
      exact ⟨zext48_toNat _, zext48_toNat _⟩
    case tag =>
      have hlen := ttLen_eq_some he i hi
      have hk := ttLen_le hlen
      refine .of_retire (exec_movTTTag hlen) ?_
      rw [toNat_zext_or_shiftLeft _ (by omega) (toNat_div_two_pow_lt hk)]
      have hlow : a.toNat % 2 ^ (64 - e.2.2) < 2 ^ (64 - e.2.2) := Nat.mod_lt _ (Nat.two_pow_pos _)
      exact ⟨by rw [Nat.add_comm, Nat.add_mul_div_right _ _ (Nat.two_pow_pos _), Nat.div_eq_of_lt hlow, Nat.zero_add],
        by rw [Nat.mul_add_mod_self_right, Nat.mod_mod]⟩

end Sys2Proof.Machine

/-! ### Bounds checks (47_system_ttag.md R652 to R663) -/

namespace Sys2Proof.Machine

open Sys2Proof

section

variable {n : Reg} {s : State} {off : Int} (p : Word)

/-- The bound a pointer carries, by its exponent and its fraction (R652). -/
theorem boundOf_slice : boundOf (slice p 48 8) =
    if (slice p 51 5).toNat = 0 then (slice p 48 3).toNat
    else (8 + (slice p 48 3).toNat) * 2 ^ ((slice p 51 5).toNat - 1) := by
  simp only [boundOf, slice_of_slice _ (show 3 + 5 ≤ 8 by decide), slice_of_slice _ (show 0 + 3 ≤ 8 by decide), Nat.shiftLeft_eq]
theorem biasOf_eq : biasOf p = (slice p 56 4).toNat * 2 ^ ((slice p 51 5).toNat - 1) := Nat.shiftLeft_eq ..
theorem inBounds_iff (off : Int) : inBounds p off = true ↔
    0 ≤ off + (biasOf p : Int) ∧ off + (biasOf p : Int) < (boundOf (slice p 48 8) : Int) := by
  simp only [inBounds, Bool.and_eq_true, decide_eq_true_eq]

/-- A pointer lets an access at a byte offset pass: it is untagged, or bounded with the offset inside (R653). -/
def BoundsPass (p : Word) (off : Int) : Prop := ptrTag p = 0#4 ∨ (ptrTag p = 3#4 ∧ inBounds p off = true)

theorem boundsPass_iff (off : Int) : (ptrTag p == 0#4 || (ptrTag p == 3#4 && inBounds p off)) = true ↔ BoundsPass p off := by
  simp only [Bool.or_eq_true, Bool.and_eq_true, beq_iff_eq, BoundsPass]
theorem bndchk_pass (h : BoundsPass (getReg s n) off) : bndchk off n s = .next s.done := if_pos ((boundsPass_iff ..).2 h)
theorem bndchk_trap (h : ¬ BoundsPass (getReg s n) off) : bndchk off n s = .next (s.trapped .boundsCheck none) :=
  (if_neg (mt (boundsPass_iff ..).1 h)).trans (raise_eq _ s)
/-- A raw pointer has all its tag bits clear (R658). -/
theorem slice_tag_eq_zero_iff : ptrTag p = 0#4 ∧ slice p 48 12 = 0#12 ↔ slice p 48 16 = 0#16 := by
  simp only [ptrTag, ← BitVec.toNat_inj, toNat_slice, BitVec.toNat_zero]
  omega

end

/-! ### Capabilities (47_system_ttag.md R648, R941, R942) -/

section

variable {m n : Pair} {s : State} {v : Quad} {t : BitVec 32}

theorem boundsOn_eq (s : State) : boundsOn s = Config.bceEnabled s.sr := rfl
/-- The two tags, each above its address. -/
theorem withTags_eq (t : BitVec 32) (v : Quad) :
    withTags t v = slice t 16 16 ++ (slice v 64 48 : BitVec 48) ++ slice t 0 16 ++ (slice v 0 48 : BitVec 48) := by
  rw [withTags, quad, withTag, withTag, hiWord_eq_slice, loWord_eq_slice, slice_of_slice _ (by decide), slice_of_slice _ (by decide),
    BitVec.append_assoc', BitVec.cast_eq]

theorem exec_xbless_open (hps : [m, n].all pairAllowed = true) (h : enforcing s = false) :
    exec (.xbless m n) s = .next (s.wrotePair n (Config.bless (getPair s m))) :=
  (withPairs_eq hps).trans ((if_neg (Bool.eq_false_iff.1 h)).trans (retire_setPair ..))
theorem exec_xbless_enforced (hps : [m, n].all pairAllowed = true) (h : enforcing s = true) :
    exec (.xbless m n) s = .next (if Config.isBlessed (getPair s m) then s.wrotePair n (getPair s m)
      else s.trapped .xblessFault none) := by
  refine (withPairs_eq hps).trans ((if_pos h).trans ?_)
  split
  · exact retire_setPair ..
  · exact raise_eq _ s


/-! Tagging, by what the enforcement of bounds makes of it (R941). -/

theorem xmovtt_open (h : boundsOn s = false) : xmovtt v t n s = .next (s.wrotePair n (Config.bless (withTags t v))) :=
  (if_neg (by decide)).trans ((if_neg (Bool.eq_false_iff.1 h)).trans (retire_setPair ..))
theorem xmovtt_fault (h : boundsOn s = true) (hset : Config.bceSetBounds v t (!supervisor s) = none) :
    xmovtt v t n s = .next (s.trapped .xblessFault none) := by
  rw [xmovtt, if_neg (by decide), if_pos h, hset]
  exact raise_eq _ s
theorem xmovtt_blessed (h : boundsOn s = true) (hset : Config.bceSetBounds v t (!supervisor s) = some true) :
    xmovtt v t n s = .next (s.wrotePair n (Config.bless (withTags t v))) := by
  rw [xmovtt, if_neg (by decide), if_pos h, hset]
  exact retire_setPair ..
theorem xmovtt_unblessed (h : boundsOn s = true) (hset : Config.bceSetBounds v t (!supervisor s) = some false) :
    xmovtt v t n s = .next (s.wrotePair n (withTags t v)) := by
  rw [xmovtt, if_neg (by decide), if_pos h, hset]
  exact retire_setPair ..

end

/-- Settles O47: a check compares the biased offset with the bound, and a capability operation is what the enforcement of
bounds lets it be. -/
theorem boundsAndCapabilities : Obligations.BoundsAndCapabilities := by
  refine ⟨fun m n i s => ?bounds, fun o i pm pn s => ?capabilities⟩
  case bounds =>
    intro p x tag e f bound bias inside
    have hinside (off : Int) : inBounds p off = true ↔ inside off := by
      rw [inBounds_iff, biasOf_eq, boundOf_slice]
    have hpass (off : Int) : BoundsPass p off ↔ tag = 0#4 ∨ (tag = 3#4 ∧ inside off) := by
      rw [BoundsPass, hinside]
      rfl
    have checks {j : Instr} {off off' : Int} (hj : exec j s = bndchk off' n s) (hoff : off' = off) :
        (tag = 0#4 ∨ (tag = 3#4 ∧ inside off) → exec j s = .next s.done) ∧
          (¬ (tag = 0#4 ∨ (tag = 3#4 ∧ inside off)) → exec j s = .next (s.trapped .boundsCheck none)) := by
      subst hoff
      exact ⟨fun h => hj.trans (bndchk_pass ((hpass _).2 h)), fun h => hj.trans (bndchk_trap (mt (hpass _).1 h))⟩
    have compares {j : Instr} {off off' : Int} (hj : exec j s = bndcmp off' n s) (hoff : off' = off) :
        ∃ b, SetsBit j 0 s b ∧ (b = true ↔ ((slice p 48 16 : BitVec 16) = 0#16 ∨ (tag = 3#4 ∧ inside off))) := by
      subst hoff
      refine ⟨_, .of_retire (f := .t) hj rfl, ?_⟩
      simp only [Bool.or_eq_true, Bool.and_eq_true, beq_iff_eq, slice_tag_eq_zero_iff]
      rw [← hinside]
      rfl
    simp only [List.forall_mem_cons, List.not_mem_nil, false_implies, implies_true, and_true]
    exact ⟨⟨checks rfl (Int.mul_one _), checks rfl rfl, checks rfl rfl, checks rfl rfl, checks rfl rfl⟩,
      compares rfl (Int.mul_one _), compares rfl rfl, compares rfl rfl, compares rfl rfl, compares rfl rfl⟩
  case capabilities =>
    intro x tagged enforced open'
    refine ⟨withPairs_refused, fun hps => ?bless, ?tag⟩
    case bless =>
      have hclosed : enforcing s = !open' := by rw [Bool.not_or, Bool.not_not]; rfl
      cases hopen : open'
      · exact exec_xbless_enforced hps (by rw [hclosed, hopen]; rfl)
      · exact exec_xbless_open hps (by rw [hclosed, hopen]; rfl)
    case tag =>
      intro e he
      obtain ⟨j, ps, v, t, hj, rfl⟩ : ∃ j ps v t, exec j s = withPairs ps (xmovtt v t pn s) ∧ e = (j, ps, v, t) := by
        rcases List.mem_pair.1 he with rfl | rfl
        · exact ⟨_, _, _, _, rfl, rfl⟩
        · exact ⟨_, _, _, _, rfl, rfl⟩
      refine ⟨fun hps => hj.trans (withPairs_refused hps), fun hps => ?_⟩
      have htags : tagged v t = withTags t v := (withTags_eq t v).symm
      rw [hj, withPairs_eq hps, if_neg (by decide), htags]
      rcases henforced : enforced with _ | _
      · exact xmovtt_open henforced
      · rw [if_pos rfl]
        rcases hset : Config.bceSetBounds v t (!supervisor s) with _ | (_ | _)
        · exact xmovtt_fault henforced hset
        · exact xmovtt_unblessed henforced hset
        · exact xmovtt_blessed henforced hset

end Sys2Proof.Machine

/-! ### Identification, sleep, canaries and WEX profiles (47_system_ttag.md R597, R600 to R604, R612, R613, R646, R647, R650) -/

namespace Sys2Proof.Machine

open Sys2Proof

section

variable {i : BitVec 5} {m n : Reg} {s : State}

/-! The fields of CPUID's words (R601, R602). -/

theorem slice_name (version : BitVec 24) (profile : BitVec 8) (name : BitVec 32) :
    slice (version ++ profile ++ name : Word) 0 40 = profile ++ name := by
  rw [← slice_append_slice (k := 8) (l := 32) (hi := 32) _ rfl]
  simp
theorem slice_features (assoc : BitVec 3) (rows : BitVec 5) (features : BitVec 24) (core : BitVec 8) :
    let v : Word := assoc ++ rows ++ 0#24 ++ features ++ core
    slice v 0 8 = core ∧ slice v 8 24 = features ∧ slice v 32 24 = 0#24 ∧ slice v 56 5 = rows ∧ slice v 61 3 = assoc := by
  simp

/-- The indices CPUID gives no meaning of their own (R600). -/
theorem exec_cpuid_other (h : i ∉ [0#5, 1#5, 28#5, 30#5, 31#5]) :
    exec (.cpuid i) s = retire (setReg s dlr (Config.cpuid i)) := by
  show execCpuid i s = _
  unfold execCpuid
  split
  case h_6 => rfl
  all_goals exact absurd (by decide) h

theorem interruptsOff_iff : interruptsOff s = true ↔ srBL s = true ∨ srIPL s = 0#2 := by
  rw [interruptsOff, Bool.or_eq_true, beq_iff_eq]
/-- Where an interrupt can wake the core, SLEEP never faults. -/
theorem exec_sleep_on (h : interruptsOff s = false) : exec .sleep s = .next { s.done with sleeping := true } := by
  show execSleep s = _
  rw [execSleep, h]
  rfl
theorem exec_sleep_off (h : interruptsOff s = true) :
    exec .sleep s = .next (if Config.sleepFaults then s.trapped .sleepFault none else { s.done with sleeping := true }) := by
  show execSleep s = _
  rw [execSleep, h, Bool.true_and, raise_eq]
  split <;> rfl

theorem sniper_eq (map : List Config.MapEntry) (a : Word) :
    sniper map a = if regionOf map a.toNat ∈ [Config.Region.zeroPage, .rtsPage] then a else 0#64 := by
  unfold sniper
  split <;> simp_all
theorem sniperFor_ok {snipe : State → Nat → Word} {v : Word} {pa : Nat} (h : translateByte s .read (vaOf s v) = .ok pa) :
    sniperFor snipe s v = snipe s pa := by
  rw [sniperFor, h]
theorem sniperFor_bad {snipe : State → Nat → Word} {v : Word} {x : Barred} (h : translateByte s .read (vaOf s v) = .bad x) :
    sniperFor snipe s v = 0#64 := by
  rw [sniperFor, h]

theorem exec_vskc_match (h : getReg s n = Config.canary s.canarySeed (getReg s m)) : exec (.vskc m n) s = .next s.done :=
  if_pos (beq_iff_eq.2 h)
theorem exec_vskc_differ (h : getReg s n ≠ Config.canary s.canarySeed (getReg s m)) :
    exec (.vskc m n) s = .next (s.trapped .canaryCheck none) :=
  (if_neg (mt beq_iff_eq.1 h)).trans (raise_eq _ s)

theorem exec_wexmd_profile (h : i ≠ 31#5) :
    exec (.wexmd i) s = .next (s.wroteSR (setBit s.sr 27 (Config.wexProfileSupported i))) := by
  show execWexmd i s = _
  rw [execWexmd, if_neg (by decide), if_neg (mt beq_iff_eq.1 h)]
  rfl
theorem exec_wexmd_off (h : supervisor s = true) : exec (.wexmd 31#5) s =
    .next { (s.drew 1).wroteSR (setBit s.sr 27 false) with canarySeed := Config.draw s.draws } :=
  if_pos h
theorem exec_wexmd_user (h : supervisor s = false) : exec (.wexmd 31#5) s = .next s.done :=
  if_neg (Bool.eq_false_iff.1 h)

end

/-- Settles O44: each instruction writes the one value its rule gives. -/
theorem identificationSleepAndCanary : Obligations.IdentificationSleepAndCanary := by
  intro m n i s
  refine ⟨.of_retire rfl (slice_name ..), .of_retire rfl (slice_features ..), .of_retire rfl rfl, .of_retire rfl rfl, ⟨_, rfl, rfl⟩,
    fun hi => .of_retire (exec_cpuid_other hi) rfl, fun hbl hipl => exec_sleep_on ?awake,
    fun h => exec_sleep_off (interruptsOff_iff.2 h), ?sniper, .of_retire rfl rfl, exec_vskc_match, exec_vskc_differ,
    fun hi => ⟨_, exec_wexmd_profile hi, oneBit_setBit⟩, fun hs => ⟨_, exec_wexmd_off hs, oneBit_setBit⟩, exec_wexmd_user⟩
  case awake =>
    refine Bool.eq_false_iff.2 (mt interruptsOff_iff.1 ?_)
    rintro (h | h)
    · exact absurd h (Bool.eq_false_iff.1 hbl)
    · exact hipl h
  case sniper =>
    intro usable
    exact ⟨fun pa h => ⟨.of_retire rfl ((sniperFor_ok h).trans (sniper_eq ..)), .of_retire rfl ((sniperFor_ok h).trans (sniper_eq ..))⟩,
      fun x h => ⟨.of_retire rfl (sniperFor_bad h), .of_retire rfl (sniperFor_bad h)⟩⟩

end Sys2Proof.Machine

/-! ### The keyring and the local mode transitions (47_system_ttag.md R620 to R623, R630 to R632) -/

namespace Sys2Proof.Machine

open Sys2Proof

section

variable {i : Instr} {ok md rb : Bool} {s : State}

theorem exec_ldekrr_valid {k : Word} (h : s.ldekrrEnabled = true) (hk : Config.keyDecode s.ekey (dhrDlr s) = some k) :
    exec .ldekrr s = .next { s.done with krr := k } := by
  show execLdekrr s = _
  rw [execLdekrr, if_pos h, hk]
  rfl
theorem exec_ldekrr_invalid (h : s.ldekrrEnabled = true) (hk : Config.keyDecode s.ekey (dhrDlr s) = none) :
    exec .ldekrr s = .next (s.trapped .keyFault none) := by
  show execLdekrr s = _
  rw [execLdekrr, if_pos h, hk]
  exact raise_eq _ s
theorem exec_ldekrr_disabled (h : s.ldekrrEnabled = false) : exec .ldekrr s = .next (s.trapped .keyFault none) :=
  (if_neg (Bool.eq_false_iff.1 h)).trans (raise_eq _ s)
theorem retire_setDhrDlr (q : Quad) : retire (setDhrDlr s q) =
    .next { s.done with regs := (s.regs.set 0 (slice q 0 64) (by decide)).set 1 (slice q 64 64) (by decide) } := by
  rw [setDhrDlr, loWord_eq_slice, hiWord_eq_slice]
  rfl

/-- SR with MD and RB replaced. -/
theorem getLsbD_setMode (v : Word) (md rb : Bool) {k : Nat} (hk : k < 64) :
    (setBit (setBit v 30 md) 29 rb).getLsbD k = if k = 30 then md else if k = 29 then rb else v.getLsbD k := by
  simp only [getLsbD_setBit, hk, and_true]
  grind
theorem enterMode_ok (h : ok = true) : enterMode ok md rb s = .next (s.wroteSR (setBit (setBit s.sr 30 md) 29 rb)) := if_pos h
theorem enterMode_trap (h : ok ≠ true) : enterMode ok md rb s = .next (s.trapped .privilegeViolation none) :=
  (if_neg h).trans (raise_eq _ s)

/-- A transition to the mode of two bits: from a state that may, MD and RB alone change; another traps. -/
theorem enterMode_cases {ok' : Bool} (hi : exec i s = enterMode ok' md rb s) (hok : ok' = ok) :
    if ok then ∃ v, exec i s = .next (s.wroteSR v) ∧
      ∀ k, k < 64 → v.getLsbD k = if k = 30 then md else if k = 29 then rb else s.sr.getLsbD k
    else exec i s = .next (s.trapped .privilegeViolation none) := by
  subst hok
  split
  · exact ⟨_, hi.trans (enterMode_ok ‹_›), fun _ => getLsbD_setMode _ _ _⟩
  · exact hi.trans (enterMode_trap ‹_›)
/-- Beside Supervisor mode, that MD is clear need not be asked. -/
theorem or_not_and_and (a b c : Bool) : (a || (!a && b && c)) = (a || (b && c)) := by
  cases a <;> rfl

end

/-- Settles O46: the key instructions by what is enabled and valid, each transition by the mode and the page it starts from. -/
theorem keyringAndModeTransitions : Obligations.KeyringAndModeTransitions := by
  refine ⟨fun s => ⟨fun h => ?load, exec_ldekrr_disabled, retire_setDhrDlr _,
      fun hs => (supervisorOnly_eq hs).trans (retire_setDhrDlr _), fun hs => ⟨_, supervisorOnly_eq hs, bne_iff_ne⟩⟩,
    fun s => ⟨enterMode_cases rfl (or_not_and_and ..), enterMode_cases rfl (or_not_and_and ..), enterMode_cases rfl rfl⟩⟩
  case load =>
    rcases hk : Config.keyDecode s.ekey (getReg s dhr ++ getReg s dlr) with _ | k
    · exact exec_ldekrr_invalid h hk
    · exact exec_ldekrr_valid h hk

end Sys2Proof.Machine

/-! ### The TLB and the ACL cache (47_system_ttag.md R606, R610, R611, R614; 10_state.md R50) -/

namespace Sys2Proof.Machine

open Sys2Proof

section

variable {s : State} {row : Nat}

/-- The oldest entry of a row goes: none of its row stands before it. -/
theorem dropOldest_cases {l : List TlbEntry} (h : 0 < (l.filter fun x => x.row == row).length) :
    ∃ old before after, old.row = row ∧ l = before ++ old :: after ∧ dropOldest row l = before ++ after ∧
      ∀ x ∈ before, x.row ≠ row := by
  induction l with
  | nil => cases h
  | cons e l ih =>
    by_cases he : e.row = row
    · exact ⟨e, [], l, he, rfl, if_pos he, nofun⟩
    · rw [List.filter_cons_of_neg (by simpa using he)] at h
      obtain ⟨old, before, after, hold, hl, hdrop, hbefore⟩ := ih h
      refine ⟨old, e :: before, after, hold, by rw [hl]; rfl, ?_, List.forall_mem_cons.2 ⟨he, hbefore⟩⟩
      rw [dropOldest, if_neg he, hdrop]
      rfl
/-- An entry is inserted last; where its row was full, the oldest of the row has gone. -/
theorem tlbInsert_cases (l : List TlbEntry) (e : TlbEntry) : ∃ l', tlbInsert l e = l' ++ [e] ∧
    (l' = l ∧ (l.filter fun x => x.row == e.row).length < 2 ^ Config.tlbAssocLog2.toNat ∨
      ∃ old before after, old.row = e.row ∧ l = before ++ old :: after ∧ l' = before ++ after ∧
        (∀ x ∈ before, x.row ≠ e.row) ∧ 2 ^ Config.tlbAssocLog2.toNat ≤ (l.filter fun x => x.row == e.row).length) := by
  rw [tlbInsert]
  split
  · next hfull =>
    obtain ⟨old, before, after, hold, hl, hdrop, hbefore⟩ := dropOldest_cases (Nat.lt_of_lt_of_le (Nat.two_pow_pos _) hfull)
    exact ⟨_, rfl, .inr ⟨old, before, after, hold, hl, hdrop, hbefore, hfull⟩⟩
  · next hroom => exact ⟨l, rfl, .inl ⟨rfl, Nat.not_le.1 hroom⟩⟩

theorem isrOnly_eq {go : Out State} (h : inISR s = true) : isrOnly s go = go := if_pos h
theorem isrOnly_trap {go : Out State} (h : inISR s = false) : isrOnly s go = .next (s.trapped .breakpoint none) :=
  (if_neg (Bool.eq_false_iff.1 h)).trans (raise_eq _ s)

end

/-! ### Cache maintenance (47_system_ttag.md R607, R608; 20_memory.md R97, R98) -/

section

variable {n : Reg} {s : State} {v : Word}

/-- The values that name every line (R607), and those that flush L2 (R608, log 14). -/
def NamesAll (v : Word) : Prop := v = 0xFFFFFFFF#64 ∨ v = BitVec.allOnes 64
def FlushesL2 (v : Word) : Prop := v = 0xFFFFFFFE#64 ∨ v = BitVec.allOnes 64 - 1#64

theorem namesAll_iff : (v == 0xFFFFFFFF#64 || v == BitVec.allOnes 64) = true ↔ NamesAll v := by
  simp only [Bool.or_eq_true, beq_iff_eq, NamesAll]
theorem flushesL2_iff : (v == 0xFFFFFFFE#64 || v == BitVec.ofInt 64 (-2)) = true ↔ FlushesL2 v := by
  simp only [Bool.or_eq_true, beq_iff_eq]
  exact .rfl
theorem NamesAll.not_flushesL2 (h : NamesAll v) : ¬ FlushesL2 v := by
  unfold FlushesL2
  rcases h with rfl | rfl
  · decide
  · decide

/-! The lines a value names. -/

theorem lineSel_all (h : NamesAll v) : lineSel s v = .all := if_pos (namesAll_iff.2 h)
theorem lineSel_ok {pa : Nat} (h : ¬ NamesAll v) (hpa : translateByte s .read (vaOf s v) = .ok pa) :
    lineSel s v = if isMmio s pa then .mmio else .one (lineOf pa) := by
  rw [lineSel, if_neg (mt namesAll_iff.1 h), hpa]
theorem lineSel_bad {x : Barred} (h : ¬ NamesAll v) (hx : translateByte s .read (vaOf s v) = .bad x) :
    lineSel s v = .nothing := by
  rw [lineSel, if_neg (mt namesAll_iff.1 h), hx]

/-! What becomes of the records of the bytes of some lines (log 14). -/

/-- Those that have reached L2 are dropped. -/
def dropReached (sel : LineSel) (l : List StaleByte) : List StaleByte :=
  l.filter fun e => !(inSel sel e && e.stage == .inL2)
/-- They move one stage on. -/
def moveOn (sel : LineSel) (l : List StaleByte) : List StaleByte :=
  l.map fun e => if inSel sel e then { e with stage := flushStep e.stage } else e

theorem dropReached_nothing (l : List StaleByte) : dropReached .nothing l = l := List.filter_eq_self.2 fun _ _ => rfl
theorem moveOn_nothing (l : List StaleByte) : moveOn .nothing l = l := List.map_id l

theorem exec_invic_eq {sel : LineSel} (hsel : lineSel s (getReg s n) = sel) (h : sel ≠ .mmio) :
    exec (.invic n) s = .next { s.done with stale := dropReached sel s.stale } := by
  show execInvic n s = _
  rw [execInvic, hsel]
  split
  · contradiction
  · rfl
theorem exec_invic_mmio (hsel : lineSel s (getReg s n) = .mmio) : exec (.invic n) s = .refused .mmio := by
  show execInvic n s = _
  rw [execInvic, hsel]
theorem exec_invdc_L2 (h : FlushesL2 (getReg s n)) : exec (.invdc n) s = .next s.done := if_pos (flushesL2_iff.2 h)
theorem exec_invdc_eq {sel : LineSel} (hL2 : ¬ FlushesL2 (getReg s n)) (hsel : lineSel s (getReg s n) = sel) (h : sel ≠ .mmio) :
    exec (.invdc n) s = .next { s.done with stale := moveOn sel s.stale } := by
  refine (if_neg (mt flushesL2_iff.1 hL2)).trans ?_
  rw [hsel]
  split
  · contradiction
  · rfl
theorem exec_invdc_mmio (hL2 : ¬ FlushesL2 (getReg s n)) (hsel : lineSel s (getReg s n) = .mmio) :
    exec (.invdc n) s = .refused .mmio := by
  refine (if_neg (mt flushesL2_iff.1 hL2)).trans ?_
  rw [hsel]

end

/-! ### Tripwires (47_system_ttag.md R645; 20_memory.md R91) -/

section

variable {k : Config.Access} {s : State} {line : Nat} {mode : BitVec 4} {ws : List Tripwire}

/-- The record SETTRAP makes for a line that has none. -/
def noFlags (line : Nat) : Tripwire := { line := line, noRead := false, noWrite := false, noFetch := false }

theorem mem_setWire_of_ne {w : Tripwire} (h : w.line ≠ line) : w ∈ setWire line mode ws ↔ w ∈ ws := by
  have hne {x : Tripwire} (hx : x.line = line) : w ≠ x := fun e => h (e ▸ hx)
  induction ws with
  | nil => exact iff_of_false (fun hw => hne (x := wireUpdate mode (noFlags line)) rfl (List.mem_singleton.1 hw)) List.not_mem_nil
  | cons x ws ih =>
    rw [setWire]
    split
    · next hx => rw [List.mem_cons, List.mem_cons, or_iff_right (hne (x := wireUpdate mode x) hx), or_iff_right (hne hx)]
    · exact List.mem_cons.trans ((or_congr_right ih).trans List.mem_cons.symm)
/-- The line's record is updated from the one it had, or from one without a flag. -/
theorem exists_mem_setWire (line : Nat) (mode : BitVec 4) (ws : List Tripwire) : ∃ old : Tripwire,
    wireUpdate mode old ∈ setWire line mode ws ∧ old.line = line ∧
      (old ∈ ws ∨ (∀ x ∈ ws, x.line ≠ line) ∧ old = noFlags line) := by
  induction ws with
  | nil => exact ⟨noFlags line, .head _, rfl, .inr ⟨nofun, rfl⟩⟩
  | cons x ws ih =>
    rw [setWire]
    split
    · next hx => exact ⟨x, .head _, hx, .inl (.head _)⟩
    · next hx =>
      obtain ⟨old, hmem, hold, hwas⟩ := ih
      exact ⟨old, .tail _ hmem, hold, hwas.imp (.tail _) fun ⟨hnone, h⟩ => ⟨List.forall_mem_cons.2 ⟨hx, hnone⟩, h⟩⟩

theorem wireUpdate_slice (mode : Word) (w : Tripwire) : wireUpdate (slice mode 0 4) w = { w with
    noRead := if mode.getLsbD 3 then mode.getLsbD 0 else w.noRead
    noFetch := if mode.getLsbD 2 then mode.getLsbD 0 else w.noFetch
    noWrite := if mode.getLsbD 1 then mode.getLsbD 0 else w.noWrite } := by
  simp only [wireUpdate, bitAt_slice mode (lo := 0) (show 3 < 4 by decide), bitAt_slice mode (lo := 0) (show 2 < 4 by decide),
    bitAt_slice mode (lo := 0) (show 1 < 4 by decide), bitAt_slice mode (lo := 0) (show 0 < 4 by decide)]
  rfl

theorem wired_of_noRead {va : Nat} (h : ∃ w ∈ s.tripwires, w.line = lineOf va ∧ w.noRead = true) : wired s .read va = true := by
  obtain ⟨w, hw, hline, hflag⟩ := h
  exact List.any_eq_true.2 ⟨w, hw, Bool.and_eq_true_iff.2 ⟨beq_iff_eq.2 hline, hflag⟩⟩
theorem wired_of_noWrite {va : Nat} (h : ∃ w ∈ s.tripwires, w.line = lineOf va ∧ w.noWrite = true) : wired s .write va = true := by
  obtain ⟨w, hw, hline, hflag⟩ := h
  exact List.any_eq_true.2 ⟨w, hw, Bool.and_eq_true_iff.2 ⟨beq_iff_eq.2 hline, hflag⟩⟩
/-- A byte under a tripwire: a free bit says whether it is in force, and where it is not the access goes on. -/
theorem resolveAll_wired {va pa : Nat} (hw : wired s k va = true) (ht : translateByte s k va = .ok pa) :
    resolveAll k va [va] s =
      if freeBit s then .stop (.next ((s.drew 1).trapped .tripwire (some (BitVec.ofNat 64 va)))) else .ok [pa] (s.drew 1) := by
  have hmap : mapAll s k [va] = .all [pa] := by
    rw [mapAll, ht]
    rfl
  have htea : teaOf va va = va := if_pos (.inl rfl)
  simp only [resolveAll, hmap, tripped, hw, if_true]
  cases freeBit s
  · rfl
  · exact congrArg Resolved.stop ((raiseAt_eq ..).trans (by rw [htea]; rfl))

/-- The one byte of a byte access. -/
theorem spanOf_one (space va : Nat) : spanOf space va 1 = [va % space] := rfl
theorem access_of_wired {space va pa : Nat} (hw : wired s k (va % space) = true)
    (ht : translateByte s k (va % space) = .ok pa) (hpa : regionOf s.map pa ≠ .mmio) (hfree : freeBit s = false) :
    Access k space va 1 s [pa] (s.drew 1) := by
  refine ⟨?_, any_isMmio_iff.2 (by simpa using hpa)⟩
  rw [spanOf_one, resolveAll_wired hw ht, hfree]
  rfl
/-- A byte access under a tripwire stops where it is in force. -/
theorem exec_of_wired {i : Instr} {space va pa : Nat} {go : List Nat → State → Out State} {P : Prop}
    (hi : exec i s = resolve k space va 1 s go) (hw : wired s k (va % space) = true)
    (ht : translateByte s k (va % space) = .ok pa) (hpass : freeBit s = false → P) :
    if freeBit s then exec i s = .next ((s.drew 1).trapped .tripwire (some (BitVec.ofNat 64 (va % space)))) else P := by
  split
  · next hforce =>
    rw [hi, resolve, spanOf_one, resolveAll_wired hw ht, hforce]
    rfl
  · next hforce => exact hpass (Bool.eq_false_iff.2 hforce)

/-! The number of one byte. -/

theorem bytesLE_singleton (s : State) (pa : Nat) : bytesLE s [pa] = (readByte s pa).toNat := by
  rw [bytesLE, bytesLE, Nat.mul_zero, Nat.add_zero]
theorem zext_ofNat_toNat (b : Byte) : zext 8 (BitVec.ofNat 64 b.toNat) = b.setWidth 64 := by
  apply BitVec.eq_of_toNat_eq
  rw [toNat_zext_ofNat (by decide) b.isLt, BitVec.toNat_setWidth_of_le (by decide)]

end

/-- Settles O45: each maintenance instruction by the lines or the row it names, a tripwire by the record of its line, and an
access under one by the free bit. -/
theorem cacheTlbAndTripwires : Obligations.CacheTlbAndTripwires := by
  refine ⟨fun n s => ⟨fun hs => supervisorOnly_eq hs, fun hs => supervisorOnly_eq hs, fun h i hi => ?breaks,
    fun h e he => ?inserts, ?caches, fun x hx hall32 hall => ?untranslated⟩, fun m n s => ?settrap, fun n a pa s => ?tripwires⟩
  case breaks =>
    rcases List.mem_pair.1 hi with rfl | rfl
    · exact isrOnly_trap h
    · exact isrOnly_trap h
  case inserts =>
    have hexec : exec e.1 s = .next { s.done with tlb := tlbInsert s.tlb (tlbEntry s e.2.1 e.2.2) } := by
      rcases List.mem_pair.1 he with rfl | rfl
      · exact isrOnly_eq h
      · exact isrOnly_eq h
    obtain ⟨l, hl, hrow⟩ := tlbInsert_cases s.tlb (tlbEntry s e.2.1 e.2.2)
    exact ⟨l, (tlbEntry s e.2.1 e.2.2).row, by rw [hexec, hl]; rfl, rfl, hrow⟩
  case caches =>
    intro v invic all two onward
    refine ⟨⟨rfl, rfl, rfl, rfl⟩, fun h => ?all, exec_invdc_L2, fun pa hpa hall hmmio => ?device, fun pa hpa hall hmmio => ?line⟩
    case all =>
      exact ⟨exec_invic_eq (lineSel_all h) nofun, exec_invdc_eq (NamesAll.not_flushesL2 h) (lineSel_all h) nofun⟩
    case device =>
      have hsel : lineSel s v = .mmio := (lineSel_ok hall hpa).trans (if_pos (beq_iff_eq.2 hmmio))
      exact ⟨exec_invic_mmio hsel, fun hL2 => exec_invdc_mmio hL2 hsel⟩
    case line =>
      have hsel : lineSel s v = .one (lineOf pa) := (lineSel_ok hall hpa).trans (if_neg (mt beq_iff_eq.1 hmmio))
      exact ⟨exec_invic_eq hsel nofun, fun hL2 => exec_invdc_eq hL2 hsel nofun⟩
  case untranslated =>
    have hsel : lineSel s (getReg s n) = .nothing := lineSel_bad (not_or.2 ⟨hall32, hall⟩) hx
    refine ⟨?_, ?_⟩
    · rw [exec_invic_eq hsel nofun, dropReached_nothing]
      rfl
    · by_cases hL2 : FlushesL2 (getReg s n)
      · exact exec_invdc_L2 hL2
      · rw [exec_invdc_eq hL2 hsel nofun, moveOn_nothing]
        rfl
  case settrap =>
    intro line mode
    obtain ⟨old, hmem, hold, hwas⟩ := exists_mem_setWire line (slice mode 0 4) s.tripwires
    refine ⟨_, rfl, rfl, fun w hw => mem_setWire_of_ne hw, _, hmem, hold, old, hold,
      hwas.imp_right fun ⟨hnone, hnew⟩ => ⟨hnone, ?new⟩, ?flags⟩
    case new =>
      rw [hnew]
      exact ⟨rfl, rfl, rfl⟩
    case flags =>
      rw [wireUpdate_slice]
      exact ⟨rfl, rfl, rfl⟩
  case tripwires =>
    intro va stops inForce
    refine ⟨fun hflag ht hpa => ?read, fun hflag ht hpa => ?write⟩
    case read =>
      have hwired := wired_of_noRead hflag
      refine exec_of_wired (i := .movuB n a) rfl hwired ht fun hfree => ?_
      have hloads : Loads (.movuB n a) n (vaSpace s) (vaOf s (effAddr s 1 a)) 1 s fun x v => v = zext 8 (BitVec.ofNat 64 x) :=
        .of_load rfl fun _ _ => rfl
      obtain ⟨k, l, v, hk, hexec, hl, hv⟩ := hloads _ _ (access_of_wired hwired ht hpa hfree)
      rw [← hk, hv, bytesLE_singleton, zext_ofNat_toNat] at hexec
      exact ⟨l, hexec, hl⟩
    case write =>
      have hwired := wired_of_noWrite hflag
      refine exec_of_wired (i := .movB .store n a) rfl hwired ht fun hfree => ?_
      have haccess := access_of_wired hwired ht hpa hfree
      have hstores : Stores (.movB .store n a) (vaSpace s) (vaOf s (effAddr s 1 a)) 1 s (getReg s n).toNat := .of_store rfl
      obtain ⟨k, l, M, hk, hexec, hl, hothers, hnumber⟩ := hstores _ _ haccess
      rw [← hk] at hexec
      refine ⟨M, l, hexec, hl, fun b hb => hothers b (mt List.mem_singleton.1 hb), fun hwf => BitVec.eq_of_toNat_eq ?_⟩
      have hbyte := hnumber hwf (List.nodup_singleton pa)
      have hram : regionOf s.map pa = .ram := haccess.ram pa (.head _)
      rw [bytesLE_singleton, readByte_ram (s := { s with mem := M }) hram] at hbyte
      rw [BitVec.toNat_setWidth]
      exact hbyte

end Sys2Proof.Machine

/-! Exceptions are precise (60_exceptions.md R853, R858; decision D7). -/

namespace Sys2Proof.Machine

open Sys2Proof

section

variable {s t : State} {o : Out State}

/-- What an instruction has done by the time it raises an exception: at most read free values. -/
def Precise (s t : State) : Prop := t.faults = s.faults ∨ ∃ u e tea, Drew s u ∧ t = u.trapped e tea

theorem Precise.completed (h : t.faults = s.faults) : Precise s t := .inl h
theorem Precise.trapped {u : State} (h : Drew s u) (e : Exc) (tea : Option Word) : Precise s (u.trapped e tea) :=
  .inr ⟨u, e, tea, h, rfl⟩

/-! ### The shared forms -/

theorem precise_of_user (h : Ensures (UserChange s) o) : Ensures (Precise s) o := h.mono fun _ g => .completed g.faults
theorem precise_raise (e : Exc) (s : State) : Ensures (Precise s) (raise e s) := .raise (.trapped (.refl s) e none)
theorem precise_raiseAt (e : Exc) (va : Nat) (s : State) : Ensures (Precise s) (raiseAt e va s) :=
  .raiseAt (.trapped (.refl s) e _)
theorem precise_retire (h : t.faults = s.faults) : Ensures (Precise s) (retire t) := .retire (.completed h)
theorem precise_supervisor (h : Ensures (Precise s) o) : Ensures (Precise s) (supervisorOnly s o) :=
  .supervisorOnly (fun _ => h) (.trapped (.refl s) _ _)
theorem precise_isr (h : Ensures (Precise s) o) : Ensures (Precise s) (isrOnly s o) :=
  .ite (fun _ => h) fun _ => precise_raise _ s

/-- Every byte of an access is translated before the first is read (R853), and nothing behind it raises an exception. -/
theorem precise_readVA {space va n : Nat} {go : Nat → State → Out State}
    (h : ∀ v u, Quiet s u → Ensures (fun t => t.faults = s.faults) (go v u)) : Ensures (Precise s) (readVA space va n s go) :=
  .readVA (fun v u g => (h v u g).mono fun _ => .completed) fun e _ _ g => .trapped g e _
/-- Every byte is translated before the first is written (44_load_store.md R425). -/
theorem precise_writeVA {space va n v : Nat} : Ensures (Precise s) (writeVA space va n v s retire) :=
  .writeVA (fun _ g => precise_retire g.user.faults) fun e _ _ g => .trapped g e _
/-- Both translations come before either access (45_load_store_ext.md R525). -/
theorem precise_readModifyWrite {ea : Word} {n : Nat} {f : Nat → Nat} {go : Nat → State → Out State}
    (h : ∀ v u, u.faults = s.faults → Ensures (fun t => t.faults = s.faults) (go v u)) :
    Ensures (Precise s) (readModifyWrite ea n f s go) := by
  refine .resolve (fun _ s1 hread => ?_) fun e _ _ g => .trapped g e _
  refine .resolve (fun _ s2 hwrite => ?_) fun e _ _ g => .trapped (hread.trans g) e _
  refine .readAt fun v s3 hquiet => .writeAt fun s4 hwrote => ?_
  have hchange : UserChange s s4 := ((((UserChange.refl s).drew hread).drew hwrite).trans hquiet.user).trans hwrote.user
  exact (h v s4 hchange.faults).mono fun _ => .completed

theorem retire_sameFaults (h : t.faults = s.faults) : Ensures (fun u => u.faults = s.faults) (retire t) := .retire h

theorem precise_load (size : Nat) (ext : Word → Word) (n : Reg) (a : Addr) (s : State) :
    Ensures (Precise s) (load size ext n a s) := by
  unfold load readMem
  exact precise_readVA fun _ _ g => retire_sameFaults g.user.faults
theorem precise_store (size : Nat) (n : Reg) (a : Addr) (s : State) : Ensures (Precise s) (store size n a s) := precise_writeVA
theorem precise_move (size : Nat) (ext : Word → Word) (d : Dir) (n : Reg) (a : Addr) (s : State) :
    Ensures (Precise s) (move size ext d n a s) := by
  cases d
  · exact precise_load _ _ _ _ s
  · exact precise_store _ _ _ s
theorem precise_loadTW (ext : Word → Word) (n : Reg) (a : Addr) (s : State) : Ensures (Precise s) (loadTW ext n a s) :=
  .aligned (precise_readVA fun _ _ g => retire_sameFaults g.user.faults)
theorem precise_storeTW (v : Word) (a : Addr) (s : State) : Ensures (Precise s) (storeTW v a s) := .aligned precise_writeVA
theorem precise_xmovChecked (a : XAddr) (scale size : Nat) (go : Nat → Out State)
    (h : ∀ va, Ensures (Precise s) (go va)) : Ensures (Precise s) (xmovChecked s a scale size go) := by
  refine .ite (fun _ => precise_raise _ s) fun _ => ?_
  split
  · exact h _
  · exact .ite (fun _ => precise_raiseAt _ _ s) fun _ => h _
  · exact .ite (fun _ => h _) fun _ => precise_raise _ s
  · exact .ite (fun _ => h _) fun _ => precise_raise _ s
  · exact precise_raiseAt _ _ s
theorem precise_xmov (size : Nat) (d : Dir) (n : Reg) (a : XAddr) (s : State) : Ensures (Precise s) (xmov size d n a s) := by
  refine .withPairs (precise_xmovChecked _ _ _ _ fun va => ?_)
  cases d
  · exact precise_readVA fun _ _ g => retire_sameFaults g.user.faults
  · exact precise_writeVA
theorem precise_bndchk (off : Int) (n : Reg) (s : State) : Ensures (Precise s) (bndchk off n s) :=
  .ite (fun _ => precise_retire rfl) fun _ => precise_raise _ s
theorem precise_enterMode (ok md rb : Bool) (s : State) : Ensures (Precise s) (enterMode ok md rb s) :=
  .ite (fun _ => precise_retire rfl) fun _ => precise_raise _ s
/-- TRAP is no fault: it counts none, and the address it saves is that of the next instruction. -/
theorem precise_trapCode (c : Half) (tea : Option Word) (s : State) : Ensures (Precise s) (trapCode c tea s) :=
  .ite (fun _ => .ite (fun _ => .trapTo (.completed rfl)) fun _ => .ite (fun _ => precise_retire rfl) fun _ => .refused _)
    fun _ => .refused _
theorem precise_readControl (c : CReg) (go : Word → Out State) (h : ∀ v, Ensures (Precise s) (go v)) :
    Ensures (Precise s) (readControl c s go) := by
  unfold readControl
  split
  · exact precise_raise _ s
  · exact .ite (fun _ => h _) fun _ => precise_raise _ s
theorem precise_mayWriteControl (c : CReg) (h : Ensures (Precise s) o) : Ensures (Precise s) (mayWriteControl c s o) :=
  .ite (fun _ => precise_raise _ s) fun _ => .ite (fun _ => .refused _) fun _ => .ite (fun _ => h) fun _ => precise_raise _ s
theorem setControl_sameFaults (c : CReg) (v : Word) (s : State) :
    Ensures (fun t => t.faults = s.faults) (setControl c v s retire) := by
  unfold setControl
  split
  case h_2 => exact .ite (fun _ => .refused _) fun _ => retire_sameFaults rfl
  case h_14 => exact .refused _
  all_goals exact retire_sameFaults rfl
theorem precise_xmovtt (v : Quad) (t : BitVec 32) (n : Pair) (s : State) : Ensures (Precise s) (xmovtt v t n s) := by
  refine .ite (fun _ => precise_retire rfl) fun _ => .ite (fun _ => ?_) fun _ => precise_retire rfl
  split
  · exact precise_raise _ s
  · exact precise_retire rfl
  · exact precise_retire rfl

/-! ### The instructions with a form of their own -/

theorem precise_movX (d : Dir) (n : Pair) (a : Addr) (s : State) : Ensures (Precise s) (execMovX d n a s) := by
  refine .withPairs (.aligned ?_)
  cases d
  · exact precise_readVA fun _ _ g => retire_sameFaults g.user.faults
  · exact precise_writeVA
theorem precise_movC (d : Dir) (c : CReg) (a : Addr) (s : State) : Ensures (Precise s) (execMovC d c a s) := by
  cases d
  · exact precise_mayWriteControl c (precise_readVA fun _ u g => (setControl_sameFaults c _ u).mono fun _ h => h.trans g.user.faults)
  · exact precise_readControl c _ fun _ => precise_writeVA
theorem precise_movTW (d : Dir) (n : Reg) (a : Addr) (s : State) : Ensures (Precise s) (execMovTW d n a s) := by
  cases d
  · exact precise_loadTW _ _ _ s
  · exact precise_storeTW _ _ s
theorem precise_movHTW (d : Dir) (n : Reg) (a : Addr) (s : State) : Ensures (Precise s) (execMovHTW d n a s) := by
  cases d
  · exact precise_loadTW (fun v => v <<< 16) _ _ s
  · exact precise_storeTW _ _ s
theorem precise_xmovX (d : Dir) (n : Pair) (a : XAddr) (s : State) : Ensures (Precise s) (execXmovX d n a s) := by
  refine .withPairs (precise_xmovChecked _ _ _ _ fun va => .ite (fun _ => ?_) fun _ => .refused _)
  cases d
  · exact precise_readVA fun _ _ g => retire_sameFaults g.user.faults
  · exact precise_writeVA
theorem precise_ldop (u : BitVec 4) (d : Dir) (k : LdOpSize) (n : Reg) (a : Addr) (s : State) :
    Ensures (Precise s) (execLdop u d k n a s) := by
  simp only [execLdop]
  split
  · exact precise_readVA fun _ _ g => retire_sameFaults g.user.faults
  · exact precise_readModifyWrite fun _ _ g => retire_sameFaults g
  · exact precise_readModifyWrite fun _ _ g => retire_sameFaults g
  · exact precise_readModifyWrite fun _ _ g => retire_sameFaults g
theorem precise_rte (s : State) : Ensures (Precise s) (execRte s) :=
  precise_supervisor (.ite (fun _ => .refused _) fun _ => .jumpTo (.completed rfl))
theorem precise_ldekrr (s : State) : Ensures (Precise s) (execLdekrr s) := by
  refine .ite (fun _ => ?_) fun _ => precise_raise _ s
  split
  · exact precise_retire rfl
  · exact precise_raise _ s
theorem precise_xbless (m n : Pair) (s : State) : Ensures (Precise s) (execXbless m n s) :=
  .withPairs (.ite (fun _ => .ite (fun _ => precise_retire rfl) fun _ => precise_raise _ s) fun _ => precise_retire rfl)
theorem precise_wexmd (i : BitVec 5) (s : State) : Ensures (Precise s) (execWexmd i s) :=
  .ite (fun _ => precise_retire rfl) fun _ =>
    .ite (fun _ => .ite (fun _ => precise_retire rfl) fun _ => precise_retire rfl) fun _ => precise_retire rfl
theorem precise_srttwid (i : BitVec 5) (s : State) : Ensures (Precise s) (execSrttwid i s) := by
  unfold execSrttwid
  split
  · exact precise_retire rfl
  · exact .ite (fun _ => .refused _) fun _ => precise_raise _ s
theorem precise_cmpTTEQ (i : BitVec 6) (n : Reg) (s : State) : Ensures (Precise s) (execCmpTTEQ i n s) := by
  unfold execCmpTTEQ
  split
  · exact precise_raise _ s
  · exact precise_retire rfl
theorem precise_movTTTag (m : Reg) (i : BitVec 5) (n : Reg) (s : State) : Ensures (Precise s) (execMovTTTag m i n s) := by
  unfold execMovTTTag
  split
  · exact precise_raise _ s
  · exact precise_retire rfl
theorem precise_cpuid (i : BitVec 5) (s : State) : Ensures (Precise s) (execCpuid i s) := by
  unfold execCpuid
  split
  all_goals exact precise_retire rfl
theorem precise_invic (n : Reg) (s : State) : Ensures (Precise s) (execInvic n s) := by
  unfold execInvic
  split
  · exact .refused _
  · exact precise_retire rfl
theorem precise_invdc (n : Reg) (s : State) : Ensures (Precise s) (execInvdc n s) := by
  refine .ite (fun _ => precise_retire rfl) fun _ => ?_
  split
  · exact .refused _
  · exact precise_retire rfl
theorem precise_pconv (m : Reg) (i : BitVec 8) (n : Reg) (s : State) : Ensures (Precise s) (execPconv m i n s) := by
  unfold execPconv
  split
  · exact precise_retire rfl
  · exact precise_raise _ s
theorem precise_pconvx (m : Pair) (i : BitVec 8) (n : Pair) (s : State) : Ensures (Precise s) (execPconvx m i n s) := by
  refine .withPairs ?_
  split
  · exact precise_retire rfl
  · exact precise_raise _ s

theorem precise_fsqrt (m n : Reg) (s : State) : Ensures (Precise s) (execFsqrt m n s) := by
  unfold execFsqrt
  exact precise_of_user (user_fpTo _ _ _ _ _ _ _ s)

/-! ### Every instruction -/

theorem exec_precise (i : Instr) (s : State) : Ensures (Precise s) (exec i s) := by
  cases i with
  | movB | movW | movL | movQ => exact precise_move _ _ _ _ _ s
  | movuB | movuW | movuL | movnL => exact precise_load _ _ _ _ s
  | movX d n a => exact precise_movX d n a s
  | movC d c a => exact precise_movC d c a s
  | movTW d n a => exact precise_movTW d n a s
  | movuTW => exact precise_loadTW _ _ _ s
  | movHTW d n a => exact precise_movHTW d n a s
  | xmovB | xmovW | xmovL | xmovQ => exact precise_xmov _ _ _ _ s
  | xmovX d n a => exact precise_xmovX d n a s
  | ldop u d k n a => exact precise_ldop u d k n a s
  | ldtex => exact .aligned (precise_readVA fun _ _ g => retire_sameFaults g.user.faults)
  | rbsldQ | rbsstQ | invtlb | ldacl | ldekey | ldeenc => exact precise_supervisor (precise_retire rfl)
  | rbsldX | rbsstX => exact precise_supervisor (.withPairs (.ite (fun _ => .refused _) fun _ => precise_retire rfl))
  | ldtlb | ldxtlb => exact precise_isr (precise_retire rfl)
  | movToC _ c => exact precise_mayWriteControl c ((setControl_sameFaults c _ s).mono fun _ => .completed)
  | movFromC c => exact precise_readControl c _ fun _ => precise_retire rfl
  | movToS | movFromS | trapPair => exact .refused _
  | trapImm | trapReg => exact precise_trapCode _ _ s
  | breakOp | break2 => exact precise_raise _ s
  | sleep => exact .ite (fun _ => precise_raise _ s) fun _ => precise_retire rfl
  | vskc => exact .ite (fun _ => precise_retire rfl) fun _ => precise_raise _ s
  | rte => exact precise_rte s
  | ldekrr => exact precise_ldekrr s
  | sxentr | suentr | sventr => exact precise_enterMode _ _ _ s
  | bndchkB | bndchkW | bndchkImm | bndchkL | bndchkQ => exact precise_bndchk _ _ s
  | xbless m n => exact precise_xbless m n s
  | xmovTTReg | xmovTTImm => exact .withPairs (precise_xmovtt _ _ _ s)
  | wexmd i => exact precise_wexmd i s
  | srttwid i => exact precise_srttwid i s
  | cmpTTEQ i n => exact precise_cmpTTEQ i n s
  | movTTTag m i n => exact precise_movTTTag m i n s
  | cpuid i => exact precise_cpuid i s
  | invic n => exact precise_invic n s
  | invdc n => exact precise_invdc n s
  | pconv m i n => exact precise_pconv m i n s
  | pconvx m i n => exact precise_pconvx m i n s
  | bt | bf | jt | jf | btL | bfL | brEQL | brEQQ | brNEL | brNEQ | brLTL | brLTQ | brGEL | brGEQ | brLEL | brLEQ | brGTL | brGTQ |
    jtstT | jtstQT | jtstF | jtstQF | jcmpGT | jcmpQGT | jcmpLE | jcmpQLE | jcmpHI | jcmpQHI | jcmpLS | jcmpQLS | jcmpEQ | jcmpQEQ |
    jcmpNE | jcmpQNE | jcmpz => exact precise_of_user (user_branch _ _ s)
  | bra | jmpAbs | braL => exact precise_of_user (user_jump _ s)
  | bsr | jsr | jsrAbs | bsrL => exact precise_of_user (user_call _ s)
  | rts => exact precise_of_user (user_return _ s)
  | rtsu => exact .ite (fun _ => precise_of_user (user_return _ s)) fun _ => .refused _
  | jmp => exact .ite (fun _ => precise_of_user (user_return _ s)) fun _ => precise_of_user (user_jump _ s)
  | jmpmd | jsrmd => exact .jumpTo (.completed rfl)
  | cmpEQ | cmpEQS | cmpGT | cmpGTS | cmpHI | cmpHIS | cmpGE | cmpGES | cmpHS | cmpHSS | cmpQEQ | cmpQEQS | cmpQGT | cmpQGTS |
    cmpQHI | cmpQHIS | cmpQGE | cmpQGES | cmpQHS | cmpQHSS | tst | tstS | tstQ | tstQS => exact precise_of_user (user_compare _ _ _ _ s)
  | bcdadc | bcdsbb => exact precise_of_user (user_bcd _ _ _ s)
  | bitnn => exact .ite (fun _ => .refused _) fun _ => .ite (fun _ => precise_retire rfl) fun _ => precise_retire rfl
  | bitmovImm | bitmovReg => exact precise_of_user (user_bitmov64 _ _ _ _ s)
  | bitmovsImm | bitmovsReg => exact precise_of_user (user_bitmovs64 _ _ _ _ s)
  | bitmovxImm | bitmovxReg => exact precise_of_user (user_bitmov128 _ _ _ _ _ s)
  | bitmovsxImm | bitmovsxReg => exact precise_of_user (user_bitmovs128 _ _ _ _ _ s)
  | divsQ | divuQ | divsL | divuL | modsQ | moduQ | modsL | moduL | shar | sharq | shlr | shlrq | fstci =>
    exact .ite (fun _ => precise_retire rfl) fun _ => precise_retire rfl
  | sharx | shlrx => exact precise_of_user (user_shiftRightX _ _ _ _ s)
  | pscheqW m o n => exact precise_of_user (show Ensures _ (execPscheqW m o n s) from user_search _ _ _ _ _ s)
  | pscheqB m o n => exact precise_of_user (show Ensures _ (execPscheqB m o n s) from user_search _ _ _ _ _ s)
  | pschneW m o n => exact precise_of_user (show Ensures _ (execPschneW m o n s) from user_search _ _ _ _ _ s)
  | pschneB m o n => exact precise_of_user (show Ensures _ (execPschneB m o n s) from user_search _ _ _ _ _ s)
  | pshufW33 => exact .ite (fun _ => precise_retire rfl) fun _ => .refused _
  | subxP | movx | bitselx | shadx | shldx | rotlx | muluX | mulhuX | xmovST | xmovZT | pmultxL | fdivxa | fsqrtx | fsqrtxa | cmpPEQX |
    cmpPGTX | blkutx3h | blkutx3l | fcmpXEQ | fcmpXGT | paddxF | psubxF | pmulxF | paddshxX | psubshxX | pmulshxX | pmacshFV |
    paddFV | pmulFV | paddshFV | pmulshFV | pmacF | pmasF | pmrsF | pmraF | paddxD | psubxD | pmulxD =>
    exact .withPairs (precise_retire rfl)
  | fadd | faddg | fadda | fsub | fsubg | fsuba | fmul | fmulg | fmula | paddXrm | pmulXrm =>
    exact .withRounding (precise_retire rfl)
  | fdiv m o n => exact precise_of_user (show Ensures _ (execFdiv m o n s) from user_fp2 _ _ _ _ _ s)
  | fmac m o p n => exact precise_of_user (show Ensures _ (execFmac m o p n s) from user_fp3 _ _ _ _ _ s)
  | fmas m o p n => exact precise_of_user (show Ensures _ (execFmas m o p n s) from user_fp3 _ _ _ _ _ s)
  | fmrs m o p n => exact precise_of_user (show Ensures _ (execFmrs m o p n s) from user_fp3 _ _ _ _ _ s)
  | fmra m o p n => exact precise_of_user (show Ensures _ (execFmra m o p n s) from user_fp3 _ _ _ _ _ s)
  | fsqrt m n => exact precise_fsqrt m n s
  | fstcf m n => exact precise_of_user (show Ensures _ (execFstcf m n s) from user_fpTo _ _ _ _ _ _ _ s)
  | fstchf m n => exact precise_of_user (show Ensures _ (execFstchf m n s) from user_fpTo _ _ _ _ _ _ _ s)
  | fstch m n => exact precise_of_user (show Ensures _ (execFstch m n s) from user_fpTo _ _ _ _ _ _ _ s)
  | paddxXrm | pmulxXrm => exact .withRounding (.withPairs (precise_retire rfl))
  | faddx | fsubx | fmulx | fdivx | fmacx | fmasx | fmrsx | fmrax => exact .withPairs (.withRounding (precise_retire rfl))
  | cmpPEQ | cmpPGT => exact precise_retire (setFlag_faults ..)
  | _ => exact precise_retire rfl

end

/-! ### The entry sequence (R860) -/

theorem slice_trapEXSR_sr (sr : Word) (c : Half) : slice (trapEXSR sr c) 32 32 = slice sr 0 32 := by
  simp [trapEXSR]
theorem slice_trapEXSR_code (sr : Word) (c : Half) : slice (trapEXSR sr c) 0 16 = c := by
  simp [trapEXSR]
theorem getReg_enterTrap_sp (c : Half) (tea : Option Word) (p : VAddr) (s : State) : getReg (enterTrap c tea p s) sp = s.ssp :=
  Vector.getElem_set_self _
theorem getReg_enterTrap_ne {r : Reg} (h : r ≠ sp) (c : Half) (tea : Option Word) (p : VAddr) (s : State) :
    getReg (enterTrap c tea p s) r = getReg s r :=
  getReg_setReg_ne s sp r s.ssp h

/-- Settles O13: a fault is raised from a state in which at most free values have been read, and the entry sequence writes
none of the registers named. -/
theorem faultingInstructionWritesNothing : Obligations.FaultingInstructionWritesNothing := by
  intro i s t hexec hfaults
  obtain ⟨_, e, tea, ⟨k, rfl⟩, rfl⟩ := (exec_precise i s t hexec).resolve_left hfaults
  have hentry : (s.drew k).trapped e tea = { s with draws := s.draws + k, stale := s.stale }.trapped e tea := rfl
  exact ⟨rfl, fun r hr => getReg_enterTrap_ne hr e.code tea s.pc (s.drew k), rfl, getReg_enterTrap_sp e.code tea s.pc (s.drew k), rfl, rfl, rfl, rfl,
    rfl, rfl, rfl, rfl, rfl, rfl, rfl, rfl, rfl, rfl, rfl, rfl, slice_trapEXSR_sr s.sr e.code, rfl, e, tea, _, _, rfl,
    slice_trapEXSR_code s.sr e.code, rfl, hentry⟩

/-! ### Entry to Supervisor mode (60_exceptions.md R870) -/

/-- Settles O16, by the kind of change the instruction makes: all but the entry sequence and a mode transition keep SR.MD. -/
theorem supervisorModeIsEnteredByTrapOrSventr : Obligations.SupervisorModeIsEnteredByTrapOrSventr := by
  intro i s t huser hexec hsup
  have hnot : supervisor s ≠ true := Bool.eq_false_iff.1 huser
  cases exec_change i s t hexec with
  | user h => exact absurd (h.md.symm.trans hsup) hnot
  | fault e tea h =>
    rw [h.same]
    exact .inr ⟨slice_trapEXSR_sr s.sr e.code, congrArg (trapVector s) (slice_trapEXSR_code s.sr e.code).symm⟩
  | trap c tea _ => exact .inr ⟨slice_trapEXSR_sr s.sr c, congrArg (trapVector s) (slice_trapEXSR_code s.sr c).symm⟩
  | mode md rb h =>
    have hmd : (setBit (setBit s.sr 30 md) 29 rb).getLsbD 30 = md := getLsbD_setMode _ _ _ (by decide)
    exact .inl (h (hmd.symm.trans hsup))
  | priv h _ _ => exact absurd h hnot

end Sys2Proof.Machine

/-! Which interrupt is delivered, and what an entry and a return do (60_exceptions.md R855 to R886). -/

namespace Sys2Proof.Machine

open Sys2Proof

/-! ### The interrupt selected (60_exceptions.md R855) -/

section

variable {s : State} {a b c : Half} {l : List Half}

theorem takenBefore_iff : takenBefore a b = true ↔
    (Config.irqLevel b).rank < (Config.irqLevel a).rank ∨ Config.irqLevel b = Config.irqLevel a ∧ a.toNat ≤ b.toNat := by
  rw [takenBefore, Bool.or_eq_true, Bool.and_eq_true, decide_eq_true_iff, decide_eq_true_iff, beq_iff_eq, BitVec.le_def,
    eq_comm (a := Config.irqLevel a)]
theorem rank_injective {x y : Config.IrqLevel} (h : x.rank = y.rank) : x = y := by
  revert h
  cases x <;> cases y <;> decide
theorem takenBefore_refl (a : Half) : takenBefore a a = true := takenBefore_iff.2 (.inr ⟨rfl, Nat.le_refl _⟩)
theorem takenBefore_total (h : takenBefore a b ≠ true) : takenBefore b a = true := by
  rw [ne_eq, takenBefore_iff] at h
  rw [takenBefore_iff]
  by_cases hlevel : Config.irqLevel b = Config.irqLevel a
  · simp only [hlevel, lt_irrefl, true_and, false_or] at h ⊢
    omega
  · have hrank : (Config.irqLevel b).rank ≠ (Config.irqLevel a).rank := mt rank_injective hlevel
    omega
theorem takenBefore_trans (hab : takenBefore a b = true) (hbc : takenBefore b c = true) : takenBefore a c = true := by
  rw [takenBefore_iff] at *
  rcases hab with hab | ⟨hab, hle⟩ <;> rcases hbc with hbc | ⟨hbc, hle'⟩
  · exact .inl (hbc.trans hab)
  · exact .inl (hbc ▸ hab)
  · exact .inl (hab ▸ hbc)
  · exact .inr ⟨hbc.trans hab, hle.trans hle'⟩

theorem firstCode_eq_none_iff : firstCode l = none ↔ l = [] := by
  cases l with
  | nil => exact iff_of_true rfl rfl
  | cons c t =>
    refine iff_of_false (fun h => ?_) (List.cons_ne_nil _ _)
    unfold firstCode at h
    split at h <;> cases h
/-- The first of some codes is one of them, taken before every other. -/
theorem firstCode_eq_some (h : firstCode l = some c) : c ∈ l ∧ ∀ d ∈ l, takenBefore c d = true := by
  induction l generalizing c with
  | nil => cases h
  | cons x t ih =>
    unfold firstCode at h
    split at h
    · next hnone =>
      cases h
      rw [firstCode_eq_none_iff.1 hnone]
      exact ⟨.head _, List.forall_mem_singleton.2 (takenBefore_refl _)⟩
    · next d hd =>
      obtain ⟨hmem, hfirst⟩ := ih hd
      cases h
      split
      · next hx => exact ⟨.head _, List.forall_mem_cons.2 ⟨takenBefore_refl x, fun e he => takenBefore_trans hx (hfirst e he)⟩⟩
      · next hx => exact ⟨.tail _ hmem, List.forall_mem_cons.2 ⟨takenBefore_total hx, hfirst⟩⟩

/-- The pending codes that pass SR.IPL. -/
def passing (s : State) : List Half :=
  (s.pending.map PendingIrq.code).filter fun c => levelPasses (srIPL s) (Config.irqLevel c)

theorem mem_passing : c ∈ passing s ↔ c ∈ s.pending.map PendingIrq.code ∧ levelPasses (srIPL s) (Config.irqLevel c) = true :=
  List.mem_filter
theorem masked_iff : (srBL s || srIPL s == 0#2) = true ↔ srBL s = true ∨ srIPL s = 0#2 := by
  rw [Bool.or_eq_true, beq_iff_eq]
theorem deliverable_off (h : srBL s = true ∨ srIPL s = 0#2) : deliverable s = none := if_pos (masked_iff.2 h)
theorem deliverable_on (hbl : srBL s = false) (hipl : srIPL s ≠ 0#2) : deliverable s = firstCode (passing s) :=
  if_neg (mt masked_iff.1 (not_or.2 ⟨Bool.eq_false_iff.1 hbl, hipl⟩))
theorem deliverable_eq_some (h : deliverable s = some c) : srBL s = false ∧ srIPL s ≠ 0#2 ∧ firstCode (passing s) = some c := by
  unfold deliverable at h
  split at h
  · cases h
  · next hon =>
    obtain ⟨hbl, hipl⟩ := not_or.1 (mt masked_iff.2 hon)
    exact ⟨Bool.eq_false_iff.2 hbl, hipl, h⟩
theorem deliverable_of_open (hbl : srBL s = false) (hipl : srIPL s = 3#2) (hp : s.pending ≠ []) :
    ∃ c, deliverable s = some c := by
  have hpass (v : Config.IrqLevel) : levelPasses (srIPL s) v = true := by rw [hipl]; rfl
  have hne : passing s ≠ [] := by simpa [passing, hpass] using hp
  rw [deliverable_on hbl (by rw [hipl]; decide)]
  exact Option.ne_none_iff_exists'.1 (mt firstCode_eq_none_iff.1 hne)

/-! ### What arrives (60_exceptions.md R880, R885) -/

theorem routable_iff : routable c = true ↔ (slice c 12 4 = 0xC#4 ∨ slice c 12 4 = 0xE#4) ∧ slice c 8 4 = 0#4 := by
  simp only [routable, Bool.and_eq_true, Bool.or_eq_true, beq_iff_eq]
/-- A class 0xC code the environment raises at a step; a routed TRAP's code and address. -/
def Raised (k : Nat) (c : Half) : Prop := c ∈ Config.raiseIrq k ∧ slice c 12 4 = 0xC#4
def Routed (k : Nat) (c : Half) (v : BitVec 48) : Prop :=
  ⟨c, v⟩ ∈ Config.routedTraps k ∧ (slice c 12 4 = 0xC#4 ∨ slice c 12 4 = 0xE#4) ∧ slice c 8 4 = 0#4

theorem mem_arrivals_iff {k : Nat} {x : PendingIrq} : x ∈ arrivals k ↔
    (Raised k x.code ∧ x.tea = none) ∨ ∃ v, Routed k x.code v ∧ x.tea = some (v.setWidth 64) := by
  simp only [mem_arrivals, routable_iff, Raised, Routed, and_assoc]
theorem mem_arrivals_codes {k : Nat} : c ∈ (arrivals k).map PendingIrq.code ↔ Raised k c ∨ ∃ v, Routed k c v := by
  rw [List.mem_map]
  constructor
  · rintro ⟨x, hx, rfl⟩
    exact (mem_arrivals_iff.1 hx).imp And.left fun ⟨v, hv, _⟩ => ⟨v, hv⟩
  · rintro (h | ⟨v, h⟩)
    · exact ⟨⟨c, none⟩, mem_arrivals_iff.2 (.inl ⟨h, rfl⟩), rfl⟩
    · exact ⟨⟨c, some (v.setWidth 64)⟩, mem_arrivals_iff.2 (.inr ⟨v, h, rfl⟩), rfl⟩
/-- Where the TEA value of a pending interrupt is from. -/
theorem tea_of_mem_tick {p : PendingIrq} (h : p ∈ (tick s).pending) :
    (∃ v, Routed s.clock p.code v ∧ p.tea = some (v.setWidth 64)) ∨
      ((∀ v, ¬ Routed s.clock p.code v) ∧ (p ∈ s.pending ∨ (p.tea = none ∧ p.code ∉ s.pending.map PendingIrq.code))) := by
  rcases mem_foldl_addPending h with ⟨x, hx, hcode, htea, hp⟩ | ⟨hnone, hp⟩
  · obtain ⟨v, hv, hxv⟩ := (mem_arrivals_iff.1 hx).resolve_left fun hraised => htea hraised.2
    exact .inl ⟨v, hcode ▸ hv, hp.trans hxv⟩
  · refine .inr ⟨fun v hv => ?_, hp.imp_right fun ⟨hnew, hwas, _⟩ => ⟨hnew, hwas⟩⟩
    exact absurd (hnone ⟨p.code, some (v.setWidth 64)⟩ (mem_arrivals_iff.2 (.inr ⟨v, hv, rfl⟩)) rfl) (Option.some_ne_none _)

theorem tick_eq (s : State) : tick s = { s with
    clock := s.clock + 1, usec := s.usec + Config.usecStep s.clock,
    cycles := s.cycles + BitVec.ofNat 64 (1 + Config.cyclesFor s.clock), pending := (tick s).pending } := by
  rw [BitVec.ofNat_add, ← BitVec.add_assoc]
  rfl

end

/-- Settles O6: the code selected is the first in the order of R855, and what is pending is what was and what arrived. -/
theorem interruptSelectionAndSleep : Obligations.InterruptSelectionAndSleep := by
  refine ⟨fun s c h => ?selected, fun s => ⟨deliverable_off, deliverable_of_open⟩, fun s hsleep hnone => ?sleeps,
    fun s => ⟨tick_eq s, ⟨fun c => ?codes, nodup_foldl_addPending _, fun p => tea_of_mem_tick⟩, fun t ht => ?counters⟩⟩
  case selected =>
    obtain ⟨hbl, hipl, hfirst⟩ := deliverable_eq_some h
    obtain ⟨hmem, hbefore⟩ := firstCode_eq_some hfirst
    obtain ⟨hpending, hpasses⟩ := mem_passing.1 hmem
    exact ⟨hbl, hipl, hpending, hpasses, fun d hd hpass => takenBefore_iff.1 (hbefore d (mem_passing.2 ⟨hd, hpass⟩))⟩
  case sleeps =>
    have hasleep : (tick s).sleeping = true := hsleep
    simp only [step, advance, hnone, hasleep, if_true]
  case codes =>
    exact (mem_codes_foldl_addPending _ _ c).trans (or_congr_right mem_arrivals_codes)
  case counters =>
    have hkeeps := step_keeps s t ht
    exact ⟨hkeeps.clock, hkeeps.usec, hkeeps.cycles⟩

/-- Settles O5: the step is the entry of the interrupt selected, from the state the tick leaves. -/
theorem interruptIsTakenBeforeTheInstruction : Obligations.InterruptIsTakenBeforeTheInstruction := by
  intro s c h
  have hstep : step s = .next (takeInterrupt c (tick s)) := by simp only [step, advance, h]
  obtain ⟨-, -, hfirst⟩ := deliverable_eq_some h
  obtain ⟨l, p, r, hlist, hbefore, hcode, htea⟩ := pendingTea_eq (mem_passing.1 (firstCode_eq_some hfirst).1).1
  refine ⟨_, hstep, rfl, slice_trapEXSR_code s.sr c, slice_trapEXSR_sr s.sr c, rfl, rfl, rfl,
    ⟨l, p, r, hlist, hbefore, hcode, ?_⟩, rfl, rfl, getReg_enterTrap_sp .., fun q hq => getReg_enterTrap_ne hq ..⟩
  rw [takeInterrupt_tea, htea]
  rfl

/-! ### A fault within a bundle (60_exceptions.md R858) -/

section

variable {s u : State}

/-- A slot that faults has raised one exception, whose code EXSR holds. -/
theorem runSlot_fault {x : Slot} (h : runSlot x s = .next u) (hf : u.faults ≠ s.faults) :
    u.faults = s.faults + 1 ∧ ∃ e : Exc, slice u.exsr 0 16 = e.code := by
  have hexec : exec x.d.instr { s with pc := x.addr, npc := x.addr + BitVec.ofNat 48 x.d.len } = .next u := by
    by_cases hwant : ∀ want, x.d.pred = some want → srT s = want
    · exact runSlot_eq_exec hwant ▸ h
    · push Not at hwant
      obtain ⟨want, hpred, hne⟩ := hwant
      rw [runSlot_eq_skip hpred hne] at h
      cases h
      exact absurd rfl hf
  obtain ⟨_, e, tea, ⟨k, rfl⟩, rfl⟩ := (exec_precise _ _ _ hexec).resolve_left hf
  exact ⟨rfl, e, slice_trapEXSR_code s.sr e.code⟩
theorem adcFree_faults (x : Slot) (s : State) : (adcFree x s).faults = s.faults := by
  unfold adcFree
  split
  · rfl
  · rfl
/-- Where a bundle faults, one of its slots has, and it is the last that ran. -/
theorem runSlots_fault {l : List Slot} (h : runSlots l s = .next u) (hf : u.faults ≠ s.faults) :
    ∃ x ∈ l, ∃ v, runSlot x v = .next u ∧ v.faults = s.faults := by
  induction l generalizing s with
  | nil =>
    cases h
    exact absurd rfl hf
  | cons x l ih =>
    cases l with
    | nil => exact ⟨x, .head _, s, h, rfl⟩
    | cons y l =>
      unfold runSlots at h
      split at h
      · next s1 hx =>
        split at h
        · next hsame =>
          have hfaults : (adcFree x s1).faults = s.faults := (adcFree_faults x s1).trans hsame
          obtain ⟨z, hz, v, hrun, hv⟩ := ih h (hfaults ▸ hf)
          exact ⟨z, .tail _ hz, v, hrun, hv.trans hfaults⟩
        · cases h
          exact ⟨x, .head _, s, hx, rfl⟩
      · cases h
      · cases h
theorem abandonOn_same (h : u.faults = s.faults) : abandonOn s (.next u) = .next u := if_pos h
theorem abandonOn_fault {e : Exc} (h : u.faults = s.faults + 1) (hcode : slice u.exsr 0 16 = e.code) :
    abandonOn s (.next u) = .next ({ s with draws := u.draws }.trapped e u.faultTea) := by
  refine (if_neg (by omega)).trans ?_
  rw [hcode, h]
  rfl

end

/-- Settles O7: the slot that faults leaves the code and the address, and the entry is made from the state before the bundle. -/
theorem faultAbandonsTheWholeBundle : Obligations.FaultAbandonsTheWholeBundle := by
  intro l s u h
  rw [h]
  refine ⟨abandonOn_same, fun hf => ?_⟩
  obtain ⟨x, hx, v, hrun, hv⟩ := runSlots_fault h hf
  obtain ⟨hcount, e, hcode⟩ := runSlot_fault hrun (hv ▸ hf)
  rw [hv] at hcount
  exact ⟨e, u.faultTea, x, v, abandonOn_fault hcount hcode, hx, hrun, hv, hcount, hcode, rfl⟩

/-! ### The entry sequence and the return from it (60_exceptions.md R860, R862) -/

theorem getLsbD_trapSR (v : Word) {k : Nat} (hk : k < 64) : (trapSR v).getLsbD k =
    if k = 28 ∨ k = 29 ∨ k = 30 then true
    else if k = 2 ∨ k = 3 ∨ k = 22 ∨ k = 23 ∨ k = 26 ∨ k = 27 then false else v.getLsbD k := by
  simp only [trapSR, getLsbD_setModeSR _ _ hk, getLsbD_setSlice, getLsbD_setBit, Config.trapDecodeMode, BitVec.getLsbD_zero, hk,
    and_true]
  grind
theorem trapVector_of_class {c : Half} {cls : BitVec 4} (s : State) (h : slice c 12 4 = cls) :
    trapVector s c = slice s.vbr 0 48 + Config.vecOffset cls := by
  rw [trapVector, h]

theorem swapByte_involutive (a b x : Byte) : swapByte a b (swapByte a b x) = x := by
  unfold swapByte
  grind
theorem causeOf_injective (mmu : Bool) (k : Nat) {x y : Byte} (h : causeOf mmu k x = causeOf mmu k y) : x = y := by
  induction k generalizing x y with
  | zero => exact h
  | succ k ih => exact Function.Involutive.injective (swapByte_involutive _ _) (ih h)
theorem cls_injective {e e' : Exc} (h : e.cls = e'.cls) : e.mmu = e'.mmu := by
  revert h
  cases e <;> cases e' <;> decide
theorem index_injective {e e' : Exc} (hmmu : e.mmu = e'.mmu) (h : e.index = e'.index) : e = e' := by
  revert hmmu h
  cases e <;> cases e' <;> decide
theorem slice_code_cause (e : Exc) : slice e.code 0 8 = causeOf e.mmu 13 e.index := by
  simp [Exc.code]
/-- The class tells the MMU's exceptions from the others, and the cause those of a class from each other. -/
theorem code_injective {e e' : Exc} (h : e.code = e'.code) : e = e' := by
  have hmmu : e.mmu = e'.mmu := cls_injective (by rw [← slice_code_class, h, slice_code_class])
  have hcause : causeOf e.mmu 13 e.index = causeOf e.mmu 13 e'.index := by
    rw [← slice_code_cause, h, slice_code_cause, hmmu]
  exact index_injective hmmu (causeOf_injective _ _ hcause)
theorem slice_code_routing (e : Exc) : slice e.code 8 4 = 0#4 := by
  simp [Exc.code]
theorem cls_eq (e : Exc) : e.cls = if e = .tlbMiss ∨ e = .aclCheck then 0xA#4 else 0x8#4 := by
  cases e <;> decide

/-- Settles O11, each clause by the lemma about its part of the entry. -/
theorem exceptionEntrySavesAndRedirects : Obligations.ExceptionEntrySavesAndRedirects :=
  ⟨fun e c tea s => ⟨raiseWith_eq e tea s, trapTo_eq c tea s, fun _ => ⟨rfl, fun _ => getLsbD_trapSR s.sr,
      trapVector_of_class s, trapVector_of_class s, trapVector_of_class s, trapVector_of_class s⟩⟩,
    fun _ _ => code_injective, fun e => ⟨slice_code_routing e, (slice_code_class e).trans (cls_eq e)⟩⟩

section

variable {s : State}

/-- SR as a return restores it. -/
def restoredSR (s : State) : Word := slice s.sr 32 32 ++ slice s.exsr 32 32

theorem exec_rte (hs : supervisor s = true) (hsr : restoredSR s &&& srReserved = 0#64)
    (hj : jumpable { s with sr := restoredSR s } (slice s.spc 0 48)) : exec .rte s =
      .next { s with pc := slice s.spc 0 48, sr := restoredSR s, ssp := getReg s 15#6, regs := s.regs.set 15 s.ssp (by decide) } := by
  refine (supervisorOnly_eq hs).trans ((if_neg ?_).trans (jumpTo_eq _ _ hj))
  exact fun h => bne_iff_ne.1 h hsr
theorem supervisor_enterTrap (c : Half) (tea : Option Word) (p : VAddr) (s : State) : supervisor (enterTrap c tea p s) = true :=
  getLsbD_trapSR s.sr (show 30 < 64 by decide)
/-- The entry keeps the high half of SR and saves the low one. -/
theorem restoredSR_enterTrap (c : Half) (tea : Option Word) (p : VAddr) (s : State) : restoredSR (enterTrap c tea p s) = s.sr := by
  have hhigh : slice (trapSR s.sr) 32 32 = slice s.sr 32 32 := by
    apply BitVec.eq_of_getLsbD_eq
    intro k hk
    simp only [slice, BitVec.getLsbD_extractLsb', hk, decide_true, Bool.true_and]
    rw [getLsbD_trapSR _ (by omega), if_neg (by omega), if_neg (by omega)]
  show slice (trapSR s.sr) 32 32 ++ slice (trapEXSR s.sr c) 32 32 = s.sr
  rw [hhigh, slice_trapEXSR_sr]
  exact (slice_append_slice (hi := 32) (lo := 0) s.sr rfl).trans (slice_self _)
theorem set_set_getReg_sp (s : State) (v : Word) : (s.regs.set 15 v (by decide)).set 15 (getReg s sp) (by decide) = s.regs := by
  rw [Vector.set_set]
  exact Vector.set_getElem_self _

end

/-- Settles O12: a return restores SPC, the image and the stack pointer, which are what an entry saved. -/
theorem returnRestoresWhatEntrySaved : Obligations.ReturnRestoresWhatEntrySaved := by
  refine ⟨fun s hs => exec_rte hs, fun e tea s hsr hj => ?_⟩
  have himage : restoredSR (s.trapped e tea) = s.sr := restoredSR_enterTrap e.code tea s.pc s
  have hpc : slice (s.trapped e tea).spc 0 48 = s.pc := by
    show slice (s.pc.setWidth 64 : Word) 0 48 = s.pc
    simp
  have hreturn : exec .rte (s.trapped e tea) = _ :=
    exec_rte (supervisor_enterTrap e.code tea s.pc s) (by rw [himage]; exact hsr) (by rw [himage, hpc]; exact hj)
  exact ⟨_, _, raiseWith_eq e tea s, hreturn, hpc, himage, getReg_enterTrap_sp e.code tea s.pc s, set_set_getReg_sp s s.ssp, rfl⟩

/-! ### Privilege (60_exceptions.md R870) -/

section

variable {s : State} {c : CReg}

theorem readControl_trap {v : Word} (hc : controlValue s c = some v) (hs : supervisor s = false) (hno : controlReadable c = false)
    (go : Word → Out State) : readControl c s go = .next (s.trapped .privilegeViolation none) := by
  simp [readControl, hc, hs, hno, raise_eq]
theorem mayWriteControl_trap {v : Word} (hc : controlValue s c = some v) (hs : supervisor s = false) (hno : controlWritable c = false)
    (go : Out State) : mayWriteControl c s go = .next (s.trapped .privilegeViolation none) := by
  have h0 : c ≠ 0#6 := by
    rintro rfl
    cases hno
  simp [mayWriteControl, hc, hs, hno, h0, raise_eq]

end

/-- Settles O14: each of these instructions asks for the mode before it does anything else. -/
theorem supervisorInstructionsTrapInUserMode : Obligations.SupervisorInstructionsTrapInUserMode := by
  intro s hs
  refine ⟨?_, fun k n p => ⟨supervisorOnly_trap hs, supervisorOnly_trap hs, supervisorOnly_trap hs, supervisorOnly_trap hs⟩,
    fun c n a hc => ?reads, fun c n a hc => ?writes⟩
  · simp only [List.forall_mem_cons, List.not_mem_nil, false_implies, implies_true, and_true]
    exact ⟨supervisorOnly_trap hs, supervisorOnly_trap hs, supervisorOnly_trap hs, supervisorOnly_trap hs, supervisorOnly_trap hs⟩
  case reads =>
    have hassigned : c.toNat ≤ 13 ∧ controlReadable c = false := by
      revert hc
      decide +revert
    obtain ⟨v, hv⟩ := Option.isSome_iff_exists.1 (controlValue_isSome_iff (s := s).2 hassigned.1)
    exact ⟨readControl_trap hv hs hassigned.2 _, readControl_trap hv hs hassigned.2 _⟩
  case writes =>
    have hassigned : c.toNat ≤ 13 ∧ controlWritable c = false := by
      revert hc
      decide +revert
    obtain ⟨v, hv⟩ := Option.isSome_iff_exists.1 (controlValue_isSome_iff (s := s).2 hassigned.1)
    exact ⟨mayWriteControl_trap hv hs hassigned.2 _, mayWriteControl_trap hv hs hassigned.2 _⟩

/-! ### Reset (70_reset_and_hazards.md R900) -/

/-- Settles O8. -/
theorem resetLeavesWhatTheSpecGives : Obligations.ResetLeavesWhatTheSpecGives := by
  refine ⟨rfl, rfl, rfl, rfl, rfl, rfl, rfl, rfl, rfl, rfl, ?_⟩
  decide

/-- Settles O9: every list the invariant speaks of is empty, and SR holds no reserved bit. -/
theorem invariantHoldsAtReset : Obligations.InvariantHoldsAtReset where
  memory := rfl
  reserved := by decide
  tlb := fun _ => Nat.zero_le _
  pending := ⟨List.nodup_nil, nofun⟩
  stale := List.nodup_nil
  wires := List.nodup_nil

end Sys2Proof.Machine

/-! ### The lanes of a value put together from lanes (00_scope.md R15; 48_gsv_media.md) -/

namespace Sys2Proof.Machine

open Sys2Proof

section

variable {k : Nat}

@[simp] theorem lane16_words4 {f : Nat → Half} (hk : k < 4) : lane16 (words4 f) k = f k := by
  change slice (words4 f) (16 * k) 16 = f k
  interval_cases k <;> simp [words4]
@[simp] theorem lane32_words2 {f : Nat → BitVec 32} (hk : k < 2) : lane32 (words2 f) k = f k := by
  change slice (words2 f) (32 * k) 32 = f k
  interval_cases k <;> simp [words2]
@[simp] theorem lane8_bytes8 {f : Nat → Byte} (hk : k < 8) : lane8 (bytes8 f) k = f k := by
  change slice (bytes8 f) (8 * k) 8 = f k
  interval_cases k <;> simp [bytes8]
@[simp] theorem lane8_bytes4 {f : Nat → Byte} (hk : k < 4) : lane8 (bytes4 f) k = f k := by
  change slice (bytes4 f) (8 * k) 8 = f k
  interval_cases k <;> simp [bytes4]
/-- A value with zeros above its low k bits. -/
theorem toNat_zero_append_lt {j : Nat} (x : BitVec k) : (0#j ++ x).toNat < 2 ^ k := by
  rw [BitVec.toNat_append]
  simp [x.isLt]
theorem toNat_zero_append {j : Nat} (x : BitVec k) : (0#j ++ x).toNat = x.toNat := by
  rw [BitVec.toNat_append]
  simp
/-- A value put together from two, as a number. -/
theorem toNat_append' {j : Nat} (x : BitVec j) (y : BitVec k) : (x ++ y).toNat = x.toNat * 2 ^ k + y.toNat := by
  rw [BitVec.toNat_append, ← Nat.shiftLeft_add_eq_or_of_lt y.isLt, Nat.shiftLeft_eq]

theorem toNat_lane16_words4 {f : Nat → Half} (hk : k < 4) : (lane16 (words4 f) k).toNat = (f k).toNat :=
  congrArg BitVec.toNat (lane16_words4 hk)
theorem toInt_lane16_words4 {f : Nat → Half} (hk : k < 4) : (lane16 (words4 f) k).toInt = (f k).toInt :=
  congrArg BitVec.toInt (lane16_words4 hk)
theorem toNat_lane32_words2 {f : Nat → BitVec 32} (hk : k < 2) : (lane32 (words2 f) k).toNat = (f k).toNat :=
  congrArg BitVec.toNat (lane32_words2 hk)
theorem toInt_lane32_words2 {f : Nat → BitVec 32} (hk : k < 2) : (lane32 (words2 f) k).toInt = (f k).toInt :=
  congrArg BitVec.toInt (lane32_words2 hk)

/-- Four Words, or two DWords, given as numbers. -/
theorem words_words4 {f : Nat → Half} {g : Nat → Nat} (h : ∀ k, (f k).toNat = g k) : Words (words4 f) g :=
  fun k hk => (toNat_lane16_words4 hk).trans (h k)
theorem dwords_words2 {f : Nat → BitVec 32} {g : Nat → Nat} (h : ∀ k, (f k).toNat = g k) : DWords (words2 f) g :=
  fun k hk => (toNat_lane32_words2 hk).trans (h k)
theorem toNat_bytes4_lt (f : Nat → Byte) : (bytes4 f).toNat < 2 ^ 32 := by
  simp only [bytes4, toNat_append']
  have h0 := (f 0).isLt
  have h1 := (f 1).isLt
  have h2 := (f 2).isLt
  have h3 := (f 3).isLt
  simp only [BitVec.toNat_ofNat]
  omega
theorem lowBytes_bytes4 {f : Nat → Byte} {g : Nat → Nat} (h : ∀ k, (f k).toNat = g k) : LowBytes (bytes4 f) g :=
  ⟨toNat_bytes4_lt f, fun k hk => (congrArg BitVec.toNat (lane8_bytes4 hk)).trans (h k)⟩

end

/-! ### Packed integers (48_gsv_media.md R684, R685, R756 to R776) -/

section

variable {w : Nat} (x y : BitVec w)

theorem toNat_sub_add_mod : ((x - y).toNat + y.toNat) % 2 ^ w = x.toNat := by
  rw [← BitVec.toNat_add, BitVec.sub_add_cancel]
/-- The low half of a product of twice the width (R758, R759). -/
theorem toInt_slice_ofInt {v : Nat} (z : Int) (h : w ≤ v) : (slice (BitVec.ofInt v z) 0 w).toInt = z.bmod (2 ^ w) := by
  have hdvd : 2 ^ w ∣ 2 ^ v := Nat.pow_dvd_pow 2 h
  rw [slice_zero_eq_setWidth _ h, BitVec.toInt_setWidth, ← Int.bmod_bmod_of_dvd hdvd, ← BitVec.toInt_eq_toNat_bmod,
    BitVec.toInt_ofInt, Int.bmod_bmod_of_dvd hdvd]

end

section

variable (h : Half) (v : BitVec 32)

/-- The exact product of two Words. -/
theorem toInt_mulSW (x y : Half) : (mulSW x y).toInt = x.toInt * y.toInt := toInt_ofInt_mul x y (by decide) (by decide)
theorem toNat_mulUW (x y : Half) : (mulUW x y).toNat = x.toNat * y.toNat := toNat_ofNat_mul x y (by decide)
/-- The high half of a product (R761, R762). -/
theorem toInt_slice_high (x : BitVec 32) : (slice x 16 16).toInt = x.toInt / 2 ^ 16 := by
  have hx := x.isLt
  rw [BitVec.toInt_eq_toNat_cond, BitVec.toInt_eq_toNat_cond, toNat_slice]
  omega
theorem toNat_slice_high (x : BitVec 32) : (slice x 16 16).toNat = x.toNat / 2 ^ 16 := by
  have hx := x.isLt
  rw [toNat_slice]
  omega

/-! One-bit shifts (R767 to R770). -/

theorem bitAt_top {w : Nat} (x : BitVec (w + 1)) : bitAt x w = decide (2 ^ w ≤ x.toNat) := by
  exact (BitVec.msb_eq_getLsbD_last x).symm.trans (BitVec.msb_eq_decide x)
theorem toInt_shiftLeft_saturating :
    (if 32767 < 2 * h.toInt then 0x7FFF#16 else if 2 * h.toInt < -32768 then 0x8000#16 else h <<< 1 : Half).toInt =
      max (-32768) (min 32767 (2 * h.toInt)) := by
  have hh := h.isLt
  have hcond := h.toInt_eq_toNat_cond
  split
  · rw [show (0x7FFF#16).toInt = 32767 from rfl]
    omega
  · split
    · rw [show (0x8000#16).toInt = -32768 from rfl]
      omega
    · rw [BitVec.toInt_eq_toNat_cond, BitVec.toNat_shiftLeft, Nat.shiftLeft_eq]
      omega
theorem toNat_shiftLeft_saturating : (if bitAt h 15 then 0xFFFF#16 else h <<< 1 : Half).toNat = min 65535 (2 * h.toNat) := by
  have hh := h.isLt
  rw [bitAt_top]
  split
  · next hs =>
    rw [decide_eq_true_iff] at hs
    rw [show (0xFFFF#16).toNat = 65535 from rfl]
    omega
  · next hs =>
    rw [decide_eq_true_iff] at hs
    rw [BitVec.toNat_shiftLeft, Nat.shiftLeft_eq]
    omega
theorem toInt_sshiftRight_one : (h.sshiftRight 1).toInt = h.toInt / 2 := by
  rw [BitVec.toInt_sshiftRight, Int.shiftRight_eq_div_pow]
  rfl

/-! RELU (R765, R766) and the approximations (R763, R764, R771 to R774). -/

theorem toNat_ite_top_zero {w : Nat} (x y : BitVec (w + 1)) :
    (if bitAt x w then 0#(w + 1) else y).toNat = if x.toNat < 2 ^ w then y.toNat else 0 := by
  rw [bitAt_top]
  by_cases hs : x.toNat < 2 ^ w
  · rw [if_pos hs, if_neg (by rw [decide_eq_true_iff]; omega)]
  · rw [if_neg hs, if_pos (by rw [decide_eq_true_iff]; omega)]
    rfl
theorem toNat_not_add_add {w : Nat} (x c : BitVec w) : ((~~~x + c).toNat + x.toNat) % 2 ^ w = (c - 1#w).toNat := by
  rw [← BitVec.toNat_add]
  congr 1
  rw [BitVec.not_eq_neg_add]
  grind
/-- A bit of a number over a number below it. -/
theorem and_two_pow_or {x y i : Nat} (hy : y < 2 ^ i) : (x &&& 2 ^ i) ||| y = x / 2 ^ i % 2 * 2 ^ i + y := by
  rw [Nat.and_two_pow, Nat.toNat_testBit, Nat.mul_comm, Nat.two_pow_add_eq_or_of_lt hy]
theorem toNat_sqrtHalf : (sqrtHalf h).toNat = h.toNat / 2 ^ 15 * 2 ^ 15 + (h.toNat % 2 ^ 15 / 2 + 0x1E00) := by
  have hh := h.isLt
  have hlow : (h &&& 0x7FFF#16).toNat = h.toNat % 2 ^ 15 := Nat.and_two_pow_sub_one_eq_mod _ 15
  have hhalf : ((h &&& 0x7FFF#16) >>> 1 + 0x1E00#16).toNat = h.toNat % 2 ^ 15 / 2 + 0x1E00 := by
    rw [BitVec.toNat_add, BitVec.toNat_ushiftRight, hlow, Nat.shiftRight_eq_div_pow, BitVec.toNat_ofNat]
    omega
  rw [sqrtHalf, BitVec.toNat_or, hhalf, BitVec.toNat_and, show (0x8000#16).toNat = 2 ^ 15 from rfl, and_two_pow_or (by omega)]
  omega
theorem toNat_sqrtSingle : (sqrtSingle v).toNat = v.toNat / 2 ^ 31 * 2 ^ 31 + (v.toNat % 2 ^ 31 / 2 + 0x1FC00000) := by
  have hv := v.isLt
  have hlow : (v &&& 0x7FFFFFFF#32).toNat = v.toNat % 2 ^ 31 := Nat.and_two_pow_sub_one_eq_mod _ 31
  have hhalf : ((v &&& 0x7FFFFFFF#32) >>> 1 + 0x1FC00000#32).toNat = v.toNat % 2 ^ 31 / 2 + 0x1FC00000 := by
    rw [BitVec.toNat_add, BitVec.toNat_ushiftRight, hlow, Nat.shiftRight_eq_div_pow, BitVec.toNat_ofNat]
    omega
  rw [sqrtSingle, BitVec.toNat_or, hhalf, BitVec.toNat_and, show (0x80000000#32).toNat = 2 ^ 31 from rfl, and_two_pow_or (by omega)]
  omega
theorem toNat_sqrtHalf_unsigned :
    (if bitAt h 15 then 0#16 else sqrtHalf h).toNat = if h.toNat < 2 ^ 15 then h.toNat / 2 + 0x1E00 else 0 := by
  rw [toNat_ite_top_zero, toNat_sqrtHalf]
  split
  · omega
  · rfl
theorem toNat_sqrtSingle_unsigned :
    (if bitAt v 31 then 0#32 else sqrtSingle v).toNat = if v.toNat < 2 ^ 31 then v.toNat / 2 + 0x1FC00000 else 0 := by
  rw [toNat_ite_top_zero, toNat_sqrtSingle]
  split
  · omega
  · rfl

end

/-- Settles O49: each lane by the lemma about its operation. -/
theorem packedIntegerLanes : Obligations.PackedIntegerLanes := by
  intro m o n s a b w l wi flip
  refine ⟨.of_retire rfl (words_words4 fun _ => BitVec.toNat_add ..), .of_retire rfl (dwords_words2 fun _ => BitVec.toNat_add ..),
    .of_retire rfl fun k hk => ?psubW, .of_retire rfl fun k hk => ?psubL,
    .of_retire rfl fun k hk => (toInt_lane32_words2 hk).trans (toInt_mulSW _ _),
    .of_retire rfl (dwords_words2 fun _ => toNat_mulUW _ _),
    .of_retire rfl fun k hk => (toInt_lane16_words4 hk).trans (toInt_slice_ofInt _ (by decide)),
    .of_retire rfl (words_words4 fun k => ?pmuluLW),
    .of_retire rfl fun k hk => (toInt_lane16_words4 hk).trans ?pmulsHW,
    .of_retire rfl (words_words4 fun k => ?pmuluHW),
    .of_retire rfl fun k hk => (toInt_lane16_words4 hk).trans (toInt_shiftLeft_saturating _),
    .of_retire rfl (words_words4 fun k => toNat_shiftLeft_saturating _),
    .of_retire rfl fun k hk => (toInt_lane16_words4 hk).trans (toInt_sshiftRight_one _),
    .of_retire rfl (words_words4 fun k => BitVec.toNat_ushiftRight ..),
    .of_retire rfl (words_words4 fun k => toNat_ite_top_zero _ _),
    .of_retire rfl (dwords_words2 fun k => toNat_ite_top_zero _ _),
    .of_retire rfl fun k hk => ?prcpaH, .of_retire rfl fun k hk => ?prcpaF,
    .of_retire rfl (words_words4 fun k => toNat_sqrtHalf _), .of_retire rfl (dwords_words2 fun k => toNat_sqrtSingle _),
    .of_retire rfl (words_words4 fun k => toNat_sqrtHalf_unsigned _),
    .of_retire rfl (dwords_words2 fun k => toNat_sqrtSingle_unsigned _)⟩
  case psubW =>
    show ((lane16 (words4 _) k).toNat + _) % 2 ^ 16 = _
    rw [toNat_lane16_words4 hk]
    exact toNat_sub_add_mod _ _
  case psubL =>
    show ((lane32 (words2 _) k).toNat + _) % 2 ^ 32 = _
    rw [toNat_lane32_words2 hk]
    exact toNat_sub_add_mod _ _
  case pmuluLW => rw [toNat_slice, toNat_mulUW, pow_zero, Nat.div_one]
  case pmulsHW => rw [toInt_slice_high, toInt_mulSW]
  case pmuluHW => rw [toNat_slice_high, toNat_mulUW]
  case prcpaH =>
    show ((lane16 (words4 _) k).toNat + _) % 2 ^ 16 = _
    rw [toNat_lane16_words4 hk]
    exact toNat_not_add_add _ 0x7800#16
  case prcpaF =>
    show ((lane32 (words2 _) k).toNat + _) % 2 ^ 32 = _
    rw [toNat_lane32_words2 hk]
    exact toNat_not_add_add _ 0x7F000000#32

end Sys2Proof.Machine

/-! ### Partial moves, shuffles and swaps (48_gsv_media.md R674 to R683, R957 to R981, R1000, R1001) -/

namespace Sys2Proof.Machine

open Sys2Proof

section

variable {k : Nat}

theorem lane32_append (h l : BitVec 32) : lane32 (h ++ l) 1 = h ∧ lane32 (h ++ l) 0 = l := by
  change slice (h ++ l) 32 32 = h ∧ slice (h ++ l) 0 32 = l
  simp
/-- Two Words over zeros. -/
theorem lane32_zero_append (h l : Half) : lane32 (0#32 ++ h ++ l) 1 = 0#32 ∧ lane32 (0#32 ++ h ++ l) 0 = h ++ l := by
  have hh := h.isLt
  have hl := l.isLt
  refine ⟨BitVec.eq_of_toNat_eq ?_, BitVec.eq_of_toNat_eq ?_⟩
  all_goals
    simp only [lane32, BitVec.extractLsb'_toNat, toNat_append', Nat.shiftRight_eq_div_pow, BitVec.toNat_ofNat]
    omega
theorem extractLsb'_dwords4 {f : Nat → BitVec 32} (hk : k < 4) : (dwords4 f).extractLsb' (32 * k) 32 = f k := by
  change slice (dwords4 f) (32 * k) 32 = f k
  interval_cases k <;> simp [dwords4]

/-! The low bytes or the Words in some order. -/

theorem lane8_lane32 (v : Word) {j : Nat} (hk : k < 4) : slice (lane32 v j) (8 * k) 8 = lane8 v (4 * j + k) := by
  refine (slice_slice v (by omega)).trans ?_
  rw [lane8, slice]
  congr 1
  omega
theorem lane8_append_lane32 (v : Word) (a b c d : Byte) (hk : k < 8) :
    lane8 (lane32 v 1 ++ a ++ b ++ c ++ d) k = if k < 4 then [d, c, b, a].getD k 0#8 else lane8 v k := by
  change slice (lane32 v 1 ++ a ++ b ++ c ++ d) (8 * k) 8 = _
  by_cases hlow : k < 4
  · rw [if_pos hlow]
    interval_cases k <;> simp
  · have hhigh := lane8_lane32 v (k := k - 4) (j := 1) (by omega)
    rw [if_neg hlow, ← show 4 * 1 + (k - 4) = k by omega, ← hhigh]
    interval_cases k <;> simp
theorem lane8_byteOrder (a b c d : Nat) (v : Word) (hk : k < 8) :
    lane8 (byteOrder a b c d v) k = lane8 v ([d, c, b, a].getD k k) := by
  rw [byteOrder, lane8_append_lane32 v _ _ _ _ hk]
  interval_cases k <;> rfl
theorem lane16_wordOrder (a b c d : Nat) (v : Word) (hk : k < 4) :
    lane16 (wordOrder a b c d v) k = lane16 v ([d, c, b, a].getD k k) := by
  change slice (wordOrder a b c d v) (16 * k) 16 = _
  interval_cases k <;> simp [wordOrder]

/-! The 2-bit fields of a mask (R957 to R960). -/

theorem sel2_eq {w : Nat} (i : BitVec w) (k : Nat) : sel2 i k = (i.extractLsb' (0 + 2 * k) 2).toNat := by
  rw [Nat.zero_add]
  rfl
/-- A field of a mask that itself stands at some bit of an immediate. -/
theorem sel2_slice {w : Nat} (i : BitVec w) {lo : Nat} (hk : k < 4) :
    sel2 (slice i lo 8) k = (i.extractLsb' (lo + 2 * k) 2).toNat :=
  congrArg BitVec.toNat (slice_slice i (by omega))
theorem lane16_shuffleWords (i : Byte) (v : Word) (hk : k < 4) : lane16 (shuffleWords i v) k = lane16 v (sel2 i k) :=
  lane16_words4 hk
theorem allOnes_slice_iff (i : BitVec 33) :
    (slice i 16 17 == BitVec.allOnes 17) = true ↔ ∀ k, 16 ≤ k → k < 33 → i.getLsbD k = true := by
  have hbit (k : Nat) (hk : k < 17) : (slice i 16 17).getLsbD k = i.getLsbD (16 + k) := by simp [slice, hk]
  have hones (k : Nat) (hk : k < 17) : (BitVec.allOnes 17).getLsbD k = true := by rw [BitVec.getLsbD_allOnes, decide_eq_true hk]
  rw [beq_iff_eq, BitVec.eq_of_getLsbD_eq_iff]
  constructor
  · intro h k hlo hhi
    have hk : k - 16 < 17 := by omega
    rw [← Nat.add_sub_cancel' hlo, ← hbit _ hk, h _ hk, hones _ hk]
  · intro h k hk
    rw [hbit k hk, hones k hk, h _ (by omega) (by omega)]

/-! The tristate multiply (R1001). -/

/-- What a 2-bit selector makes of a lane, bit by bit. -/
def Tristate {w : Nat} (c : Nat) (x y : BitVec w) : Prop :=
  ∀ j, j < w → y.getLsbD j = if c = 0 then false else if c = 1 then x.getLsbD j else if c = 2 then !x.getLsbD j
    else (x.getLsbD j != decide (j = w - 1))

theorem tristate_bits {w : Nat} (c : Nat) (x : BitVec w) : Tristate c x (tristate c x) := by
  intro j hj
  unfold tristate
  split
  · simp
  · simp
  · simp [hj]
  · next h0 h1 h2 =>
    rw [if_neg h0, if_neg h1, if_neg h2, BitVec.getLsbD_xor, BitVec.getLsbD_intMin]
    grind
/-- A shuffle, then a tristate multiply, by two masks (R959, R960). -/
theorem tristateWords_shuffleWords {w : Nat} (i : BitVec w) (v : Word) (hk : k < 4) :
    Tristate (i.extractLsb' (8 + 2 * k) 2).toNat (lane16 v (i.extractLsb' (0 + 2 * k) 2).toNat)
      (lane16 (tristateWords (slice i 8 8) (shuffleWords (slice i 0 8) v)) k) := by
  rw [tristateWords, lane16_words4 hk, lane16_shuffleWords _ _ hk, sel2_slice i hk, sel2_slice i hk]
  exact tristate_bits _ _

end

/-- Settles O50: each result by the lanes it is put together from. -/
theorem partialMovesShufflesAndSwaps : Obligations.PartialMovesShufflesAndSwaps := by
  intro m o n p q i i17 i33 s a b d two pick tri
  refine ⟨.of_retire rfl (lane32_append ..), .of_retire rfl (lane32_append ..), .of_retire rfl (lane32_append ..),
    .of_retire rfl (lane32_append ..), .of_retire rfl (lane32_append ..), .of_retire rfl (lane32_append ..),
    .of_retire rfl (lane32_append ..), .of_retire rfl (lane32_append ..), .of_retire rfl (lane32_zero_append ..),
    .of_retire rfl (lane32_zero_append ..), .of_retire rfl fun k hk => ?pshufB,
    .of_retire rfl fun k hk => ?pshufW,
    .of_retire rfl fun k hk => tristateWords_shuffleWords i17 a hk,
    fun h => .of_retire (if_pos ((allOnes_slice_iff i33).2 h)) fun k hk => tristateWords_shuffleWords i33 a hk,
    fun h => if_neg (mt (allOnes_slice_iff i33).1 h), .of_retire rfl fun k hk => ?pmultW, .of_retire rfl fun k hk => ?pmultxL,
    .of_retire rfl fun k hk => ?swap8B, ?bytes, ?words⟩
  case pshufB =>
    rw [lane8_append_lane32 a _ _ _ _ hk]
    split
    · next hlow =>
      interval_cases k <;> rfl
    · rfl
  case pshufW => exact (lane16_shuffleWords i a hk).trans (congrArg (lane16 a) (sel2_eq i k))
  case pmultW =>
    show tri _ _ (lane16 (tristateWords i a) k)
    rw [tristateWords, lane16_words4 hk, sel2_eq]
    exact tristate_bits _ _
  case pmultxL =>
    rw [extractLsb'_dwords4 hk, sel2_eq]
    exact tristate_bits _ _
  case swap8B =>
    have heven : 2 * k % 2 = 0 := by omega
    have hodd : (2 * k + 1) % 2 ≠ 0 := by omega
    exact ⟨(lane8_bytes8 (by omega)).trans (by rw [if_pos heven]), (lane8_bytes8 (by omega)).trans (by rw [if_neg hodd]; rfl)⟩
  case bytes =>
    simp only [List.forall_mem_cons, List.not_mem_nil, false_implies, implies_true, and_true]
    exact ⟨.of_retire rfl fun _ => lane8_byteOrder _ _ _ _ a, .of_retire rfl fun _ => lane8_byteOrder _ _ _ _ a,
      .of_retire rfl fun _ => lane8_byteOrder _ _ _ _ a, .of_retire rfl fun _ => lane8_byteOrder _ _ _ _ a,
      .of_retire rfl fun _ => lane8_byteOrder _ _ _ _ a, .of_retire rfl fun _ => lane8_byteOrder _ _ _ _ a,
      .of_retire rfl fun _ => lane8_byteOrder _ _ _ _ a⟩
  case words =>
    simp only [List.forall_mem_cons, List.not_mem_nil, false_implies, implies_true, and_true]
    exact ⟨.of_retire rfl fun _ => lane16_wordOrder _ _ _ _ a, .of_retire rfl fun _ => lane16_wordOrder _ _ _ _ a,
      .of_retire rfl fun _ => lane16_wordOrder _ _ _ _ a, .of_retire rfl fun _ => lane16_wordOrder _ _ _ _ a,
      .of_retire rfl fun _ => lane16_wordOrder _ _ _ _ a, .of_retire rfl fun _ => lane16_wordOrder _ _ _ _ a,
      .of_retire rfl fun _ => lane16_wordOrder _ _ _ _ a, .of_retire rfl fun _ => lane16_wordOrder _ _ _ _ a⟩

end Sys2Proof.Machine

/-! ### The numbers that formats and exact values stand for (49_gfp.md R781, R790) -/

namespace Sys2Proof.Machine

open Sys2Proof

section

/-- The factor a sign stands for. -/
def signOf (b : Bool) : ℝ := if b then -1 else 1

@[simp] theorem signOf_true : signOf true = -1 := rfl
@[simp] theorem signOf_false : signOf false = 1 := rfl
theorem signOf_not (b : Bool) : signOf (!b) = -signOf b := by cases b <;> simp
theorem signOf_xor (a b : Bool) : signOf (a ^^ b) = signOf a * signOf b := by cases a <;> simp [signOf_not]
theorem cast_sign (b : Bool) : (((if b then -1 else 1 : Int)) : ℝ) = signOf b := by cases b <;> simp

/-- The number a `Dyadic` stands for. -/
noncomputable def Dyadic.val (d : Dyadic) : ℝ := signOf d.neg * d.m * 2 ^ d.e

theorem scale2_of_nonneg (m : Nat) {e : Int} (h : 0 ≤ e) : ((scale2 m e : Nat) : ℝ) = m * 2 ^ e := by
  rw [scale2, if_pos h]
  push_cast
  rw [← zpow_natCast, Int.toNat_of_nonneg h]
theorem two_zpow_pos (e : Int) : (0 : ℝ) < 2 ^ e := zpow_pos two_pos e
theorem two_zpow_add (a b : Int) : (2 : ℝ) ^ (a + b) = 2 ^ a * 2 ^ b := zpow_add₀ two_ne_zero a b

theorem val_dyadicInt (z e : Int) : (dyadicInt z e).val = z * 2 ^ e := by
  rw [Dyadic.val, dyadicInt]
  rcases lt_or_ge z 0 with h | h
  · have hz : ((z.natAbs : Nat) : ℝ) = -z := by rw [Nat.cast_natAbs, abs_of_neg h, Int.cast_neg]
    simp [h, hz]
  · have hz : ((z.natAbs : Nat) : ℝ) = z := by rw [Nat.cast_natAbs, abs_of_nonneg h]
    simp [Int.not_lt.2 h, hz]
theorem val_dyadicNeg (a : Dyadic) : (dyadicNeg a).val = -a.val := by
  rw [Dyadic.val, Dyadic.val, dyadicNeg, signOf_not]
  ring
theorem val_dyadicMul (a b : Dyadic) : (dyadicMul a b).val = a.val * b.val := by
  simp only [Dyadic.val, dyadicMul, two_zpow_add, Nat.cast_mul, signOf_xor]
  ring
/-- A value aligned to a lower exponent, as `dyadicAdd` does it. -/
theorem dyadic_aligned (d : Dyadic) {g : Int} (h : g ≤ d.e) :
    (((if d.neg then -1 else 1) * (scale2 d.m (d.e - g) : Int) : Int) : ℝ) * 2 ^ g = d.val := by
  have hscale : ((scale2 d.m (d.e - g) : Nat) : ℝ) * 2 ^ g = d.m * 2 ^ d.e := by
    rw [scale2_of_nonneg d.m (Int.sub_nonneg.2 h), mul_assoc, ← two_zpow_add, Int.sub_add_cancel]
  rw [Dyadic.val, Int.cast_mul, Int.cast_natCast, cast_sign, mul_assoc, hscale, mul_assoc]
theorem val_dyadicAdd (a b : Dyadic) : (dyadicAdd a b).val = a.val + b.val := by
  rw [dyadicAdd, val_dyadicInt, Int.cast_add, add_mul, dyadic_aligned a (min_le_left _ _), dyadic_aligned b (min_le_right _ _)]

theorem dyadicInt_neg_iff (z e : Int) : (dyadicInt z e).neg = true ↔ (dyadicInt z e).val < 0 := by
  rw [val_dyadicInt, ← neg_pos, ← neg_mul, mul_pos_iff_of_pos_right (two_zpow_pos e), neg_pos, Int.cast_lt_zero]
  exact decide_eq_true_iff
theorem dyadicAdd_neg_iff (a b : Dyadic) : (dyadicAdd a b).neg = true ↔ a.val + b.val < 0 := by
  rw [← val_dyadicAdd]
  exact dyadicInt_neg_iff _ _
theorem dyadic_nonpos_iff (d : Dyadic) : (d.neg || d.m == 0) = true ↔ d.val ≤ 0 := by
  have hm : (0 : ℝ) ≤ d.m * 2 ^ d.e := mul_nonneg (Nat.cast_nonneg _) (two_zpow_pos _).le
  have h2 : (2 : ℝ) ^ d.e ≠ 0 := (two_zpow_pos _).ne'
  rw [Dyadic.val, mul_assoc]
  cases d.neg
  · rw [signOf_false, one_mul, hm.ge_iff_eq', mul_eq_zero, Nat.cast_eq_zero]
    simp [h2]
  · simpa using hm

/-! The numbers patterns stand for, in units of the smallest one. -/

/-- The number of a finite pattern of e exponent bits and f fraction bits. -/
def patternNumber (e f v : Nat) : Int := (if v < 2 ^ (e + f) then 1 else -1) *
  (if v / 2 ^ f % 2 ^ e = 0 then (v % 2 ^ f : Nat) else ((2 ^ f + v % 2 ^ f) * 2 ^ (v / 2 ^ f % 2 ^ e - 1) : Nat))

theorem fpSign_eq_of_lt {f : Fmt} {v : Nat} (h : v < 2 ^ fpWidth f) : fpSign f v = decide (2 ^ (f.exp + f.frac) ≤ v) := by
  have hpos : 0 < 2 ^ (f.exp + f.frac) := Nat.two_pow_pos _
  have hw : 2 ^ fpWidth f = 2 * 2 ^ (f.exp + f.frac) := by rw [fpWidth, ← Nat.pow_succ']; congr 1; omega
  have hq : v / 2 ^ (f.exp + f.frac) < 2 := Nat.div_lt_of_lt_mul (by rw [hw] at h; omega)
  have hle := Nat.le_div_iff_mul_le (x := 1) (y := v) hpos
  rw [fpSign, Nat.mod_eq_of_lt hq, Bool.beq_eq_decide_eq]
  rw [decide_eq_decide]
  omega
theorem fpScale_eq {f : Fmt} (he : 2 ≤ f.exp) : (fpScale f : Int) = fpBias f - 1 + f.frac := by
  have hbias : 2 ^ 1 ≤ 2 ^ (f.exp - 1) := Nat.pow_le_pow_right two_pos (by omega)
  have h1 : 1 ≤ fpBias f := by rw [fpBias]; omega
  rw [fpScale]
  omega
/-- 2^e in units of the smallest number of a format. -/
theorem two_zpow_scaled {f : Fmt} (he : 2 ≤ f.exp) (k : Nat) :
    (2 : ℝ) ^ ((k : Int) + 1 - fpBias f - f.frac) = 2 ^ k / 2 ^ fpScale f := by
  have hscale := fpScale_eq he
  rw [show (k : Int) + 1 - fpBias f - f.frac = k - fpScale f by omega, zpow_sub₀ two_ne_zero, zpow_natCast, zpow_natCast]
theorem val_dyadicOf {f : Fmt} (he : 2 ≤ f.exp) (v : Nat) : (dyadicOf f v).val = fpScaled f v / 2 ^ fpScale f := by
  by_cases h : fpExp f v = 0
  · simp [Dyadic.val, dyadicOf, fpScaled, h]
  · have hexp : (fpExp f v : Int) - fpBias f - f.frac = ((fpExp f v - 1 : Nat) : Int) + 1 - fpBias f - f.frac := by omega
    rw [Dyadic.val, dyadicOf, fpScaled, if_neg h, if_neg h, hexp, two_zpow_scaled he, Int.cast_mul, cast_sign]
    push_cast
    ring
theorem val_dyadicBits {f : Fmt} {v : Nat} (hk : f.keep = f.frac) (he : 2 ≤ f.exp) (h : v < 2 ^ fpWidth f) :
    (dyadicBits f v).val = patternNumber f.exp f.frac v / 2 ^ fpScale f := by
  have hfrac : fpFrac f v = v % 2 ^ f.frac := by simp [fpFrac, hk]
  have hsign : ((if v < 2 ^ (f.exp + f.frac) then 1 else -1 : Int) : ℝ) = signOf (fpSign f v) := by
    rw [fpSign_eq_of_lt h, ← cast_sign]
    by_cases hv : v < 2 ^ (f.exp + f.frac)
    · simp [hv]
    · simp [hv, Nat.not_lt.1 hv]
  rw [dyadicBits, patternNumber, Int.cast_mul, hsign]
  by_cases hexp : fpExp f v = 0
  · have hone := two_zpow_scaled he 0
    have hexp' : v / 2 ^ f.frac % 2 ^ f.exp = 0 := hexp
    rw [if_pos hexp, if_pos hexp', Dyadic.val, hfrac, show (1 : Int) = ((0 : Nat) : Int) + 1 by rfl, hone, Int.cast_natCast, pow_zero]
    ring
  · have hexp' : v / 2 ^ f.frac % 2 ^ f.exp ≠ 0 := hexp
    rw [if_neg hexp, if_neg hexp', val_dyadicOf he, fpScaled, if_neg hexp, hfrac, Int.cast_mul, cast_sign]
    rfl

end

/-! ### Packed compares, selects and searches (48_gsv_media.md R690 to R704, R953 to R956, R962 to R965) -/

section

variable {m o n : Reg} {s : State} {j : Instr}

/-! The order of patterns by sign and magnitude (R690). -/

/-- The signed magnitude of a w-bit pattern. -/
def signedMagnitude {w : Nat} (x : BitVec w) : Int :=
  if x.toNat < 2 ^ (w - 1) then x.toNat else (2 ^ (w - 1) : Nat) - (x.toNat : Int)

theorem fpExp_fpFrac {f : Fmt} (hk : f.keep ≤ f.frac) (v : Nat) :
    fpExp f v * 2 ^ f.frac + fpFrac f v = v % 2 ^ (f.exp + f.frac) / 2 ^ (f.frac - f.keep) * 2 ^ (f.frac - f.keep) := by
  have hmod : v % 2 ^ (f.exp + f.frac) = v % 2 ^ f.frac + 2 ^ f.frac * fpExp f v := by
    rw [Nat.pow_add, Nat.mul_comm, Nat.mod_mul, fpExp]
  have hsplit : 2 ^ f.frac = 2 ^ (f.frac - f.keep) * 2 ^ f.keep := by rw [← Nat.pow_add]; congr 1; omega
  rw [hmod, fpFrac]
  conv_rhs => rw [hsplit, Nat.mul_assoc, Nat.add_mul_div_left _ _ (Nat.two_pow_pos _), Nat.add_mul]
  rw [← hsplit, Nat.add_comm]
  congr 1
  rw [hsplit]
  ring
theorem fpKey_eq_signedMagnitude {f : Fmt} {w : Nat} (hk : f.keep = f.frac) (hw : fpWidth f = w) (x : BitVec w) :
    fpKey f x.toNat = signedMagnitude x := by
  subst hw
  have hwidth : fpWidth f - 1 = f.exp + f.frac := by rw [fpWidth]; omega
  have hpow : 2 ^ fpWidth f = 2 ^ (f.exp + f.frac) * 2 := by rw [← Nat.pow_succ]; congr 1; rw [fpWidth]; omega
  have hlt := x.isLt
  rw [fpKey, fpExp_fpFrac hk.le, hk, Nat.sub_self, pow_zero, Nat.div_one, Nat.mul_one, fpSign_eq_of_lt hlt, signedMagnitude, hwidth]
  by_cases h : x.toNat < 2 ^ (f.exp + f.frac)
  · rw [if_pos h, Nat.mod_eq_of_lt h, decide_eq_false (Nat.not_le.2 h)]
    simp
  · have hmod : x.toNat % 2 ^ (f.exp + f.frac) = x.toNat - 2 ^ (f.exp + f.frac) := by
      rw [Nat.mod_eq_sub_mod (Nat.not_lt.1 h), Nat.mod_eq_of_lt (by omega)]
    rw [if_neg h, hmod, decide_eq_true (Nat.not_lt.1 h), if_pos rfl]
    omega
theorem signedMagnitude_eq_zero_iff {w : Nat} (x : BitVec (w + 1)) : x <<< 1 = 0#(w + 1) ↔ signedMagnitude x = 0 := by
  have hpow : 2 ^ (w + 1) = 2 ^ w * 2 := Nat.pow_succ ..
  have hpos : 0 < 2 ^ w := Nat.two_pow_pos _
  have hlt := x.isLt
  have hzero : x <<< 1 = 0#(w + 1) ↔ x.toNat * 2 % 2 ^ (w + 1) = 0 := by
    rw [← BitVec.toNat_inj, BitVec.toNat_shiftLeft, Nat.shiftLeft_eq, pow_one, BitVec.toNat_ofNat, Nat.zero_mod]
  rw [hzero, signedMagnitude, Nat.add_sub_cancel, hpow, Nat.mul_mod_mul_right]
  split
  · next h => rw [Nat.mod_eq_of_lt h]; omega
  · next h => rw [Nat.mod_eq_sub_mod (Nat.not_lt.1 h), Nat.mod_eq_of_lt (by omega)]; omega
theorem packEq_iff {w : Nat} (x y : BitVec (w + 1)) :
    packEq x y = true ↔ x = y ∨ (signedMagnitude x = 0 ∧ signedMagnitude y = 0 ∧ Config.pcmpZeroEq = true) := by
  simp only [packEq, Bool.or_eq_true, Bool.and_eq_true, beq_iff_eq, signedMagnitude_eq_zero_iff, and_assoc]

/-! The flags the packed compares write. -/

/-- The Word and Half compares: P, Q, R, O from a relation, T and S free. -/
def ComparesWords (j : Instr) (m n : Reg) (s : State) (P : Half → Half → Prop) : Prop :=
  ∃ w, exec j s = .next ((s.drew 1).wroteSR w) ∧
    (∀ k, k < 4 → (w.getLsbD (4 + k) = true ↔ P (lane16 (getReg s n) k) (lane16 (getReg s m) k))) ∧
    ∀ k, k = 2 ∨ k = 3 ∨ (8 ≤ k ∧ k < 64) → w.getLsbD k = s.sr.getLsbD k
/-- The others: T and S from a relation, P to O free. -/
def ComparesDWords (j : Instr) (m n : Reg) (s : State) (P : BitVec 32 → BitVec 32 → Prop) : Prop :=
  ∃ w, exec j s = .next ((s.drew 1).wroteSR w) ∧
    (∀ k, k < 2 → (w.getLsbD k = true ↔ P (lane32 (getReg s n) k) (lane32 (getReg s m) k))) ∧
    ∀ k, k = 2 ∨ k = 3 ∨ (8 ≤ k ∧ k < 64) → w.getLsbD k = s.sr.getLsbD k

theorem getLsbD_compareFlags (v : Word) (x : BitVec 4) (t h : Bool) {k : Nat} (hk : k < 64) :
    (setBit (setBit (setSlice v 4 4 x) 0 t) 1 h).getLsbD k =
      if k = 0 then t else if k = 1 then h else if 4 ≤ k ∧ k < 8 then x.getLsbD (k - 4) else v.getLsbD k := by
  simp only [getLsbD_setBit, getLsbD_setSlice, hk, and_true]
  grind
theorem comparesWords_of_pcmpW {f : Half → Half → Bool} {P : Half → Half → Prop} (hj : exec j s = pcmpW f m n s)
    (h : ∀ x y, f x y = true ↔ P x y) : ComparesWords j m n s P := by
  refine ⟨_, hj, fun k hk => ?_, fun k hk => ?_⟩
  · rw [← h, ← Bool.eq_iff_iff]
    refine (getLsbD_compareFlags s.sr _ _ _ (by omega)).trans ?_
    rw [if_neg (by omega), if_neg (by omega), if_pos (by omega), Nat.add_sub_cancel_left]
    simp only [BitVec.getLsbD_append, BitVec.getLsbD_ofBool]
    interval_cases k <;> simp
  · refine (getLsbD_compareFlags s.sr _ _ _ (by omega)).trans ?_
    rw [if_neg (by omega), if_neg (by omega), if_neg (by omega)]
theorem comparesDWords_of_pcmpL {f : BitVec 32 → BitVec 32 → Bool} {P : BitVec 32 → BitVec 32 → Prop} (hj : exec j s = pcmpL f m n s)
    (h : ∀ x y, f x y = true ↔ P x y) : ComparesDWords j m n s P := by
  refine ⟨_, hj, fun k hk => ?_, fun k hk => ?_⟩
  · rw [← h, ← Bool.eq_iff_iff]
    refine (getLsbD_compareFlags s.sr _ _ _ (by omega)).trans ?_
    interval_cases k <;> rfl
  · refine (getLsbD_compareFlags s.sr _ _ _ (by omega)).trans ?_
    rw [if_neg (by omega), if_neg (by omega), if_neg (by omega)]

section

variable (m n s)

theorem compares_pcmpEQW : ComparesWords (.pcmpEQW m n) m n s (fun x y => x = y) :=
  comparesWords_of_pcmpW rfl fun _ _ => beq_iff_eq
theorem compares_pcmpHIW : ComparesWords (.pcmpHIW m n) m n s (fun x y => y.toNat < x.toNat) :=
  comparesWords_of_pcmpW (f := fun x y => decide (y.toNat < x.toNat)) rfl fun _ _ => decide_eq_true_iff
theorem compares_pcmpGTW : ComparesWords (.pcmpGTW m n) m n s (fun x y => y.toInt < x.toInt) :=
  comparesWords_of_pcmpW (f := fun x y => decide (y.toInt < x.toInt)) rfl fun _ _ => decide_eq_true_iff
theorem compares_pcmpEQL : ComparesDWords (.pcmpEQL m n) m n s (fun x y => x = y) :=
  comparesDWords_of_pcmpL rfl fun _ _ => beq_iff_eq
theorem compares_pcmpHIL : ComparesDWords (.pcmpHIL m n) m n s (fun x y => y.toNat < x.toNat) :=
  comparesDWords_of_pcmpL (f := fun x y => decide (y.toNat < x.toNat)) rfl fun _ _ => decide_eq_true_iff
theorem compares_pcmpGTL : ComparesDWords (.pcmpGTL m n) m n s (fun x y => y.toInt < x.toInt) :=
  comparesDWords_of_pcmpL (f := fun x y => decide (y.toInt < x.toInt)) rfl fun _ _ => decide_eq_true_iff
theorem compares_pcmpEQH : ComparesWords (.pcmpEQH m n) m n s (fun x y =>
    x = y ∨ (signedMagnitude x = 0 ∧ signedMagnitude y = 0 ∧ Config.pcmpZeroEq = true)) :=
  comparesWords_of_pcmpW rfl packEq_iff
theorem compares_pcmpGTH : ComparesWords (.pcmpGTH m n) m n s (fun x y => signedMagnitude y < signedMagnitude x) :=
  comparesWords_of_pcmpW (f := fun x y => decide (fpKey (fmtOf .half) y.toNat < fpKey (fmtOf .half) x.toNat)) rfl fun x y => by
    rw [← fpKey_eq_signedMagnitude (f := fmtOf .half) (w := 16) rfl rfl x, ← fpKey_eq_signedMagnitude (f := fmtOf .half) (w := 16) rfl rfl y]
    exact decide_eq_true_iff
theorem compares_pcmpEQF : ComparesDWords (.pcmpEQF m n) m n s (fun x y =>
    x = y ∨ (signedMagnitude x = 0 ∧ signedMagnitude y = 0 ∧ Config.pcmpZeroEq = true)) :=
  comparesDWords_of_pcmpL rfl packEq_iff
theorem compares_pcmpGTF : ComparesDWords (.pcmpGTF m n) m n s (fun x y => signedMagnitude y < signedMagnitude x) :=
  comparesDWords_of_pcmpL (f := fun x y => decide (fpKey (fmtOf .single) y.toNat < fpKey (fmtOf .single) x.toNat)) rfl fun x y => by
    rw [← fpKey_eq_signedMagnitude (f := fmtOf .single) (w := 32) rfl rfl x, ← fpKey_eq_signedMagnitude (f := fmtOf .single) (w := 32) rfl rfl y]
    exact decide_eq_true_iff

end

/-! Selects by the flags. -/

theorem lane16_selectW (s : State) (x y : Word) {k : Nat} (hk : k < 4) :
    lane16 (selectW (srPQRO s) x y) k = if s.sr.getLsbD (4 + k) then lane16 x k else lane16 y k := by
  rw [selectW, lane16_words4 hk, srPQRO, bitAt_slice _ hk]
  rfl
theorem lane32_selectL (s : State) (x y : Word) {k : Nat} (hk : k < 2) :
    lane32 (selectL (srT s) (srS s) x y) k = if s.sr.getLsbD k then lane32 x k else lane32 y k := by
  obtain ⟨hhigh, hlow⟩ := lane32_append (if srS s then lane32 x 1 else lane32 y 1) (if srT s then lane32 x 0 else lane32 y 0)
  interval_cases k
  · exact hlow
  · exact hhigh

/-! Searches. -/

theorem firstIdx_eq_some_iff {f : Nat → Bool} {c i k : Nat} :
    firstIdx f i c = some k ↔ i ≤ k ∧ k < i + c ∧ f k = true ∧ ∀ x, i ≤ x → x < k → f x = false := by
  induction c generalizing i with
  | zero => simp only [firstIdx, reduceCtorEq, false_iff]; omega
  | succ c ih =>
    rw [firstIdx]
    cases hi : f i
    · simp only [Bool.false_eq_true, if_false, ih]
      constructor
      · rintro ⟨hlo, hhi, hk, hmin⟩
        exact ⟨by omega, by omega, hk, fun x hx hxk => (Nat.eq_or_lt_of_le hx).elim (· ▸ hi) fun hx => hmin x hx hxk⟩
      · rintro ⟨hlo, hhi, hk, hmin⟩
        have hne : i ≠ k := fun h => by rw [h, hk] at hi; exact absurd hi (by decide)
        exact ⟨by omega, by omega, hk, fun x hx hxk => hmin x (by omega) hxk⟩
    · simp only [if_true, Option.some.injEq]
      constructor
      · rintro rfl
        exact ⟨le_rfl, by omega, hi, fun x hx hxk => by omega⟩
      · rintro ⟨hlo, hhi, hk, hmin⟩
        by_contra hne
        exact absurd (hmin i le_rfl (by omega)) (by rw [hi]; decide)
theorem firstIdx_eq_none_iff {f : Nat → Bool} {c i : Nat} : firstIdx f i c = none ↔ ∀ k, i ≤ k → k < i + c → f k = false := by
  induction c generalizing i with
  | zero => simp only [firstIdx, true_iff]; omega
  | succ c ih =>
    rw [firstIdx]
    cases hi : f i
    · simp only [Bool.false_eq_true, if_false, ih]
      exact ⟨fun h k hlo hhi => (Nat.eq_or_lt_of_le hlo).elim (· ▸ hi) fun hlt => h k hlt (by omega),
        fun h k hlo hhi => h k (by omega) (by omega)⟩
    · simp only [if_true, reduceCtorEq, false_iff]
      exact fun h => absurd (h i le_rfl (by omega)) (by rw [hi]; decide)
/-- What a search leaves in Rn and T. -/
theorem GivesT.of_search {c : Nat} {f : Word → Word → Nat → Bool} {P : Nat → Prop} (hc : c < 2 ^ 64) (hj : exec j s = search c f m o n s)
    (h : ∀ k, f (getReg s m) (getReg s o) k = true ↔ P k) :
    GivesT j n s (fun v t => (t = true ↔ ∃ k, k < c ∧ P k) ∧ (t = true → v.toNat < c ∧ P v.toNat ∧ ∀ k, k < v.toNat → ¬ P k) ∧
      (t = false → v = Config.pschNone c)) := by
  simp only [← h]
  cases hfirst : firstIdx (f (getReg s m) (getReg s o)) 0 c with
  | some k =>
    obtain ⟨-, hk, hfound, hmin⟩ := firstIdx_eq_some_iff.1 hfirst
    have hnat : (BitVec.ofNat 64 k).toNat = k := Nat.mod_eq_of_lt (by omega)
    refine .of_retire (r := (BitVec.ofNat 64 k, true)) (by rw [hj, search, hfirst]) ⟨?_, fun _ => ?_, nofun⟩
    · exact iff_of_true rfl ⟨k, by omega, hfound⟩
    · rw [hnat]
      exact ⟨by omega, hfound, fun x hx => by rw [hmin x (Nat.zero_le _) hx]; decide⟩
  | none =>
    have hnone := firstIdx_eq_none_iff.1 hfirst
    refine .of_retire (r := (Config.pschNone c, false)) (by rw [hj, search, hfirst]) ⟨?_, nofun, fun _ => rfl⟩
    refine iff_of_false Bool.false_ne_true ?_
    rintro ⟨k, hk, hfound⟩
    rw [hnone k (Nat.zero_le _) (by omega)] at hfound
    exact absurd hfound (by decide)

/-! Predictions of a sum (R703, R704; log 43). -/

/-- The predicate of R703, of a number in units of 1 / one. -/
def SumPredicate (i : BitVec 2) (x one : Int) : Prop :=
  match i with | 0#2 => 0 ≤ x | 1#2 => x ≤ 0 | 2#2 => one ≤ x | _ => x ≤ one

theorem dotHolds_of_sumPredicate {i : BitVec 2} {x one : Int} {a b : Dyadic} (hone : 0 < one)
    (hx : (a.val + b.val) = (x : ℝ) / one) (h : SumPredicate i x one) : dotHolds i (dyadicAdd a b) = true := by
  have hone' : (0 : ℝ) < one := Int.cast_pos.2 hone
  have hminus : Dyadic.val { neg := true, m := 1, e := 0 } = -1 := by simp [Dyadic.val]
  have hval := (val_dyadicAdd a b).trans hx
  have hle (h : x ≤ one) : (x : ℝ) / one ≤ 1 := (div_le_one hone').2 (Int.cast_le.2 h)
  have hless := val_dyadicAdd (dyadicAdd a b) { neg := true, m := 1, e := 0 }
  rw [hminus, hval] at hless
  have hi : i = 0#2 ∨ i = 1#2 ∨ i = 2#2 ∨ i = 3#2 := by clear h; revert i; decide
  rcases hi with rfl | rfl | rfl | rfl
  · change (!(dyadicAdd a b).neg) = true
    rw [Bool.not_eq_true', ← Bool.not_eq_true, dyadicAdd_neg_iff, hx, not_lt]
    exact div_nonneg (Int.cast_nonneg h) hone'.le
  · exact (dyadic_nonpos_iff _).2 (hval.trans_le (div_nonpos_of_nonpos_of_nonneg (Int.cast_nonpos.2 h) hone'.le))
  · change (!(dyadicAdd (dyadicAdd a b) { neg := true, m := 1, e := 0 }).neg) = true
    rw [Bool.not_eq_true', ← Bool.not_eq_true, dyadicAdd_neg_iff, hminus, hval, not_lt, ← sub_eq_add_neg, sub_nonneg, one_le_div hone']
    exact Int.cast_le.2 h
  · exact (dyadic_nonpos_iff _).2 (by rw [hless, ← sub_eq_add_neg, sub_nonpos]; exact hle h)

theorem dotExact_of_inf {n : Config.FpFmt} {i : BitVec 2} {es : List Nat} (hsome : fpInf (fmtOf n) (bitAt i 0) ∈ es)
    (hall : ∀ v ∈ es, fpSpecial (fmtOf n) v = false ∨ v = fpInf (fmtOf n) (bitAt i 0))
    (hinf : fpSpecial (fmtOf n) (fpInf (fmtOf n) (bitAt i 0)) = true) : dotExact n i es = true := by
  have hmem : fpInf (fmtOf n) (bitAt i 0) ∈ es.filter (fpSpecial (fmtOf n)) := List.mem_filter.2 ⟨hsome, hinf⟩
  cases h : es.filter (fpSpecial (fmtOf n)) with
  | nil =>
    rw [h] at hmem
    exact absurd hmem List.not_mem_nil
  | cons v vs =>
    rw [dotExact, h]
    refine List.all_eq_true.2 ?_
    rw [← h]
    intro x hx
    obtain ⟨hxes, hspecial⟩ := List.mem_filter.1 hx
    rcases hall x hxes with hfin | heq
    · rw [hfin] at hspecial
      exact absurd hspecial (by decide)
    · exact beq_iff_eq.2 heq
theorem dotExact_of_finite {n : Config.FpFmt} {i : BitVec 2} {es : List Nat} (h : ∀ v ∈ es, fpSpecial (fmtOf n) v = false) :
    dotExact n i es = dotHolds i ((es.map (dyadicBits (fmtOf n))).foldl dyadicAdd { neg := false, m := 0, e := 0 }) := by
  have hnil : es.filter (fpSpecial (fmtOf n)) = [] := List.filter_eq_nil_iff.2 fun v hv => by rw [h v hv]; decide
  rw [dotExact, hnil]

theorem fpSpecial_eq_false_iff {f : Fmt} {v : Nat} : fpSpecial f v = false ↔ v / 2 ^ f.frac % 2 ^ f.exp ≠ 2 ^ f.exp - 1 := by
  rw [fpSpecial, beq_eq_false_iff_ne]
  rfl
theorem fpSpecial_fpInf (n : Config.FpFmt) (b : Bool) : fpSpecial (fmtOf n) (fpInf (fmtOf n) b) = true := by
  cases n <;> cases b <;> decide
theorem fpInf_eq (f : Fmt) (b : Bool) :
    fpInf f b = (if b then 2 ^ (f.exp + f.frac) else 0) + (2 ^ f.exp - 1) * 2 ^ f.frac := by
  cases b <;> simp [fpInf, fpPack]
theorem val_zero : Dyadic.val { neg := false, m := 0, e := 0 } = 0 := by simp [Dyadic.val]

/-- A prediction over c lanes: of finite ones by their sum, in units of 1 / one; of infinities of one sign by that sign. -/
theorem predictDot_lanes {n : Config.FpFmt} {i : BitVec 2} {guess : Bool} {c : Nat} {h : Nat → Nat} {x one : Int} {a b : Dyadic}
    (hone : 0 < one)
    (hfold : (((List.range c).map h).map (dyadicBits (fmtOf n))).foldl dyadicAdd { neg := false, m := 0, e := 0 } = dyadicAdd a b)
    (hx : a.val + b.val = (x : ℝ) / one) :
    ((∀ k, k < c → h k / 2 ^ (fmtOf n).frac % 2 ^ (fmtOf n).exp ≠ 2 ^ (fmtOf n).exp - 1) → SumPredicate i x one →
      predictDot n i ((List.range c).map h) guess = true) ∧
    ((∃ k, k < c ∧ h k = fpInf (fmtOf n) (bitAt i 0)) →
      (∀ k, k < c → h k / 2 ^ (fmtOf n).frac % 2 ^ (fmtOf n).exp ≠ 2 ^ (fmtOf n).exp - 1 ∨ h k = fpInf (fmtOf n) (bitAt i 0)) →
      predictDot n i ((List.range c).map h) guess = true) := by
  simp only [← fpSpecial_eq_false_iff, predictDot, Bool.or_eq_true]
  constructor
  · intro hfin hsum
    have hspecial : ∀ v ∈ (List.range c).map h, fpSpecial (fmtOf n) v = false :=
      List.forall_mem_map.2 fun k hk => hfin k (List.mem_range.1 hk)
    exact .inl (by rw [dotExact_of_finite hspecial, hfold, dotHolds_of_sumPredicate hone hx hsum])
  · rintro ⟨k, hk, heq⟩ hall
    exact .inl (dotExact_of_inf (List.mem_map.2 ⟨k, List.mem_range.2 hk, heq⟩)
      (List.forall_mem_map.2 fun k hk => hall k (List.mem_range.1 hk)) (fpSpecial_fpInf n _))

end

/-- Settles O51: the flags of the compares, the lanes of the selects, the index of the searches; the predictions in exact numbers. -/
theorem packedComparesSelectsAndSearches : Obligations.PackedComparesSelectsAndSearches := by
  intro m o n i s a b d key zeroes words dwords mixW mixL found number finite top holds h l
  have hvalH (k : Nat) : (dyadicBits (fmtOf .half) (h k)).val = number 5 10 (h k) / 2 ^ 24 :=
    val_dyadicBits (f := fmtOf .half) rfl (by decide) (lane16 d k).isLt
  have hvalF (k : Nat) : (dyadicBits (fmtOf .single) (l k)).val = number 8 23 (l k) / 2 ^ 149 :=
    val_dyadicBits (f := fmtOf .single) rfl (by decide) (lane32 d k).isLt
  refine ⟨compares_pcmpEQW m n s, compares_pcmpHIW m n s, compares_pcmpGTW m n s, compares_pcmpEQH m n s, compares_pcmpGTH m n s,
    compares_pcmpEQL m n s, compares_pcmpHIL m n s, compares_pcmpGTL m n s, compares_pcmpEQF m n s, compares_pcmpGTF m n s,
    .of_retire rfl fun k => lane16_selectW s a b, .of_retire rfl fun k => lane16_selectW s a d,
    .of_retire rfl fun k => lane16_selectW s d a, .of_retire rfl fun k => lane32_selectL s a b,
    .of_retire rfl fun k => lane32_selectL s a d, .of_retire rfl fun k => lane32_selectL s d a,
    .of_search (f := fun x y k => lane16 x k == lane16 y k) (by decide) rfl fun k => beq_iff_eq,
    .of_search (f := fun x y k => lane16 x k != lane16 y k) (by decide) rfl fun k => bne_iff_ne,
    .of_search (f := fun x y k => lane8 x k == lane8 y k) (by decide) rfl fun k => beq_iff_eq,
    .of_search (f := fun x y k => lane8 x k != lane8 y k) (by decide) rfl fun k => bne_iff_ne,
    ⟨_, .of_retire (f := .t) rfl rfl, ?half⟩, ⟨_, .of_retire (f := .t) rfl rfl, ?single⟩⟩
  case half =>
    have htop : top 5 10 = fpInf (fmtOf .half) (bitAt i 0) := (fpInf_eq (fmtOf .half) (bitAt i 0)).symm
    rw [htop]
    refine predictDot_lanes (n := .half) (h := h) (by decide) rfl ?_
    simp only [val_dyadicAdd, hvalH, val_zero]
    push_cast
    ring
  case single =>
    have htop : top 8 23 = fpInf (fmtOf .single) (bitAt i 0) := (fpInf_eq (fmtOf .single) (bitAt i 0)).symm
    rw [htop]
    refine predictDot_lanes (n := .single) (h := l) (by decide) rfl ?_
    simp only [val_dyadicAdd, hvalF, val_zero]
    push_cast
    ring

end Sys2Proof.Machine

/-! ### The sign and the magnitude of a pattern (49_gfp.md R790, R800, R829 to R845) -/

namespace Sys2Proof.Machine

open Sys2Proof

section

/-- The exponent and the significant fraction bits of a pattern, as one number. -/
def fpMagnitude (f : Fmt) (v : Nat) : Nat := fpExp f v * 2 ^ f.frac + fpFrac f v
/-- The signed magnitude of a number whose sign stands above `one`. -/
def signedKey (one v : Nat) : Int := if v < one then v else one - (v : Int)

variable {f : Fmt} {a b v : Nat}

theorem fpKey_eq_fpMagnitude (f : Fmt) (v : Nat) : fpKey f v = (if fpSign f v then -1 else 1) * (fpMagnitude f v : Int) := rfl
theorem fpMagnitude_lt (hk : f.keep ≤ f.frac) : fpMagnitude f v < 2 ^ (f.exp + f.frac) := by
  rw [fpMagnitude, fpExp_fpFrac hk]
  exact (Nat.div_mul_le_self _ _).trans_lt (Nat.mod_lt _ (Nat.two_pow_pos _))
theorem fpCut_eq (f : Fmt) (v : Nat) : fpCut f v = (fpSign f v).toNat * 2 ^ (f.exp + f.frac) + fpMagnitude f v := by
  rw [fpCut, fpPack, fpMagnitude, Nat.add_assoc]
theorem fpZero_iff (f : Fmt) (v : Nat) : fpZero f v = true ↔ fpMagnitude f v = 0 := by
  simp [fpZero, fpMagnitude]
/-- Patterns are equal, zeros of either sign too, where their keys are. -/
theorem fpEqual_keys (hk : f.keep ≤ f.frac) :
    (fpCut f a == fpCut f b || (Config.fcmpZeroEq && fpZero f a && fpZero f b)) = true ↔ fpKey f a = fpKey f b := by
  have ha := fpMagnitude_lt (v := a) hk
  have hb := fpMagnitude_lt (v := b) hk
  have hz : Config.fcmpZeroEq = true := rfl
  rw [Bool.or_eq_true, hz, Bool.true_and, Bool.and_eq_true, fpZero_iff, fpZero_iff, beq_iff_eq, fpCut_eq, fpCut_eq,
    fpKey_eq_fpMagnitude, fpKey_eq_fpMagnitude]
  cases fpSign f a <;> cases fpSign f b <;>
    simp only [Bool.toNat_false, Bool.toNat_true, if_true, Bool.false_eq_true, if_false] <;> omega
theorem fpKey_eq_signedKey (hk : f.keep ≤ f.frac) (hv : v < 2 ^ fpWidth f) :
    fpKey f v = signedKey (2 ^ (f.exp + f.keep)) (v / 2 ^ (f.frac - f.keep)) * 2 ^ (f.frac - f.keep) := by
  have hsplit : 2 ^ (f.exp + f.frac) = 2 ^ (f.exp + f.keep) * 2 ^ (f.frac - f.keep) := by rw [← Nat.pow_add]; congr 1; omega
  have hpow : 2 ^ fpWidth f = 2 ^ (f.exp + f.frac) * 2 := by rw [← Nat.pow_succ]; congr 1; rw [fpWidth]; omega
  have hmag : fpMagnitude f v = v % 2 ^ (f.exp + f.frac) / 2 ^ (f.frac - f.keep) * 2 ^ (f.frac - f.keep) := fpExp_fpFrac hk v
  have hlt := Nat.div_lt_iff_lt_mul (x := v) (y := 2 ^ (f.exp + f.keep)) (Nat.two_pow_pos (f.frac - f.keep))
  rw [← hsplit] at hlt
  rw [fpKey_eq_fpMagnitude, hmag, fpSign_eq_of_lt hv, signedKey]
  by_cases h : v < 2 ^ (f.exp + f.frac)
  · rw [if_pos (hlt.2 h), Nat.mod_eq_of_lt h, decide_eq_false (Nat.not_le.2 h)]
    simp
  · have hmod : v % 2 ^ (f.exp + f.frac) = v - 2 ^ (f.exp + f.frac) := by
      rw [Nat.mod_eq_sub_mod (Nat.not_lt.1 h), Nat.mod_eq_of_lt (by omega)]
    have hdiv : (v - 2 ^ (f.exp + f.frac)) / 2 ^ (f.frac - f.keep) = v / 2 ^ (f.frac - f.keep) - 2 ^ (f.exp + f.keep) := by
      rw [hsplit, Nat.mul_comm, Nat.sub_mul_div]
    have hle : 2 ^ (f.exp + f.keep) ≤ v / 2 ^ (f.frac - f.keep) := Nat.not_lt.1 (mt hlt.1 h)
    rw [if_neg (Nat.not_lt.2 hle), hmod, hdiv, decide_eq_true (Nat.not_lt.1 h), if_pos rfl, Nat.cast_mul, Nat.cast_sub hle]
    push_cast
    ring

/-- Where the magnitude keeps all bits, the key of the whole pattern orders it. -/
theorem fpKey_of_keep_eq (hk : f.keep = f.frac) (hv : v < 2 ^ fpWidth f) : fpKey f v = signedKey (2 ^ (f.exp + f.frac)) v := by
  rw [fpKey_eq_signedKey hk.le hv, hk, Nat.sub_self, pow_zero, pow_zero, Nat.div_one, mul_one]

/-! NaNs by the fields of a pattern. -/

variable {w : Nat} (x : BitVec w)

theorem fpExp_eq_extract (f : Fmt) : fpExp f x.toNat = (x.extractLsb' f.frac f.exp).toNat := by
  rw [BitVec.extractLsb'_toNat, Nat.shiftRight_eq_div_pow]
  rfl
theorem fpFrac_eq_extract (hk : f.keep ≤ f.frac) :
    fpFrac f x.toNat = (x.extractLsb' (f.frac - f.keep) f.keep).toNat * 2 ^ (f.frac - f.keep) := by
  have hsplit : 2 ^ f.frac = 2 ^ (f.frac - f.keep) * 2 ^ f.keep := by rw [← Nat.pow_add]; congr 1; omega
  rw [BitVec.extractLsb'_toNat, Nat.shiftRight_eq_div_pow, fpFrac]
  conv_lhs => rw [hsplit, Nat.mod_mul_right_div_self]
theorem fpSpecial_iff (f : Fmt) : fpSpecial f x.toNat = true ↔ x.extractLsb' f.frac f.exp = BitVec.allOnes f.exp := by
  rw [fpSpecial, fpExp_eq_extract, beq_iff_eq, ← BitVec.toNat_inj, BitVec.toNat_allOnes]
theorem toNat_eq_zero_iff : x.toNat = 0 ↔ x = 0#w := by rw [← BitVec.toNat_inj, BitVec.toNat_zero]
theorem isNaN_iff (hk : f.keep ≤ f.frac) :
    isNaN f x.toNat = true ↔
      x.extractLsb' f.frac f.exp = BitVec.allOnes f.exp ∧ x.extractLsb' (f.frac - f.keep) f.keep ≠ 0#f.keep := by
  rw [isNaN, Bool.and_eq_true, fpSpecial_iff, fpFrac_eq_extract x hk, bne_iff_ne, ne_eq, ne_eq, mul_eq_zero,
    or_iff_left (Nat.two_pow_pos _).ne', toNat_eq_zero_iff]
theorem sureNaN_iff (hf : 4 ≤ f.frac) :
    sureNaN f x.toNat = true ↔ x.extractLsb' f.frac f.exp = BitVec.allOnes f.exp ∧ x.extractLsb' (f.frac - 4) 4 ≠ 0#4 := by
  have hsplit : 2 ^ f.frac = 2 ^ (f.frac - 4) * 2 ^ 4 := by rw [← Nat.pow_add]; congr 1; omega
  have hfield : x.toNat % 2 ^ f.frac / 2 ^ (f.frac - 4) = (x.extractLsb' (f.frac - 4) 4).toNat := by
    rw [BitVec.extractLsb'_toNat, Nat.shiftRight_eq_div_pow]
    conv_lhs => rw [hsplit, Nat.mod_mul_right_div_self]
  rw [sureNaN, Bool.and_eq_true, fpSpecial_iff, hfield, bne_iff_ne, ne_eq, ne_eq, toNat_eq_zero_iff]

end

/-! ### Sign operations, minimum, maximum, compares -/

section

variable {i : Instr} {m o n : Reg} {p q : Pair} {s : State}

theorem getLsbD_signBit (k : Nat) (hk : k < 64) : (0x8000000000000000#64).getLsbD k = decide (k = 63) := by
  revert k
  decide
theorem getLsbD_maxMagnitude (k : Nat) (hk : k < 64) : (0x7FFFFFFFFFFFFFFF#64).getLsbD k = decide (k ≠ 63) := by
  revert k
  decide

/-- A compare: T takes a value with a property, one free value is read, and nothing else but the pc changes. -/
def Tests (i : Instr) (s : State) (P : Bool → Prop) : Prop :=
  ∃ t w, exec i s = .next ((s.drew 1).wroteSR w) ∧ OneBit 0 t s.sr w ∧ P t

theorem Tests.of_retire {t : Bool} {P : Bool → Prop} (hi : exec i s = retire (setT (drawn s) t)) (h : P t) : Tests i s P :=
  ⟨t, setBit s.sr 0 t, hi, oneBit_setBit, h⟩
theorem GivesFree.of_retire_drawn {v : Word} {P : Word → Prop} (hi : exec i s = retire (setReg (drawn s) n v)) (h : P v) :
    GivesFree i 1 n s P :=
  ⟨v, hi, h⟩

theorem isNaN_of_sureNaN {f : Fmt} {v : Nat} (hk : 4 ≤ f.keep) (h : sureNaN f v = true) : isNaN f v = true := by
  obtain ⟨hspecial, htop⟩ := Bool.and_eq_true_iff.1 h
  refine Bool.and_eq_true_iff.2 ⟨hspecial, bne_iff_ne.2 fun hfrac => bne_iff_ne.1 htop (Nat.div_eq_of_lt ?_)⟩
  have hpos := Nat.two_pow_pos (f.frac - f.keep)
  have hlow : v % 2 ^ f.frac < 2 ^ (f.frac - f.keep) :=
    (Nat.div_eq_zero_iff_lt hpos).1 ((mul_eq_zero.1 hfrac).resolve_right hpos.ne')
  exact hlow.trans_le (Nat.pow_le_pow_right two_pos (by omega))
theorem fpEqual_of_sureNaN {f : Config.FpFmt} {a b : Nat} {free : Bool}
    (h : sureNaN (fmtOf f) a = true ∨ sureNaN (fmtOf f) b = true) : fpEqual f a b free = false :=
  if_pos (Bool.or_eq_true_iff.2 h)
theorem fpEqual_iff {f : Config.FpFmt} {a b : Nat} {free : Bool} (hk : (fmtOf f).keep ≤ (fmtOf f).frac) (h4 : 4 ≤ (fmtOf f).keep)
    (ha : ¬ isNaN (fmtOf f) a = true) (hb : ¬ isNaN (fmtOf f) b = true) :
    fpEqual f a b free = true ↔ fpKey (fmtOf f) a = fpKey (fmtOf f) b := by
  have hsure : ¬ (sureNaN (fmtOf f) a || sureNaN (fmtOf f) b) = true := by
    rw [Bool.or_eq_true]
    exact fun h => h.elim (fun h => ha (isNaN_of_sureNaN h4 h)) fun h => hb (isNaN_of_sureNaN h4 h)
  have hnan : ¬ (isNaN (fmtOf f) a || isNaN (fmtOf f) b) = true := by
    rw [Bool.or_eq_true]
    exact fun h => h.elim ha hb
  rw [← fpEqual_keys hk, fpEqual, if_neg hsure, if_neg hnan]
theorem fpGreater_spec {f : Config.FpFmt} {a b : Nat} {e free : Bool} (ha : ¬ isNaN (fmtOf f) a = true)
    (hb : ¬ isNaN (fmtOf f) b = true) : fpGreater f e a b free = true ↔
      if e then fpKey (fmtOf f) b ≤ fpKey (fmtOf f) a else fpKey (fmtOf f) b < fpKey (fmtOf f) a := by
  cases e <;> simp [fpGreater, ha, hb]

/-- An order of two operands that are no NaNs puts none with the greater key first, whatever is free. -/
theorem fpLess_keys {a b : Word} {free : Bool} (ha : ¬ isNaN (fmtOf .double) a.toNat = true)
    (hb : ¬ isNaN (fmtOf .double) b.toNat = true) :
    if fpLess a b free then fpKey (fmtOf .double) a.toNat ≤ fpKey (fmtOf .double) b.toNat
    else fpKey (fmtOf .double) b.toNat ≤ fpKey (fmtOf .double) a.toNat := by
  have hkey {v : Nat} (h : fpZero (fmtOf .double) v = true) : fpKey (fmtOf .double) v = 0 := by
    rw [fpKey_eq_fpMagnitude, (fpZero_iff _ _).1 h, Nat.cast_zero, mul_zero]
  rw [fpLess, Bool.eq_false_iff.2 ha, Bool.eq_false_iff.2 hb, Bool.false_or, Bool.false_or]
  by_cases hz : (fpZero (fmtOf .double) a.toNat && fpZero (fmtOf .double) b.toNat) = true
  · obtain ⟨hza, hzb⟩ := Bool.and_eq_true_iff.1 hz
    rw [hkey hza, hkey hzb]
    rw [ite_self]
  · rw [if_neg hz]
    by_cases h : fpKey (fmtOf .double) a.toNat < fpKey (fmtOf .double) b.toNat
    · rw [if_pos (decide_eq_true h)]
      exact h.le
    · rw [if_neg (by rwa [decide_eq_true_iff])]
      exact not_lt.1 h

end

/-- Settles O54: the key of a pattern is its signed magnitude, and NaNs are read off the exponent and the fraction. -/
theorem floatingPointOrderAndSign : Obligations.FloatingPointOrderAndSign := by
  intro m o n src x p q s a b c d key k64 nan sure cut k96 nanX sureX test
  have hkey (v : Word) : fpKey (fmtOf .double) v.toNat = k64 v := fpKey_of_keep_eq (f := fmtOf .double) rfl v.isLt
  have hkeyX (v : Quad) : fpKey (fmtOf .long) v.toNat = k96 v * 2 ^ 32 := fpKey_eq_signedKey (f := fmtOf .long) (by decide) v.isLt
  have hnan (v : Word) : isNaN (fmtOf .double) v.toNat = true ↔ nan v := isNaN_iff (f := fmtOf .double) v (by decide)
  have hsure (v : Word) : sureNaN (fmtOf .double) v.toNat = true ↔ sure v := sureNaN_iff (f := fmtOf .double) v (by decide)
  have hnanX (v : Quad) : isNaN (fmtOf .long) v.toNat = true ↔ nanX v := isNaN_iff (f := fmtOf .long) v (by decide)
  have hsureX (v : Quad) : sureNaN (fmtOf .long) v.toNat = true ↔ sureX v := sureNaN_iff (f := fmtOf .long) v (by decide)
  have hsrc : fsrcVal s src = c := by cases src <;> rfl
  have hless (free : Bool) (ha : ¬ nan a) (hb : ¬ nan b) := fpLess_keys (free := free) (mt (hnan a).1 ha) (mt (hnan b).1 hb)
  refine ⟨.of_retire rfl fun k hk => ?abs, .of_retire rfl fun k hk => ?neg, .of_retire_drawn rfl ⟨?minOne, fun ha hb => ?min⟩,
    .of_retire_drawn rfl ⟨?maxOne, fun ha hb => ?max⟩, Tests.of_retire rfl ⟨fun h => ?eqNaN, fun hd hc => ?eq⟩,
    Tests.of_retire rfl fun hd hx => ?ge, Tests.of_retire rfl fun hd hc => ?gt,
    fun hps => ⟨Tests.of_retire (withPairs_eq hps) ⟨fun h => ?eqXNaN, fun hq hp => ?eqX⟩,
      Tests.of_retire (withPairs_eq hps) fun hq hp => ?gtX⟩, fun hps => ⟨withPairs_refused hps, withPairs_refused hps⟩⟩
  case abs =>
    rw [BitVec.getLsbD_and, getLsbD_maxMagnitude k hk, Bool.and_comm]
  case neg =>
    rw [BitVec.getLsbD_xor, getLsbD_signBit k hk, Bool.xor_comm]
  case minOne => exact ite_eq_or_eq _ _ _
  case maxOne => exact (ite_eq_or_eq _ _ _).symm
  case min =>
    rw [← hkey, ← hkey, ← hkey]
    grind
  case max =>
    rw [← hkey, ← hkey, ← hkey]
    grind
  case eqNaN =>
    rw [hsrc]
    exact fpEqual_of_sureNaN (h.imp (hsure d).2 (hsure c).2)
  case eq =>
    rw [hsrc, fpEqual_iff (by decide) (by decide) (mt (hnan d).1 hd) (mt (hnan c).1 hc), hkey, hkey]
  case ge =>
    rw [fpGreater_spec (mt (hnan d).1 hd) (mt (hnan x).1 hx), if_pos rfl, hkey, hkey]
  case gt =>
    rw [hsrc, fpGreater_spec (mt (hnan d).1 hd) (mt (hnan c).1 hc), if_neg (by decide), hkey, hkey]
  case eqXNaN => exact fpEqual_of_sureNaN (h.imp (hsureX _).2 (hsureX _).2)
  case eqX =>
    rw [fpEqual_iff (by decide) (by decide) (mt (hnanX _).1 hq) (mt (hnanX _).1 hp), hkeyX, hkeyX]
    exact mul_left_inj' (by decide)
  case gtX =>
    rw [fpGreater_spec (mt (hnanX _).1 hq) (mt (hnanX _).1 hp), if_neg (by decide), hkeyX, hkeyX]
    exact mul_lt_mul_iff_left₀ (by decide)

end Sys2Proof.Machine

/-! ### Scalar floating-point arithmetic (49_gfp.md R788, R792 to R828, R846 to R849, R1024 to R1045) -/

namespace Sys2Proof.Machine

open Sys2Proof

section

/-- A pattern cut to its significant bits, as a number (R785). -/
theorem fpCut_eq_div_mul {f : Fmt} (hk : f.keep ≤ f.frac) (v : Nat) :
    fpCut f v = v % 2 ^ fpWidth f / 2 ^ (f.frac - f.keep) * 2 ^ (f.frac - f.keep) := by
  have hmod : v % 2 ^ fpWidth f = v % 2 ^ (f.exp + f.frac) + 2 ^ (f.exp + f.frac) * (v / 2 ^ (f.exp + f.frac) % 2) := by
    rw [← Nat.mod_mul, ← Nat.pow_succ, fpWidth]
    congr 2
    omega
  have hsplit : 2 ^ (f.exp + f.frac) = 2 ^ (f.frac - f.keep) * 2 ^ (f.exp + f.keep) := by rw [← Nat.pow_add]; congr 1; omega
  have hsign : (fpSign f v).toNat = v / 2 ^ (f.exp + f.frac) % 2 := by
    rw [fpSign]
    rcases Nat.mod_two_eq_zero_or_one (v / 2 ^ (f.exp + f.frac)) with h | h <;> simp [h]
  rw [fpCut_eq, hsign, fpMagnitude, fpExp_fpFrac hk, hmod]
  conv_rhs => rw [hsplit, Nat.mul_assoc, Nat.add_mul_div_left _ _ (Nat.two_pow_pos _), Nat.add_mul]
  rw [hsplit]
  ring
theorem cutX_eq (v : Quad) : cutX v = (v.extractLsb' 32 96 : BitVec 96) ++ 0#32 := by
  apply BitVec.eq_of_toNat_eq
  have hv := v.isLt
  rw [cutX, fpCut_eq_div_mul (by decide), toNat_append', BitVec.toNat_ofNat, BitVec.extractLsb'_toNat, Nat.shiftRight_eq_div_pow]
  simp only [fpWidth, fmtOf, Config.ldMantBits, BitVec.toNat_ofNat]
  omega

/-! A sign over a magnitude (R1042). -/

theorem getLsbD_signed64 (v r : Word) : (signed64 v r).getLsbD 63 = v.getLsbD 63 := by
  rw [signed64, BitVec.getLsbD_append]
  simp [slice]
theorem getLsbD_signed128 (v r : Quad) : (signed128 v r).getLsbD 127 = v.getLsbD 127 := by
  rw [signed128, BitVec.getLsbD_append]
  simp [slice]
theorem toNat_signed64_mod (v r : Word) : (signed64 v r).toNat % 2 ^ 63 = r.toNat % 2 ^ 63 := by
  rw [signed64, toNat_append', toNat_slice r, pow_zero, Nat.div_one, Nat.mul_add_mod_self_right, Nat.mod_mod]
theorem toNat_signed128_mod (v r : Quad) : (signed128 v r).toNat % 2 ^ 127 = r.toNat % 2 ^ 127 := by
  rw [signed128, toNat_append', toNat_slice r, pow_zero, Nat.div_one, Nat.mul_add_mod_self_right, Nat.mod_mod]
theorem toNat_signed128_zero (v : Quad) : (signed128 0#128 v).toNat = v.toNat % 2 ^ 127 := by
  rw [signed128, toNat_append', toNat_slice, toNat_slice, pow_zero, Nat.div_one]
  simp
theorem toNat_and_maxMagnitude (v : Word) : (v &&& 0x7FFFFFFFFFFFFFFF#64).toNat = v.toNat % 2 ^ 63 := by
  rw [BitVec.toNat_and]
  exact Nat.and_two_pow_sub_one_eq_mod v.toNat 63

end

section

variable {i : Instr} {n : Reg} {q : Pair} {ps : List Pair} {rm : Byte} {s : State}

/-- An operation that places its result in a register, in a listed mode and in another. -/
theorem fpTo_completes {dst src : Config.FpFmt} {op : Config.FpOp} {ins : List Nat} {place : Nat → Word} {P : Word → Prop}
    (hi : exec i s = fpTo dst src op rm ins place n s) (h : ∀ free, P (place (fpElemFrom src dst op rm ins free))) :
    (roundingListed rm = true → GivesFp i 1 n s P) ∧ (roundingListed rm = false → exec i s = .refused .roundingMode) :=
  ⟨fun hrm => ⟨_, _, hi.trans (withRounding_eq hrm), h _⟩, fun hrm => hi.trans (if_neg (by rw [hrm]; decide))⟩
theorem fpD_completes {op : Config.FpOp} {ins : List Word} (hi : exec i s = fpD op rm ins n s) :
    (roundingListed rm = true → GivesFp i 1 n s (fun v => IsElem .double op rm (ins.map BitVec.toNat) v)) ∧
      (roundingListed rm = false → exec i s = .refused .roundingMode) :=
  fpTo_completes hi fun free => ⟨free, rfl⟩
/-- A result in a pair, and what the sticky status bits gather. -/
theorem GivesFpPair.of_retire {k : Nat} {x : Quad} {b : BitVec 4} {P : Quad → Prop}
    (hi : exec i s = retire (fpSticky b (setPair (drawnN k s) q x))) (h : P x) : GivesFpPair i k q s P := by
  refine ⟨x, b, hi.trans ?_, h⟩
  rw [setPair, loWord_eq_slice, hiWord_eq_slice]
  rfl
theorem fpX_completes {op : Config.FpOp} {ins : List Quad} (hi : exec i s = withPairs ps (fpX op rm ins q s)) :
    (ps.all pairAllowed = true → roundingListed rm = true →
        GivesFpPair i 2 q s (fun v => IsElem .long op rm (ins.map BitVec.toNat) v)) ∧
      (ps.all pairAllowed = true → roundingListed rm = false → exec i s = .refused .roundingMode) ∧
      (ps.all pairAllowed = false → exec i s = .refused .forbiddenPair) :=
  ⟨fun hps hrm => .of_retire (hi.trans ((withPairs_eq hps).trans (withRounding_eq hrm))) ⟨_, rfl⟩,
    fun hps hrm => hi.trans ((withPairs_eq hps).trans (if_neg (by rw [hrm]; decide))),
    fun hps => hi.trans (withPairs_refused hps)⟩

end

/-- Settles O53: every operation is `fpTo` or `fpX` of its operands in a mode; the square roots set the sign over it. -/
theorem scalarFloatingPointArithmetic : Obligations.ScalarFloatingPointArithmetic := by
  intro m o p n x y z q src r s a b c abs top dyn single pair
  have hsrc : fsrcVal s src = c := by cases src <;> rfl
  have htop (v : Quad) : cutX v = top v := cutX_eq v
  have htwo {i : Instr} {op : Config.FpOp} {rm : Byte} (hi : exec i s = withPairs [x, y, q] (fpX op rm [getPair s x, getPair s y] q s)) :
      pair i [x, y, q] op rm [x, y] := fpX_completes hi
  have hthree {i : Instr} {op : Config.FpOp}
      (hi : exec i s = withPairs [x, y, z, q] (fpX op 0#8 [getPair s x, getPair s y, getPair s z] q s)) :
      pair i [x, y, z, q] op 0#8 [x, y, z] := fpX_completes hi
  have hmac {i : Instr} {op : Config.FpOp} (hi : exec i s = fp3 op m o p n s) : single i op 0#8 [a, b, getReg s p] :=
    fpD_completes hi
  refine ⟨⟨fpD_completes ?_, fpD_completes ?_, fpD_completes ?_⟩, ⟨fpD_completes rfl, fpD_completes rfl, fpD_completes rfl⟩,
    ⟨fpD_completes ?_, fpD_completes rfl, fpD_completes ?_⟩, ⟨htwo rfl, htwo rfl, htwo rfl⟩,
    fpD_completes rfl, htwo rfl, ?mac, ?sqrt, fun hps => ?sqrtx, fun hps => withPairs_refused hps, .of_retire rfl rfl,
    .of_retire rfl ?divxa, .of_retire rfl ⟨getLsbD_signed64 _ _, toNat_signed64_mod _ _⟩,
    .of_retire rfl ⟨getLsbD_signed128 _ _, ?sqrtxa⟩⟩
  case mac =>
    simp only [List.forall_mem_cons, List.not_mem_nil, false_implies, implies_true, and_true]
    exact ⟨⟨hmac (op := .mac) rfl, hthree (op := .mac) rfl⟩, ⟨hmac (op := .mas) rfl, hthree (op := .mas) rfl⟩,
      ⟨hmac (op := .mrs) rfl, hthree (op := .mrs) rfl⟩, hmac (op := .mra) rfl, hthree (op := .mra) rfl⟩
  case sqrt =>
    have hi : exec (.fsqrt m n) s = fpTo .double .double .sqrt 0#8 [(a &&& 0x7FFFFFFFFFFFFFFF#64).toNat]
      (fun r => signed64 a (BitVec.ofNat 64 r)) n s := rfl
    rw [toNat_and_maxMagnitude] at hi
    exact (fpTo_completes hi fun free => ⟨getLsbD_signed64 _ _, _, ⟨free, rfl⟩, toNat_signed64_mod _ _⟩).1 rfl
  case sqrtx =>
    refine .of_retire (withPairs_eq hps) ⟨getLsbD_signed128 _ _, _, ⟨(freeQuad s).toNat, rfl⟩, ?_⟩
    rw [toNat_signed128_zero]
    exact toNat_signed128_mod _ _
  case divxa => rw [htop, htop, htop]
  case sqrtxa => rw [toNat_signed128_mod, htop, htop]
  all_goals
    rw [← hsrc]
    rfl

end Sys2Proof.Machine

/-! ### Packed floating point (48_gsv_media.md R672, R684 to R689, R750 to R755, R775 to R779, R950 to R952, R982 to R999) -/

namespace Sys2Proof.Machine

open Sys2Proof

section

/-! The short floats widened (R760, R786; R705). -/

theorem toNat_fpSign {f : Fmt} {v : Nat} (h : v < 2 ^ fpWidth f) : (fpSign f v).toNat = v / 2 ^ (f.exp + f.frac) := by
  have hpow : 2 ^ fpWidth f = 2 ^ (f.exp + f.frac) * 2 := by rw [← Nat.pow_succ]; congr 1; rw [fpWidth]; omega
  have hlt : v / 2 ^ (f.exp + f.frac) < 2 := Nat.div_lt_of_lt_mul (by omega)
  rw [fpSign, Nat.mod_eq_of_lt hlt]
  interval_cases v / 2 ^ (f.exp + f.frac) <;> rfl
/-- The number of a pattern widened to another format. -/
def widened (a b : Fmt) (v : Nat) : Nat :=
  let e := v / 2 ^ a.frac % 2 ^ a.exp
  v / 2 ^ (a.exp + a.frac) * 2 ^ (b.exp + b.frac) +
    (if e = 0 then 0 else if e = 2 ^ a.exp - 1 then 2 ^ b.exp - 1 else e + (2 ^ (b.exp - 1) - 2 ^ (a.exp - 1))) * 2 ^ b.frac +
    v % 2 ^ a.frac * 2 ^ (b.frac - a.frac)
theorem fpWiden_eq {src dst : Config.FpFmt} {v : Nat} (h : v < 2 ^ fpWidth (fmtOf src)) :
    fpWiden src dst v = widened (fmtOf src) (fmtOf dst) v := by
  rw [fpWiden, fpPack, toNat_fpSign h]
  rfl
theorem toNat_halfToSingle (x : Half) : (halfToSingle x).toNat = widened (fmtOf .half) (fmtOf .single) x.toNat := by
  have hx := x.isLt
  rw [halfToSingle, fpWiden_eq hx, BitVec.toNat_ofNat, Nat.mod_eq_of_lt]
  simp only [widened, fmtOf]
  grind
theorem toNat_halfToDouble (x : Half) : (halfToDouble x).toNat = widened (fmtOf .half) (fmtOf .double) x.toNat := by
  have hx := x.isLt
  rw [halfToDouble, fpWiden_eq hx, BitVec.toNat_ofNat, Nat.mod_eq_of_lt]
  simp only [widened, fmtOf]
  grind
theorem toNat_singleToDouble (x : BitVec 32) : (singleToDouble x).toNat = widened (fmtOf .single) (fmtOf .double) x.toNat := by
  have hx := x.isLt
  rw [singleToDouble, fpWiden_eq hx, BitVec.toNat_ofNat, Nat.mod_eq_of_lt]
  simp only [widened, fmtOf]
  grind
theorem toNat_fp8ToHalf (b : Byte) : (fp8ToHalf b).toNat =
    if b.toNat = 0 then 0 else b.toNat / 128 * 2 ^ 15 + (b.toNat / 8 % 16 + 8) * 2 ^ 10 + b.toNat % 8 * 2 ^ 7 := by
  have hb := b.isLt
  simp only [fp8ToHalf, beq_iff_eq, ← toNat_eq_zero_iff]
  split
  · rfl
  · simp only [toNat_append', BitVec.toNat_add, BitVec.toNat_setWidth, toNat_slice, BitVec.toNat_ofNat]
    omega

end

section

variable {i : Instr} {m o n : Reg} {x y q : Pair} {ps : List Pair} {op : Config.FpOp} {rm : Byte} {s : State} {f : Nat → List Nat}

theorem extractLsb'_quad (h l : Word) {k : Nat} (hk : k < 2) :
    (quad h l).extractLsb' (64 * k) 64 = if k = 0 then l else h := by
  change slice (h ++ l) (64 * k) 64 = _
  interval_cases k <;> simp

/-- Four Half lanes, two Single lanes: each from its own inputs and its own free value. -/
theorem setHalf_gives {ins : Nat → List Half} (hi : exec i s = setHalf op ins n s)
    (hins : ∀ j, j < 4 → (ins j).map BitVec.toNat = f j) :
    GivesFp i 4 n s (fun v => ∀ j, j < 4 → IsElem .half op 1#8 (f j) (lane16 v j)) :=
  ⟨_, _, hi, fun j hj => ⟨freeNat s j, by rw [lane16_words4 hj, ← hins j hj]; rfl⟩⟩
theorem setSingle_gives {ins : Nat → List (BitVec 32)} (hi : exec i s = setSingle op rm ins n s)
    (hins : ∀ j, j < 2 → (ins j).map BitVec.toNat = f j) :
    GivesFp i 2 n s (fun v => ∀ j, j < 2 → IsElem .single op rm (f j) (lane32 v j)) :=
  ⟨_, _, hi, fun j hj => ⟨freeNat s j, by rw [lane32_words2 hj, ← hins j hj]; rfl⟩⟩
/-- The same in a pair: four Single lanes, or two Double ones. -/
theorem setSingleX_gives {ins : Nat → List (BitVec 32)} (hi : exec i s = withPairs ps (setSingleX op rm ins q s))
    (hins : ∀ j, j < 4 → (ins j).map BitVec.toNat = f j) :
    GivesPairFp i ps 4 q s (fun v => ∀ j, j < 4 → IsElem .single op rm (f j) (v.extractLsb' (32 * j) 32)) :=
  ⟨fun hps => .of_retire (hi.trans (withPairs_eq hps))
    fun j hj => ⟨freeNat s j, by rw [extractLsb'_dwords4 hj, ← hins j hj]; rfl⟩, fun hps => hi.trans (withPairs_refused hps)⟩
theorem setDoubleX_gives {ins : Nat → List Word} (hi : exec i s = withPairs ps (setDoubleX op ins q s))
    (hins : ∀ j, j < 2 → (ins j).map BitVec.toNat = f j) :
    GivesPairFp i ps 2 q s (fun v => ∀ j, j < 2 → IsElem .double op 1#8 (f j) (v.extractLsb' (64 * j) 64)) := by
  refine ⟨fun hps => .of_retire (hi.trans (withPairs_eq hps)) fun j hj => ⟨freeNat s j, ?_⟩, fun hps => hi.trans (withPairs_refused hps)⟩
  rw [extractLsb'_quad _ _ hj, ← hins j hj]
  interval_cases j <;> rfl

/-! The forms the instructions share. -/

theorem packH_gives (hi : exec i s = packH op m o n s) : GivesFp i 4 n s (fun v => ∀ j, j < 4 →
    IsElem .half op 1#8 [(lane16 (getReg s m) j).toNat, (lane16 (getReg s o) j).toNat] (lane16 v j)) :=
  setHalf_gives hi fun _ _ => rfl
theorem packF_gives (hi : exec i s = packF op rm m o n s) : GivesFp i 2 n s (fun v => ∀ j, j < 2 →
    IsElem .single op rm [(lane32 (getReg s m) j).toNat, (lane32 (getReg s o) j).toNat] (lane32 v j)) :=
  setSingle_gives hi fun _ _ => rfl
theorem packXF_gives (hi : exec i s = packXF op rm x y q s) : GivesPairFp i [x, y, q] 4 q s (fun v => ∀ j, j < 4 →
    IsElem .single op rm [((getPair s x).extractLsb' (32 * j) 32).toNat, ((getPair s y).extractLsb' (32 * j) 32).toNat]
      (v.extractLsb' (32 * j) 32)) :=
  setSingleX_gives hi fun _ _ => rfl
theorem packXD_gives (hi : exec i s = packXD op x y q s) : GivesPairFp i [x, y, q] 2 q s (fun v => ∀ j, j < 2 →
    IsElem .double op 1#8 [((getPair s x).extractLsb' (64 * j) 64).toNat, ((getPair s y).extractLsb' (64 * j) 64).toNat]
      (v.extractLsb' (64 * j) 64)) := by
  refine setDoubleX_gives hi fun j hj => ?_
  interval_cases j
  · rw [if_pos rfl, loWord_eq_slice, loWord_eq_slice]
    rfl
  · rw [if_neg (by decide), hiWord_eq_slice, hiWord_eq_slice]
    rfl

end

/-- Settles O56: each instruction is a lane-wise `fpElem` of the lanes it selects. -/
theorem packedFloatingPointLanes : Obligations.PackedFloatingPointLanes := by
  intro m o p n x y z q r i v56 s w l lx dx H F X D sel wide im ims at' f8
  have hwide (h : Half) : (halfToSingle h).toNat = wide h := toNat_halfToSingle h
  have hf8 (k : Reg) (j : Nat) : (fp8ToHalf (lane8 (getReg s k) j)).toNat = f8 k j := toNat_fp8ToHalf _
  have hunlisted {go : Out State} (hr : roundingListed r = false) : withRounding r go = .refused .roundingMode :=
    if_neg (by rw [hr]; decide)
  have hsh {op : Config.FpOp} {j : Instr} (hj : exec j s = packShH op m o i n s) :
      GivesFp j 4 n s (H op fun k => [w m (sel 9 k), w o (sel 10 k)]) :=
    setHalf_gives hj fun k _ => by simp only [shufLane, sel2_eq, Nat.zero_add]; rfl
  have hshX {op : Config.FpOp} {j : Instr} (hj : exec j s = packShX op x y i q s) :
      GivesPairFp j [x, y, q] 4 q s (X op 1#8 fun k => [lx x (sel 9 k), lx y (sel 10 k)]) :=
    setSingleX_gives hj fun k _ => by simp only [shufLane, sel2_eq, Nat.zero_add]; rfl
  have himX {op : Config.FpOp} {j : Instr} {g : Nat → Nat} {h : Nat → Half}
      (hj : exec j s = withPairs [x, q] (setSingleX op 1#8 (fun k => [lane32x (getPair s x) (g k), halfToSingle (h k)]) q s)) :
      GivesPairFp j [x, q] 4 q s (X op 1#8 fun k => [lx x (g k), wide (h k)]) :=
    setSingleX_gives hj fun k _ => by simp only [List.map_cons, List.map_nil, hwide]; rfl
  simp only [List.forall_mem_cons, List.not_mem_nil, false_implies, implies_true, and_true]
  refine ⟨⟨packH_gives rfl, packH_gives rfl, packH_gives rfl⟩, ⟨packF_gives rfl, packF_gives rfl, packF_gives rfl⟩,
    ⟨packXF_gives rfl, packXF_gives rfl, packXF_gives rfl⟩, ⟨packXD_gives rfl, packXD_gives rfl, packXD_gives rfl⟩,
    ⟨⟨fun hr => ⟨packF_gives (withRounding_eq hr), packXF_gives (withRounding_eq hr)⟩, fun hr => ⟨hunlisted hr, hunlisted hr⟩⟩,
      fun hr => ⟨packF_gives (withRounding_eq hr), packXF_gives (withRounding_eq hr)⟩, fun hr => ⟨hunlisted hr, hunlisted hr⟩⟩,
    ⟨⟨hsh (op := .add) rfl, hshX (op := .add) rfl⟩, ⟨hsh (op := .sub) rfl, hshX (op := .sub) rfl⟩,
      hsh (op := .mul) rfl, hshX (op := .mul) rfl⟩,
    ⟨⟨setHalf_gives rfl fun _ _ => rfl, himX (op := .add) (g := id) (h := im) rfl⟩,
      setHalf_gives rfl fun _ _ => rfl, himX (op := .mul) (g := id) (h := im) rfl⟩,
    ⟨⟨setHalf_gives rfl fun _ _ => rfl, himX (op := .add) (g := at') (h := ims) rfl⟩,
      setHalf_gives rfl fun _ _ => rfl, himX (op := .mul) (g := at') (h := ims) rfl⟩,
    setHalf_gives rfl fun _ _ => rfl, setSingleX_gives rfl fun k _ => ?macX, setHalf_gives rfl fun k _ => ?mulF8,
    ⟨⟨setHalf_gives rfl fun _ _ => rfl, setSingleX_gives rfl fun _ _ => rfl⟩,
      ⟨setHalf_gives rfl fun _ _ => rfl, setSingleX_gives rfl fun _ _ => rfl⟩,
      ⟨setHalf_gives rfl fun _ _ => rfl, setSingleX_gives rfl fun _ _ => rfl⟩,
      setHalf_gives rfl fun _ _ => rfl, setSingleX_gives rfl fun _ _ => rfl⟩⟩
  case macX =>
    simp only [List.map_cons, List.map_nil]
    rw [hwide]
    rfl
  case mulF8 =>
    simp only [List.map_cons, List.map_nil]
    rw [hf8, hf8]

end Sys2Proof.Machine

/-! ### Exact results, their binary exponents and their roundings (49_gfp.md R781, R787) -/

namespace Sys2Proof.Machine

open Sys2Proof

section

/-- The size of an exact result. -/
noncomputable def Exact.size (x : Exact) : ℝ := if x.root then √(x.num / x.den * 2 ^ x.e) else x.num / x.den * 2 ^ x.e
/-- Its value. -/
noncomputable def Exact.val (x : Exact) : ℝ := signOf x.neg * x.size

variable {x : Exact} {y : Nat} {g k : Int}

theorem two_zpow_sub (a b : Int) : (2 : ℝ) ^ (a - b) = 2 ^ a / 2 ^ b := zpow_sub₀ two_ne_zero a b
theorem two_zpow_two_mul (a : Int) : (2 : ℝ) ^ (2 * a) = 2 ^ a * 2 ^ a := by rw [two_mul, two_zpow_add]
theorem two_zpow_toNat {k : Int} (h : 0 ≤ k) : (2 : ℝ) ^ k.toNat = 2 ^ k := by rw [← zpow_natCast, Int.toNat_of_nonneg h]

theorem scaledLe_iff (a b : Nat) (k : Int) : scaledLe a k b = true ↔ (a : ℝ) * 2 ^ k ≤ b := by
  have hcast (c d : Nat) : c ≤ d ↔ (c : ℝ) ≤ d := Nat.cast_le.symm
  unfold scaledLe
  split
  · next h =>
    rw [decide_eq_true_iff, hcast, Nat.cast_mul, Nat.cast_pow, Nat.cast_ofNat, two_zpow_toNat h]
  · next h =>
    rw [decide_eq_true_iff, hcast, Nat.cast_mul, Nat.cast_pow, Nat.cast_ofNat, two_zpow_toNat (by omega), zpow_neg,
      ← div_eq_mul_inv, le_div_iff₀ (two_zpow_pos k)]

theorem radicand_nonneg (x : Exact) : (0 : ℝ) ≤ x.num / x.den * 2 ^ x.e := by positivity
theorem size_nonneg (x : Exact) : 0 ≤ x.size := by
  rw [Exact.size]
  split
  · exact Real.sqrt_nonneg _
  · exact radicand_nonneg x
theorem size_eq_zero_iff (hden : 0 < x.den) : x.size = 0 ↔ x.num = 0 := by
  have hden' : (x.den : ℝ) ≠ 0 := Nat.cast_ne_zero.2 hden.ne'
  have hrad : (x.num / x.den * 2 ^ x.e : ℝ) = 0 ↔ x.num = 0 := by simp [hden', (two_zpow_pos x.e).ne']
  rw [Exact.size]
  split
  · rw [Real.sqrt_eq_zero (radicand_nonneg x), hrad]
  · exact hrad
/-- A bound of a result, as its numerator and denominator state it. -/
theorem div_mul_zpow_le_iff (hden : 0 < x.den) (c : ℝ) (e : Int) :
    (x.num : ℝ) / x.den * 2 ^ x.e ≤ c * 2 ^ e ↔ (x.num : ℝ) * 2 ^ (x.e - e) ≤ c * x.den := by
  have hden' : (0 : ℝ) < x.den := Nat.cast_pos.2 hden
  rw [two_zpow_sub, mul_div_assoc', div_le_iff₀ (two_zpow_pos e), div_mul_eq_mul_div, div_le_iff₀ hden', mul_right_comm c]
theorem le_div_mul_zpow_iff (hden : 0 < x.den) (c : ℝ) (e : Int) :
    c * 2 ^ e ≤ (x.num : ℝ) / x.den * 2 ^ x.e ↔ c * x.den * 2 ^ (e - x.e) ≤ x.num := by
  have hden' : (0 : ℝ) < x.den := Nat.cast_pos.2 hden
  rw [two_zpow_sub, mul_div_assoc', div_le_iff₀ (two_zpow_pos x.e), div_mul_eq_mul_div, le_div_iff₀ hden', mul_right_comm c]
theorem exactLe_iff (hden : 0 < x.den) : exactLe x y g = true ↔ x.size ≤ y * 2 ^ g := by
  have hnonneg : (0 : ℝ) ≤ y * 2 ^ g := by positivity
  rw [exactLe, Exact.size]
  split
  · have hsq : ((y : ℝ) * 2 ^ g) ^ 2 = ((y * y : Nat) : ℝ) * 2 ^ (2 * g) := by rw [two_zpow_two_mul]; push_cast; ring
    rw [scaledLe_iff, Real.sqrt_le_left hnonneg, hsq, div_mul_zpow_le_iff hden, Nat.cast_mul]
  · rw [scaledLe_iff, div_mul_zpow_le_iff hden, Nat.cast_mul]
theorem exactGe_iff (hden : 0 < x.den) : exactGe x y g = true ↔ y * 2 ^ g ≤ x.size := by
  have hnonneg : (0 : ℝ) ≤ y * 2 ^ g := by positivity
  rw [exactGe, Exact.size]
  split
  · have hsq : ((y : ℝ) * 2 ^ g) ^ 2 = ((y * y : Nat) : ℝ) * 2 ^ (2 * g) := by rw [two_zpow_two_mul]; push_cast; ring
    rw [scaledLe_iff, Real.le_sqrt hnonneg (radicand_nonneg x), hsq, le_div_mul_zpow_iff hden, Nat.cast_mul]
  · rw [scaledLe_iff, le_div_mul_zpow_iff hden, Nat.cast_mul]

/-! The binary exponent. -/

theorem two_zpow_log2_le {a : Nat} (h : a ≠ 0) : (2 : ℝ) ^ ((Nat.log2 a : Nat) : Int) ≤ a := by
  rw [zpow_natCast]
  exact_mod_cast Nat.log2_self_le h
theorem lt_two_zpow_log2 (a : Nat) : (a : ℝ) < 2 ^ (((Nat.log2 a : Nat) : Int) + 1) := by
  have h : a < 2 ^ (Nat.log2 a + 1) := Nat.lt_log2_self
  rw [← Nat.cast_succ, zpow_natCast]
  exact_mod_cast h
/-- The first guess at the exponent of a fraction is right, or 1 too high. -/
theorem radicand_bounds (hden : 0 < x.den) (hnum : x.num ≠ 0) (l : Int) (hl : l = (Nat.log2 x.num : Int) - Nat.log2 x.den + x.e) :
    (2 : ℝ) ^ (l - 1) ≤ x.num / x.den * 2 ^ x.e ∧ x.num / x.den * 2 ^ x.e < (2 : ℝ) ^ (l + 1) := by
  have hden' : (0 : ℝ) < x.den := Nat.cast_pos.2 hden
  have hn := two_zpow_log2_le hnum
  have hn' := lt_two_zpow_log2 x.num
  have hd := two_zpow_log2_le hden.ne'
  have hd' := lt_two_zpow_log2 x.den
  constructor
  · have hdiv : (2 : ℝ) ^ (l - 1 - x.e) ≤ x.num / x.den := by
      rw [show l - 1 - x.e = (Nat.log2 x.num : Int) - ((Nat.log2 x.den : Int) + 1) by omega, two_zpow_sub]
      exact div_le_div₀ (Nat.cast_nonneg _) hn hden' hd'.le
    calc (2 : ℝ) ^ (l - 1) = 2 ^ (l - 1 - x.e) * 2 ^ x.e := by rw [← two_zpow_add, Int.sub_add_cancel]
      _ ≤ _ := mul_le_mul_of_nonneg_right hdiv (two_zpow_pos _).le
  · have hdiv : x.num / x.den < (2 : ℝ) ^ (l + 1 - x.e) := by
      rw [show l + 1 - x.e = (Nat.log2 x.num : Int) + 1 - Nat.log2 x.den by omega, two_zpow_sub]
      exact div_lt_div₀ hn' hd (two_zpow_pos _).le (two_zpow_pos _)
    calc (x.num / x.den * 2 ^ x.e : ℝ) < 2 ^ (l + 1 - x.e) * 2 ^ x.e := mul_lt_mul_of_pos_right hdiv (two_zpow_pos _)
      _ = 2 ^ (l + 1) := by rw [← two_zpow_add, Int.sub_add_cancel]
theorem zpow_two_le_zpow {a b : Int} (h : a ≤ b) : (2 : ℝ) ^ a ≤ 2 ^ b := zpow_le_zpow_right₀ one_le_two h
theorem zpow_two_le_zpow_iff {a b : Int} : (2 : ℝ) ^ a ≤ 2 ^ b ↔ a ≤ b := zpow_le_zpow_iff_right₀ one_lt_two
theorem zpow_two_lt_zpow_iff {a b : Int} : (2 : ℝ) ^ a < 2 ^ b ↔ a < b := zpow_lt_zpow_iff_right₀ one_lt_two
/-- `exactLog` is the exponent of the highest bit. -/
theorem exactLog_bounds (hden : 0 < x.den) (hnum : x.num ≠ 0) :
    (2 : ℝ) ^ exactLog x ≤ x.size ∧ x.size < (2 : ℝ) ^ (exactLog x + 1) := by
  obtain ⟨hlow, hhigh⟩ := radicand_bounds hden hnum _ rfl
  have key (h : Int) (hlo : (2 : ℝ) ^ (h - 1) ≤ x.size) (hhi : x.size < (2 : ℝ) ^ (h + 1)) :
      (2 : ℝ) ^ (if exactGe x 1 h then h else h - 1) ≤ x.size ∧ x.size < (2 : ℝ) ^ ((if exactGe x 1 h then h else h - 1) + 1) := by
    have hge := exactGe_iff (y := 1) (g := h) hden
    rw [Nat.cast_one, one_mul] at hge
    split
    · next hx => exact ⟨hge.1 hx, hhi⟩
    · next hx => exact ⟨hlo, by rw [Int.sub_add_cancel]; exact not_le.1 (mt hge.2 hx)⟩
  rw [exactLog]
  refine key _ ?_ ?_
  all_goals
    rw [Exact.size]
    cases x.root
  · exact hlow
  · refine (Real.le_sqrt (two_zpow_pos _).le (radicand_nonneg x)).2 ?_
    rw [pow_two, ← two_zpow_add]
    exact (zpow_two_le_zpow (by rw [if_pos rfl]; omega)).trans hlow
  · exact hhigh
  · refine (Real.sqrt_lt' (two_zpow_pos _)).2 ?_
    rw [pow_two, ← two_zpow_add]
    exact hhigh.trans_le (zpow_two_le_zpow (by rw [if_pos rfl]; omega))
theorem exactLog_unique (hden : 0 < x.den) {l : Int} (hlo : (2 : ℝ) ^ l ≤ x.size) (hhi : x.size < (2 : ℝ) ^ (l + 1)) :
    exactLog x = l := by
  have hnum : x.num ≠ 0 := fun h => by
    rw [(size_eq_zero_iff hden).2 h] at hlo
    exact absurd hlo (not_le.2 (two_zpow_pos l))
  obtain ⟨hlow, hhigh⟩ := exactLog_bounds hden hnum
  have h1 := zpow_two_lt_zpow_iff.1 (hlow.trans_lt hhi)
  have h2 := zpow_two_lt_zpow_iff.1 (hlo.trans_lt hhigh)
  omega

/-! The digits. -/

theorem isqrtFrom_spec {n k r : Nat} (hr : r * r ≤ n) (hn : n < (r + 2 ^ k) * (r + 2 ^ k)) :
    isqrtFrom n k r * isqrtFrom n k r ≤ n ∧ n < (isqrtFrom n k r + 1) * (isqrtFrom n k r + 1) := by
  induction k generalizing r with
  | zero => exact ⟨hr, hn⟩
  | succ k ih =>
    rw [isqrtFrom]
    split
    · next h => exact ih h (by rw [Nat.add_assoc, ← Nat.two_mul, ← Nat.pow_succ']; exact hn)
    · next h => exact ih hr (Nat.not_le.1 h)
theorem isqrt_spec (n : Nat) : isqrtFrom n (Nat.log2 n / 2 + 1) 0 = Nat.sqrt n := by
  have hn : n < (0 + 2 ^ (Nat.log2 n / 2 + 1)) * (0 + 2 ^ (Nat.log2 n / 2 + 1)) := by
    rw [Nat.zero_add, ← Nat.pow_add]
    exact Nat.lt_log2_self.trans_le (Nat.pow_le_pow_right two_pos (by omega))
  obtain ⟨hle, hlt⟩ := isqrtFrom_spec (Nat.zero_le n) hn
  exact Nat.eq_sqrt.2 ⟨hle, hlt⟩
theorem sqrt_floor {v : ℝ} (hv : 0 ≤ v) : Nat.sqrt ⌊v⌋₊ = ⌊√v⌋₊ := by
  refine (Nat.eq_sqrt.2 ⟨Nat.le_floor ?_, (Nat.floor_lt hv).2 ?_⟩).symm
  · calc ((⌊√v⌋₊ * ⌊√v⌋₊ : Nat) : ℝ) = (⌊√v⌋₊ : ℝ) * ⌊√v⌋₊ := Nat.cast_mul _ _
      _ ≤ √v * √v := mul_self_le_mul_self (Nat.cast_nonneg _) (Nat.floor_le (Real.sqrt_nonneg v))
      _ = v := Real.mul_self_sqrt hv
  · calc v = √v * √v := (Real.mul_self_sqrt hv).symm
      _ < (⌊√v⌋₊ + 1 : ℝ) * (⌊√v⌋₊ + 1) := mul_self_lt_mul_self (Real.sqrt_nonneg v) (Nat.lt_floor_add_one _)
      _ = (((⌊√v⌋₊ + 1) * (⌊√v⌋₊ + 1) : Nat) : ℝ) := by push_cast; ring
theorem floor_scale (a b : Nat) (d : Int) :
    (if 0 ≤ d then a * 2 ^ d.toNat / b else a / (b * 2 ^ (-d).toNat)) = ⌊(a : ℝ) / b * 2 ^ d⌋₊ := by
  split
  · next h =>
    rw [← Nat.floor_div_eq_div (K := ℝ), Nat.cast_mul, Nat.cast_pow, Nat.cast_ofNat, two_zpow_toNat h, div_mul_eq_mul_div]
  · next h =>
    rw [← Nat.floor_div_eq_div (K := ℝ), Nat.cast_mul, Nat.cast_pow, Nat.cast_ofNat, two_zpow_toNat (by omega), zpow_neg,
      ← div_div, div_inv_eq_mul]
/-- `exactFloor` cuts the result at a bit. -/
theorem exactFloor_eq (k : Int) : exactFloor x k = ⌊x.size * 2 ^ k⌋₊ := by
  rw [exactFloor, Exact.size]
  split
  · have hscale : scale2 x.num (x.e + 2 * k) / x.den = ⌊(x.num : ℝ) / x.den * 2 ^ (x.e + 2 * k)⌋₊ := by
      rw [← floor_scale, scale2]
      split
      · rfl
      · rw [Nat.div_div_eq_div_mul, Nat.mul_comm]
    have hsq : √((x.num : ℝ) / x.den * 2 ^ x.e) * 2 ^ k = √((x.num : ℝ) / x.den * 2 ^ (x.e + 2 * k)) := by
      rw [two_zpow_add, ← mul_assoc, Real.sqrt_mul (radicand_nonneg x), two_zpow_two_mul, Real.sqrt_mul_self (two_zpow_pos k).le]
    rw [isqrt_spec, hscale, hsq, sqrt_floor (by positivity)]
  · rw [floor_scale, two_zpow_add, ← mul_assoc]

end

end Sys2Proof.Machine

/-! ### Patterns put together from fields, and the roundings that make them (49_gfp.md R781, R787) -/

namespace Sys2Proof.Machine

open Sys2Proof

section

variable {f : Fmt} {neg : Bool} {e m : Nat}

theorem fpPack_mod (hm : m < 2 ^ f.frac) : fpPack f neg e m % 2 ^ f.frac = m := by
  have h : fpPack f neg e m = m + 2 ^ f.frac * (neg.toNat * 2 ^ f.exp + e) := by rw [fpPack, Nat.pow_add]; ring
  rw [h, Nat.add_mul_mod_self_left, Nat.mod_eq_of_lt hm]
theorem fpPack_div (hm : m < 2 ^ f.frac) : fpPack f neg e m / 2 ^ f.frac = neg.toNat * 2 ^ f.exp + e := by
  have h : fpPack f neg e m = m + 2 ^ f.frac * (neg.toNat * 2 ^ f.exp + e) := by rw [fpPack, Nat.pow_add]; ring
  rw [h, Nat.add_mul_div_left _ _ (Nat.two_pow_pos _), Nat.div_eq_of_lt hm, Nat.zero_add]
theorem fpExp_fpPack (he : e < 2 ^ f.exp) (hm : m < 2 ^ f.frac) : fpExp f (fpPack f neg e m) = e := by
  rw [fpExp, fpPack_div hm, Nat.mul_comm, Nat.mul_add_mod, Nat.mod_eq_of_lt he]
theorem fpSign_fpPack (he : e < 2 ^ f.exp) (hm : m < 2 ^ f.frac) : fpSign f (fpPack f neg e m) = neg := by
  rw [fpSign, Nat.pow_add, Nat.mul_comm, ← Nat.div_div_eq_div_mul, fpPack_div hm, Nat.mul_comm, Nat.mul_add_div (Nat.two_pow_pos _),
    Nat.div_eq_of_lt he, Nat.add_zero]
  cases neg <;> rfl
theorem fpPack_lt (he : e < 2 ^ f.exp) (hm : m < 2 ^ f.frac) : fpPack f neg e m < 2 ^ fpWidth f := by
  have hw : 2 ^ fpWidth f = 2 * 2 ^ f.exp * 2 ^ f.frac := by rw [fpWidth, Nat.pow_add, Nat.pow_add, pow_one]
  have hneg : neg.toNat ≤ 1 := by cases neg <;> decide
  refine (Nat.div_lt_iff_lt_mul (Nat.two_pow_pos f.frac)).1 ?_ |>.trans_eq hw.symm
  rw [fpPack_div hm]
  nlinarith
theorem fpFrac_fpPack (hm : m < 2 ^ f.frac) :
    fpFrac f (fpPack f neg e m) = m / 2 ^ (f.frac - f.keep) * 2 ^ (f.frac - f.keep) := by
  rw [fpFrac, fpPack_mod hm]

/-- A finite pattern with no bits below its last place, of a sign and a value. -/
structure IsValue (f : Fmt) (r : Nat) (neg : Bool) (v : ℝ) : Prop where
  lt : r < 2 ^ fpWidth f
  mod : r % 2 ^ (f.frac - f.keep) = 0
  sign : fpSign f r = neg
  val : (dyadicOf f r).val = signOf neg * v

theorem two_pow_split (hk : f.keep ≤ f.frac) : 2 ^ f.frac = 2 ^ f.keep * 2 ^ (f.frac - f.keep) := by
  rw [← Nat.pow_add, Nat.add_sub_cancel' hk]
theorem frac_mul_lt (hk : f.keep ≤ f.frac) (hm : m < 2 ^ f.keep) : m * 2 ^ (f.frac - f.keep) < 2 ^ f.frac := by
  rw [two_pow_split hk]
  exact Nat.mul_lt_mul_of_pos_right hm (Nat.two_pow_pos _)
theorem fpPack_mod_unit (hk : f.keep ≤ f.frac) (m : Nat) :
    fpPack f neg e (m * 2 ^ (f.frac - f.keep)) % 2 ^ (f.frac - f.keep) = 0 := by
  have h : fpPack f neg e (m * 2 ^ (f.frac - f.keep)) =
      (neg.toNat * 2 ^ f.exp * 2 ^ f.keep + e * 2 ^ f.keep + m) * 2 ^ (f.frac - f.keep) := by
    rw [fpPack, Nat.pow_add, two_pow_split hk]; ring
  rw [h, Nat.mul_mod_left]
/-- A normal pattern, from the fields up. -/
theorem fpPack_isValue (hk : f.keep ≤ f.frac) (h1 : 1 ≤ e) (he : e < 2 ^ f.exp) (hm : m < 2 ^ f.keep) :
    IsValue f (fpPack f neg e (m * 2 ^ (f.frac - f.keep))) neg ((2 ^ f.keep + m : Nat) * 2 ^ ((e : Int) - fpBias f - f.keep)) := by
  have hlt := frac_mul_lt hk hm
  have hpow : ((2 : ℝ) ^ (f.frac - f.keep)) * 2 ^ ((e : Int) - fpBias f - f.frac) = 2 ^ ((e : Int) - fpBias f - f.keep) := by
    rw [← zpow_natCast, ← two_zpow_add]
    congr 1
    omega
  refine ⟨fpPack_lt he hlt, fpPack_mod_unit hk m, fpSign_fpPack he hlt, ?_⟩
  rw [Dyadic.val, dyadicOf, fpSign_fpPack he hlt, fpExp_fpPack he hlt, if_neg (by omega), fpFrac_fpPack hlt,
    Nat.mul_div_cancel _ (Nat.two_pow_pos _), two_pow_split hk, ← Nat.add_mul, Nat.cast_mul, ← hpow]
  push_cast
  ring
theorem fpNormal_fpPack (h1 : 1 ≤ e) (he : e < 2 ^ f.exp - 1) (hm : m < 2 ^ f.frac) : fpNormal f (fpPack f neg e m) = true := by
  rw [fpNormal, fpSpecial, fpExp_fpPack (by omega) hm]
  simp
  omega
/-- A zero of either sign. -/
theorem fpPack_zero_isValue (hk : f.keep ≤ f.frac) : IsValue f (fpPack f neg 0 0) neg 0 := by
  have he : 0 < 2 ^ f.exp := Nat.two_pow_pos _
  have hm : 0 < 2 ^ f.frac := Nat.two_pow_pos _
  have hmod := fpPack_mod_unit (neg := neg) (e := 0) hk 0
  rw [Nat.zero_mul] at hmod
  refine ⟨fpPack_lt he hm, hmod, fpSign_fpPack he hm, ?_⟩
  rw [Dyadic.val, dyadicOf, fpExp_fpPack he hm, if_pos rfl]
  simp
theorem fpZero_fpPack : fpZero f (fpPack f neg 0 0) = true := by
  rw [fpZero, fpExp_fpPack (Nat.two_pow_pos _) (Nat.two_pow_pos _), fpFrac_fpPack (Nat.two_pow_pos _)]
  simp

/-! Roundings to the last place. -/

variable {x : Exact} {n : Nat} {l : Int}

theorem two_mul_fpBias (he : 2 ≤ f.exp) : 2 * fpBias f + 2 = 2 ^ f.exp := by
  have hpow : 2 ^ f.exp = 2 * 2 ^ (f.exp - 1) := by rw [← Nat.pow_succ']; congr 1; omega
  have hpos := Nat.two_pow_pos (f.exp - 1)
  rw [fpBias, hpow]
  omega
/-- A whole number of last places below the overflow, as a pattern. -/
theorem fpEncode_isValue (he : 2 ≤ f.exp) (hk : f.keep ≤ f.frac) (hn : 2 ^ f.keep ≤ n) (hn' : n ≤ 2 ^ (f.keep + 1))
    (hl : 1 - (fpBias f : Int) ≤ l) (hl' : l ≤ fpBias f) (htop : n = 2 ^ (f.keep + 1) → l < fpBias f) :
    fpNormal f (fpEncode f neg n l) = true ∧ IsValue f (fpEncode f neg n l) neg (n * 2 ^ (l - f.keep)) := by
  have hbias := two_mul_fpBias he
  have hpow : 2 ^ (f.keep + 1) = 2 ^ f.keep + 2 ^ f.keep := by rw [Nat.pow_succ]; omega
  rw [fpEncode]
  split
  · next h =>
    have hl'' := htop h
    have hcast : (((l + 1 + fpBias f).toNat : Nat) : Int) = l + 1 + fpBias f := Int.toNat_of_nonneg (by omega)
    have hv := fpPack_isValue (neg := neg) (m := 0) hk (e := (l + 1 + fpBias f).toNat) (by omega) (by omega) (Nat.two_pow_pos _)
    rw [Nat.zero_mul, hcast, Nat.add_zero] at hv
    refine ⟨fpNormal_fpPack (by omega) (by omega) (Nat.two_pow_pos _), ?_⟩
    convert hv using 1
    rw [h, show l + 1 + (fpBias f : Int) - fpBias f - f.keep = 1 + (l - f.keep) by omega, two_zpow_add, zpow_one, Nat.pow_succ]
    push_cast
    ring
  · next h =>
    have hcast : (((l + fpBias f).toNat : Nat) : Int) = l + fpBias f := Int.toNat_of_nonneg (by omega)
    have hm : n - 2 ^ f.keep < 2 ^ f.keep := by omega
    have hv := fpPack_isValue (neg := neg) hk (e := (l + fpBias f).toNat) (by omega) (by omega) hm
    rw [hcast, Nat.add_sub_cancel' hn, show l + (fpBias f : Int) - fpBias f - f.keep = l - f.keep by omega] at hv
    exact ⟨fpNormal_fpPack (by omega) (by omega) (frac_mul_lt hk hm), hv⟩

theorem fpOverflow_iff (he : 2 ≤ f.exp) (hden : 0 < x.den) :
    fpOverflow f x = true ↔ ((2 ^ (f.keep + 1) - 1 : Nat) : ℝ) * 2 ^ ((fpBias f : Int) - f.keep) < x.size := by
  have hbias := two_mul_fpBias he
  have hexp : (2 ^ f.exp - 2 : Int) - fpBias f - f.keep = fpBias f - f.keep := by
    have h : ((2 ^ f.exp : Nat) : Int) = 2 * fpBias f + 2 := by rw [← hbias]; push_cast; rfl
    push_cast at h
    omega
  rw [fpOverflow, hexp, Bool.not_eq_true', ← Bool.not_eq_true, exactLe_iff hden, not_le]
theorem fpUnderflow_iff (hden : 0 < x.den) : fpUnderflow f x = true ↔ x.size < 2 ^ (1 - (fpBias f : Int)) := by
  rw [fpUnderflow, Bool.not_eq_true', ← Bool.not_eq_true, exactGe_iff hden, not_le, Nat.cast_one, one_mul]

/-- The result in units of its own last place. -/
noncomputable def Exact.mantissa (f : Fmt) (x : Exact) : ℝ := x.size * 2 ^ ((f.keep : Int) - exactLog x)

theorem size_eq_mantissa (f : Fmt) (x : Exact) : x.size = x.mantissa f * 2 ^ (exactLog x - f.keep) := by
  rw [Exact.mantissa, mul_assoc, ← two_zpow_add]
  simp
theorem mantissa_bounds (f : Fmt) (hden : 0 < x.den) (hnum : x.num ≠ 0) :
    ((2 ^ f.keep : Nat) : ℝ) ≤ x.mantissa f ∧ x.mantissa f < ((2 ^ (f.keep + 1) : Nat) : ℝ) := by
  obtain ⟨hlo, hhi⟩ := exactLog_bounds hden hnum
  have hpos := two_zpow_pos ((f.keep : Int) - exactLog x)
  rw [Exact.mantissa]
  constructor
  · calc ((2 ^ f.keep : Nat) : ℝ) = 2 ^ exactLog x * 2 ^ ((f.keep : Int) - exactLog x) := by
          rw [← two_zpow_add, add_sub_cancel, zpow_natCast]; push_cast; rfl
      _ ≤ _ := mul_le_mul_of_nonneg_right hlo hpos.le
  · calc x.size * 2 ^ ((f.keep : Int) - exactLog x) < 2 ^ (exactLog x + 1) * 2 ^ ((f.keep : Int) - exactLog x) :=
          mul_lt_mul_of_pos_right hhi hpos
      _ = ((2 ^ (f.keep + 1) : Nat) : ℝ) := by
          rw [← two_zpow_add, show exactLog x + 1 + ((f.keep : Int) - exactLog x) = ((f.keep + 1 : Nat) : Int) by omega, zpow_natCast]
          push_cast
          rfl
/-- Between underflow and overflow, the binary exponent is one of the format's; the largest leaves no room to round up. -/
theorem exactLog_in_range (he : 2 ≤ f.exp) (hden : 0 < x.den) (hnum : x.num ≠ 0) (hover : fpOverflow f x = false)
    (hunder : fpUnderflow f x = false) :
    1 - (fpBias f : Int) ≤ exactLog x ∧ exactLog x ≤ fpBias f ∧
      (exactLog x = fpBias f → x.mantissa f ≤ ((2 ^ (f.keep + 1) - 1 : Nat) : ℝ)) := by
  obtain ⟨hlo, hhi⟩ := exactLog_bounds hden hnum
  have hsmall : (2 : ℝ) ^ (1 - (fpBias f : Int)) ≤ x.size := not_lt.1 fun h => by
    rw [(fpUnderflow_iff hden).2 h] at hunder
    exact absurd hunder (by decide)
  have hlarge : x.size ≤ ((2 ^ (f.keep + 1) - 1 : Nat) : ℝ) * 2 ^ ((fpBias f : Int) - f.keep) := not_lt.1 fun h => by
    rw [(fpOverflow_iff he hden).2 h] at hover
    exact absurd hover (by decide)
  have htop : x.size < (2 : ℝ) ^ ((fpBias f : Int) + 1) := by
    refine hlarge.trans_lt ?_
    rw [show (fpBias f : Int) + 1 = ((f.keep + 1 : Nat) : Int) + ((fpBias f : Int) - f.keep) by omega, two_zpow_add, zpow_natCast]
    refine mul_lt_mul_of_pos_right ?_ (two_zpow_pos _)
    exact_mod_cast Nat.sub_lt (Nat.two_pow_pos _) one_pos
  refine ⟨?_, ?_, fun h => ?_⟩
  · have := zpow_two_lt_zpow_iff.1 (hsmall.trans_lt hhi)
    omega
  · have := zpow_two_lt_zpow_iff.1 (hlo.trans_lt htop)
    omega
  · rw [size_eq_mantissa f x, h] at hlarge
    exact le_of_mul_le_mul_right hlarge (two_zpow_pos _)

theorem exactFloor_mantissa (f : Fmt) (x : Exact) (j : Nat) :
    exactFloor x (f.keep + j - exactLog x) = ⌊x.mantissa f * 2 ^ j⌋₊ := by
  rw [exactFloor_eq, Exact.mantissa, mul_assoc, ← zpow_natCast (2 : ℝ) j, ← two_zpow_add,
    show (f.keep : Int) - exactLog x + j = f.keep + j - exactLog x by omega]
/-- Half of the next whole number, rounded down, is the nearest to half of a number. -/
theorem nearest_of_floor {v : ℝ} (hv : 0 ≤ v) : |(((⌊v * 2⌋₊ + 1) / 2 : Nat) : ℝ) - v| ≤ 1 / 2 := by
  have hlo := Nat.floor_le (show 0 ≤ v * 2 by positivity)
  have hhi := Nat.lt_floor_add_one (v * 2)
  have hdiv : (⌊v * 2⌋₊ + 1) / 2 * 2 = ⌊v * 2⌋₊ ∨ (⌊v * 2⌋₊ + 1) / 2 * 2 = ⌊v * 2⌋₊ + 1 := by omega
  rw [abs_le]
  rcases hdiv with h | h <;>
  · have hcast := congrArg (Nat.cast (R := ℝ)) h
    push_cast at hcast
    constructor <;> linarith
/-- `fpNearest` is a normal value within half a last place of the result. -/
theorem fpNearest_spec (he : 2 ≤ f.exp) (hk : f.keep ≤ f.frac) (hden : 0 < x.den) (hnum : x.num ≠ 0) (hover : fpOverflow f x = false)
    (hunder : fpUnderflow f x = false) :
    ∃ n : Nat, fpNormal f (fpNearest f x) = true ∧ IsValue f (fpNearest f x) x.neg (n * 2 ^ (exactLog x - f.keep)) ∧
      |(n : ℝ) - x.mantissa f| ≤ 1 / 2 := by
  obtain ⟨hlow, hhigh, htop⟩ := exactLog_in_range he hden hnum hover hunder
  obtain ⟨hmlo, hmhi⟩ := mantissa_bounds f hden hnum
  have hfloor := exactFloor_mantissa f x 1
  have hnear := nearest_of_floor ((Nat.cast_nonneg _).trans hmlo)
  obtain ⟨hn1, hn2⟩ := abs_le.1 hnear
  rw [pow_one] at hfloor
  have hn : 2 ^ f.keep ≤ (⌊x.mantissa f * 2⌋₊ + 1) / 2 := by
    have : ((2 ^ f.keep : Nat) : ℝ) < (((⌊x.mantissa f * 2⌋₊ + 1) / 2 : Nat) : ℝ) + 1 := by linarith
    exact Nat.lt_succ_iff.1 (by exact_mod_cast this)
  have hn' : (⌊x.mantissa f * 2⌋₊ + 1) / 2 ≤ 2 ^ (f.keep + 1) := by
    have : (((⌊x.mantissa f * 2⌋₊ + 1) / 2 : Nat) : ℝ) < ((2 ^ (f.keep + 1) : Nat) : ℝ) + 1 := by linarith
    exact Nat.lt_succ_iff.1 (by exact_mod_cast this)
  refine ⟨(⌊x.mantissa f * 2⌋₊ + 1) / 2, ?_⟩
  have hval := fpEncode_isValue (neg := x.neg) he hk hn hn' hlow hhigh fun h => lt_of_le_of_ne hhigh fun heq => by
    have hm := htop heq
    rw [Nat.cast_sub Nat.one_le_two_pow, Nat.cast_one] at hm
    rw [h] at hn2
    linarith
  have heq : fpNearest f x = fpEncode f x.neg ((⌊x.mantissa f * 2⌋₊ + 1) / 2) (exactLog x) := by
    rw [← hfloor]
    rfl
  rw [heq]
  exact ⟨hval.1, hval.2, hnear⟩
/-- `fpTruncate` is the result cut at its last place. -/
theorem fpTruncate_spec (he : 2 ≤ f.exp) (hk : f.keep ≤ f.frac) (hden : 0 < x.den) (hnum : x.num ≠ 0) (hover : fpOverflow f x = false)
    (hunder : fpUnderflow f x = false) :
    fpNormal f (fpTruncate f x) = true ∧ IsValue f (fpTruncate f x) x.neg (⌊x.mantissa f⌋₊ * 2 ^ (exactLog x - f.keep)) := by
  obtain ⟨hlow, hhigh, htop⟩ := exactLog_in_range he hden hnum hover hunder
  obtain ⟨hmlo, hmhi⟩ := mantissa_bounds f hden hnum
  have hfloor := exactFloor_mantissa f x 0
  rw [pow_zero, mul_one, Nat.cast_zero, add_zero] at hfloor
  have hlt : ⌊x.mantissa f⌋₊ < 2 ^ (f.keep + 1) := (Nat.floor_lt ((Nat.cast_nonneg _).trans hmlo)).2 hmhi
  rw [fpTruncate, hfloor]
  exact fpEncode_isValue he hk (Nat.le_floor hmlo) hlt.le hlow hhigh fun h => absurd h hlt.ne

end

end Sys2Proof.Machine

/-! ### The tolerance and the result model (49_gfp.md R781, R782, R1024) -/

namespace Sys2Proof.Machine

open Sys2Proof

section

variable {f : Fmt} {x : Exact} {c : Dyadic} {h : Nat} {t : Int}

theorem val_size (d : Dyadic) : |d.val| = d.m * 2 ^ d.e := by
  have hnonneg : (0 : ℝ) ≤ d.m * 2 ^ d.e := mul_nonneg (Nat.cast_nonneg _) (two_zpow_pos _).le
  have hsign : |signOf d.neg| = 1 := by cases d.neg <;> simp
  rw [Dyadic.val, mul_assoc, abs_mul, hsign, one_mul, abs_of_nonneg hnonneg]
theorem dyadic_val_eq (d : Dyadic) : d.val = signOf d.neg * |d.val| := by
  rw [val_size, Dyadic.val, mul_assoc]
/-- The distance of two numbers by their signs and sizes. -/
theorem abs_signed_sub (a b : Bool) {u v : ℝ} (hu : 0 ≤ u) (hv : 0 ≤ v) :
    |signOf a * u - signOf b * v| = if a = b then |u - v| else u + v := by
  cases a <;> cases b
  · simp
  · simp [abs_of_nonneg (add_nonneg hu hv)]
  · have hneg : -1 * u - 1 * v = -(u + v) := by ring
    simp only [signOf_true, signOf_false, hneg, abs_neg, abs_of_nonneg (add_nonneg hu hv), Bool.true_eq_false, if_false]
  · have hneg : -1 * u - -1 * v = -(u - v) := by ring
    simp only [signOf_true, hneg, abs_neg, if_true]

theorem hundred_abs_le {d b : ℝ} : 100 * |d| ≤ b ↔ -b ≤ 100 * d ∧ 100 * d ≤ b := by
  rw [← abs_le, abs_mul, abs_of_pos (show (0 : ℝ) < 100 by norm_num)]

/-- A result scaled up by 100, as `fpWithin` scales it. -/
theorem size_hundredfold (x : Exact) :
    Exact.size { x with num := if x.root then 10000 * x.num else 100 * x.num } = 100 * x.size := by
  have h100 : √(100 * 100 : ℝ) = 100 := Real.sqrt_mul_self (by norm_num)
  rw [Exact.size, Exact.size]
  cases x.root
  · simp only [Bool.false_eq_true, if_false]
    push_cast
    ring
  · simp only [if_true]
    rw [← h100, ← Real.sqrt_mul (by norm_num)]
    congr 1
    push_cast
    ring

/-- The tolerance of R781, in hundredths of 2^t. -/
theorem fpWithin_iff (hden : 0 < x.den) : fpWithin c x h t = true ↔ 100 * |c.val - x.val| ≤ h * 2 ^ t := by
  have hc : ((100 * scale2 c.m (c.e - min c.e t) : Nat) : ℝ) * 2 ^ min c.e t = 100 * |c.val| := by
    rw [Nat.cast_mul, scale2_of_nonneg _ (by omega), val_size, mul_assoc, mul_assoc, ← two_zpow_add, Int.sub_add_cancel]
    norm_num
  have ht : ((h * scale2 1 (t - min c.e t) : Nat) : ℝ) * 2 ^ min c.e t = h * 2 ^ t := by
    rw [Nat.cast_mul, scale2_of_nonneg _ (by omega), Nat.cast_one, one_mul, mul_assoc, ← two_zpow_add, Int.sub_add_cancel]
  have hg := two_zpow_pos (min c.e t)
  have hle : 100 * scale2 c.m (c.e - min c.e t) ≤ h * scale2 1 (t - min c.e t) ↔ 100 * |c.val| ≤ h * 2 ^ t := by
    rw [← hc, ← ht, mul_le_mul_iff_left₀ hg, Nat.cast_le]
  have hsize := size_hundredfold x
  have hLe (y : Nat) := exactLe_iff (x := { x with num := if x.root then 10000 * x.num else 100 * x.num }) (y := y) (g := min c.e t) hden
  have hGe (y : Nat) := exactGe_iff (x := { x with num := if x.root then 10000 * x.num else 100 * x.num }) (y := y) (g := min c.e t) hden
  rw [hsize] at hLe hGe
  have habs : |c.val - x.val| = if c.neg = x.neg then |(|c.val| - x.size)| else |c.val| + x.size := by
    conv_lhs => rw [dyadic_val_eq c, Exact.val]
    exact abs_signed_sub _ _ (abs_nonneg _) (size_nonneg x)
  rw [habs]
  unfold fpWithin
  simp only []
  split
  · rw [Bool.and_eq_true, Bool.or_eq_true, decide_eq_true_iff, hLe, hGe, Nat.cast_add, add_mul, hc, ht, hle]
    have hsub : (100 * |c.val| ≤ h * 2 ^ t ∨
        ((100 * scale2 c.m (c.e - min c.e t) - h * scale2 1 (t - min c.e t) : Nat) : ℝ) * 2 ^ min c.e t ≤ 100 * x.size) ↔
          100 * |c.val| - h * 2 ^ t ≤ 100 * x.size := by
      by_cases hcmp : 100 * |c.val| ≤ h * 2 ^ t
      · have hsz := size_nonneg x
        exact iff_of_true (.inl hcmp) (by linarith)
      · rw [or_iff_right hcmp, Nat.cast_sub (Nat.le_of_not_le (mt hle.1 hcmp)), sub_mul, hc, ht]
    rw [hsub, hundred_abs_le]
    constructor
    · rintro ⟨h1, h2⟩
      constructor <;> linarith
    · rintro ⟨h1, h2⟩
      constructor <;> linarith
  · rw [Bool.and_eq_true, decide_eq_true_iff, hLe, hle]
    constructor
    · rintro ⟨h1, h2⟩
      rw [Nat.cast_sub (hle.2 h1), sub_mul, hc, ht] at h2
      linarith
    · intro h1
      have hsz := size_nonneg x
      have h2 : 100 * |c.val| ≤ h * 2 ^ t := by linarith
      refine ⟨h2, ?_⟩
      rw [Nat.cast_sub (hle.2 h2), sub_mul, hc, ht]
      linarith

/-! What `fpResult` answers. -/

/-- Where no overflow is: a zero under the range; a value within the tolerance, measured from an exponent; or the nearest value. -/
def Rounded (n : Config.FpFmt) (f : Fmt) (mac : Bool) (rm : Byte) (x : Exact) (t : Int) (r : Nat) : Prop :=
  (fpZero f r = true ∧ fpUnderflow f x = true) ∨
  ((fpNormal f r = true ∨ mac = true ∧ fpZero f r = true) ∧ (mac = true ∨ fpUnderflow f x = false) ∧
    100 * |(dyadicOf f r).val - x.val| ≤ fpTolerance n rm * 2 ^ (t - fpPlaces f rm)) ∨
  (fpNormal f r = true ∧ fpUnderflow f x = false ∧ 2 * |(dyadicOf f r).val - x.val| ≤ 2 ^ (exactLog x - f.keep))

theorem fpCut_lt (hk : f.keep ≤ f.frac) (v : Nat) : fpCut f v < 2 ^ fpWidth f := by
  rw [fpCut_eq_div_mul hk]
  exact (Nat.div_mul_le_self _ _).trans_lt (Nat.mod_lt _ (Nat.two_pow_pos _))
theorem fpCut_mod (hk : f.keep ≤ f.frac) (v : Nat) : fpCut f v % 2 ^ (f.frac - f.keep) = 0 := by
  rw [fpCut_eq_div_mul hk, Nat.mul_mod_left]
theorem fpFreeZero_zero (f : Fmt) (free : Nat) : fpZero f (fpFreeZero f free) = true := fpZero_fpPack
theorem fpUnderflow_of_num_eq_zero (hden : 0 < x.den) (h : x.num = 0) : fpUnderflow f x = true := by
  rw [fpUnderflow_iff hden, (size_eq_zero_iff hden).2 h]
  exact two_zpow_pos _
/-- The pattern has the format's width and no bits below its last place. -/
def Fits (f : Fmt) (r : Nat) : Prop := r < 2 ^ fpWidth f ∧ r % 2 ^ (f.frac - f.keep) = 0
theorem fits_fpPack (hk : f.keep ≤ f.frac) {neg : Bool} {e m : Nat} (he : e < 2 ^ f.exp) (hm : m < 2 ^ f.keep) :
    Fits f (fpPack f neg e (m * 2 ^ (f.frac - f.keep))) := ⟨fpPack_lt he (frac_mul_lt hk hm), fpPack_mod_unit hk m⟩
theorem fits_fpFreeZero (hk : f.keep ≤ f.frac) (free : Nat) : Fits f (fpFreeZero f free) := by
  have h := fits_fpPack (neg := free % 2 == 1) hk (Nat.two_pow_pos f.exp) (Nat.two_pow_pos f.keep)
  rwa [Nat.zero_mul] at h
theorem fits_fpInf (hk : f.keep ≤ f.frac) (neg : Bool) : Fits f (fpInf f neg) := by
  have h := fits_fpPack (neg := neg) hk (Nat.sub_lt (Nat.two_pow_pos f.exp) one_pos) (Nat.two_pow_pos f.keep)
  rwa [Nat.zero_mul] at h

theorem fpResult_of_overflow {n : Config.FpFmt} {op : Config.FpOp} {raw : List Nat} {ins : List Dyadic} {rm : Byte} {free : Nat}
    (he : 2 ≤ f.exp) (hden : 0 < x.den) (h : fpOverflow f x = true) : fpResult n f op raw ins rm x free = fpInf f x.neg := by
  have hnum : x.num ≠ 0 := fun hz => by
    have hlt := (fpOverflow_iff he hden).1 h
    rw [(size_eq_zero_iff hden).2 hz] at hlt
    exact absurd hlt (not_lt.2 (mul_nonneg (Nat.cast_nonneg _) (two_zpow_pos _).le))
  rw [fpResult, if_neg (by simp [hnum]), if_pos h]
theorem fpResult_rounded {n : Config.FpFmt} {op : Config.FpOp} {raw : List Nat} {ins : List Dyadic} {rm : Byte} {free : Nat}
    (he : 2 ≤ f.exp) (hk : f.keep ≤ f.frac) (hden : 0 < x.den) (h : fpOverflow f x = false) :
    Fits f (fpResult n f op raw ins rm x free) ∧
      Rounded n f (isMac op) rm x (fpTolExp op ins x) (fpResult n f op raw ins rm x free) := by
  have hzero (hu : fpUnderflow f x = true) : Fits f (fpFreeZero f free) ∧
      Rounded n f (isMac op) rm x (fpTolExp op ins x) (fpFreeZero f free) :=
    ⟨fits_fpFreeZero hk free, .inl ⟨fpFreeZero_zero f free, hu⟩⟩
  have hnearest (hu : fpUnderflow f x = false) : Fits f (fpNearest f x) ∧
      Rounded n f (isMac op) rm x (fpTolExp op ins x) (fpNearest f x) := by
    have hnum : x.num ≠ 0 := fun hz => by
      rw [fpUnderflow_of_num_eq_zero hden hz] at hu
      exact absurd hu (by decide)
    obtain ⟨k, hnormal, hvalue, hnear⟩ := fpNearest_spec he hk hden hnum h hu
    refine ⟨⟨hvalue.lt, hvalue.mod⟩, .inr (.inr ⟨hnormal, hu, ?_⟩)⟩
    have hpos := two_zpow_pos (exactLog x - f.keep)
    have hsub : signOf x.neg * ((k : ℝ) * 2 ^ (exactLog x - f.keep)) - signOf x.neg * (x.mantissa f * 2 ^ (exactLog x - f.keep)) =
        signOf x.neg * ((k : ℝ) - x.mantissa f) * 2 ^ (exactLog x - f.keep) := by ring
    have hsign : |signOf x.neg| = 1 := by cases x.neg <;> simp
    rw [hvalue.val, Exact.val, size_eq_mantissa f x, hsub, abs_mul, abs_mul, hsign, one_mul, abs_of_pos hpos, ← mul_assoc]
    exact mul_le_of_le_one_left hpos.le (by linarith)
  unfold fpResult
  split
  · next hz =>
    obtain ⟨hz, -⟩ := Bool.and_eq_true_iff.1 hz
    exact hzero (fpUnderflow_of_num_eq_zero hden (of_decide_eq_true hz))
  rw [if_neg (by rw [h]; decide)]
  split
  · next hu => exact hzero (Bool.and_eq_true_iff.1 hu).1
  next hu =>
  split
  · next hc =>
    obtain ⟨hz, -⟩ := Bool.and_eq_true_iff.1 hc
    exact hzero (fpUnderflow_of_num_eq_zero hden (of_decide_eq_true hz))
  simp only []
  split
  · next hok =>
    simp only [Bool.and_eq_true, Bool.or_eq_true, beq_iff_eq] at hok
    obtain ⟨⟨hkind, hcut⟩, hwithin⟩ := hok
    change _ = fpCut f _ at hcut
    have hfits : Fits f (fpCut f (Config.fpu n op raw rm % 2 ^ fpWidth f)) := ⟨fpCut_lt hk _, fpCut_mod hk _⟩
    rw [← hcut] at hfits
    refine ⟨hfits, .inr (.inl ⟨hkind, ?_, (fpWithin_iff hden).1 hwithin⟩)⟩
    cases hm : isMac op
    · exact .inr (by simpa [hm] using hu)
    · exact .inl rfl
  · split
    · next hu' => exact hzero hu'
    · next hu' => exact hnearest (Bool.eq_false_iff.2 hu')

end

end Sys2Proof.Machine

/-! ### Results in whole numbers of the smallest value, and the status of mode 04 (49_gfp.md R781, R782; D34) -/

namespace Sys2Proof.Machine

open Sys2Proof

section

/-! Mode 04: what stands below the last place. -/

variable {f : Fmt} {r d : Nat}

/-- A pattern with its bits below the last place dropped. -/
def fpValue (f : Fmt) (r : Nat) : Nat := r / 2 ^ (f.frac - f.keep) * 2 ^ (f.frac - f.keep)

theorem fpValue_add (hr : r % 2 ^ (f.frac - f.keep) = 0) (hd : d < 2 ^ (f.frac - f.keep)) : fpValue f (r + d) = r := by
  have hdvd := Nat.dvd_of_mod_eq_zero hr
  rw [fpValue, Nat.add_div_of_dvd_right hdvd, Nat.div_eq_of_lt hd, Nat.add_zero, Nat.div_mul_cancel hdvd]
theorem add_lt_of_fits (hk : f.keep ≤ f.frac) (hr : Fits f r) (hd : d < 2 ^ (f.frac - f.keep)) : r + d < 2 ^ fpWidth f := by
  obtain ⟨hlt, hmod⟩ := hr
  have hw : 2 ^ fpWidth f = 2 ^ (f.frac - f.keep) * 2 ^ (1 + f.exp + f.keep) := by
    rw [← Nat.pow_add, fpWidth]; congr 1; omega
  obtain ⟨k, rfl⟩ := Nat.dvd_of_mod_eq_zero hmod
  rw [hw] at hlt ⊢
  have hkk := Nat.lt_of_mul_lt_mul_left hlt
  calc 2 ^ (f.frac - f.keep) * k + d < 2 ^ (f.frac - f.keep) * (k + 1) := by rw [Nat.mul_succ]; omega
    _ ≤ _ := Nat.mul_le_mul_left _ hkk
theorem fpExp_fpValue (hk : f.keep ≤ f.frac) (v : Nat) : fpExp f (fpValue f v) = fpExp f v := by
  rw [fpExp, fpExp, fpValue]
  conv_lhs => rw [two_pow_split hk, Nat.mul_comm (2 ^ f.keep), ← Nat.div_div_eq_div_mul, Nat.mul_div_cancel _ (Nat.two_pow_pos _)]
  rw [Nat.div_div_eq_div_mul, Nat.mul_comm, ← two_pow_split hk]
theorem fpSpecial_fpValue (hk : f.keep ≤ f.frac) (v : Nat) : fpSpecial f (fpValue f v) = fpSpecial f v := by
  rw [fpSpecial, fpSpecial, fpExp_fpValue hk]

/-- What stands below the last place of r: nothing, or in mode 04 the status of R782. -/
def Marked (f : Fmt) (rm : Byte) (r : Nat) (ins : List Nat) (exact : Prop) : Prop :=
  r < 2 ^ fpWidth f ∧ (rm ≠ 4#8 → r = fpValue f r) ∧
    (rm = 4#8 → r % (2 ^ (f.frac - f.keep) / 4) = 0 ∧
      (r = fpValue f r ↔ fpSpecial f r = false ∧ exact ∧ ∀ v ∈ ins, v / (2 ^ (f.frac - f.keep) / 4) % 4 = 0))
/-- The result of an operation in its mode. -/
def inMode (f : Fmt) (rm : Byte) (raw : List Nat) (x : Exact) (r free : Nat) : Nat :=
  if rm = 4#8 then fpStatusBits f raw x r free else r


theorem fpWithin_zero_iff {c : Dyadic} {x : Exact} (hden : 0 < x.den) : fpWithin c x 0 0 = true ↔ c.val = x.val := by
  rw [fpWithin_iff hden, Nat.cast_zero, zero_mul, ← sub_eq_zero, ← abs_nonpos_iff]
  constructor <;> intro h <;> linarith
theorem inMode_spec {rm : Byte} {raw : List Nat} {x : Exact} {free : Nat} (hk : f.keep ≤ f.frac)
    (hunit : rm = 4#8 → f.keep + 2 ≤ f.frac) (hden : 0 < x.den) (hr : Fits f r) :
    fpValue f (inMode f rm raw x r free) = r ∧
      Marked f rm (inMode f rm raw x r free) raw ((dyadicOf f r).val = x.val) := by
  have hzero := fpValue_add hr.2 (Nat.two_pow_pos (f.frac - f.keep))
  rw [Nat.add_zero] at hzero
  unfold inMode
  split
  · next hrm =>
    have hpow : 2 ^ (f.frac - f.keep) = 2 ^ (f.frac - f.keep - 2) * 4 := by
      rw [show (4 : Nat) = 2 ^ 2 by rfl, ← Nat.pow_add]; congr 1; have := hunit hrm; omega
    have hquarter : 2 ^ (f.frac - f.keep) / 4 = 2 ^ (f.frac - f.keep - 2) := by rw [hpow, Nat.mul_div_cancel _ (by decide)]
    have hdvd : 2 ^ (f.frac - f.keep) / 4 ∣ r := by
      rw [hquarter]
      exact (Dvd.intro _ hpow.symm).trans (Nat.dvd_of_mod_eq_zero hr.2)
    have hpos : 0 < 2 ^ (f.frac - f.keep) / 4 := hquarter ▸ Nat.two_pow_pos _
    have hd : (1 + free % 3) * (2 ^ (f.frac - f.keep) / 4) < 2 ^ (f.frac - f.keep) := by
      have h3 : free % 3 < 3 := Nat.mod_lt _ (by decide)
      rw [hquarter] at hpos ⊢
      rw [hpow, Nat.mul_comm]
      exact Nat.mul_lt_mul_of_pos_left (by omega) hpos
    have hcond : (!fpSpecial f r && fpWithin (dyadicOf f r) x 0 0 && raw.all (fun v => v / (2 ^ (f.frac - f.keep) / 4) % 4 == 0)) = true ↔
        fpSpecial f r = false ∧ (dyadicOf f r).val = x.val ∧ ∀ v ∈ raw, v / (2 ^ (f.frac - f.keep) / 4) % 4 = 0 := by
      rw [Bool.and_eq_true, Bool.and_eq_true, fpWithin_zero_iff hden, Bool.not_eq_true', List.all_eq_true, and_assoc]
      simp only [beq_iff_eq]
    rw [fpStatusBits]
    split
    · next h => exact ⟨hzero, hr.1, fun h4 => absurd hrm h4, fun _ => ⟨Nat.mod_eq_zero_of_dvd hdvd, iff_of_true hzero.symm (hcond.1 h)⟩⟩
    · next h =>
      have hadd := fpValue_add hr.2 hd
      have hspecial := fpSpecial_fpValue hk (r + (1 + free % 3) * (2 ^ (f.frac - f.keep) / 4))
      rw [hadd] at hspecial
      refine ⟨hadd, add_lt_of_fits hk hr hd, fun h4 => absurd hrm h4, fun _ =>
        ⟨Nat.mod_eq_zero_of_dvd (hdvd.add (Dvd.intro_left _ rfl)), iff_of_false ?_ ?_⟩⟩
      · rw [hadd]
        have hmul : 0 < (1 + free % 3) * (2 ^ (f.frac - f.keep) / 4) := Nat.mul_pos (by omega) hpos
        omega
      · rw [← hspecial]
        exact mt hcond.2 h
  · next hrm => exact ⟨hzero, hr.1, fun _ => hzero.symm, fun h4 => absurd h4 hrm⟩

/-! A result as whole numbers. -/

/-- r for the exact result (num / den) / 2^fpScale, its last place counted from big / den: what R781 and D34 ask. -/
def Good (n : Config.FpFmt) (f : Fmt) (rm : Byte) (mac : Prop) (r : Nat) (ins : List Nat) (num : Int) (den big : Nat) : Prop :=
  let places := if 8 ≤ rm.toNat then min f.keep 23 else f.keep
  let tol := if n = .long ∧ rm.toNat < 8 then 51 else 200
  let largest := (2 ^ (f.keep + 1) - 1) * 2 ^ (f.frac - f.keep) * 2 ^ (2 ^ f.exp - 3)
  let err := (fpScaled f (fpValue f r) * den - num).natAbs
  let near := ∀ g : Nat, 2 ^ g * den ≤ big → big < 2 ^ (g + 1) * den →
    err * 100 ≤ tol * 2 ^ (g - places) * den ∨
      (n = .long ∧ ∃ h : Nat, 2 ^ h * den ≤ num.natAbs ∧ err * 2 ≤ 2 ^ (h - places) * den)
  Marked f rm r ins (fpScaled f (fpValue f r) * den = num) ∧
  (largest * den < num.natAbs → fpValue f r = fpInf f (decide (num < 0))) ∧
  (num.natAbs < 2 ^ f.frac * den → fpZero f (fpValue f r) = true ∨ mac ∧ fpNormal f (fpValue f r) = true ∧ near) ∧
  (2 ^ f.frac * den ≤ num.natAbs → num.natAbs ≤ largest * den →
    (fpNormal f (fpValue f r) = true ∨ mac ∧ fpZero f (fpValue f r) = true) ∧ near)

theorem fpTolerance_eq (n : Config.FpFmt) (rm : Byte) : fpTolerance n rm = if n = .long ∧ rm.toNat < 8 then 51 else 200 := by
  rw [fpTolerance, roundingSingle]
  simp
theorem fpPlaces_eq (f : Fmt) (rm : Byte) : fpPlaces f rm = if 8 ≤ rm.toNat then min f.keep 23 else f.keep := by
  rw [fpPlaces, roundingSingle]
  simp
theorem fpPlaces_le (f : Fmt) (rm : Byte) : fpPlaces f rm ≤ f.keep := by
  rw [fpPlaces]
  split
  · exact min_le_left _ _
  · exact le_rfl

end

section

variable {f : Fmt} {x : Exact} {num : Int} {den : Nat}

/-- The exact result is (num / den) in units of the smallest value. -/
def Exact.Is (f : Fmt) (x : Exact) (num : Int) (den : Nat) : Prop := x.val * 2 ^ fpScale f * den = num

theorem two_zpow_scale (he : 2 ≤ f.exp) : (2 : ℝ) ^ fpScale f = 2 ^ ((fpBias f : Int) - 1 + f.frac) := by
  rw [← fpScale_eq he, zpow_natCast]
theorem natAbs_eq_of_is (h : x.Is f num den) : x.size * 2 ^ fpScale f * den = (num.natAbs : ℝ) := by
  have hsign : |signOf x.neg| = 1 := by cases x.neg <;> simp
  have habs := congrArg abs h
  rw [Exact.val, abs_mul, abs_mul, abs_mul, hsign, one_mul, abs_of_nonneg (size_nonneg x), Nat.abs_cast,
    abs_of_pos (show (0 : ℝ) < 2 ^ fpScale f by positivity)] at habs
  rw [habs, Nat.cast_natAbs, Int.cast_abs]
/-- A bound of the size, as a bound of the whole number. -/
theorem le_size_iff (he : 2 ≤ f.exp) (hden : 0 < den) (h : x.Is f num den) (m : Nat) {e : Int} {k : Nat}
    (hk : (k : Int) = e + fpBias f - 1 + f.frac) : (m : ℝ) * 2 ^ e ≤ x.size ↔ m * 2 ^ k * den ≤ num.natAbs := by
  have hpos : (0 : ℝ) < 2 ^ fpScale f * den := mul_pos (by positivity) (Nat.cast_pos.2 hden)
  have hpow : (2 : ℝ) ^ e * 2 ^ fpScale f = 2 ^ k := by
    rw [two_zpow_scale he, ← two_zpow_add, ← zpow_natCast (2 : ℝ) k, hk]
    congr 1
    omega
  rw [← mul_le_mul_iff_left₀ hpos, ← mul_assoc x.size, natAbs_eq_of_is h, ← mul_assoc, mul_assoc (m : ℝ), hpow,
    ← Nat.cast_le (α := ℝ)]
  push_cast
  rfl
theorem size_le_iff (he : 2 ≤ f.exp) (hden : 0 < den) (h : x.Is f num den) (m : Nat) {e : Int} {k : Nat}
    (hk : (k : Int) = e + fpBias f - 1 + f.frac) : x.size ≤ (m : ℝ) * 2 ^ e ↔ num.natAbs ≤ m * 2 ^ k * den := by
  have hpos : (0 : ℝ) < 2 ^ fpScale f * den := mul_pos (by positivity) (Nat.cast_pos.2 hden)
  have hpow : (2 : ℝ) ^ e * 2 ^ fpScale f = 2 ^ k := by
    rw [two_zpow_scale he, ← two_zpow_add, ← zpow_natCast (2 : ℝ) k, hk]
    congr 1
    omega
  rw [← mul_le_mul_iff_left₀ hpos, ← mul_assoc x.size, natAbs_eq_of_is h, ← mul_assoc, mul_assoc (m : ℝ), hpow,
    ← Nat.cast_le (α := ℝ)]
  push_cast
  rfl
theorem fpUnderflow_iff_natAbs (he : 2 ≤ f.exp) (hden : 0 < den) (hx : 0 < x.den) (h : x.Is f num den) :
    fpUnderflow f x = true ↔ num.natAbs < 2 ^ f.frac * den := by
  have hle := le_size_iff he hden h 1 (e := 1 - fpBias f) (k := f.frac) (by omega)
  rw [Nat.cast_one, one_mul, one_mul] at hle
  rw [fpUnderflow_iff hx, ← not_le, ← not_le, hle]
theorem fpOverflow_iff_natAbs (he : 2 ≤ f.exp) (hk : f.keep ≤ f.frac) (hden : 0 < den) (hx : 0 < x.den) (h : x.Is f num den) :
    fpOverflow f x = true ↔ (2 ^ (f.keep + 1) - 1) * 2 ^ (f.frac - f.keep) * 2 ^ (2 ^ f.exp - 3) * den < num.natAbs := by
  have hbias := two_mul_fpBias he
  have h4 : 2 ^ 2 ≤ 2 ^ f.exp := Nat.pow_le_pow_right two_pos he
  have hle := size_le_iff he hden h (2 ^ (f.keep + 1) - 1) (e := fpBias f - f.keep) (k := f.frac - f.keep + (2 ^ f.exp - 3)) (by omega)
  rw [fpOverflow_iff he hx, ← not_le, ← not_le, hle, Nat.pow_add 2 (f.frac - f.keep), ← Nat.mul_assoc]

/-- The error in whole numbers. -/
theorem natAbs_error (he : 2 ≤ f.exp) (h : x.Is f num den) (r : Nat) :
    ((fpScaled f r * den - num).natAbs : ℝ) = |(dyadicOf f r).val - x.val| * (2 ^ fpScale f * den) := by
  have hpos : (0 : ℝ) < 2 ^ fpScale f := by positivity
  have hsub : ((fpScaled f r * den - num : Int) : ℝ) = ((dyadicOf f r).val - x.val) * (2 ^ fpScale f * den) := by
    rw [val_dyadicOf he, Int.cast_sub, ← h]
    push_cast
    field_simp
  rw [Nat.cast_natAbs, Int.cast_abs, hsub, abs_mul, abs_of_nonneg (show (0 : ℝ) ≤ 2 ^ fpScale f * den by positivity)]
theorem exact_iff (he : 2 ≤ f.exp) (hden : 0 < den) (h : x.Is f num den) (r : Nat) :
    fpScaled f r * den = num ↔ (dyadicOf f r).val = x.val := by
  have hpos : (0 : ℝ) < 2 ^ fpScale f * den := mul_pos (by positivity) (Nat.cast_pos.2 hden)
  have herr := natAbs_error he h r
  rw [← sub_eq_zero, ← Int.natAbs_eq_zero, ← Nat.cast_eq_zero (R := ℝ), herr, mul_eq_zero, or_iff_left hpos.ne', abs_eq_zero, sub_eq_zero]
theorem zpow_sub_le_pow_sub (g p : Nat) : (2 : ℝ) ^ ((g : Int) - p) ≤ 2 ^ (g - p) := by
  rw [← zpow_natCast (2 : ℝ) (g - p)]
  exact zpow_two_le_zpow (by omega)
/-- 2^(g - p), of numbers with fpScale binary places, is 2^(t - p) where g is t of whole numbers. -/
theorem zpow_scaled_le (he : 2 ≤ f.exp) {g : Nat} {t : Int} (ht : (g : Int) = t + fpBias f - 1 + f.frac) (p : Nat) :
    (2 : ℝ) ^ (t - p) * 2 ^ fpScale f ≤ 2 ^ (g - p) := by
  rw [two_zpow_scale he, ← two_zpow_add, show t - (p : Int) + (fpBias f - 1 + f.frac) = g - p by omega]
  exact zpow_sub_le_pow_sub g p

/-- Within the tolerance, or nearest: what the statement of D34 makes of it, for a last place counted from 2^t. -/
theorem near_of_rounded {n : Config.FpFmt} {rm : Byte} {t : Int} {r g : Nat} (he : 2 ≤ f.exp) (hk : f.keep ≤ f.frac)
    (hden : 0 < den) (hx : 0 < x.den) (h : x.Is f num den) (ht : (g : Int) = t + fpBias f - 1 + f.frac) (htwo : num.natAbs < 2 ^ (g + 2) * den)
    (hr : 100 * |(dyadicOf f r).val - x.val| ≤ fpTolerance n rm * 2 ^ (t - fpPlaces f rm) ∨
      fpUnderflow f x = false ∧ 2 * |(dyadicOf f r).val - x.val| ≤ 2 ^ (exactLog x - f.keep)) :
    (fpScaled f r * den - num).natAbs * 100 ≤ fpTolerance n rm * 2 ^ (g - fpPlaces f rm) * den ∨
      (n = .long ∧ ∃ h : Nat, 2 ^ h * den ≤ num.natAbs ∧
        (fpScaled f r * den - num).natAbs * 2 ≤ 2 ^ (h - fpPlaces f rm) * den) := by
  have hpos : (0 : ℝ) ≤ 2 ^ fpScale f * den := by positivity
  have hden' : (0 : ℝ) ≤ den := Nat.cast_nonneg _
  have herr := natAbs_error he h r
  rcases hr with hr | ⟨hunder, hr⟩
  · refine .inl ?_
    have hle : ((fpScaled f r * den - num).natAbs : ℝ) * 100 ≤ fpTolerance n rm * 2 ^ (g - fpPlaces f rm) * den := by
      calc ((fpScaled f r * den - num).natAbs : ℝ) * 100 = 100 * |(dyadicOf f r).val - x.val| * (2 ^ fpScale f * den) := by
            rw [herr]; ring
        _ ≤ fpTolerance n rm * 2 ^ (t - fpPlaces f rm) * (2 ^ fpScale f * den) := mul_le_mul_of_nonneg_right hr hpos
        _ = fpTolerance n rm * (2 ^ (t - fpPlaces f rm) * 2 ^ fpScale f) * den := by ring
        _ ≤ _ := by
          refine mul_le_mul_of_nonneg_right (mul_le_mul_of_nonneg_left ?_ (Nat.cast_nonneg _)) hden'
          exact zpow_scaled_le he ht _
    exact_mod_cast hle
  · have hnum : x.num ≠ 0 := fun hz => by
      rw [fpUnderflow_of_num_eq_zero hx hz] at hunder
      exact absurd hunder (by decide)
    have hnat : 2 ^ f.frac * den ≤ num.natAbs := Nat.not_lt.1 fun hlt => by
      rw [(fpUnderflow_iff_natAbs he hden hx h).2 hlt] at hunder
      exact absurd hunder (by decide)
    obtain ⟨hlo, hhi⟩ := exactLog_bounds hx hnum
    have hlog : 1 - (fpBias f : Int) ≤ exactLog x := by
      have hlow := (not_congr (fpUnderflow_iff (f := f) hx)).1 (by rw [hunder]; decide)
      have := zpow_two_lt_zpow_iff.1 ((not_lt.1 hlow).trans_lt hhi)
      omega
    obtain ⟨k, hk'⟩ : ∃ k : Nat, (k : Int) = exactLog x + fpBias f - 1 + f.frac := ⟨_, Int.toNat_of_nonneg (by omega)⟩
    have hkle := (le_size_iff he hden h 1 hk').1 (by rwa [Nat.cast_one, one_mul])
    rw [one_mul] at hkle
    have herr2 : ((fpScaled f r * den - num).natAbs : ℝ) * 2 ≤ 2 ^ (k - f.keep) * den := by
      calc ((fpScaled f r * den - num).natAbs : ℝ) * 2 = 2 * |(dyadicOf f r).val - x.val| * (2 ^ fpScale f * den) := by rw [herr]; ring
        _ ≤ 2 ^ (exactLog x - f.keep) * (2 ^ fpScale f * den) := mul_le_mul_of_nonneg_right hr hpos
        _ = 2 ^ (exactLog x - f.keep) * 2 ^ fpScale f * den := by ring
        _ ≤ _ := mul_le_mul_of_nonneg_right (zpow_scaled_le he hk' _) hden'
    have herr2' : (fpScaled f r * den - num).natAbs * 2 ≤ 2 ^ (k - f.keep) * den := by exact_mod_cast herr2
    have hplaces := fpPlaces_le f rm
    by_cases hn : n = .long
    · refine .inr ⟨hn, k, hkle, herr2'.trans (Nat.mul_le_mul_right _ (Nat.pow_le_pow_right two_pos (by omega)))⟩
    · refine .inl ?_
      have hkg : k < g + 2 := by
        have hlt := (Nat.mul_lt_mul_right hden).1 (hkle.trans_lt htwo)
        exact (Nat.pow_lt_pow_iff_right (by decide)).1 hlt
      have htol : fpTolerance n rm = 200 := by rw [fpTolerance_eq, if_neg (fun h => hn h.1)]
      have hpow : 2 ^ (k - f.keep) ≤ 2 * 2 ^ (g - fpPlaces f rm) := by
        rw [← Nat.pow_succ']
        exact Nat.pow_le_pow_right two_pos (by omega)
      have hpow' := Nat.mul_le_mul_right den hpow
      rw [Nat.mul_assoc] at hpow'
      rw [htol, Nat.mul_assoc]
      omega

theorem neg_eq_of_is (h : x.Is f num den) (hnum : num ≠ 0) : x.neg = decide (num < 0) := by
  have hnonneg : (0 : ℝ) ≤ x.size * 2 ^ fpScale f * den := by have := size_nonneg x; positivity
  have hval : signOf x.neg * (x.size * 2 ^ fpScale f * den) = num := by rw [← h, Exact.val]; ring
  cases hneg : x.neg
  · rw [hneg, signOf_false, one_mul] at hval
    rw [hval, Int.cast_nonneg_iff] at hnonneg
    exact (decide_eq_false (not_lt.2 hnonneg)).symm
  · rw [hneg, signOf_true, neg_one_mul] at hval
    rw [← neg_nonpos, hval, Int.cast_nonpos] at hnonneg
    exact (decide_eq_true (lt_of_le_of_ne hnonneg hnum)).symm
theorem smallest_le_largest (f : Fmt) (hk : f.keep ≤ f.frac) :
    2 ^ f.frac ≤ (2 ^ (f.keep + 1) - 1) * 2 ^ (f.frac - f.keep) * 2 ^ (2 ^ f.exp - 3) := by
  have hpos := Nat.two_pow_pos f.keep
  have hle : 2 ^ f.keep ≤ 2 ^ (f.keep + 1) - 1 := by rw [Nat.pow_succ]; omega
  rw [two_pow_split hk]
  exact (Nat.mul_le_mul_right _ hle).trans (Nat.le_mul_of_pos_right _ (Nat.two_pow_pos _))
/-- What `fpResult` answers, in its mode, is a good result in whole numbers. -/
theorem good_of_fpResult {n : Config.FpFmt} {op : Config.FpOp} {rm : Byte} {raw : List Nat} {ins : List Dyadic} {free big : Nat}
    (he : 2 ≤ f.exp) (hk : f.keep ≤ f.frac) (hunit : rm = 4#8 → f.keep + 2 ≤ f.frac) (hden : 0 < den) (hx : 0 < x.den)
    (h : x.Is f num den) (htwo : num.natAbs ≤ 2 * big)
    (hlog : ∀ g : Nat, 2 ^ g * den ≤ big → big < 2 ^ (g + 1) * den → (g : Int) = fpTolExp op ins x + fpBias f - 1 + f.frac) :
    Good n f rm (isMac op = true) (inMode f rm raw x (fpResult n f op raw ins rm x free) free) raw num den big := by
  have hunder := fpUnderflow_iff_natAbs he hden hx h
  have hover := fpOverflow_iff_natAbs he hk hden hx h
  have hfits : Fits f (fpResult n f op raw ins rm x free) := by
    cases ho : fpOverflow f x
    · exact (fpResult_rounded he hk hx ho).1
    · rw [fpResult_of_overflow he hx ho]
      exact fits_fpInf hk _
  obtain ⟨hvalue, hmarked⟩ := inMode_spec (raw := raw) (free := free) (x := x) hk hunit hx hfits
  unfold Good
  simp only [← fpTolerance_eq, ← fpPlaces_eq, hvalue, exact_iff he hden h]
  have hnear {g : Nat} (hg : 2 ^ g * den ≤ big) (hg' : big < 2 ^ (g + 1) * den) := near_of_rounded (n := n) (rm := rm)
    (r := fpResult n f op raw ins rm x free) he hk hden hx h (hlog g hg hg') (by rw [Nat.pow_succ']; nlinarith)
  refine ⟨hmarked, fun ho => ?_, fun hu => ?_, fun hu ho => ?_⟩
  · rw [fpResult_of_overflow he hx (hover.2 ho), neg_eq_of_is h (by omega)]
  · have hno : fpOverflow f x = false := Bool.eq_false_iff.2 fun ho => by
      have hlt := (hover.1 ho).trans hu
      exact absurd (Nat.mul_le_mul_right den (smallest_le_largest f hk)) (Nat.not_le.2 hlt)
    have hyes := hunder.2 hu
    obtain ⟨-, ⟨hz, -⟩ | ⟨hkind, hmac, hr⟩ | ⟨-, hfalse, -⟩⟩ :=
      fpResult_rounded (n := n) (op := op) (raw := raw) (ins := ins) (rm := rm) (free := free) he hk hx hno
    · exact .inl hz
    · rcases hkind with hnormal | ⟨-, hz⟩
      · exact .inr ⟨hmac.resolve_right (by rw [hyes]; decide), hnormal, fun g hg hg' => hnear hg hg' (.inl hr)⟩
      · exact .inl hz
    · rw [hyes] at hfalse
      exact absurd hfalse (by decide)
  · have hno : fpOverflow f x = false := Bool.eq_false_iff.2 fun ho' => Nat.not_lt.2 ho (hover.1 ho')
    have hyes : fpUnderflow f x = false := Bool.eq_false_iff.2 fun hu' => Nat.not_lt.2 hu (hunder.1 hu')
    obtain ⟨-, ⟨-, htrue⟩ | ⟨hkind, -, hr⟩ | ⟨hnormal, -, hr⟩⟩ :=
      fpResult_rounded (n := n) (op := op) (raw := raw) (ins := ins) (rm := rm) (free := free) he hk hx hno
    · rw [hyes] at htrue
      exact absurd htrue (by decide)
    · exact ⟨hkind, fun g hg hg' => hnear hg hg' (.inl hr)⟩
    · exact ⟨.inl hnormal, fun g hg hg' => hnear hg hg' (.inr ⟨hyes, hr⟩)⟩

end

end Sys2Proof.Machine

/-! ### The operations of R781 and their exact results (49_gfp.md R780 to R787, R1013 to R1042) -/

namespace Sys2Proof.Machine

open Sys2Proof

section

/-! The format of a mode, and patterns cut to it (R782, R785). -/

/-- A format with the precision of a mode. -/
def fmtIn (n : Config.FpFmt) (rm : Byte) : Fmt := { fmtOf n with keep := (fmtOf n).keep - if rm = 4#8 then 2 else 0 }

theorem fmtIn_eq_ite (n : Config.FpFmt) (rm : Byte) :
    (if rm = 4#8 then { fmtOf n with keep := (fmtOf n).keep - 2 } else fmtOf n) = fmtIn n rm := by
  unfold fmtIn
  split <;> rfl
theorem two_le_exp (n : Config.FpFmt) : 2 ≤ (fmtOf n).exp := by cases n <;> decide
theorem keep_le_frac (n : Config.FpFmt) : (fmtOf n).keep ≤ (fmtOf n).frac := by cases n <;> decide
theorem ten_le_keep (n : Config.FpFmt) : 10 ≤ (fmtOf n).keep := by cases n <;> decide
theorem fmtIn_keep_le (n : Config.FpFmt) (rm : Byte) : (fmtIn n rm).keep ≤ (fmtOf n).keep := Nat.sub_le _ _
theorem fmtIn_keep_le_frac (n : Config.FpFmt) (rm : Byte) : (fmtIn n rm).keep ≤ (fmtIn n rm).frac :=
  (fmtIn_keep_le n rm).trans (keep_le_frac n)
theorem fmtIn_two_le_exp (n : Config.FpFmt) (rm : Byte) : 2 ≤ (fmtIn n rm).exp := two_le_exp n
theorem fmtIn_keep_add {n : Config.FpFmt} {rm : Byte} (h : rm = 4#8) : (fmtIn n rm).keep + 2 = (fmtOf n).keep := by
  have hten := ten_le_keep n
  simp only [fmtIn, if_pos h]
  omega

variable {n src : Config.FpFmt} {rm : Byte} {v : Nat}

theorem fpFrac_lt (f : Fmt) (v : Nat) : fpFrac f v < 2 ^ f.frac :=
  (Nat.div_mul_le_self _ _).trans_lt (Nat.mod_lt _ (Nat.two_pow_pos _))
theorem fpExp_lt (f : Fmt) (v : Nat) : fpExp f v < 2 ^ f.exp := Nat.mod_lt _ (Nat.two_pow_pos _)
theorem fpExp_fpCut (n : Config.FpFmt) (rm : Byte) (v : Nat) : fpExp (fmtIn n rm) (fpCut (fmtOf n) v) = fpExp (fmtIn n rm) v :=
  fpExp_fpPack (f := fmtOf n) (fpExp_lt _ _) (fpFrac_lt _ _)
theorem fpSign_fpCut (n : Config.FpFmt) (rm : Byte) (v : Nat) : fpSign (fmtIn n rm) (fpCut (fmtOf n) v) = fpSign (fmtIn n rm) v :=
  fpSign_fpPack (f := fmtOf n) (fpExp_lt _ _) (fpFrac_lt _ _)
theorem fpFrac_fpCut (n : Config.FpFmt) (rm : Byte) (v : Nat) : fpFrac (fmtIn n rm) (fpCut (fmtOf n) v) = fpFrac (fmtIn n rm) v := by
  have hsplit : 2 ^ ((fmtIn n rm).frac - (fmtIn n rm).keep) =
      2 ^ ((fmtOf n).frac - (fmtOf n).keep) * 2 ^ ((fmtOf n).keep - (fmtIn n rm).keep) := by
    have h1 := fmtIn_keep_le n rm
    have h2 := keep_le_frac n
    rw [← Nat.pow_add]
    congr 1
    change (fmtOf n).frac - _ = _
    omega
  have hmod : fpCut (fmtOf n) v % 2 ^ (fmtOf n).frac = fpFrac (fmtOf n) v := fpPack_mod (fpFrac_lt _ _)
  rw [fpFrac, fpFrac, hsplit]
  change fpCut (fmtOf n) v % 2 ^ (fmtOf n).frac / _ * _ = v % 2 ^ (fmtOf n).frac / _ * _
  rw [hmod, ← Nat.div_div_eq_div_mul, ← Nat.div_div_eq_div_mul, fpFrac, Nat.mul_div_cancel _ (Nat.two_pow_pos _)]
theorem dyadicOf_fpCut (n : Config.FpFmt) (rm : Byte) (v : Nat) : dyadicOf (fmtIn n rm) (fpCut (fmtOf n) v) = dyadicOf (fmtIn n rm) v := by
  rw [dyadicOf, dyadicOf, fpExp_fpCut, fpSign_fpCut, fpFrac_fpCut]
theorem fpPlain_fpCut (h : fpPlain (fmtIn n rm) v) :
    ¬ (fpSpecial (fmtIn n rm) (fpCut (fmtOf n) v) || fpDenormal (fmtIn n rm) (fpCut (fmtOf n) v)) = true := by
  obtain ⟨hspecial, hdenormal⟩ := h
  rw [fpSpecial, fpDenormal, fpExp_fpCut, fpFrac_fpCut, Bool.or_eq_true]
  exact fun h => h.elim (fun h => Bool.false_ne_true (hspecial.symm.trans h)) fun h => Bool.false_ne_true (hdenormal.symm.trans h)
/-- The status bits of an operand, in mode 04. -/
theorem fpCut_status (hrm : rm = 4#8) (v : Nat) :
    fpCut (fmtOf n) v / (2 ^ ((fmtIn n rm).frac - (fmtIn n rm).keep) / 4) % 4 = v / (2 ^ ((fmtIn n rm).frac - (fmtIn n rm).keep) / 4) % 4 := by
  have hkeep := fmtIn_keep_add (n := n) hrm
  have hle := keep_le_frac n
  have hpow : 2 ^ ((fmtIn n rm).frac - (fmtIn n rm).keep) = 2 ^ ((fmtOf n).frac - (fmtOf n).keep) * 4 := by
    rw [show (4 : Nat) = 2 ^ 2 by rfl, ← Nat.pow_add]
    congr 1
    change (fmtOf n).frac - _ = _
    omega
  have hwidth : 2 ^ fpWidth (fmtOf n) = 2 ^ ((fmtOf n).frac - (fmtOf n).keep) * (4 * 2 ^ (fpWidth (fmtOf n) - 2 - ((fmtOf n).frac - (fmtOf n).keep))) := by
    rw [show (4 : Nat) = 2 ^ 2 by rfl, ← Nat.pow_add, ← Nat.pow_add]
    congr 1
    have hexp := two_le_exp n
    rw [fpWidth]
    omega
  rw [hpow, Nat.mul_div_cancel _ (by decide), fpCut_eq_div_mul hle, Nat.mul_div_cancel _ (Nat.two_pow_pos _), hwidth,
    Nat.mod_mul_right_div_self, Nat.mod_mul_right_mod]
theorem marked_cut {r : Nat} {ins : List Nat} {P : Prop} (h : Marked (fmtIn n rm) rm r (ins.map (fpCut (fmtOf n))) P) :
    Marked (fmtIn n rm) rm r ins P := by
  obtain ⟨hlt, hvalue, hstatus⟩ := h
  refine ⟨hlt, hvalue, fun hrm => ?_⟩
  obtain ⟨hmod, hiff⟩ := hstatus hrm
  refine ⟨hmod, hiff.trans (and_congr_right fun _ => and_congr_right fun _ => ?_)⟩
  rw [List.forall_mem_map]
  exact forall₂_congr fun v _ => by rw [fpCut_status hrm]

/-- An operation of plain operands whose exact result is given. -/
theorem fpElemFrom_eq {op : Config.FpOp} {raw : List Nat} {free : Nat} {x : Exact} (hraw : ∀ v ∈ raw, fpPlain (fmtIn src rm) v)
    (hx : exactOp op (raw.map (dyadicOf (fmtIn src rm))) = some x) :
    fpElemFrom src n op rm raw free = inMode (fmtIn n rm) rm (raw.map (fpCut (fmtOf src))) x
      (fpResult n (fmtIn n rm) op (raw.map (fpCut (fmtOf src))) (raw.map (dyadicOf (fmtIn src rm))) rm x free) free := by
  have hplain : ¬ ((raw.map (fpCut (fmtOf src))).any fun v => fpSpecial (fmtIn src rm) v || fpDenormal (fmtIn src rm) v) = true := by
    rw [List.any_eq_true]
    rintro ⟨_, hmem, h⟩
    obtain ⟨v, hv, rfl⟩ := List.mem_map.1 hmem
    exact fpPlain_fpCut (hraw v hv) h
  have hins : (raw.map (fpCut (fmtOf src))).map (dyadicOf (fmtIn src rm)) = raw.map (dyadicOf (fmtIn src rm)) := by
    rw [List.map_map]
    exact List.map_congr_left fun v _ => dyadicOf_fpCut src rm v
  simp only [fpElemFrom, fmtIn_eq_ite, if_neg hplain, hins, hx]
  rfl

end

section

/-! Exact results in whole numbers. -/

variable {f : Fmt} {x : Exact} {num : Int} {den : Nat}

theorem val_exactOf (d : Dyadic) : (exactOf d).val = d.val := by
  rw [Exact.val, Exact.size, exactOf, Dyadic.val]
  simp [mul_assoc]
/-- The binary exponent, from the whole number. -/
theorem exactLog_of_is (he : 2 ≤ f.exp) (hden : 0 < den) (hx : 0 < x.den) (h : x.Is f num den) {g : Nat}
    (hlo : 2 ^ g * den ≤ num.natAbs) (hhi : num.natAbs < 2 ^ (g + 1) * den) : (g : Int) = exactLog x + fpBias f - 1 + f.frac := by
  have hle := le_size_iff he hden h 1 (e := g - fpBias f + 1 - f.frac) (k := g) (by omega)
  have hlt := le_size_iff he hden h 1 (e := g - fpBias f + 1 - f.frac + 1) (k := g + 1) (by push_cast; omega)
  rw [Nat.cast_one, one_mul, one_mul] at hle hlt
  have hlog := exactLog_unique hx (hle.2 hlo) (not_le.1 (mt hlt.1 (Nat.not_le.2 hhi)))
  omega
theorem exactLog_lt_of_is (he : 2 ≤ f.exp) (hden : 0 < den) (hx : 0 < x.den) (h : x.Is f num den) (hnum : x.num ≠ 0) {g : Nat}
    (hhi : num.natAbs < 2 ^ (g + 1) * den) : exactLog x + fpBias f - 1 + f.frac ≤ g := by
  obtain ⟨hlo, -⟩ := exactLog_bounds hx hnum
  have hlt := le_size_iff he hden h 1 (e := g - fpBias f + 1 - f.frac + 1) (k := g + 1) (by push_cast; omega)
  rw [Nat.cast_one, one_mul, one_mul] at hlt
  have := zpow_two_lt_zpow_iff.1 (hlo.trans_lt (not_le.1 (mt hlt.1 (Nat.not_le.2 hhi))))
  omega
theorem natAbs_pos_of_is (hden : 0 < den) (hx : 0 < x.den) (h : x.Is f num den) : num = 0 ↔ x.num = 0 := by
  have hpos : (0 : ℝ) < 2 ^ fpScale f := by positivity
  have hden' : (den : ℝ) ≠ 0 := Nat.cast_ne_zero.2 hden.ne'
  have habs := natAbs_eq_of_is h
  rw [← Int.natAbs_eq_zero, ← Nat.cast_eq_zero (R := ℝ), ← habs, mul_eq_zero, mul_eq_zero, or_iff_left hden', or_iff_left hpos.ne',
    size_eq_zero_iff hx]

/-- The exponent a multiply-accumulate counts from is that of the larger of the product and the addend. -/
theorem fpTolExp_mac {op : Config.FpOp} {a b c : Dyadic} {np nc : Int} (hop : isMac op = true) (he : 2 ≤ f.exp) (hden : 0 < den)
    (hp : (exactOf (dyadicMul a b)).Is f np den) (hc : (exactOf c).Is f nc den) {g : Nat}
    (hlo : 2 ^ g * den ≤ max np.natAbs nc.natAbs) (hhi : max np.natAbs nc.natAbs < 2 ^ (g + 1) * den) :
    (g : Int) = fpTolExp op [a, b, c] x + fpBias f - 1 + f.frac := by
  have hpp := natAbs_pos_of_is hden one_pos hp
  have hcc := natAbs_pos_of_is hden one_pos hc
  change np = 0 ↔ (dyadicMul a b).m = 0 at hpp
  change nc = 0 ↔ c.m = 0 at hcc
  have hpos : 0 < 2 ^ g * den := Nat.mul_pos (Nat.two_pow_pos g) hden
  rw [fpTolExp]
  simp only [hop, if_true]
  split
  · next hm =>
    have hz : np.natAbs = 0 := by rw [hpp.2 hm]; rfl
    rw [hz, Nat.zero_max] at hlo hhi
    exact exactLog_of_is he hden one_pos hc hlo hhi
  next hm =>
  split
  · next hm' =>
    have hz : nc.natAbs = 0 := by rw [hcc.2 hm']; rfl
    rw [hz, Nat.max_zero] at hlo hhi
    exact exactLog_of_is he hden one_pos hp hlo hhi
  · next hm' =>
    have hpl := exactLog_lt_of_is he hden one_pos hp hm (g := g) ((le_max_left _ _).trans_lt hhi)
    have hcl := exactLog_lt_of_is he hden one_pos hc hm' (g := g) ((le_max_right _ _).trans_lt hhi)
    rcases le_max_iff.1 hlo with hlo | hlo
    · have := exactLog_of_is he hden one_pos hp hlo ((le_max_left _ _).trans_lt hhi)
      omega
    · have := exactLog_of_is he hden one_pos hc hlo ((le_max_right _ _).trans_lt hhi)
      omega

end

section

variable {n src : Config.FpFmt} {rm : Byte} {op : Config.FpOp} {raw : List Nat} {free : Nat} {x : Exact} {num : Int} {den big : Nat}

theorem Good.imp {f : Fmt} {mac mac' : Prop} {r : Nat} {ins ins' : List Nat} (hmac : mac → mac')
    (hins : ∀ {P : Prop}, Marked f rm r ins P → Marked f rm r ins' P) (h : Good n f rm mac r ins num den big) :
    Good n f rm mac' r ins' num den big := by
  obtain ⟨hmarked, hover, hunder, hin⟩ := h
  exact ⟨hins hmarked, hover, fun h => (hunder h).imp_right (.imp_left hmac), fun h h' => (hin h h').imp_left (.imp_right (.imp_left hmac))⟩
theorem Marked.of_ne {f : Fmt} {r : Nat} {ins ins' : List Nat} {P P' : Prop} (hrm : rm ≠ 4#8) (h : Marked f rm r ins P) :
    Marked f rm r ins' P' := by
  obtain ⟨hlt, hvalue, -⟩ := h
  exact ⟨hlt, hvalue, fun h => absurd h hrm⟩

/-- An operation of plain operands is good for its exact result. -/
theorem good_fpElemFrom (hraw : ∀ v ∈ raw, fpPlain (fmtIn src rm) v) (hsome : exactOp op (raw.map (dyadicOf (fmtIn src rm))) = some x)
    (hsrc : src = n ∨ rm ≠ 4#8) (hden : 0 < den) (hx : 0 < x.den) (h : x.Is (fmtIn n rm) num den) (htwo : num.natAbs ≤ 2 * big)
    (hlog : ∀ g : Nat, 2 ^ g * den ≤ big → big < 2 ^ (g + 1) * den →
      (g : Int) = fpTolExp op (raw.map (dyadicOf (fmtIn src rm))) x + fpBias (fmtIn n rm) - 1 + (fmtIn n rm).frac) :
    Good n (fmtIn n rm) rm (isMac op = true) (fpElemFrom src n op rm raw free) raw num den big := by
  rw [fpElemFrom_eq hraw hsome]
  have hunit (hrm : rm = 4#8) : (fmtIn n rm).keep + 2 ≤ (fmtIn n rm).frac := by
    rw [fmtIn_keep_add hrm]
    exact keep_le_frac n
  have hgood := good_of_fpResult (n := n) (raw := raw.map (fpCut (fmtOf src))) (free := free) (fmtIn_two_le_exp n rm)
    (fmtIn_keep_le_frac n rm) hunit hden hx h htwo hlog
  refine hgood.imp id fun hm => ?_
  · rcases hsrc with rfl | hne
    · exact marked_cut hm
    · exact hm.of_ne hne
/-- The same where the tolerance counts from the result itself. -/
theorem good_of_not_mac (hop : isMac op = false) (hraw : ∀ v ∈ raw, fpPlain (fmtIn src rm) v)
    (hsome : exactOp op (raw.map (dyadicOf (fmtIn src rm))) = some x) (hsrc : src = n ∨ rm ≠ 4#8) (hden : 0 < den) (hx : 0 < x.den)
    (h : x.Is (fmtIn n rm) num den) :
    Good n (fmtIn n rm) rm False (fpElemFrom src n op rm raw free) raw num den num.natAbs := by
  have htol (ins : List Dyadic) : fpTolExp op ins x = exactLog x := by
    unfold fpTolExp
    rw [hop]
    split <;> rfl
  refine (good_fpElemFrom hraw hsome hsrc hden hx h (by omega) fun g hlo hhi => ?_).imp (by rw [hop]; exact Bool.false_ne_true) id
  rw [htol]
  exact exactLog_of_is (fmtIn_two_le_exp n rm) hden hx h hlo hhi

end

end Sys2Proof.Machine

/-! ### The tolerance of every operation (49_gfp.md R781, R782, D34) -/

namespace Sys2Proof.Machine

open Sys2Proof

section

variable {f : Fmt} {x y z : Nat}

/-! The exact results, in whole numbers. -/

theorem scaled_val (he : 2 ≤ f.exp) (x : Nat) : (dyadicOf f x).val * 2 ^ fpScale f = fpScaled f x := by
  rw [val_dyadicOf he, div_mul_cancel₀ _ (by positivity)]
theorem is_exactOf_iff (d : Dyadic) (num : Int) (den : Nat) : (exactOf d).Is f num den ↔ d.val * 2 ^ fpScale f * den = num := by
  rw [Exact.Is, val_exactOf]
theorem is_add (he : 2 ≤ f.exp) : (exactOf (dyadicAdd (dyadicOf f x) (dyadicOf f y))).Is f (fpScaled f x + fpScaled f y) 1 := by
  rw [is_exactOf_iff, val_dyadicAdd, add_mul, scaled_val he, scaled_val he]
  push_cast
  ring
theorem is_sub (he : 2 ≤ f.exp) :
    (exactOf (dyadicAdd (dyadicOf f x) (dyadicNeg (dyadicOf f y)))).Is f (fpScaled f x - fpScaled f y) 1 := by
  rw [is_exactOf_iff, val_dyadicAdd, val_dyadicNeg, add_mul, neg_mul, scaled_val he, scaled_val he]
  push_cast
  ring
theorem mul_val (he : 2 ≤ f.exp) (x y : Nat) :
    (dyadicMul (dyadicOf f x) (dyadicOf f y)).val * 2 ^ fpScale f * ((2 ^ fpScale f : Nat) : ℝ) = fpScaled f x * fpScaled f y := by
  rw [val_dyadicMul, ← scaled_val he x, ← scaled_val he y]
  push_cast
  ring
theorem addend_val (he : 2 ≤ f.exp) (z : Nat) :
    (dyadicOf f z).val * 2 ^ fpScale f * ((2 ^ fpScale f : Nat) : ℝ) = fpScaled f z * ((2 ^ fpScale f : Nat) : Int) := by
  rw [scaled_val he]
  push_cast
  rfl
theorem is_mul (he : 2 ≤ f.exp) :
    (exactOf (dyadicMul (dyadicOf f x) (dyadicOf f y))).Is f (fpScaled f x * fpScaled f y) (2 ^ fpScale f) := by
  rw [is_exactOf_iff, mul_val he, Int.cast_mul]
theorem is_addend (he : 2 ≤ f.exp) : (exactOf (dyadicOf f z)).Is f (fpScaled f z * (2 ^ fpScale f : Nat)) (2 ^ fpScale f) := by
  rw [is_exactOf_iff, addend_val he, Int.cast_mul]
/-- A sum of two numbers given over one denominator. -/
theorem is_sum {a b : Dyadic} {p c : Int} {den : Nat} (ha : a.val * 2 ^ fpScale f * den = p) (hb : b.val * 2 ^ fpScale f * den = c) :
    (exactOf (dyadicAdd a b)).Is f (p + c) den := by
  rw [is_exactOf_iff, val_dyadicAdd, add_mul, add_mul, ha, hb, Int.cast_add]
theorem neg_val {a : Dyadic} {p : Int} {den : Nat} (ha : a.val * 2 ^ fpScale f * den = p) :
    (dyadicNeg a).val * 2 ^ fpScale f * den = ((-p : Int) : ℝ) := by
  rw [val_dyadicNeg, neg_mul, neg_mul, ha, Int.cast_neg]
/-- A quotient. -/
def quotient (a b : Dyadic) : Exact := { neg := xor a.neg b.neg, num := a.m, den := b.m, e := a.e - b.e, root := false }
theorem val_quotient (a b : Dyadic) : (quotient a b).val = a.val / b.val := by
  have hinv : (signOf b.neg)⁻¹ = signOf b.neg := by cases b.neg <;> simp
  rw [Exact.val, Exact.size, Dyadic.val, Dyadic.val, quotient]
  simp only [Bool.false_eq_true, if_false]
  rw [signOf_xor, two_zpow_sub, div_eq_mul_inv _ (signOf b.neg * _ * _), mul_inv, mul_inv, hinv]
  ring
theorem is_quotient (he : 2 ≤ f.exp) (hy : fpScaled f y ≠ 0) :
    (quotient (dyadicOf f x) (dyadicOf f y)).Is f
      (if fpScaled f y < 0 then -(fpScaled f x * (2 ^ fpScale f : Nat)) else fpScaled f x * (2 ^ fpScale f : Nat)) (fpScaled f y).natAbs := by
  have hy' : (fpScaled f y : ℝ) ≠ 0 := Int.cast_ne_zero.2 hy
  have hpos : (2 : ℝ) ^ fpScale f ≠ 0 := by positivity
  rw [Exact.Is, val_quotient, val_dyadicOf he, val_dyadicOf he, div_div_div_cancel_right₀ hpos, Nat.cast_natAbs, Int.cast_abs]
  split
  · next h =>
    rw [abs_of_neg (Int.cast_lt_zero.2 h)]
    push_cast
    field_simp
  · next h =>
    rw [abs_of_nonneg (Int.cast_nonneg (Int.not_lt.1 h))]
    push_cast
    field_simp
theorem fpScaled_eq_zero_iff (f : Fmt) (y : Nat) : fpScaled f y = 0 ↔ (dyadicOf f y).m = 0 := by
  have hpos := Nat.two_pow_pos (fpExp f y - 1)
  have hsign : (if fpSign f y then -1 else 1 : Int) ≠ 0 := by split <;> decide
  rw [fpScaled, mul_eq_zero, or_iff_right hsign, Nat.cast_eq_zero, dyadicOf]
  split
  · simp
  · rw [mul_eq_zero, or_iff_left hpos.ne']

end

section

variable {n : Config.FpFmt} {rm : Byte} {x y z free : Nat}

theorem forall_pair {P : Nat → Prop} (hx : P x) (hy : P y) : ∀ v ∈ [x, y], P v := by simp [hx, hy]
theorem forall_triple {P : Nat → Prop} (hx : P x) (hy : P y) (hz : P z) : ∀ v ∈ [x, y, z], P v := by simp [hx, hy, hz]

/-- A multiply-accumulate, as the sum of a product and an addend of some signs. -/
theorem good_mac {op : Config.FpOp} {d : Dyadic} {num : Int} (hop : isMac op = true) (hx : fpPlain (fmtIn n rm) x)
    (hy : fpPlain (fmtIn n rm) y) (hz : fpPlain (fmtIn n rm) z)
    (hsome : exactOp op [dyadicOf (fmtIn n rm) x, dyadicOf (fmtIn n rm) y, dyadicOf (fmtIn n rm) z] = some (exactOf d))
    (h : (exactOf d).Is (fmtIn n rm) num (2 ^ fpScale (fmtIn n rm)))
    (htwo : num.natAbs ≤ (fpScaled (fmtIn n rm) x * fpScaled (fmtIn n rm) y).natAbs +
      (fpScaled (fmtIn n rm) z * (2 ^ fpScale (fmtIn n rm) : Nat)).natAbs) :
    Good n (fmtIn n rm) rm True (fpElem n op rm [x, y, z] free) [x, y, z] num (2 ^ fpScale (fmtIn n rm))
      (max (fpScaled (fmtIn n rm) x * fpScaled (fmtIn n rm) y).natAbs
        (fpScaled (fmtIn n rm) z * (2 ^ fpScale (fmtIn n rm) : Nat)).natAbs) := by
  have he := fmtIn_two_le_exp n rm
  refine (good_fpElemFrom (forall_triple hx hy hz) hsome (.inl rfl) (Nat.two_pow_pos _) one_pos h (by omega)
    fun g hlo hhi => ?_).imp (fun _ => trivial) id
  exact fpTolExp_mac hop he (Nat.two_pow_pos _) (is_mul he) (is_addend he) hlo hhi

/-! Square roots. -/

/-- The exact square root of a number. -/
def rootOf (a : Dyadic) : Exact := { neg := false, num := a.m, den := 1, e := a.e, root := true }

theorem size_rootOf (a : Dyadic) : (rootOf a).size = √|a.val| := by
  rw [Exact.size, rootOf, val_size]
  simp
theorem val_rootOf (a : Dyadic) : (rootOf a).val = (rootOf a).size := one_mul _
/-- The square of a root, in whole numbers. -/
theorem rootOf_sq {f : Fmt} (he : 2 ≤ f.exp) (x : Nat) :
    ((rootOf (dyadicOf f x)).size * 2 ^ fpScale f) * ((rootOf (dyadicOf f x)).size * 2 ^ fpScale f) =
      (((fpScaled f x).natAbs : Int) * (2 ^ fpScale f : Nat) : Int) := by
  have hpos : (0 : ℝ) < 2 ^ fpScale f := by positivity
  have hsq := Real.mul_self_sqrt (abs_nonneg (dyadicOf f x).val)
  rw [mul_mul_mul_comm, size_rootOf, hsq, val_dyadicOf he, abs_div, abs_of_pos hpos, Int.cast_mul, Int.cast_natCast, Nat.cast_natAbs,
    Int.cast_abs, Int.cast_natCast]
  push_cast
  field_simp
/-- A plain number that is not 0 lies in the range of its format. -/
theorem val_range {f : Fmt} (he : 2 ≤ f.exp) (hx : fpPlain f x) (hm : (dyadicOf f x).m ≠ 0) :
    (2 : ℝ) ^ (1 - (fpBias f : Int)) ≤ |(dyadicOf f x).val| ∧ |(dyadicOf f x).val| < 2 ^ ((fpBias f : Int) + 1) := by
  obtain ⟨hspecial, -⟩ := hx
  have hexp : fpExp f x ≠ 0 := fun h => hm (if_pos h)
  have hlt := fpExp_lt f x
  have hne : fpExp f x ≠ 2 ^ f.exp - 1 := fpSpecial_eq_false_iff.1 hspecial
  have hbias := two_mul_fpBias he
  have hfrac := fpFrac_lt f x
  have hm' : (dyadicOf f x).m = 2 ^ f.frac + fpFrac f x := if_neg hexp
  have hlo : ((2 : ℝ) ^ (f.frac : Int)) ≤ (dyadicOf f x).m := by
    rw [hm', zpow_natCast]
    exact_mod_cast Nat.le_add_right _ _
  have hhi : ((dyadicOf f x).m : ℝ) < 2 ^ ((f.frac : Int) + 1) := by
    rw [hm', ← Nat.cast_succ, zpow_natCast]
    have : 2 ^ f.frac + fpFrac f x < 2 ^ (f.frac + 1) := by rw [Nat.pow_succ]; omega
    exact_mod_cast this
  have hpos := two_zpow_pos (dyadicOf f x).e
  have he' : (dyadicOf f x).e = (fpExp f x : Int) - fpBias f - f.frac := rfl
  rw [val_size]
  constructor
  · refine le_trans ?_ (mul_le_mul_of_nonneg_right hlo hpos.le)
    rw [← two_zpow_add]
    exact zpow_two_le_zpow (by omega)
  · refine (mul_lt_mul_of_pos_right hhi hpos).trans_le ?_
    rw [← two_zpow_add]
    exact zpow_two_le_zpow (by omega)
theorem rootOf_range {f : Fmt} (he : 2 ≤ f.exp) (hx : fpPlain f x) (hm : (dyadicOf f x).m ≠ 0) :
    fpUnderflow f (rootOf (dyadicOf f x)) = false ∧ fpOverflow f (rootOf (dyadicOf f x)) = false := by
  obtain ⟨hlo, hhi⟩ := val_range he hx hm
  have hbias : 1 ≤ fpBias f := by have := two_mul_fpBias he; have := Nat.pow_le_pow_right two_pos he; omega
  have hden : 0 < (rootOf (dyadicOf f x)).den := one_pos
  constructor
  · rw [← Bool.not_eq_true, fpUnderflow_iff hden, not_lt, size_rootOf]
    refine (Real.le_sqrt (two_zpow_pos _).le (abs_nonneg _)).2 (le_trans ?_ hlo)
    rw [pow_two, ← two_zpow_add]
    exact zpow_two_le_zpow (by omega)
  · rw [← Bool.not_eq_true, fpOverflow_iff he hden, not_lt, size_rootOf]
    have hone : (2 : ℝ) ^ (fpBias f : Int) ≤ ((2 ^ (f.keep + 1) - 1 : Nat) : ℝ) * 2 ^ ((fpBias f : Int) - f.keep) := by
      have hle : ((2 ^ f.keep : Nat) : ℝ) ≤ ((2 ^ (f.keep + 1) - 1 : Nat) : ℝ) := by
        have hpos := Nat.two_pow_pos f.keep
        exact Nat.cast_le.2 (by rw [Nat.pow_succ]; omega)
      refine le_trans (le_of_eq ?_) (mul_le_mul_of_nonneg_right hle (two_zpow_pos _).le)
      rw [Nat.cast_pow, Nat.cast_ofNat, ← zpow_natCast, ← two_zpow_add, add_sub_cancel]
    refine le_trans (Real.sqrt_le_iff.2 ⟨(two_zpow_pos (fpBias f : Int)).le, hhi.le.trans ?_⟩) hone
    rw [pow_two, ← two_zpow_add]
    exact zpow_two_le_zpow (by omega)

/-- The result of a square root: a zero of a zero; else a normal value within the tolerance. -/
theorem sqrt_of_rounded {f : Fmt} {r : Nat} {t : Int} (he : 2 ≤ f.exp) (hx : fpPlain f x)
    (hr : Rounded n f false rm (rootOf (dyadicOf f x)) t r) (ht : t = exactLog (rootOf (dyadicOf f x))) :
    ((dyadicOf f x).m = 0 → fpZero f r = true) ∧
    ((dyadicOf f x).m ≠ 0 → fpNormal f r = true ∧
      100 * |(dyadicOf f r).val - (rootOf (dyadicOf f x)).size| ≤ fpTolerance n rm * 2 ^ (t - fpPlaces f rm)) := by
  have htol : (50 : ℝ) ≤ fpTolerance n rm := by
    rw [fpTolerance_eq]
    split <;> norm_num
  have hplaces : (2 : ℝ) ^ (t - f.keep) ≤ 2 ^ (t - fpPlaces f rm) := zpow_two_le_zpow (by have := fpPlaces_le f rm; omega)
  constructor
  · intro hm
    have hunder := fpUnderflow_of_num_eq_zero (f := f) (x := rootOf (dyadicOf f x)) one_pos hm
    rcases hr with ⟨hz, -⟩ | ⟨-, h | h, -⟩ | ⟨-, h, -⟩
    · exact hz
    · exact absurd h Bool.false_ne_true
    · exact absurd (hunder.symm.trans h) (by decide)
    · exact absurd (hunder.symm.trans h) (by decide)
  · intro hm
    have hunder := (rootOf_range he hx hm).1
    rw [← val_rootOf]
    rcases hr with ⟨-, h⟩ | ⟨h, -, hnear⟩ | ⟨h, -, hnear⟩
    · exact absurd (hunder.symm.trans h) (by decide)
    · exact ⟨h.resolve_right fun h => absurd h.1 Bool.false_ne_true, hnear⟩
    · refine ⟨h, ?_⟩
      rw [← ht] at hnear
      have hpos := two_zpow_pos (t - f.keep)
      nlinarith

/-- A whole number near a root, between two squares. -/
theorem square_bounds_of_near {R S : Int} {T : Nat} {q : ℝ} (hq : q * q = S) (h50 : T ≤ 50 * q) (hlo : -(T : ℝ) ≤ 100 * (R - q))
    (hhi : 100 * (R - q) ≤ T) : (T : Int) ≤ 100 * R ∧ (100 * R - T) * (100 * R - T) ≤ 10000 * S ∧
      10000 * S ≤ (100 * R + T) * (100 * R + T) := by
  have hT : (0 : ℝ) ≤ T := Nat.cast_nonneg T
  have hsq : 10000 * (S : ℝ) = (100 * q) * (100 * q) := by rw [← hq]; ring
  have hTR : (T : ℝ) ≤ 100 * R := by linarith
  refine ⟨by exact_mod_cast hTR, ?_, ?_⟩
  · have h := mul_self_le_mul_self (a := 100 * (R : ℝ) - T) (b := 100 * q) (by linarith) (by linarith)
    rw [← hsq] at h
    exact_mod_cast h
  · have h := mul_self_le_mul_self (a := 100 * q) (b := 100 * (R : ℝ) + T) (by linarith) (by linarith)
    rw [← hsq] at h
    exact_mod_cast h
/-- With two places and more, the tolerance is at most half of the size. -/
theorem tolerance_le_size {x : Exact} {p : Nat} (n : Config.FpFmt) (rm : Byte) (hp : 2 ≤ p) (hlog : (2 : ℝ) ^ exactLog x ≤ x.size) :
    fpTolerance n rm * (2 : ℝ) ^ (exactLog x - p) ≤ 50 * x.size := by
  have htol : fpTolerance n rm ≤ 200 := by
    rw [fpTolerance_eq]
    split <;> norm_num
  have htolR : (fpTolerance n rm : ℝ) ≤ 200 := by exact_mod_cast htol
  have hle : (2 : ℝ) ^ (exactLog x - p) ≤ 2 ^ (exactLog x - 2) := zpow_two_le_zpow (by omega)
  have hquarter : (2 : ℝ) ^ (exactLog x - 2) = 2 ^ exactLog x / 4 := by
    rw [two_zpow_sub]
    norm_num
  have hpos := two_zpow_pos (exactLog x - p)
  nlinarith
/-- The binary place of a number, from the place of it scaled. -/
theorem exactLog_of_scaled {f : Fmt} {x : Exact} {g : Nat} (he : 2 ≤ f.exp) (hlo : (2 : ℝ) ^ exactLog x ≤ x.size)
    (hhi : x.size < 2 ^ (exactLog x + 1)) (hg : (2 : ℝ) ^ g ≤ x.size * 2 ^ fpScale f) (hg' : x.size * 2 ^ fpScale f < 2 ^ (g + 1)) :
    (g : Int) = exactLog x + fpBias f - 1 + f.frac := by
  rw [two_zpow_scale he, ← zpow_natCast (2 : ℝ) g] at hg
  rw [two_zpow_scale he, ← zpow_natCast (2 : ℝ) (g + 1)] at hg'
  have h1 := hg.trans_lt (mul_lt_mul_of_pos_right hhi (two_zpow_pos _))
  have h2 := (mul_le_mul_of_nonneg_right hlo (two_zpow_pos _).le).trans_lt hg'
  rw [← two_zpow_add, zpow_two_lt_zpow_iff] at h1 h2
  push_cast at h2
  omega
/-- The tolerance of a number scaled, as a whole number. -/
theorem tolerance_scaled {f : Fmt} {x : Exact} {g p : Nat} (t : Nat) (he : 2 ≤ f.exp) (hp : p ≤ g)
    (hg : (g : Int) = exactLog x + fpBias f - 1 + f.frac) :
    t * (2 : ℝ) ^ (exactLog x - p) * 2 ^ fpScale f = ((t * 2 ^ (g - p) : Nat) : ℝ) := by
  rw [mul_assoc, two_zpow_scale he, ← two_zpow_add, Nat.cast_mul, Nat.cast_pow, Nat.cast_ofNat, ← zpow_natCast (2 : ℝ) (g - p)]
  congr 2
  omega
/-- What D34 asks of a square root, in whole numbers. -/
theorem sqrt_whole {f : Fmt} {r : Nat} (he : 2 ≤ f.exp) (hk : f.keep ≤ f.frac) (hp : 2 ≤ fpPlaces f rm) (hm : (dyadicOf f x).m ≠ 0)
    (hx : fpPlain f x)
    (hnear : 100 * |(dyadicOf f r).val - (rootOf (dyadicOf f x)).size| ≤
      fpTolerance n rm * 2 ^ (exactLog (rootOf (dyadicOf f x)) - fpPlaces f rm)) :
    0 ≤ fpScaled f r ∧ ∀ g : Nat, (2 ^ g * 2 ^ g : Nat) ≤ ((fpScaled f x).natAbs : Int) * (2 ^ fpScale f : Nat) →
      ((fpScaled f x).natAbs : Int) * (2 ^ fpScale f : Nat) < (2 ^ (g + 1) * 2 ^ (g + 1) : Nat) →
        ((fpTolerance n rm * 2 ^ (g - fpPlaces f rm) : Nat) : Int) ≤ 100 * fpScaled f r ∧
          (100 * fpScaled f r - (fpTolerance n rm * 2 ^ (g - fpPlaces f rm) : Nat)) *
            (100 * fpScaled f r - (fpTolerance n rm * 2 ^ (g - fpPlaces f rm) : Nat)) ≤
            10000 * (((fpScaled f x).natAbs : Int) * (2 ^ fpScale f : Nat)) ∧
          10000 * (((fpScaled f x).natAbs : Int) * (2 ^ fpScale f : Nat)) ≤
            (100 * fpScaled f r + (fpTolerance n rm * 2 ^ (g - fpPlaces f rm) : Nat)) *
              (100 * fpScaled f r + (fpTolerance n rm * 2 ^ (g - fpPlaces f rm) : Nat)) := by
  have hsq := rootOf_sq he x
  have hscaled := scaled_val he r
  have hunit : (0 : ℝ) < 2 ^ fpScale f := by positivity
  obtain ⟨hlo, hhi⟩ := exactLog_bounds (x := rootOf (dyadicOf f x)) one_pos hm
  have hsmall := tolerance_le_size n rm hp hlo
  obtain ⟨hnear1, hnear2⟩ := hundred_abs_le.1 hnear
  have hroot : (0 : ℝ) ≤ fpScaled f r := by
    have hsize := size_nonneg (rootOf (dyadicOf f x))
    rw [← hscaled]
    exact mul_nonneg (by linarith) hunit.le
  refine ⟨Int.cast_nonneg_iff.1 hroot, fun g hg hg' => ?_⟩
  have hQ : 0 ≤ (rootOf (dyadicOf f x)).size * 2 ^ fpScale f := mul_nonneg (size_nonneg _) hunit.le
  have hgR : (2 : ℝ) ^ g ≤ (rootOf (dyadicOf f x)).size * 2 ^ fpScale f := by
    refine abs_le_of_sq_le_sq' ?_ hQ |>.2
    rw [pow_two, pow_two, hsq]
    exact_mod_cast hg
  have hgR' : (rootOf (dyadicOf f x)).size * 2 ^ fpScale f < 2 ^ (g + 1) := by
    refine lt_of_pow_lt_pow_left₀ 2 (by positivity) ?_
    rw [pow_two, pow_two, hsq]
    exact_mod_cast hg'
  have hexp := exactLog_of_scaled he hlo hhi hgR hgR'
  have hplaces : fpPlaces f rm ≤ g := by
    have hunder := (rootOf_range he hx hm).1
    have hlow := (not_congr (fpUnderflow_iff (f := f) (x := rootOf (dyadicOf f x)) one_pos)).1 (by rw [hunder]; decide)
    have := zpow_two_lt_zpow_iff.1 ((not_lt.1 hlow).trans_lt hhi)
    have := fpPlaces_le f rm
    omega
  have hT := tolerance_scaled (fpTolerance n rm) he hplaces hexp
  have h50 := mul_le_mul_of_nonneg_right hsmall hunit.le
  have hnear1' := mul_le_mul_of_nonneg_right hnear1 hunit.le
  have hnear2' := mul_le_mul_of_nonneg_right hnear2 hunit.le
  rw [hT, mul_assoc] at h50
  rw [neg_mul, hT, mul_assoc, sub_mul, hscaled] at hnear1'
  rw [hT, mul_assoc, sub_mul, hscaled] at hnear2'
  exact square_bounds_of_near hsq h50 hnear1' hnear2'

/-- A root that is not negative is exact where its square is. -/
theorem sqrt_exact_iff {f : Fmt} {r : Nat} (he : 2 ≤ f.exp) (hr : 0 ≤ fpScaled f r) :
    fpScaled f r * fpScaled f r = ((fpScaled f x).natAbs : Int) * (2 ^ fpScale f : Nat) ↔
      (dyadicOf f r).val = (rootOf (dyadicOf f x)).val := by
  have hunit : (2 : ℝ) ^ fpScale f ≠ 0 := by positivity
  have hQ : 0 ≤ (rootOf (dyadicOf f x)).size * 2 ^ fpScale f := mul_nonneg (size_nonneg _) (by positivity)
  rw [← Int.cast_inj (α := ℝ), ← rootOf_sq he x, Int.cast_mul, mul_self_inj (Int.cast_nonneg hr) hQ, ← scaled_val he r,
    mul_left_inj' hunit, val_rootOf]

theorem Marked.congr {f : Fmt} {r : Nat} {ins : List Nat} {P P' : Prop} (hP : P ↔ P') (h : Marked f rm r ins P) :
    Marked f rm r ins P' := propext hP ▸ h
theorem fpPlaces_ge (n : Config.FpFmt) (rm : Byte) : 2 ≤ fpPlaces (fmtIn n rm) rm := by
  have hten := ten_le_keep n
  have hkeep : (fmtOf n).keep - 2 ≤ (fmtIn n rm).keep := by
    simp only [fmtIn]
    split <;> omega
  rw [fpPlaces_eq]
  split <;> omega

/-- A square root of a plain operand: what stands below its last place, a zero of a zero, else the tolerance. -/
theorem good_sqrt (hx : fpPlain (fmtIn n rm) x) :
    let f := fmtIn n rm
    let r := fpElem n .sqrt rm [x] free
    let root := fpScaled f (fpValue f r)
    let square : Int := ((fpScaled f x).natAbs : Int) * (2 ^ fpScale f : Nat)
    Marked f rm r [x] (root * root = square) ∧ (square = 0 → fpZero f (fpValue f r) = true) ∧
      (square ≠ 0 → fpNormal f (fpValue f r) = true ∧ 0 ≤ root ∧
        ∀ g : Nat, (2 ^ g * 2 ^ g : Nat) ≤ square → square < (2 ^ (g + 1) * 2 ^ (g + 1) : Nat) →
          let t : Int := (fpTolerance n rm * 2 ^ (g - fpPlaces f rm) : Nat)
          t ≤ 100 * root ∧ (100 * root - t) * (100 * root - t) ≤ 10000 * square ∧
            10000 * square ≤ (100 * root + t) * (100 * root + t)) := by
  intro f r root square
  have he := fmtIn_two_le_exp n rm
  have hk := fmtIn_keep_le_frac n rm
  have hunit (hrm : rm = 4#8) : f.keep + 2 ≤ f.frac := by
    rw [fmtIn_keep_add hrm]
    exact keep_le_frac n
  have hsquare : square = 0 ↔ (dyadicOf f x).m = 0 := by
    have hpos : ((2 ^ fpScale f : Nat) : Int) ≠ 0 := by positivity
    rw [← fpScaled_eq_zero_iff, mul_eq_zero, or_iff_left hpos, Int.natCast_eq_zero, Int.natAbs_eq_zero]
  have hover : fpOverflow f (rootOf (dyadicOf f x)) = false := by
    by_cases hm : (dyadicOf f x).m = 0
    · refine Bool.eq_false_iff.2 fun h => ?_
      have hlt := (fpOverflow_iff he one_pos).1 h
      rw [(size_eq_zero_iff one_pos).2 hm] at hlt
      exact absurd hlt (not_lt.2 (mul_nonneg (Nat.cast_nonneg _) (two_zpow_pos _).le))
    · exact (rootOf_range he hx hm).2
  have hsome : exactOp .sqrt ([x].map (dyadicOf f)) = some (rootOf (dyadicOf f x)) := rfl
  have hr : r = _ := fpElemFrom_eq (src := n) (by simpa using hx) hsome
  obtain ⟨hfits, hrounded⟩ := fpResult_rounded (n := n) (op := .sqrt) (raw := [x].map (fpCut (fmtOf n)))
    (ins := [x].map (dyadicOf f)) (rm := rm) (free := free) he hk one_pos hover
  obtain ⟨hzero, hnormal⟩ := sqrt_of_rounded he hx hrounded rfl
  obtain ⟨hvalue, hmarked⟩ := inMode_spec (raw := [x].map (fpCut (fmtOf n))) (free := free) (x := rootOf (dyadicOf f x)) hk hunit one_pos hfits
  rw [← hr] at hvalue hmarked
  have hmarked := marked_cut hmarked
  rw [← hvalue] at hmarked hzero hnormal
  by_cases hm : (dyadicOf f x).m = 0
  · have hz := hzero hm
    have hroot : fpScaled f (fpValue f r) = 0 := by
      rw [fpScaled_eq_zero_iff]
      exact if_pos (by simpa using (Bool.and_eq_true_iff.1 hz).1)
    exact ⟨hmarked.congr (sqrt_exact_iff he hroot.ge).symm, fun _ => hz, fun h => absurd (hsquare.2 hm) h⟩
  · obtain ⟨hnorm, hnear⟩ := hnormal hm
    obtain ⟨hnonneg, hbounds⟩ := sqrt_whole he hk (fpPlaces_ge n rm) hm hx hnear
    exact ⟨hmarked.congr (sqrt_exact_iff he hnonneg).symm, fun h => absurd (hsquare.1 h) hm, fun _ => ⟨hnorm, hnonneg, hbounds⟩⟩

/-! Narrowing, and integers. -/

theorem fmtIn_zero (n : Config.FpFmt) : fmtIn n 0#8 = fmtOf n := by cases n <;> rfl
theorem is_narrowed {f : Fmt} (h : fpScale f ≤ fpScale (fmtOf .double)) (x : Nat) :
    (exactOf (dyadicOf (fmtOf .double) x)).Is f (fpScaled (fmtOf .double) x) (2 ^ (fpScale (fmtOf .double) - fpScale f)) := by
  have hscaled := scaled_val (two_le_exp .double) x
  rw [is_exactOf_iff, mul_assoc, Nat.cast_pow, Nat.cast_ofNat, ← pow_add, Nat.add_sub_cancel' h, hscaled]
theorem is_integer (f : Fmt) (k : Int) : (exactOf (dyadicInt k 0)).Is f (k * (2 ^ fpScale f : Nat)) 1 := by
  rw [is_exactOf_iff, val_dyadicInt]
  push_cast
  ring
theorem good_fromInt {op : Config.FpOp} {k : Int} (hop : isMac op = false) (hk : k ≠ 0) :
    Good n (fmtOf n) 0#8 False (fpFromInt n op x k free) [] (k * (2 ^ fpScale (fmtOf n) : Nat)) 1
      (k * (2 ^ fpScale (fmtOf n) : Nat)).natAbs := by
  have hlog (g : Nat) := exactLog_of_is (two_le_exp n) one_pos one_pos (is_integer (fmtOf n) k) (g := g)
  have hgood := good_of_fpResult (n := n) (op := op) (rm := 0#8) (raw := [x]) (ins := [dyadicInt k 0]) (free := free) (two_le_exp n)
    (keep_le_frac n) (fun h => absurd h (by decide)) one_pos one_pos (is_integer (fmtOf n) k) (by omega) hlog
  rw [fpFromInt, if_neg hk]
  exact hgood.imp (by rw [hop]; exact Bool.false_ne_true) (.of_ne (by decide))

end

/-- Settles O52: an exact result is a number; `fpWithin` and `fpNearest` bound the distance of the answer from it. -/
theorem arithmeticStaysWithinTolerance : Obligations.ArithmeticStaysWithinTolerance := by
  intro n rm x y z free k hlisted f places tol unit value largest one marked good plain
  have he : 2 ≤ f.exp := fmtIn_two_le_exp n rm
  refine ⟨fun hx hy => ?arith, fun hx => ?sqrt, fun hrm hn hx => ?narrow, fun hrm op hop => ⟨fun hk => if_pos hk, fun hk => ?int⟩⟩
  case arith =>
    intro a b
    refine ⟨good_of_not_mac (raw := [x, y]) rfl (forall_pair hx hy) rfl (.inl rfl) one_pos one_pos (is_add he),
      good_of_not_mac (raw := [x, y]) rfl (forall_pair hx hy) rfl (.inl rfl) one_pos one_pos (is_sub he),
      good_of_not_mac (raw := [x, y]) rfl (forall_pair hx hy) rfl (.inl rfl) (Nat.two_pow_pos _) one_pos (is_mul he),
      fun hb => ?div, fun hz => ?macs⟩
    case div =>
      have hm : (dyadicOf (fmtIn n rm) y).m ≠ 0 := mt (fpScaled_eq_zero_iff _ _).2 hb
      exact good_of_not_mac (raw := [x, y]) rfl (forall_pair hx hy) (if_neg hm) (.inl rfl) (Int.natAbs_pos.2 hb)
        (Nat.pos_of_ne_zero hm) (is_quotient he hb)
    case macs =>
      intro c
      have hp := mul_val he x y
      have hc := addend_val he z
      rw [← Int.cast_mul] at hp hc
      simp only [List.forall_mem_cons, List.not_mem_nil, false_implies, implies_true, and_true]
      exact ⟨good_mac rfl hx hy hz rfl (is_sum hp hc) (Int.natAbs_add_le _ _),
        good_mac rfl hx hy hz rfl (is_sum hp (neg_val hc)) (Int.natAbs_sub_le _ _),
        good_mac rfl hx hy hz rfl (is_sum hc (neg_val hp)) (show (c * one - a * b).natAbs ≤ (a * b).natAbs + (c * one).natAbs by omega),
        good_mac rfl hx hy hz rfl (is_sum (neg_val hp) (neg_val hc))
          (show (-(a * b) - c * one).natAbs ≤ (a * b).natAbs + (c * one).natAbs by omega)⟩
  case sqrt =>
    have h := good_sqrt (free := free) hx
    simp only [fpTolerance_eq, fpPlaces_eq] at h
    exact h
  case narrow =>
    subst hrm
    have hscale : fpScale (fmtOf n) ≤ fpScale (fmtOf .double) := by rcases hn with rfl | rfl <;> decide
    rw [← fmtIn_zero n] at hscale
    exact good_of_not_mac (src := .double) (raw := [x]) rfl (List.forall_mem_singleton.2 hx) rfl (.inr (by decide)) (Nat.two_pow_pos _)
      one_pos      (is_narrowed hscale x)
  case int =>
    subst hrm
    have hmac : isMac op = false := by
      rcases List.mem_pair.1 hop with rfl | rfl <;> rfl
    have h := good_fromInt (n := n) (x := x) (free := free) hmac hk
    rw [← fmtIn_zero n] at h
    exact h

end Sys2Proof.Machine

/-! ### Load and store conversions and PCONV (49_gfp.md R833, R834, R1010 to R1023, R1046 to R1050) -/

namespace Sys2Proof.Machine

open Sys2Proof

section

/-! Fields put together by OR. -/

/-- Two values whose bits do not meet add up. -/
theorem toNat_or_disjoint {w k : Nat} {x y : BitVec w} (hx : x.toNat % 2 ^ k = 0) (hy : y.toNat < 2 ^ k) :
    (x ||| y).toNat = x.toNat + y.toNat := by
  obtain ⟨c, hc⟩ := Nat.dvd_of_mod_eq_zero hx
  rw [BitVec.toNat_or, hc, Nat.two_pow_add_eq_or_of_lt hy]
theorem toNat_longHalf (i : BitVec 40) : (longHalf i).toNat =
    (halfToDouble (slice i 24 16)).toNat + if i.toNat / 2 ^ 34 % 2 ^ 5 = 0 then 0 else i.toNat % 2 ^ 24 * 2 ^ 18 := by
  have hwide : (halfToDouble (slice i 24 16)).toNat % 2 ^ 42 = 0 := by
    rw [toNat_halfToDouble]
    simp only [widened, fmtOf]
    omega
  have hzero : (slice i 34 5 == 0#5) = true ↔ i.toNat / 2 ^ 34 % 2 ^ 5 = 0 := by rw [beq_iff_eq, ← toNat_eq_zero_iff, toNat_slice]
  have hlow : ((slice i 0 24).setWidth 64 <<< 18).toNat = i.toNat % 2 ^ 24 * 2 ^ 18 := by
    rw [BitVec.toNat_shiftLeft, BitVec.toNat_setWidth, toNat_slice, Nat.shiftLeft_eq, pow_zero, Nat.div_one]
    omega
  rw [longHalf]
  by_cases h : (slice i 34 5 == 0#5) = true
  · rw [if_pos h, if_pos (hzero.1 h), toNat_or_disjoint hwide (by decide)]
    rfl
  · rw [if_neg h, if_neg (mt hzero.2 h), toNat_or_disjoint hwide (by rw [hlow]; omega), hlow]

/-! Integers that a format holds exactly. -/

theorem nat_eq_of_abs_sub_le_half {k m : Nat} (h : |(k : ℝ) - m| ≤ 1 / 2) : k = m := by
  obtain ⟨h1, h2⟩ := abs_le.1 h
  have hkm : (k : ℝ) < (m + 1 : Nat) := by push_cast; linarith
  have hmk : (m : ℝ) < (k + 1 : Nat) := by push_cast; linarith
  exact Nat.le_antisymm (Nat.lt_succ_iff.1 (Nat.cast_lt.1 hkm)) (Nat.lt_succ_iff.1 (Nat.cast_lt.1 hmk))
/-- An integer of no more bits than the significand is a value, exactly. -/
theorem fpExactInt_spec {n : Config.FpFmt} {z : Int} (hz : z ≠ 0) (hlt : z.natAbs < 2 ^ ((fmtOf n).keep + 1))
    (hbias : (fmtOf n).keep < fpBias (fmtOf n)) :
    fpNormal (fmtOf n) (fpExactInt n z) = true ∧ fpExactInt n z < 2 ^ fpWidth (fmtOf n) ∧
      fpScaled (fmtOf n) (fpExactInt n z) = z * (2 ^ fpScale (fmtOf n) : Nat) := by
  have he := two_le_exp n
  have hunit : (0 : ℝ) < 2 ^ fpScale (fmtOf n) := by positivity
  have hnum : (exactOf (dyadicInt z 0)).num ≠ 0 := Int.natAbs_ne_zero.2 hz
  have hval : (exactOf (dyadicInt z 0)).val = z := by rw [val_exactOf, val_dyadicInt, zpow_zero, mul_one]
  have hsize : (exactOf (dyadicInt z 0)).size = z.natAbs := by simp [Exact.size, exactOf, dyadicInt]
  obtain ⟨hlo, hhi⟩ := exactLog_bounds (x := exactOf (dyadicInt z 0)) one_pos hnum
  have hone : (1 : ℝ) ≤ (exactOf (dyadicInt z 0)).size := by
    rw [hsize]
    exact_mod_cast Nat.one_le_iff_ne_zero.2 hnum
  have hmax : (exactOf (dyadicInt z 0)).size ≤ ((2 ^ ((fmtOf n).keep + 1) - 1 : Nat) : ℝ) := by
    rw [hsize]
    exact Nat.cast_le.2 (Nat.le_sub_one_of_lt hlt)
  have hl0 : 0 ≤ exactLog (exactOf (dyadicInt z 0)) := by
    have h := zpow_two_lt_zpow_iff.1 ((zpow_zero (2 : ℝ)).trans_le hone |>.trans_lt hhi)
    omega
  have hlk : exactLog (exactOf (dyadicInt z 0)) ≤ (fmtOf n).keep := by
    have hlt' : (exactOf (dyadicInt z 0)).size < 2 ^ (((fmtOf n).keep : Int) + 1) := by
      rw [hsize, ← Nat.cast_succ, zpow_natCast]
      exact_mod_cast hlt
    have h := zpow_two_lt_zpow_iff.1 (hlo.trans_lt hlt')
    omega
  have hunder : fpUnderflow (fmtOf n) (exactOf (dyadicInt z 0)) = false := by
    rw [← Bool.not_eq_true, fpUnderflow_iff one_pos, not_lt]
    exact (zpow_two_le_zpow (by omega : 1 - (fpBias (fmtOf n) : Int) ≤ 0)).trans ((zpow_zero (2 : ℝ)).trans_le hone)
  have hover : fpOverflow (fmtOf n) (exactOf (dyadicInt z 0)) = false := by
    rw [← Bool.not_eq_true, fpOverflow_iff he one_pos, not_lt]
    refine hmax.trans (le_mul_of_one_le_right (Nat.cast_nonneg _) ?_)
    exact (zpow_zero (2 : ℝ)).symm.trans_le (zpow_two_le_zpow (by omega))
  obtain ⟨k, hnormal, hvalue, hnear⟩ := fpNearest_spec he (keep_le_frac n) one_pos hnum hover hunder
  obtain ⟨d, hd⟩ : ∃ d : Nat, (d : Int) = (fmtOf n).keep - exactLog (exactOf (dyadicInt z 0)) := ⟨_, Int.toNat_of_nonneg (by omega)⟩
  have hmantissa : (exactOf (dyadicInt z 0)).mantissa (fmtOf n) = ((z.natAbs * 2 ^ d : Nat) : ℝ) := by
    rw [Exact.mantissa, hsize, ← hd, zpow_natCast]
    push_cast
    rfl
  have hk : k = z.natAbs * 2 ^ d := by
    rw [hmantissa] at hnear
    exact nat_eq_of_abs_sub_le_half hnear
  have heq : fpExactInt n z = fpNearest (fmtOf n) (exactOf (dyadicInt z 0)) := if_neg hz
  rw [heq]
  refine ⟨hnormal, hvalue.lt, ?_⟩
  have hz' : (dyadicOf (fmtOf n) (fpNearest (fmtOf n) (exactOf (dyadicInt z 0)))).val = z := by
    rw [hvalue.val, hk, ← hmantissa, ← size_eq_mantissa]
    exact hval
  have hscaled := scaled_val he (fpNearest (fmtOf n) (exactOf (dyadicInt z 0)))
  rw [hz'] at hscaled
  exact_mod_cast hscaled.symm

/-- A 32-bit integer as a Double, exactly. -/
theorem double_of_int {z : Int} (hz : z.natAbs < 2 ^ 53) :
    fpPlain (fmtOf .double) (BitVec.ofNat 64 (fpExactInt .double z)).toNat ∧
      fpScaled (fmtOf .double) (BitVec.ofNat 64 (fpExactInt .double z)).toNat = z * (2 ^ 1074 : Nat) ∧
      (z = 0 → BitVec.ofNat 64 (fpExactInt .double z) = 0#64) := by
  by_cases h : z = 0
  · subst h
    exact ⟨⟨rfl, rfl⟩, ((fpScaled_eq_zero_iff _ _).2 rfl).trans (zero_mul _).symm, fun _ => rfl⟩
  · obtain ⟨hnormal, hlt, hscaled⟩ := fpExactInt_spec (n := .double) h hz (by decide)
    have hnat : (BitVec.ofNat 64 (fpExactInt .double z)).toNat = fpExactInt .double z := Nat.mod_eq_of_lt hlt
    obtain ⟨hspecial, hexp⟩ := Bool.and_eq_true_iff.1 hnormal
    rw [show fpScale (fmtOf .double) = 1074 by rfl] at hscaled
    rw [hnat]
    refine ⟨⟨by simpa using hspecial, ?_⟩, hscaled, fun h' => absurd h' h⟩
    rw [fpDenormal, beq_eq_false_iff_ne.2 (bne_iff_ne.1 hexp), Bool.false_and]

/-! Doubles to integers, cut at the point (R1049). -/

/-- The integer part of a Double, by its fields. -/
def doubleTrunc (v : Nat) : Nat :=
  let e := v / 2 ^ 52 % 2 ^ 11
  let whole := 2 ^ 52 + v % 2 ^ 52
  if e < 1023 then 0 else if e < 1075 then whole / 2 ^ (1075 - e) else whole * 2 ^ (e - 1075)

theorem dyadicTrunc_double (v : Nat) : dyadicTrunc (dyadicOf (fmtOf .double) v) =
    (if fpSign (fmtOf .double) v then -1 else 1) * (doubleTrunc v : Int) := by
  have hfrac : fpFrac (fmtOf .double) v = v % 2 ^ 52 := by simp [fpFrac, fmtOf]
  have hexp : fpExp (fmtOf .double) v = v / 2 ^ 52 % 2 ^ 11 := rfl
  have hlt : v % 2 ^ 52 < 2 ^ 52 := Nat.mod_lt _ (by decide)
  have hscale : scale2 (if fpExp (fmtOf .double) v = 0 then 0 else 2 ^ 52 + v % 2 ^ 52) ((fpExp (fmtOf .double) v : Int) - 1023 - 52) =
      doubleTrunc v := by
    rw [doubleTrunc, scale2]
    simp only [hexp]
    generalize v / 2 ^ 52 % 2 ^ 11 = e
    generalize v % 2 ^ 52 = m at hlt
    by_cases hbig : 1075 ≤ e
    · have hshift : ((e : Int) - 1023 - 52).toNat = e - 1075 := by omega
      rw [if_pos (by omega), if_neg (by omega), if_neg (by omega), if_neg (by omega), hshift]
    · have hshift : (-((e : Int) - 1023 - 52)).toNat = 1075 - e := by omega
      rw [if_neg (by omega), hshift]
      by_cases hsmall : e < 1023
      · have hpow : 2 ^ 53 ≤ 2 ^ (1075 - e) := Nat.pow_le_pow_right two_pos (by omega)
        rw [if_pos hsmall]
        exact Nat.div_eq_of_lt (by split <;> omega)
      · rw [if_neg hsmall, if_neg (show ¬ e = 0 by omega), if_pos (show e < 1075 by omega)]
  rw [dyadicTrunc, ← hscale, ← hfrac]
  rfl

theorem doubleTrunc_lt {v : Nat} (h : v / 2 ^ 52 % 2 ^ 11 < 1086) : doubleTrunc v < 2 ^ 63 := by
  have hlt : v % 2 ^ 52 < 2 ^ 52 := Nat.mod_lt _ (by decide)
  rw [doubleTrunc]
  split
  · decide
  · split
    · exact (Nat.div_le_self _ _).trans_lt (by omega)
    · have hpow : 2 ^ (v / 2 ^ 52 % 2 ^ 11 - 1075) ≤ 2 ^ 10 := Nat.pow_le_pow_right two_pos (by omega)
      exact (Nat.mul_le_mul_left _ hpow).trans_lt (by omega)
theorem le_doubleTrunc {v : Nat} (h : 1086 ≤ v / 2 ^ 52 % 2 ^ 11) : 2 ^ 63 ≤ doubleTrunc v := by
  have hpow : 2 ^ 11 ≤ 2 ^ (v / 2 ^ 52 % 2 ^ 11 - 1075) := Nat.pow_le_pow_right two_pos (by omega)
  rw [doubleTrunc]
  rw [if_neg (by omega), if_neg (by omega)]
  exact le_trans (by omega) (Nat.mul_le_mul_left _ hpow)
theorem natAbs_signed (b : Bool) (z : Nat) : ((if b then -1 else 1) * (z : Int)).natAbs = z := by cases b <;> simp
theorem toInt_ofInt_of_natAbs_lt {z : Int} (h : z.natAbs < 2 ^ 63) : (BitVec.ofInt 64 z).toInt = z := by
  rw [BitVec.toInt_ofInt]
  exact Int.bmod_eq_of_le (by omega) (by omega)
theorem fpSign_double (a : Word) : fpSign (fmtOf .double) a.toNat = a.getLsbD 63 := by
  rw [fpSign_eq_of_lt (f := fmtOf .double) a.isLt, BitVec.getLsbD, Nat.testBit_eq_decide_div_mod_eq, decide_eq_decide]
  have ha := a.isLt
  simp only [fmtOf]
  omega

/-! PCONV. -/

/-- The width of the elements of a type code; 0 for the codes that name none. -/
def elemWidth (c : BitVec 4) : Nat :=
  if c = 7#4 ∨ c = 11#4 ∨ c = 15#4 then 0 else
    match (c.extractLsb' 0 2 : BitVec 2) with | 0#2 => 16 | 1#2 => 32 | 2#2 => 64 | _ => 128

theorem elemKind_width (c : BitVec 4) :
    if elemWidth c = 0 then elemKind c = none else (elemKind c).map Prod.snd = some (elemWidth c) := by
  revert c
  decide
/-- Where a vector of some width can be converted. -/
def Converts (src dst : BitVec 4) (bits : Nat) : Prop :=
  elemWidth src ≠ 0 ∧ elemWidth dst ≠ 0 ∧ 1 ≤ min (bits / elemWidth src) (bits / elemWidth dst) ∧
    min (bits / elemWidth src) (bits / elemWidth dst) ≤ 4
/-- The elements put beside each other: what they add to what stands there. -/
theorem foldl_lanes (x : Nat → Nat) (w acc c : Nat) :
    ∃ y, y < 2 ^ (w * c) ∧ (List.range c).foldl (fun acc k => acc + x k % 2 ^ w * 2 ^ (w * k)) acc = acc + y := by
  induction c with
  | zero => exact ⟨0, by simp, rfl⟩
  | succ c ih =>
    obtain ⟨y, hy, hfold⟩ := ih
    have hx : x c % 2 ^ w < 2 ^ w := Nat.mod_lt _ (Nat.two_pow_pos _)
    refine ⟨y + x c % 2 ^ w * 2 ^ (w * c), ?_, ?_⟩
    · calc y + x c % 2 ^ w * 2 ^ (w * c) < 2 ^ (w * c) + x c % 2 ^ w * 2 ^ (w * c) := Nat.add_lt_add_right hy _
        _ = (x c % 2 ^ w + 1) * 2 ^ (w * c) := by ring
        _ ≤ 2 ^ w * 2 ^ (w * c) := Nat.mul_le_mul_right _ hx
        _ = 2 ^ (w * (c + 1)) := by rw [← Nat.pow_add]; congr 1; ring
    · rw [List.range_succ, List.foldl_append, hfold, List.foldl_cons, List.foldl_nil, Nat.add_assoc]
/-- Free bits above, elements below. -/
theorem above_add_lt {free bits k y : Nat} (hk : k ≤ bits) (hy : y < 2 ^ k) : free % 2 ^ bits / 2 ^ k * 2 ^ k + y < 2 ^ bits := by
  have hsplit : 2 ^ bits = 2 ^ (bits - k) * 2 ^ k := by rw [← Nat.pow_add, Nat.sub_add_cancel hk]
  have hq : free % 2 ^ bits / 2 ^ k < 2 ^ (bits - k) :=
    (Nat.div_lt_iff_lt_mul (Nat.two_pow_pos k)).2 (hsplit ▸ Nat.mod_lt _ (Nat.two_pow_pos _))
  calc free % 2 ^ bits / 2 ^ k * 2 ^ k + y < (free % 2 ^ bits / 2 ^ k + 1) * 2 ^ k := by rw [Nat.succ_mul]; omega
    _ ≤ 2 ^ (bits - k) * 2 ^ k := Nat.mul_le_mul_right _ hq
    _ = 2 ^ bits := hsplit.symm
theorem elemKind_of_width {c : BitVec 4} (h : elemWidth c ≠ 0) : ∃ k, elemKind c = some (k, elemWidth c) := by
  have hwidth := elemKind_width c
  rw [if_neg h, Option.map_eq_some_iff] at hwidth
  obtain ⟨⟨k, w⟩, hkind, rfl⟩ := hwidth
  exact ⟨k, hkind⟩
theorem elemKind_of_zero {c : BitVec 4} (h : elemWidth c = 0) : elemKind c = none := by
  have hwidth := elemKind_width c
  rwa [if_pos h] at hwidth
theorem convLanes_of_converts {src dst : BitVec 4} {bits : Nat} (h : Converts src dst bits) (v free : Nat) :
    ∃ r, r < 2 ^ bits ∧ convLanes src dst bits v free = some r := by
  obtain ⟨hs, hd, hlo, hhi⟩ := h
  obtain ⟨sk, hsrc⟩ := elemKind_of_width hs
  obtain ⟨dk, hdst⟩ := elemKind_of_width hd
  obtain ⟨y, hy, hfold⟩ := foldl_lanes
    (fun k => convElem src dst sk (elemWidth src) dk (elemWidth dst) (v / 2 ^ (elemWidth src * k) % 2 ^ elemWidth src)
      (free / 2 ^ (elemWidth dst * k))) (elemWidth dst)
    (free % 2 ^ bits / 2 ^ (elemWidth dst * min (bits / elemWidth src) (bits / elemWidth dst)) *
      2 ^ (elemWidth dst * min (bits / elemWidth src) (bits / elemWidth dst)))
    (min (bits / elemWidth src) (bits / elemWidth dst))
  refine ⟨_, above_add_lt (free := free) ?_ hy, ?_⟩
  · exact (Nat.mul_le_mul_left _ (min_le_right _ _)).trans (Nat.mul_div_le _ _)
  · rw [← hfold, convLanes, hsrc, hdst]
    refine if_neg ?_
    rw [Bool.or_eq_true, decide_eq_true_eq, decide_eq_true_eq]
    omega
theorem convLanes_of_not {src dst : BitVec 4} {bits : Nat} (h : ¬ Converts src dst bits) (v free : Nat) :
    convLanes src dst bits v free = none := by
  rw [convLanes]
  by_cases hs : elemWidth src = 0
  · rw [elemKind_of_zero hs]
  by_cases hd : elemWidth dst = 0
  · rw [elemKind_of_zero hd]
    split <;> simp_all
  obtain ⟨sk, hsrc⟩ := elemKind_of_width hs
  obtain ⟨dk, hdst⟩ := elemKind_of_width hd
  rw [hsrc, hdst]
  refine if_pos ?_
  by_contra hc
  rw [Bool.or_eq_true, decide_eq_true_eq, decide_eq_true_eq] at hc
  exact h ⟨hs, hd, Nat.one_le_iff_ne_zero.2 fun h0 => hc (.inl h0), Nat.not_lt.1 fun h4 => hc (.inr h4)⟩

end

section

variable {i : Instr} {m n : Reg} {s : State}

/-- A store conversion: what is placed of a free element. -/
theorem fpTo_gives {dst src : Config.FpFmt} {op : Config.FpOp} {ins : List Nat} {place : Nat → Word} {P : Word → Prop}
    (hi : exec i s = fpTo dst src op 0#8 ins place n s) (h : ∀ free, P (place (fpElemFrom src dst op 0#8 ins free))) :
    GivesFp i 1 n s P :=
  (fpTo_completes hi h).1 rfl
theorem fstcf_gives : GivesFp (.fstcf m n) 1 n s (fun v => v.toNat < 2 ^ 32 ∧
    ∃ free, lane32 v 0 = BitVec.ofNat 32 (fpElemFrom .double .single .convert 0#8 [(getReg s m).toNat] free)) :=
  fpTo_gives (op := .convert) (place := fun r => 0#32 ++ BitVec.ofNat 32 r) rfl
    fun free => ⟨toNat_zero_append_lt _, free, (lane32_append _ _).2⟩
theorem fstchf_gives : GivesFp (.fstchf m n) 1 n s (fun v => lane32 v 0 = lane32 (getReg s n) 0 ∧
    ∃ free, lane32 v 1 = BitVec.ofNat 32 (fpElemFrom .double .single .convert 0#8 [(getReg s m).toNat] free)) :=
  fpTo_gives (op := .convert) (place := fun r => BitVec.ofNat 32 r ++ lane32 (getReg s n) 0) rfl
    fun free => ⟨(lane32_append _ _).2, free, (lane32_append _ _).1⟩
theorem lane16_zero_append (x : Half) : lane16 (0#48 ++ x) 0 = x := by
  change slice (0#48 ++ x) 0 16 = x
  simp
theorem fstch_gives : GivesFp (.fstch m n) 1 n s (fun v => v.toNat < 2 ^ 16 ∧
    ∃ free, lane16 v 0 = BitVec.ofNat 16 (fpElemFrom .double .half .convert 0#8 [(getReg s m).toNat] free)) :=
  fpTo_gives (op := .convert) (place := fun r => 0#48 ++ BitVec.ofNat 16 r) rfl
    fun free => ⟨toNat_zero_append_lt _, free, lane16_zero_append _⟩

/-- FSTCI: the integer part in range; a free value elsewhere. -/
theorem fstci_gives (he : (getReg s m).toNat / 2 ^ 52 % 2 ^ 11 < 1086)
    (h0 : (getReg s m).toNat / 2 ^ 52 % 2 ^ 11 = 0 → (getReg s m).toNat % 2 ^ 52 = 0) :
    Gives (.fstci m n) n s (fun v => v.toInt = (if (getReg s m).getLsbD 63 then -1 else 1) * (doubleTrunc (getReg s m).toNat : Int)) := by
  have hz := dyadicTrunc_double (getReg s m).toNat
  rw [fpSign_double] at hz
  have habs := natAbs_signed ((getReg s m).getLsbD 63) (doubleTrunc (getReg s m).toNat)
  have hlt := doubleTrunc_lt he
  have hspecial : fpSpecial (fmtOf .double) (getReg s m).toNat = false :=
    fpSpecial_eq_false_iff.2 fun h => absurd (h ▸ he : 2 ^ 11 - 1 < 1086) (by decide)
  have hdenormal : fpDenormal (fmtOf .double) (getReg s m).toNat = false := by
    have hfrac : fpFrac (fmtOf .double) (getReg s m).toNat = (getReg s m).toNat % 2 ^ 52 := by simp [fpFrac, fmtOf]
    rw [← Bool.not_eq_true, fpDenormal, Bool.and_eq_true, beq_iff_eq, bne_iff_ne, hfrac]
    exact fun h => h.2 (h0 h.1)
  rw [← habs, ← hz] at hlt
  refine .of_retire (if_neg ?_) ((toInt_ofInt_of_natAbs_lt hlt).trans hz)
  rw [hspecial, hdenormal, decide_eq_false (Nat.not_le.2 hlt)]
  decide
theorem fstci_free (he : 1086 ≤ (getReg s m).toNat / 2 ^ 52 % 2 ^ 11 ∨
    ((getReg s m).toNat / 2 ^ 52 % 2 ^ 11 = 0 ∧ (getReg s m).toNat % 2 ^ 52 ≠ 0)) :
    GivesFree (.fstci m n) 1 n s (fun v => v = Config.draw s.draws) := by
  refine .of_retire_drawn (if_pos ?_) rfl
  rw [Bool.or_eq_true, Bool.or_eq_true, decide_eq_true_iff]
  rcases he with he | ⟨he, hm⟩
  · refine .inr ?_
    rw [dyadicTrunc_double, natAbs_signed]
    exact le_doubleTrunc he
  · refine .inl (.inr ?_)
    have hfrac : fpFrac (fmtOf .double) (getReg s m).toNat = (getReg s m).toNat % 2 ^ 52 := by simp [fpFrac, fmtOf]
    rw [fpDenormal, Bool.and_eq_true, beq_iff_eq, bne_iff_ne, hfrac]
    exact ⟨he, hm⟩

theorem GivesPair.of_retire_drawnN {k : Nat} {p : Pair} {ps : List Pair} {v : Quad} {P : Quad → Prop}
    (hi : exec i s = withPairs ps (retire (setPair (drawnN k s) p v))) (h : P v) : GivesPair i ps k p s P :=
  ⟨fun hps => ⟨v, hi.trans ((withPairs_eq hps).trans (retire_setPair _ p v)), h⟩, fun hps => hi.trans (withPairs_refused hps)⟩

/-! PCONV, where its elements convert and where not. -/

variable {b : Byte} {p q : Pair} {r : Nat}

theorem exec_pconv_some (h : convLanes (b.extractLsb' 0 4) (b.extractLsb' 4 4) 64 (getReg s m).toNat (freeNat s 0) = some r) :
    exec (.pconv m b n) s = retire (setReg (drawn s) n (BitVec.ofNat 64 r)) := by
  change execPconv m b n s = _
  rw [execPconv, slice, slice, h]
theorem exec_pconv_none (h : convLanes (b.extractLsb' 0 4) (b.extractLsb' 4 4) 64 (getReg s m).toNat (freeNat s 0) = none) :
    exec (.pconv m b n) s = .next (s.trapped .undefinedInstruction none) := by
  change execPconv m b n s = _
  rw [execPconv, slice, slice, h]
  exact raise_eq _ _
theorem exec_pconvx_some (h : convLanes (b.extractLsb' 0 4) (b.extractLsb' 4 4) 128 (getPair s p).toNat (freeQuad s).toNat = some r) :
    exec (.pconvx p b q) s = withPairs [p, q] (retire (setPair (drawnN 2 s) q (BitVec.ofNat 128 r))) := by
  change execPconvx p b q s = _
  rw [execPconvx, slice, slice, h]
  rfl
theorem exec_pconvx_none (hps : [p, q].all pairAllowed = true)
    (h : convLanes (b.extractLsb' 0 4) (b.extractLsb' 4 4) 128 (getPair s p).toNat (freeQuad s).toNat = none) :
    exec (.pconvx p b q) s = .next (s.trapped .undefinedInstruction none) := by
  change execPconvx p b q s = _
  rw [execPconvx, slice, slice, h, withPairs_eq hps]
  exact raise_eq _ _

end

/-- Settles O55: widening by the fields, integers by `fpExactInt`, and the elements of PCONV below the width. -/
theorem floatingPointConversions : Obligations.FloatingPointConversions := by
  intro m n h f i p q s a ofS ofH exact near e whole kind ok
  refine ⟨.of_retire rfl (toNat_singleToDouble _), .of_retire rfl (toNat_singleToDouble _), .of_retire rfl (toNat_halfToDouble _),
    .of_retire rfl ⟨_, toNat_halfToDouble _, toNat_longHalf h⟩, .of_retire rfl (toNat_singleToDouble _),
    ⟨_, _, rfl, _, rfl⟩, ⟨_, _, rfl, _, rfl⟩, .of_retire rfl (double_of_int ?int), .of_retire rfl (double_of_int ?nat),
    fstcf_gives, fstchf_gives, fstch_gives, fun he h0 => ?trunc, fun he => ?free, fun hok => ?pconv, fun hok => ?pconvNot,
    fun hok => ?pconvx, fun hps hok => ?pconvxNot⟩
  case int =>
    have hz := BitVec.toInt_lt (x := lane32 (getReg s m) 0)
    have hz' := BitVec.le_toInt (x := lane32 (getReg s m) 0)
    omega
  case nat =>
    have hz := (lane32 (getReg s m) 0).isLt
    omega
  case trunc => exact fstci_gives he h0
  case free => exact fstci_free he
  case pconv =>
    obtain ⟨r, hr, hconv⟩ := convLanes_of_converts hok a.toNat (freeNat s 0)
    have hnat : (BitVec.ofNat 64 r).toNat = r := Nat.mod_eq_of_lt hr
    exact .of_retire_drawn (v := BitVec.ofNat 64 r) (exec_pconv_some hconv) ⟨freeNat s 0, by rw [hnat]; exact hconv.symm⟩
  case pconvNot => exact exec_pconv_none (convLanes_of_not hok a.toNat (freeNat s 0))
  case pconvx =>
    obtain ⟨r, hr, hconv⟩ := convLanes_of_converts hok (getPair s p).toNat (freeQuad s).toNat
    have hnat : (BitVec.ofNat 128 r).toNat = r := Nat.mod_eq_of_lt hr
    exact .of_retire_drawnN (v := BitVec.ofNat 128 r) (exec_pconvx_some hconv) ⟨(freeQuad s).toNat, by rw [hnat]; exact hconv.symm⟩
  case pconvxNot => exact exec_pconvx_none hps (convLanes_of_not hok (getPair s p).toNat (freeQuad s).toNat)

end Sys2Proof.Machine

/-! ### Packed conversions (48_gsv_media.md R705 to R718; 49_gfp.md R1051 to R1069) -/

namespace Sys2Proof.Machine

open Sys2Proof

section

/-! Lanes of values put together from bytes. -/

variable {k : Nat}

/-- Two Words under zeros. -/
theorem lane16_zero_append_two (h l : Half) (hk : k < 2) : lane16 (0#32 ++ h ++ l) k = if k = 0 then l else h := by
  change slice (0#32 ++ h ++ l) (16 * k) 16 = _
  interval_cases k <;> simp
theorem toNat_zero_append_two_lt (h l : Half) : (0#32 ++ h ++ l).toNat < 2 ^ 32 := by
  have hh := h.isLt
  have hl := l.isLt
  rw [toNat_append', toNat_append', BitVec.toNat_zero]
  omega

/-! The bits of the result of R705 to R718. -/

/-- XOR by the top bit is addition of it. -/
theorem toNat_xor_top {w : Nat} (x : BitVec (w + 1)) : (x ^^^ BitVec.ofNat (w + 1) (2 ^ w)).toNat = (x.toNat + 2 ^ w) % 2 ^ (w + 1) := by
  have hpow : 2 ^ (w + 1) = 2 ^ w + 2 ^ w := by rw [Nat.pow_succ]; omega
  have hx := x.isLt
  have htop : (BitVec.ofNat (w + 1) (2 ^ w)).toNat = 2 ^ w := Nat.mod_eq_of_lt (by omega)
  have hmod : (x.toNat ^^^ 2 ^ w) % 2 ^ w = x.toNat % 2 ^ w := by rw [Nat.xor_mod_two_pow, Nat.mod_self, Nat.xor_zero]
  have hdiv : (x.toNat ^^^ 2 ^ w) / 2 ^ w = x.toNat / 2 ^ w ^^^ 1 := by rw [Nat.xor_div_two_pow, Nat.div_self (Nat.two_pow_pos w)]
  have hsplit := Nat.div_add_mod (x.toNat ^^^ 2 ^ w) (2 ^ w)
  have hsplit' := Nat.div_add_mod x.toNat (2 ^ w)
  rw [hmod, hdiv] at hsplit
  rw [BitVec.toNat_xor, htop, ← hsplit]
  have hq : x.toNat / 2 ^ w < 2 := Nat.div_lt_of_lt_mul (by omega)
  by_cases h : x.toNat / 2 ^ w = 0
  · have hlt : x.toNat < 2 ^ w := by have := Nat.mod_lt x.toNat (Nat.two_pow_pos w); rw [h] at hsplit'; omega
    rw [h, Nat.mod_eq_of_lt hlt, Nat.mod_eq_of_lt (by omega)]
    simp [Nat.add_comm]
  · have h1 : x.toNat / 2 ^ w = 1 := Nat.le_antisymm (Nat.lt_succ_iff.1 hq) (Nat.one_le_iff_ne_zero.2 h)
    rw [h1] at hsplit' ⊢
    have heq : x.toNat + 2 ^ w = x.toNat % 2 ^ w + 2 ^ (w + 1) := by omega
    rw [heq, Nat.add_mod_right, Nat.mod_eq_of_lt (a := x.toNat % 2 ^ w) (by have := Nat.mod_lt x.toNat (Nat.two_pow_pos w); omega)]
    simp

variable (h : Half) (b : Byte)

/-- The exponent field of a Half. -/
def halfExp (h : Nat) : Nat := h / 2 ^ 10 % 2 ^ 5

theorem toNat_halfToFp8 : (halfToFp8 h).toNat = if halfExp h.toNat < 8 then 0 else h.toNat / 2 ^ 15 * 2 ^ 7 +
    if 23 < halfExp h.toNat then 127 else (halfExp h.toNat - 8) * 8 + h.toNat % 2 ^ 10 / 2 ^ 7 := by
  have hh := h.isLt
  rw [halfToFp8, halfExp]
  simp only [toNat_slice]
  split
  · rfl
  · split
    · simp only [toNat_append', toNat_slice, BitVec.toNat_ofNat]
      omega
    · simp only [toNat_append', toNat_slice, BitVec.toNat_ofNat]
      omega
theorem toNat_microToHalf {k : Nat} (hk : k ≤ 10) (neg : Bool) {v : Nat} (hv : v < 2 ^ (4 + k)) : (microToHalf k neg v).toNat =
    if v = 0 then 0 else neg.toNat * 2 ^ 15 + (v / 2 ^ k + 8) * 2 ^ 10 + v % 2 ^ k * 2 ^ (10 - k) := by
  have hq : v / 2 ^ k < 16 := Nat.div_lt_of_lt_mul (by rw [Nat.pow_add, Nat.mul_comm] at hv; exact hv)
  have hm : v % 2 ^ k * 2 ^ (10 - k) < 2 ^ 10 := by
    calc v % 2 ^ k * 2 ^ (10 - k) < 2 ^ k * 2 ^ (10 - k) := Nat.mul_lt_mul_of_pos_right (Nat.mod_lt _ (Nat.two_pow_pos _)) (Nat.two_pow_pos _)
      _ = 2 ^ 10 := by rw [← Nat.pow_add, Nat.add_sub_cancel' hk]
  have hneg : neg.toNat ≤ 1 := by cases neg <;> decide
  rw [microToHalf]
  split
  · rfl
  · rw [BitVec.toNat_ofNat]
    omega
theorem toNat_bitAt_zero {w : Nat} (x : BitVec w) : (bitAt x 0).toNat = x.toNat % 2 := by
  rw [bitAt, BitVec.getLsbD, Nat.testBit_zero]
  rcases Nat.mod_two_eq_zero_or_one x.toNat with h | h <;> simp [h]
theorem toNat_fp8sToHalf : (fp8sToHalf b).toNat =
    if b.toNat / 2 = 0 then 0 else b.toNat % 2 * 2 ^ 15 + (b.toNat / 16 + 8) * 2 ^ 10 + b.toNat / 2 % 8 * 2 ^ 7 := by
  have hb := b.isLt
  rw [fp8sToHalf, toNat_microToHalf (by decide) _ (by omega), toNat_bitAt_zero, Nat.div_div_eq_div_mul]
  rfl
theorem toNat_fp8uToHalf : (fp8uToHalf b).toNat = if b.toNat = 0 then 0 else 0 * 2 ^ 15 + (b.toNat / 16 + 8) * 2 ^ 10 + b.toNat % 16 * 2 ^ 6 := by
  rw [fp8uToHalf, toNat_microToHalf (by decide) _ b.isLt]
  rfl
theorem toNat_bitAt_top : (bitAt h 15).toNat = h.toNat / 2 ^ 15 := by
  have hh := h.isLt
  by_cases htop : 2 ^ 15 ≤ h.toNat
  · rw [bitAt_top, decide_eq_true htop, Bool.toNat_true]
    omega
  · rw [bitAt_top, decide_eq_false htop, Bool.toNat_false]
    omega
theorem halfToMicro_eq (k : Nat) : halfToMicro k h =
    if halfExp h.toNat < 8 then 0 else if 23 < halfExp h.toNat then 2 ^ (4 + k) - 1
    else (halfExp h.toNat - 8) * 2 ^ k + h.toNat % 2 ^ 10 / 2 ^ (10 - k) := by
  rw [halfToMicro, toNat_slice, toNat_slice, pow_zero, Nat.div_one]
  rfl
theorem toNat_halfToFp8s : (halfToFp8s h).toNat = if halfExp h.toNat < 8 then 0 else h.toNat / 2 ^ 15 +
    if 23 < halfExp h.toNat then 254 else 2 * ((halfExp h.toNat - 8) * 8 + h.toNat % 2 ^ 10 / 2 ^ 7) := by
  have hh := h.isLt
  rw [halfToFp8s, halfToMicro_eq, toNat_bitAt_top]
  have hexp : (slice h 10 5).toNat = halfExp h.toNat := toNat_slice _ _ _
  rw [hexp]
  split
  · rfl
  · rw [BitVec.toNat_ofNat]
    split <;> omega
theorem toNat_halfToFp8u : (halfToFp8u h).toNat = if 2 ^ 15 ≤ h.toNat ∨ halfExp h.toNat < 8 then 0
    else if 23 < halfExp h.toNat then 255 else (halfExp h.toNat - 8) * 16 + h.toNat % 2 ^ 10 / 2 ^ 6 := by
  rw [halfToFp8u, bitAt_top, halfToMicro_eq]
  by_cases hs : 2 ^ 15 ≤ h.toNat
  · rw [if_pos (decide_eq_true hs), if_pos (.inl hs)]
    rfl
  · rw [if_neg (by rwa [decide_eq_true_iff]), BitVec.toNat_ofNat]
    split
    · next h8 => rw [if_pos (.inr h8)]
    · next h8 =>
      rw [if_neg (not_or.2 ⟨hs, h8⟩)]
      split <;> omega

/-! PCVT (R1051 to R1069). -/

variable (e : Half) (v x : Word)

/-- A value shifted up under a pattern that leaves its place free. -/
theorem toNat_or_shiftLeft {w n k : Nat} {e : BitVec w} {y : BitVec n} (hnw : n + k ≤ w) (he : e.toNat % 2 ^ (n + k) = 0) :
    (e ||| (y.setWidth w <<< k)).toNat = e.toNat + y.toNat * 2 ^ k := by
  have hy : y.toNat * 2 ^ k < 2 ^ (n + k) := by rw [Nat.pow_add]; exact Nat.mul_lt_mul_of_pos_right y.isLt (Nat.two_pow_pos k)
  have hw : 2 ^ (n + k) ≤ 2 ^ w := Nat.pow_le_pow_right two_pos hnw
  have hn : 2 ^ n ≤ 2 ^ w := Nat.pow_le_pow_right two_pos (by omega)
  have hshift : (y.setWidth w <<< k).toNat = y.toNat * 2 ^ k := by
    rw [BitVec.toNat_shiftLeft, BitVec.toNat_setWidth, Nat.mod_eq_of_lt (y.isLt.trans_le hn), Nat.shiftLeft_eq,
      Nat.mod_eq_of_lt (hy.trans_le hw)]
  rw [toNat_or_disjoint he (by rwa [hshift]), hshift]
theorem toNat_halfToALaw : (halfToALaw h).toNat =
    if halfExp h.toNat = 7 then (Config.alawEncodeLow h).toNat
    else if halfExp h.toNat < 7 then (if Config.alawTinySigned then h.toNat / 2 ^ 15 * 2 ^ 7 else 0)
    else h.toNat / 2 ^ 15 * 2 ^ 7 + if 15 ≤ halfExp h.toNat then 127 else (halfExp h.toNat - 7) * 16 + h.toNat % 2 ^ 10 / 2 ^ 6 := by
  have hh := h.isLt
  have hexp : (slice h 10 5).toNat = halfExp h.toNat := toNat_slice _ _ _
  have hmod : halfExp h.toNat = h.toNat / 2 ^ 10 % 2 ^ 5 := rfl
  rw [halfToALaw, hexp]
  by_cases h15 : 15 ≤ halfExp h.toNat
  · rw [if_pos h15, if_neg (by omega), if_neg (by omega), if_pos h15]
    simp only [toNat_append', toNat_slice, BitVec.toNat_ofNat]
    omega
  rw [if_neg h15, if_neg h15]
  by_cases h7 : halfExp h.toNat < 7
  · rw [if_pos h7, if_pos h7, if_neg (show ¬ halfExp h.toNat = 7 by omega)]
    by_cases hs : Config.alawTinySigned = true
    · rw [if_pos hs, if_pos hs]
      simp only [toNat_append', toNat_slice, BitVec.toNat_ofNat]
      omega
    · rw [if_neg hs, if_neg hs]
      rfl
  rw [if_neg h7, if_neg h7]
  by_cases heq : halfExp h.toNat = 7
  · rw [if_pos heq, if_pos heq]
  · rw [if_neg heq, if_neg heq]
    simp only [toNat_append', toNat_slice, BitVec.toNat_ofNat]
    omega
theorem toNat_aLawToHalf : (aLawToHalf b).toNat = if b.toNat / 16 % 8 = 0 then (Config.alawDecodeLow b).toNat
    else b.toNat / 2 ^ 7 * 2 ^ 15 + (b.toNat / 16 % 8 + 7) * 2 ^ 10 + b.toNat % 16 * 2 ^ 6 := by
  have hb := b.isLt
  have hexp : (slice b 4 3).toNat = b.toNat / 16 % 8 := toNat_slice _ _ _
  rw [aLawToHalf, hexp]
  split
  · rfl
  · simp only [toNat_append', toNat_slice, BitVec.toNat_ofNat]
    omega
/-- A Half with five more fraction bits (R709, R710). -/
theorem toNat_extHalf (x : BitVec 5) : (extHalf h x).toNat = widened (fmtOf .half) (fmtOf .single) h.toNat + x.toNat * 2 ^ 8 := by
  have hwide : (halfToSingle h).toNat % 2 ^ (5 + 8) = 0 := by
    rw [toNat_halfToSingle]
    simp only [widened, fmtOf]
    omega
  rw [extHalf, toNat_or_shiftLeft (by decide) hwide, toNat_halfToSingle]

end

section

/-! PSTC.H: a Single cut to a Half (R711). -/

/-- The exponent and the fraction of a Single. -/
def singleExp (v : Nat) : Nat := v / 2 ^ 23 % 2 ^ 8
def singleFrac (v : Nat) : Nat := v % 2 ^ 23

variable {v free : Nat}

/-- The exact value of a normal Single. -/
theorem exactOf_single (he : singleExp v ≠ 0) : exactOf (dyadicOf (fmtOf .single) v) =
    { neg := fpSign (fmtOf .single) v, num := 2 ^ 23 + singleFrac v, den := 1, e := (singleExp v : Int) - 150, root := false } := by
  have hfrac : fpFrac (fmtOf .single) v = singleFrac v := by simp [fpFrac, fmtOf, singleFrac]
  have hexp : fpExp (fmtOf .single) v = singleExp v := rfl
  have hbias : (fpExp (fmtOf .single) v : Int) - fpBias (fmtOf .single) - (fmtOf .single).frac = singleExp v - 150 := by
    rw [hexp]
    change (singleExp v : Int) - 127 - 23 = _
    omega
  rw [exactOf, dyadicOf, hbias, hexp, hfrac, if_neg he]
  rfl

section

variable (neg : Bool) {m : Nat} {e : Int} (hm : m < 2 ^ 23)

include hm

theorem single_size_bounds : (2 : ℝ) ^ (e + 23) ≤ (2 ^ 23 + m : Nat) * 2 ^ e ∧ ((2 ^ 23 + m : Nat) : ℝ) * 2 ^ e < 2 ^ (e + 23 + 1) := by
  have hpos := two_zpow_pos e
  have hlo : ((2 : ℝ) ^ (23 : Int)) ≤ ((2 ^ 23 + m : Nat) : ℝ) := by
    rw [show ((23 : Int)) = ((23 : Nat) : Int) by rfl, zpow_natCast]
    exact_mod_cast Nat.le_add_right _ _
  have hhi : ((2 ^ 23 + m : Nat) : ℝ) < 2 ^ (24 : Int) := by
    rw [show ((24 : Int)) = ((24 : Nat) : Int) by rfl, zpow_natCast]
    have : 2 ^ 23 + m < 2 ^ 24 := by omega
    exact_mod_cast this
  rw [two_zpow_add, show e + 23 + 1 = e + 24 by omega, two_zpow_add e 24, mul_comm ((2 : ℝ) ^ e), mul_comm ((2 : ℝ) ^ e)]
  exact ⟨mul_le_mul_of_nonneg_right hlo hpos.le, mul_lt_mul_of_pos_right hhi hpos⟩
theorem exactLog_single : exactLog { neg := neg, num := 2 ^ 23 + m, den := 1, e := e, root := false } = e + 23 := by
  have hsize : Exact.size { neg := neg, num := 2 ^ 23 + m, den := 1, e := e, root := false } = (2 ^ 23 + m : Nat) * 2 ^ e := by
    simp [Exact.size]
  obtain ⟨hlo, hhi⟩ := single_size_bounds (e := e) hm
  exact exactLog_unique one_pos (by rwa [hsize]) (by rwa [hsize])
theorem fpUnderflow_single : fpUnderflow (fmtOf .half) { neg := neg, num := 2 ^ 23 + m, den := 1, e := e, root := false } = true ↔
    e + 23 < -14 := by
  have hsize : Exact.size { neg := neg, num := 2 ^ 23 + m, den := 1, e := e, root := false } = (2 ^ 23 + m : Nat) * 2 ^ e := by
    simp [Exact.size]
  obtain ⟨hlo, hhi⟩ := single_size_bounds (e := e) hm
  rw [fpUnderflow_iff one_pos, hsize]
  change _ < (2 : ℝ) ^ (-14 : Int) ↔ _
  constructor
  · intro h
    exact zpow_two_lt_zpow_iff.1 (hlo.trans_lt h)
  · intro h
    exact hhi.trans_le (zpow_two_le_zpow (by omega))
theorem fpOverflow_single : fpOverflow (fmtOf .half) { neg := neg, num := 2 ^ 23 + m, den := 1, e := e, root := false } = true ↔
    15 < e + 23 ∨ (e + 23 = 15 ∧ 0x7FE000 < m) := by
  have hsize : Exact.size { neg := neg, num := 2 ^ 23 + m, den := 1, e := e, root := false } = (2 ^ 23 + m : Nat) * 2 ^ e := by
    simp [Exact.size]
  obtain ⟨hlo, hhi⟩ := single_size_bounds (e := e) hm
  rw [fpOverflow_iff (by decide) one_pos, hsize]
  change ((2 ^ 11 - 1 : Nat) : ℝ) * 2 ^ (5 : Int) < _ ↔ _
  rcases lt_trichotomy (e + 23) 15 with h | h | h
  · refine iff_of_false (not_lt.2 (hhi.le.trans ((zpow_two_le_zpow (by omega : e + 23 + 1 ≤ 15)).trans ?_))) (by omega)
    norm_num
  · have he : e = -8 := by omega
    subst he
    have hpow : (2 : ℝ) ^ (-8 : Int) = 1 / 256 := by norm_num
    have hcast : ((2 ^ 11 - 1 : Nat) : ℝ) * 2 ^ (5 : Int) = 65504 := by norm_num
    rw [hpow, hcast, mul_one_div, lt_div_iff₀ (by norm_num)]
    have hnat : (65504 * 256 : ℝ) < ((2 ^ 23 + m : Nat) : ℝ) ↔ 65504 * 256 < 2 ^ 23 + m := by
      rw [← Nat.cast_lt (α := ℝ)]
      norm_num
    rw [hnat]
    omega
  · refine iff_of_true (lt_of_lt_of_le ?_ ((zpow_two_le_zpow (by omega : 16 ≤ e + 23)).trans hlo)) (.inl h)
    norm_num
theorem fpTruncate_single : fpTruncate (fmtOf .half) { neg := neg, num := 2 ^ 23 + m, den := 1, e := e, root := false } =
    fpPack (fmtOf .half) neg (e + 23 + 15).toNat (m / 2 ^ 13) := by
  have hfloor : exactFloor { neg := neg, num := 2 ^ 23 + m, den := 1, e := e, root := false } ((10 : Nat) - (e + 23)) = 2 ^ 10 + m / 2 ^ 13 := by
    rw [exactFloor, if_neg Bool.false_ne_true]
    have hd : e + (((10 : Nat) : Int) - (e + 23)) = -13 := by omega
    simp only [hd]
    rw [if_neg (by decide)]
    change (2 ^ 23 + m) / (1 * 2 ^ 13) = _
    omega
  rw [fpTruncate, exactLog_single neg hm]
  change fpEncode _ _ (exactFloor _ ((10 : Nat) - (e + 23))) _ = _
  rw [hfloor, fpEncode, if_neg (by change 2 ^ 10 + m / 2 ^ 13 ≠ 2 ^ 11; omega)]
  change fpPack _ _ _ ((2 ^ 10 + m / 2 ^ 13 - 2 ^ 10) * 2 ^ 0) = _
  rw [Nat.add_sub_cancel_left, pow_zero, Nat.mul_one]
  rfl

end

/-- R711 cuts a Single too large for a Half. -/
abbrev SingleTooLarge (v : Nat) : Prop := 142 < singleExp v ∨ (singleExp v = 142 ∧ 0x7FE000 < singleFrac v)

section

variable (hv : v < 2 ^ 32)

include hv

theorem toNat_fpSign_single : (fpSign (fmtOf .single) v).toNat = v / 2 ^ 31 := toNat_fpSign hv
omit hv in
theorem fpPlain_single (he : singleExp v ≠ 0) (he' : singleExp v ≠ 255) :
    (fpSpecial (fmtOf .single) v || fpDenormal (fmtOf .single) v) = false := by
  rw [Bool.or_eq_false_iff]
  refine ⟨fpSpecial_eq_false_iff.2 he', ?_⟩
  have hexp : (fpExp (fmtOf .single) v == 0) = false := beq_eq_false_iff_ne.2 he
  rw [fpDenormal, hexp, Bool.false_and]
omit hv in
/-- A normal Single narrowed (R787). -/
theorem fpNarrowTrunc_normal (he : singleExp v ≠ 0) (he' : singleExp v ≠ 255) : fpNarrowTrunc .single .half v free =
    if SingleTooLarge v then fpInf (fmtOf .half) (fpSign (fmtOf .single) v)
    else if singleExp v < 113 then fpFreeZero (fmtOf .half) free
    else fpPack (fmtOf .half) (fpSign (fmtOf .single) v) (singleExp v - 112) (singleFrac v / 2 ^ 13) := by
  have hm : singleFrac v < 2 ^ 23 := Nat.mod_lt _ (by decide)
  have hover := fpOverflow_single (fpSign (fmtOf .single) v) (e := (singleExp v : Int) - 150) hm
  have hunder := fpUnderflow_single (fpSign (fmtOf .single) v) (e := (singleExp v : Int) - 150) hm
  have hlarge : SingleTooLarge v ↔ 15 < (singleExp v : Int) - 150 + 23 ∨ ((singleExp v : Int) - 150 + 23 = 15 ∧ 0x7FE000 < singleFrac v) := by
    rw [SingleTooLarge]
    omega
  have hsmall : singleExp v < 113 ↔ (singleExp v : Int) - 150 + 23 < -14 := by omega
  rw [fpNarrowTrunc]
  simp only [exactOf_single he]
  rw [if_neg (by rw [fpPlain_single he he']; decide), if_neg (by omega)]
  by_cases h1 : SingleTooLarge v
  · rw [if_pos h1, if_pos (hover.2 (hlarge.1 h1))]
  rw [if_neg h1, if_neg fun h => h1 (hlarge.2 (hover.1 h))]
  by_cases h2 : singleExp v < 113
  · rw [if_pos h2, if_pos (hunder.2 (hsmall.1 h2))]
  rw [if_neg h2, if_neg fun h => h2 (hsmall.2 (hunder.1 h)), fpTruncate_single _ hm]
  congr 1
  omega
omit hv in
theorem fpFreeZero_half_mod : (BitVec.ofNat 16 (fpFreeZero (fmtOf .half) free)).toNat % 2 ^ 15 = 0 := by
  rw [fpFreeZero, fpPack]
  cases free % 2 == 1 <;> rfl
/-- The three cases of R711 (49_gfp.md R787). -/
theorem toNat_narrowTrunc_half :
    (112 < singleExp v → ¬ SingleTooLarge v → (BitVec.ofNat 16 (fpNarrowTrunc .single .half v free)).toNat =
      v / 2 ^ 31 * 2 ^ 15 + (singleExp v - 112) * 2 ^ 10 + singleFrac v / 2 ^ 13) ∧
    (SingleTooLarge v → singleExp v ≠ 255 →
      (BitVec.ofNat 16 (fpNarrowTrunc .single .half v free)).toNat = v / 2 ^ 31 * 2 ^ 15 + 31 * 2 ^ 10 + 0) ∧
    (singleExp v ≤ 112 → (singleExp v = 0 → singleFrac v = 0) →
      (BitVec.ofNat 16 (fpNarrowTrunc .single .half v free)).toNat % 2 ^ 15 = 0) := by
  have hsign : (fpSign (fmtOf .single) v).toNat = v / 2 ^ 31 := toNat_fpSign_single hv
  have hm : singleFrac v < 2 ^ 23 := Nat.mod_lt _ (by decide)
  refine ⟨fun he hsmall => ?_, fun hlarge he => ?_, fun he h0 => ?_⟩
  · have hle : singleExp v ≤ 142 := Nat.not_lt.1 fun h => hsmall (.inl h)
    rw [fpNarrowTrunc_normal (by omega) (by omega), if_neg hsmall, if_neg (by omega), fpPack, hsign, BitVec.toNat_ofNat]
    simp only [fmtOf]
    omega
  · have hle : 142 ≤ singleExp v := hlarge.elim le_of_lt fun h => h.1.ge
    rw [fpNarrowTrunc_normal (by omega) he, if_pos hlarge, fpInf, fpPack, hsign, BitVec.toNat_ofNat]
    simp only [fmtOf]
    omega
  · by_cases hz : singleExp v = 0
    · have hfrac : fpFrac (fmtOf .single) v = 0 := by rw [← h0 hz]; simp [fpFrac, fmtOf, singleFrac]
      have hspecial : fpSpecial (fmtOf .single) v = false := fpSpecial_eq_false_iff.2 fun h => by
        rw [show v / 2 ^ (fmtOf .single).frac % 2 ^ (fmtOf .single).exp = singleExp v from rfl, hz] at h
        exact absurd h (by decide)
      have hdenormal : fpDenormal (fmtOf .single) v = false := by rw [fpDenormal, hfrac]; simp
      have hnum : (exactOf (dyadicOf (fmtOf .single) v)).num = 0 := by
        rw [exactOf, dyadicOf, show fpExp (fmtOf .single) v = 0 from hz, if_pos rfl]
      rw [fpNarrowTrunc]
      simp only [hspecial, hdenormal, hnum]
      rw [if_neg (by decide), if_pos trivial, fpFreeZero_half_mod]
    · have hsmall : ¬ SingleTooLarge v := by rw [SingleTooLarge]; omega
      rw [fpNarrowTrunc_normal hz (by omega), if_neg hsmall, if_pos (by omega), fpFreeZero_half_mod]

end

end

section

variable {m n : Reg} {s : State}

/-- PSTC.H: both halves by R711. -/
theorem pstcH_gives : GivesFp (.pstcH m n) 2 n s (fun v => v.toNat < 2 ^ 32 ∧ ∀ k, k < 2 →
    ∃ free, lane16 v k = BitVec.ofNat 16 (fpNarrowTrunc .single .half (lane32 (getReg s m) k).toNat free)) := by
  refine ⟨_, _, rfl, toNat_zero_append_two_lt _ _, fun k hk => ⟨freeNat s k, ?_⟩⟩
  rw [lane16_zero_append_two _ _ hk]
  interval_cases k <;> rfl

/-! Fields in the fraction of a fixed exponent (R1052 to R1067). -/

theorem words_byteToHalf {e : Half} {x : Byte} {b : Nat} {v : Word} {g : Nat → Nat} (he : e.toNat % 2 ^ (8 + 2) = 0)
    (h : ∀ k, (lane8 v (b + k) ^^^ x).toNat = g k) : Words (byteToHalf e x b v) fun k => e.toNat + 4 * g k :=
  words_words4 fun k => by rw [toNat_or_shiftLeft (by decide) he, h, Nat.mul_comm]; rfl
theorem dwords_wordToSingle {e : BitVec 32} {x : Half} {b : Nat} {v : Word} {g : Nat → Nat} (he : e.toNat % 2 ^ (16 + 7) = 0)
    (h : ∀ k, (lane16 v (b + k) ^^^ x).toNat = g k) : DWords (wordToSingle e x b v) fun k => e.toNat + 128 * g k :=
  dwords_words2 fun k => by rw [toNat_or_shiftLeft (by decide) he, h, Nat.mul_comm]; rfl
theorem toNat_or_ushiftRight {e w : Half} (he : e.toNat % 2 ^ 10 = 0) : (e ||| (w >>> 6)).toNat = e.toNat + w.toNat / 64 := by
  have hw := w.isLt
  have hshift : (w >>> 6).toNat = w.toNat / 64 := by rw [BitVec.toNat_ushiftRight, Nat.shiftRight_eq_div_pow]
  rw [toNat_or_disjoint he (by rw [hshift]; omega), hshift]
theorem toNat_flip8 (x : Byte) : (x ^^^ 0x80#8).toNat = (x.toNat + 2 ^ 7) % 2 ^ 8 := toNat_xor_top x
theorem toNat_flip16 (x : Half) : (x ^^^ 0x8000#16).toNat = (x.toNat + 2 ^ 15) % 2 ^ 16 := toNat_xor_top x
theorem toNat_byte_of_half (x : Half) : (slice x 2 8).toNat = x.toNat / 4 % 2 ^ 8 := toNat_slice _ _ _
theorem toNat_word_of_single (x : BitVec 32) : (slice x 7 16).toNat = x.toNat / 128 % 2 ^ 16 := toNat_slice _ _ _
theorem toNat_shiftLeft_six (x : Half) : (x <<< 6).toNat = x.toNat * 64 % 2 ^ 16 := by
  rw [BitVec.toNat_shiftLeft, Nat.shiftLeft_eq]

end

/-- Settles O57: the fields of each lane, PSTC.H by `toNat_narrowTrunc_half`. -/
theorem packedConversions : Obligations.PackedConversions := by
  intro m n i s a w l b ex half wide fp8s fp8u byte flip8 flip16
  have hslice8 (k : Nat) : (slice i (8 * k) 8).toNat = byte k := toNat_slice _ _ _
  have hext (k j c : Nat) : (extHalf (lane16 a k) (slice a c 5)).toNat = wide (w k) + a.toNat / 2 ^ c % 2 ^ 5 * 2 ^ 8 := by
    rw [toNat_extHalf, toNat_slice]
    rfl
  have hflip8 (x : Nat) : (x % 2 ^ 8 + 2 ^ 7) % 2 ^ 8 = flip8 x := Nat.mod_add_mod _ _ _
  have hflip16 (x : Nat) : (x % 2 ^ 16 + 2 ^ 15) % 2 ^ 16 = flip16 x := Nat.mod_add_mod _ _ _
  refine ⟨.of_retire rfl (lowBytes_bytes4 fun k => toNat_halfToFp8 _), .of_retire rfl (words_words4 fun k => toNat_fp8ToHalf _),
    .of_retire rfl (dwords_words2 fun k => toNat_halfToSingle _), .of_retire rfl (dwords_words2 fun k => toNat_halfToSingle _),
    .of_retire rfl fun k hk => ?extLow, .of_retire rfl ((toNat_zero_append _).trans (hext 2 0 58)), ?narrow,
    .of_retire rfl (dwords_words2 fun k => ?immSingle),
    .of_retire rfl (words_words4 fun k => toNat_fp8sToHalf _), .of_retire rfl (words_words4 fun k => toNat_fp8uToHalf _),
    .of_retire rfl (words_words4 fun k => ?immSigned), .of_retire rfl (words_words4 fun k => ?immUnsigned),
    .of_retire rfl (lowBytes_bytes4 fun k => toNat_halfToFp8s _), .of_retire rfl (lowBytes_bytes4 fun k => toNat_halfToFp8u _),
    ?sb, ?ub, ?sw, ?uw,
    .of_retire rfl (lowBytes_bytes4 fun k => ?h2sb), .of_retire rfl (lowBytes_bytes4 fun k => toNat_byte_of_half _),
    .of_retire rfl (words_words4 fun k => ?sw2h), .of_retire rfl (words_words4 fun k => toNat_or_ushiftRight (by decide)),
    .of_retire rfl ⟨toNat_zero_append_two_lt _ _, fun k hk => ?f2sw⟩, .of_retire rfl ⟨toNat_zero_append_two_lt _ _, fun k hk => ?f2uw⟩,
    .of_retire rfl (words_words4 fun k => ?h2sw), .of_retire rfl (words_words4 fun k => toNat_shiftLeft_six _),
    .of_retire rfl (lowBytes_bytes4 fun k => toNat_halfToALaw _), .of_retire rfl (words_words4 fun k => toNat_aLawToHalf _)⟩
  case extLow =>
    have hlanes := lane32_append (extHalf (lane16 a 1) (slice a 53 5)) (extHalf (lane16 a 0) (slice a 48 5))
    interval_cases k
    · exact (congrArg BitVec.toNat hlanes.2).trans (hext 0 0 48)
    · exact (congrArg BitVec.toNat hlanes.1).trans (hext 1 0 53)
  case narrow =>
    obtain ⟨v, bits, hv, hlt, hlanes⟩ := pstcH_gives (m := m) (n := n) (s := s)
    refine ⟨v, bits, hv, hlt, fun k hk => ?_⟩
    obtain ⟨free, hfree⟩ := hlanes k hk
    have hcases := toNat_narrowTrunc_half (free := free) (lane32 a k).isLt
    rw [← hfree] at hcases
    exact hcases
  case immSingle =>
    rw [toNat_halfToSingle, toNat_slice]
    rfl
  case immSigned =>
    rw [toNat_fp8sToHalf, hslice8]
  case immUnsigned =>
    rw [toNat_fp8uToHalf, hslice8]
  case sb =>
    exact List.forall_mem_cons.2 ⟨.of_retire rfl (words_byteToHalf (by decide) fun k => toNat_flip8 _),
      List.forall_mem_singleton.2 (.of_retire rfl (words_byteToHalf (by decide) fun k => toNat_flip8 _))⟩
  case ub =>
    exact List.forall_mem_cons.2 ⟨.of_retire rfl (words_byteToHalf (by decide) fun k => congrArg BitVec.toNat BitVec.xor_zero),
      List.forall_mem_singleton.2 (.of_retire rfl (words_byteToHalf (by decide) fun k => congrArg BitVec.toNat BitVec.xor_zero))⟩
  case sw =>
    exact List.forall_mem_cons.2 ⟨.of_retire rfl (dwords_wordToSingle (by decide) fun k => toNat_flip16 _),
      List.forall_mem_singleton.2 (.of_retire rfl (dwords_wordToSingle (by decide) fun k => toNat_flip16 _))⟩
  case uw =>
    exact List.forall_mem_cons.2 ⟨.of_retire rfl (dwords_wordToSingle (by decide) fun k => congrArg BitVec.toNat BitVec.xor_zero),
      List.forall_mem_singleton.2 (.of_retire rfl (dwords_wordToSingle (by decide) fun k => congrArg BitVec.toNat BitVec.xor_zero))⟩
  case h2sb => rw [toNat_flip8, toNat_byte_of_half, hflip8]
  case sw2h => rw [toNat_or_ushiftRight (by decide), toNat_flip16]; rfl
  case f2sw =>
    rw [lane16_zero_append_two _ _ hk]
    interval_cases k <;> exact (toNat_flip16 _).trans ((congrArg (fun x => (x + 2 ^ 15) % 2 ^ 16) (toNat_word_of_single _)).trans (hflip16 _))
  case f2uw =>
    rw [lane16_zero_append_two _ _ hk]
    interval_cases k <;> exact toNat_word_of_single _
  case h2sw => rw [toNat_flip16, toNat_shiftLeft_six, hflip16]

end Sys2Proof.Machine

/-! ### Pixels (48_rgb_blocks.md R720 to R738) -/

namespace Sys2Proof.Machine

open Sys2Proof

section

/-! The components of a pixel as numbers (R720 to R722). -/

variable (p : Half) (c : Nat → Byte) (b : Byte) (k : Nat)

/-- Component k of an RGB555A pixel, read as opaque or as translucent, as a number. -/
def componentNat (opq : Bool) (p k : Nat) : Nat :=
  if k = 3 then (if opq then 255 else 128 * (p / 2 ^ 10 % 2) + 64 * (p / 2 ^ 5 % 2) + 32 * (p / 2 ^ 0 % 2))
  else 8 * (p / 2 ^ (5 * k) % 32) + p / 2 ^ (5 * k) % 32 / 4
theorem toNat_alpha3 : (alpha3 p).toNat = 128 * (p.toNat / 2 ^ 10 % 2) + 64 * (p.toNat / 2 ^ 5 % 2) + 32 * (p.toNat / 2 ^ 0 % 2) := by
  simp only [alpha3, toNat_append', toNat_slice, BitVec.toNat_ofNat]
  omega
theorem toNat_expand5 (f : BitVec 5) : (expand5 f).toNat = 8 * f.toNat + f.toNat / 4 := by
  have hf := f.isLt
  simp only [expand5, toNat_append', toNat_slice]
  omega
theorem toNat_unpackAs (opq : Bool) : (unpackAs opq p k).toNat = componentNat opq p.toNat k := by
  rw [unpackAs, componentNat]
  split
  · cases opq
    · exact toNat_alpha3 p
    · rfl
  · rw [toNat_expand5, toNat_slice]
    rfl
theorem toNat_unpack5 : (unpack5 p k).toNat = componentNat (decide (p.toNat < 2 ^ 15)) p.toNat k := by
  have hp : (!bitAt p 15) = decide (p.toNat < 2 ^ 15) := by rw [bitAt_top, ← decide_not]; exact decide_eq_decide.2 Nat.not_le
  rw [unpack5, toNat_unpackAs, hp]
theorem toNat_twice8 : (twice8 b).toNat = 257 * b.toNat := by
  rw [twice8, toNat_append']
  omega
/-- A pixel packed from four 8-bit components, as a number (R722). -/
def packNat (c : Nat → Nat) : Nat :=
  if c 3 / 16 = 15 then c 2 / 8 * 2 ^ 10 + c 1 / 8 * 2 ^ 5 + c 0 / 8
  else 2 ^ 15 + c 2 / 16 * 2 ^ 11 + c 3 / 2 ^ 7 % 2 * 2 ^ 10 + c 1 / 16 * 2 ^ 6 + c 3 / 2 ^ 6 % 2 * 2 ^ 5 + c 0 / 16 * 2 + c 3 / 2 ^ 5 % 2
theorem toNat_pack5 : (pack5 c).toNat = packNat fun k => (c k).toNat := by
  have h0 := (c 0).isLt
  have h1 := (c 1).isLt
  have h2 := (c 2).isLt
  have h3 := (c 3).isLt
  have hopaque : (slice (c 3) 4 4 == 0xF#4) = true ↔ (c 3).toNat / 16 = 15 := by
    rw [beq_iff_eq, ← BitVec.toNat_inj, toNat_slice, BitVec.toNat_ofNat]
    omega
  rw [pack5, packNat]
  by_cases h : (c 3).toNat / 16 = 15
  · rw [if_pos (hopaque.2 h), if_pos h]
    simp only [toNat_append', toNat_slice, BitVec.toNat_ofNat]
    omega
  · rw [if_neg (mt hopaque.1 h), if_neg h]
    simp only [toNat_append', toNat_slice, BitVec.toNat_ofNat]
    omega
theorem toNat_high_byte : (slice p 8 8).toNat = p.toNat / 2 ^ 8 := by
  have hp := p.isLt
  rw [toNat_slice]
  omega

end

section

/-! Halving, selection and interleaving (R729 to R735). -/

variable (v : Word) (p : Half) {k : Nat}

/-- A pixel with each colour field halved (R729). -/
def halved (p : Half) : Half := 0#2 ++ slice p 11 4 ++ 0#1 ++ slice p 6 4 ++ 0#1 ++ slice p 1 4
theorem halved_eq_and : halved p = (p >>> 1) &&& 0x3DEF#16 := by
  refine BitVec.eq_of_getLsbD_eq fun i hi => ?_
  simp only [halved, slice, BitVec.getLsbD_append, BitVec.getLsbD_extractLsb', BitVec.getLsbD_and, BitVec.getLsbD_ushiftRight]
  interval_cases i <;> simp
theorem lane16_halved (hk : k < 4) : lane16 ((v >>> 1) &&& 0x3DEF3DEF3DEF3DEF#64) k = halved (lane16 v k) := by
  have hmask : lane16 0x3DEF3DEF3DEF3DEF#64 k = 0x3DEF#16 := by interval_cases k <;> rfl
  refine BitVec.eq_of_getLsbD_eq fun i hi => ?_
  have hbit := congrArg (fun x => BitVec.getLsbD x i) hmask
  simp only [lane16, BitVec.getLsbD_extractLsb', hi, decide_true, Bool.true_and] at hbit
  simp only [halved_eq_and, lane16, BitVec.getLsbD_extractLsb', BitVec.getLsbD_and, BitVec.getLsbD_ushiftRight, hi, decide_true,
    Bool.true_and, hbit]
  by_cases htop : i = 15
  · rw [htop, show (0x3DEF#16).getLsbD 15 = false by rfl, Bool.and_false, Bool.and_false]
  · rw [decide_eq_true (show 1 + i < 16 by omega), Bool.true_and, Nat.add_left_comm]
theorem toNat_lane16_halved (hk : k < 4) : (lane16 ((v >>> 1) &&& 0x3DEF3DEF3DEF3DEF#64) k).toNat =
    (lane16 v k).toNat / 2 ^ 10 % 32 / 2 * 2 ^ 10 + (lane16 v k).toNat / 2 ^ 5 % 32 / 2 * 2 ^ 5 + (lane16 v k).toNat % 32 / 2 := by
  rw [lane16_halved v hk, halved]
  simp only [toNat_append', toNat_slice, BitVec.toNat_ofNat]
  omega

/-- Whether one luminance is at least as good as another (R730). -/
def LumaLe (bright : Bool) (a b : Nat) : Prop := if bright then b ≤ a else a ≤ b
theorem lumaBest_iff (bright : Bool) (i : Nat) : lumaBest bright v i = true ↔
    ∀ k, k < 4 → LumaLe bright (Config.rgb5Luma (lane16 v i)) (Config.rgb5Luma (lane16 v k)) := by
  rw [lumaBest, List.all_eq_true]
  cases bright <;> simp [LumaLe]
theorem exists_lumaBest (bright : Bool) : ∃ i, i < 4 ∧ lumaBest bright v i = true := by
  have hne : (Finset.range 4).Nonempty := ⟨0, by decide⟩
  cases bright
  · obtain ⟨i, hi, hmin⟩ := (Finset.range 4).exists_min_image (fun k => Config.rgb5Luma (lane16 v k)) hne
    exact ⟨i, Finset.mem_range.1 hi, (lumaBest_iff v false i).2 fun k hk => hmin k (Finset.mem_range.2 hk)⟩
  · obtain ⟨i, hi, hmax⟩ := (Finset.range 4).exists_max_image (fun k => Config.rgb5Luma (lane16 v k)) hne
    exact ⟨i, Finset.mem_range.1 hi, (lumaBest_iff v true i).2 fun k hk => hmax k (Finset.mem_range.2 hk)⟩
/-- The lane selected is a best one (R730). -/
theorem lumaPick_spec (bright : Bool) : ∃ i, i < 4 ∧ lumaPick bright v = lane16 v i ∧
    ∀ k, k < 4 → LumaLe bright (Config.rgb5Luma (lane16 v i)) (Config.rgb5Luma (lane16 v k)) := by
  rw [lumaPick]
  by_cases htie : lumaBest bright v (Config.rgb5Tie bright v % 4) = true
  · exact ⟨_, Nat.mod_lt _ (by decide), if_pos htie, (lumaBest_iff v bright _).1 htie⟩
  obtain ⟨i, hi, hbest⟩ := exists_lumaBest v bright
  cases hfirst : firstIdx (lumaBest bright v) 0 4 with
  | none => exact absurd (firstIdx_eq_none_iff.1 hfirst i (Nat.zero_le _) hi) (by rw [hbest]; decide)
  | some j =>
    obtain ⟨-, hj, hjbest, -⟩ := firstIdx_eq_some_iff.1 hfirst
    exact ⟨j, hj, if_neg htie, (lumaBest_iff v bright j).1 hjbest⟩

theorem toNat_paletteIndex : (paletteIndex p).toNat =
    if (Config.rgb5ToIndex8 p).toNat / 2 % 8 = 1 then (Config.rgb5ToIndex8 p).toNat - 2 else (Config.rgb5ToIndex8 p).toNat := by
  rw [paletteIndex]
  generalize Config.rgb5ToIndex8 p = b
  have hb := b.isLt
  have hfield : (slice b 1 3 == 1#3) = true ↔ b.toNat / 2 % 8 = 1 := by
    rw [beq_iff_eq, ← BitVec.toNat_inj, toNat_slice, pow_one]
    rfl
  have hmask : b &&& 0xF1#8 = slice b 4 4 ++ 0#3 ++ slice b 0 1 := by
    refine BitVec.eq_of_getLsbD_eq fun i hi => ?_
    interval_cases i <;> simp only [slice, BitVec.getLsbD_append, BitVec.getLsbD_extractLsb', BitVec.getLsbD_and] <;> simp
  by_cases h : b.toNat / 2 % 8 = 1
  · rw [if_pos (hfield.2 h), if_pos h, hmask]
    simp only [toNat_append', toNat_slice, BitVec.toNat_ofNat]
    omega
  · rw [if_neg (mt hfield.1 h), if_neg h]

/-- The order of R734: TGRBGRBGRBGRBGRB. -/
def Interleaved (w y : Half) : Prop := y.getLsbD 15 = w.getLsbD 15 ∧ ∀ i, i < 5 →
  y.getLsbD (3 * i) = w.getLsbD i ∧ y.getLsbD (3 * i + 1) = w.getLsbD (10 + i) ∧ y.getLsbD (3 * i + 2) = w.getLsbD (5 + i)
theorem interleaved_shuffle3 : Interleaved p (shuffle3 p) := by
  simp only [Interleaved, shuffle3, slice, BitVec.getLsbD_append, BitVec.getLsbD_extractLsb']
  refine ⟨by simp, fun i hi => ?_⟩
  interval_cases i <;> simp
theorem interleaved_unshuffle3 : Interleaved (unshuffle3 p) p := by
  simp only [Interleaved, unshuffle3, slice, BitVec.getLsbD_append, BitVec.getLsbD_extractLsb']
  refine ⟨by simp, fun i hi => ?_⟩
  interval_cases i <;> simp

end

section

/-! RGB30A (R736 to R738). -/

variable (v : Word) {f w : Nat}

theorem toNat_beq_one_mod_two (f : Nat) : (f % 2 == 1).toNat = f % 2 := by
  rcases Nat.mod_two_eq_zero_or_one f with h | h <;> rw [h] <;> rfl
/-- An E4 field of k fraction bits, with the sign at the bottom and without. -/
theorem toNat_microToHalf_signed {k : Nat} (hk : k ≤ 10) (hf : f < 2 ^ (5 + k)) : (microToHalf k (f % 2 == 1) (f / 2)).toNat =
    if f / 2 = 0 then 0 else f % 2 * 2 ^ 15 + (f / 2 / 2 ^ k + 8) * 2 ^ 10 + f / 2 % 2 ^ k * 2 ^ (10 - k) := by
  have hlt : f / 2 < 2 ^ (4 + k) := by
    rw [Nat.div_lt_iff_lt_mul two_pos, ← Nat.pow_succ]
    rwa [show (4 + k).succ = 5 + k by omega]
  rw [toNat_microToHalf hk _ hlt, toNat_beq_one_mod_two]
theorem toNat_microToHalf_unsigned {k : Nat} (hk : k ≤ 10) (hf : f < 2 ^ (4 + k)) : (microToHalf k false f).toNat =
    if f = 0 then 0 else 0 * 2 ^ 15 + (f / 2 ^ k + 8) * 2 ^ 10 + f % 2 ^ k * 2 ^ (10 - k) := toNat_microToHalf hk false hf
/-- The place of component k in the E4 layouts. -/
def e4Place (k : Nat) : Nat := match k with | 0 => 0 | 1 => 7 | 2 => 15 | _ => 22
theorem rgb30Half_e4 {k : Nat} (hk : k < 4) (h : v.getLsbD 31 = true) : rgb30Half v k =
    if v.getLsbD 30 then microToHalf (2 + k % 2) (v.toNat / 2 ^ e4Place k % 2 ^ (7 + k % 2) % 2 == 1) (v.toNat / 2 ^ e4Place k % 2 ^ (7 + k % 2) / 2)
    else microToHalf (3 + k % 2) false (v.toNat / 2 ^ e4Place k % 2 ^ (7 + k % 2)) := by
  rw [rgb30Half, bitAt, if_pos h]
  simp only [toNat_slice, bitAt]
  interval_cases k <;> simp [e4Place, Nat.mod_mod_of_dvd]
theorem rgb30Half_three (h : v.getLsbD 31 = false) : rgb30Half v 3 = 0x3C00#16 := by
  have h31 : ¬ bitAt v 31 = true := by rw [bitAt, h]; decide
  rw [rgb30Half, if_neg h31, if_pos rfl]
theorem toNat_rgb30Half_e5 {k : Nat} (hk : k ≠ 3) (h : v.getLsbD 31 = false) : (rgb30Half v k).toNat =
    if v.getLsbD 30 then v.toNat / 2 ^ (10 * k) % 2 ^ 10 % 2 * 2 ^ 15 + v.toNat / 2 ^ (10 * k) % 2 ^ 10 / 2 * 2 ^ 6
    else v.toNat / 2 ^ (10 * k) % 2 ^ 10 * 2 ^ 5 := by
  have h31 : ¬ bitAt v 31 = true := by rw [bitAt, h]; decide
  rw [rgb30Half, if_neg h31, if_neg hk, bitAt]
  split
  all_goals
    simp only [toNat_append', toNat_slice, BitVec.toNat_ofNat]
    omega
/-- Component k of an RGB30A value in each of its layouts (R736, R737). -/
theorem toNat_rgb30Half {k : Nat} (hk : k < 4) : (rgb30Half v k).toNat =
    if v.getLsbD 31 then
      let f := v.toNat / 2 ^ e4Place k % 2 ^ (7 + k % 2)
      if v.getLsbD 30 then
        (if f / 2 = 0 then 0 else f % 2 * 2 ^ 15 + (f / 2 / 2 ^ (2 + k % 2) + 8) * 2 ^ 10 + f / 2 % 2 ^ (2 + k % 2) * 2 ^ (10 - (2 + k % 2)))
      else if f = 0 then 0 else 0 * 2 ^ 15 + (f / 2 ^ (3 + k % 2) + 8) * 2 ^ 10 + f % 2 ^ (3 + k % 2) * 2 ^ (10 - (3 + k % 2))
    else if k = 3 then 0x3C00
    else if v.getLsbD 30 then v.toNat / 2 ^ (10 * k) % 2 ^ 10 % 2 * 2 ^ 15 + v.toNat / 2 ^ (10 * k) % 2 ^ 10 / 2 * 2 ^ 6
    else v.toNat / 2 ^ (10 * k) % 2 ^ 10 * 2 ^ 5 := by
  by_cases h31 : v.getLsbD 31 = true
  · have hlt := Nat.mod_lt (v.toNat / 2 ^ e4Place k) (Nat.two_pow_pos (7 + k % 2))
    rw [if_pos h31, rgb30Half_e4 v hk h31]
    split
    · exact toNat_microToHalf_signed (by omega) (by rwa [show 5 + (2 + k % 2) = 7 + k % 2 by omega])
    · exact toNat_microToHalf_unsigned (by omega) (by rwa [show 4 + (3 + k % 2) = 7 + k % 2 by omega])
  · have h31' : v.getLsbD 31 = false := Bool.eq_false_iff.2 h31
    rw [if_neg h31]
    split
    · next h3 => rw [h3, rgb30Half_three v h31']; rfl
    · next h3 => exact toNat_rgb30Half_e5 v h3 h31'
/-- A component in the layout 00 (R738). -/
theorem toNat_halfToE5_unsigned {h : Half} (free : Nat) (hh : h.toNat < 2 ^ 15) : (halfToE5 false h free).toNat = h.toNat / 2 ^ 5 := by
  have hbit : ¬ bitAt h 15 = true := by rw [bitAt_top, decide_eq_true_iff]; omega
  rw [halfToE5, if_neg Bool.false_ne_true, if_neg hbit, toNat_slice]
  omega
theorem packRgb30_zero (free : Nat → Nat) : packRgb30 0#2 v free =
    0#2 ++ halfToE5 false (lane16 v 2) (free 2) ++ halfToE5 false (lane16 v 1) (free 1) ++ halfToE5 false (lane16 v 0) (free 0) := rfl
theorem toNat_packRgb30_zero (free : Nat → Nat) : (packRgb30 0#2 v free).toNat < 2 ^ 30 ∧ ∀ k, k < 3 →
    (packRgb30 0#2 v free).toNat / 2 ^ (10 * k) % 2 ^ 10 = (halfToE5 false (lane16 v k) (free k)).toNat := by
  have h0 := (halfToE5 false (lane16 v 0) (free 0)).isLt
  have h1 := (halfToE5 false (lane16 v 1) (free 1)).isLt
  have h2 := (halfToE5 false (lane16 v 2) (free 2)).isLt
  simp only [packRgb30_zero, toNat_append', BitVec.toNat_ofNat]
  refine ⟨by omega, fun k hk => ?_⟩
  interval_cases k <;> omega

end

section

variable {m o n : Reg} {s : State}

theorem GivesFree.of_retire_drawnN {i : Instr} {k : Nat} {v : Word} {P : Word → Prop}
    (hi : exec i s = retire (setReg (drawnN k s) n v)) (h : P v) : GivesFree i k n s P := ⟨v, hi, h⟩

theorem rgb5minmax_gives : Gives (.rgb5minmax m n) n s (fun v => v.toNat < 2 ^ 32 ∧ ∃ i j, i < 4 ∧ j < 4 ∧
    lane16 v 1 = lane16 (getReg s m) i ∧ lane16 v 0 = lane16 (getReg s m) j ∧ ∀ k, k < 4 →
      Config.rgb5Luma (lane16 (getReg s m) i) ≤ Config.rgb5Luma (lane16 (getReg s m) k) ∧
      Config.rgb5Luma (lane16 (getReg s m) k) ≤ Config.rgb5Luma (lane16 (getReg s m) j)) := by
  obtain ⟨i, hi, hlow, hmin⟩ := lumaPick_spec (getReg s m) false
  obtain ⟨j, hj, hhigh, hmax⟩ := lumaPick_spec (getReg s m) true
  refine .of_retire rfl ⟨toNat_zero_append_two_lt _ _, i, j, hi, hj, ?_, ?_, fun k hk => ⟨hmin k hk, hmax k hk⟩⟩
  · exact (lane16_zero_append_two _ _ (by decide)).trans hlow
  · exact (lane16_zero_append_two _ _ (by decide)).trans hhigh
/-- Four selectors under the 24 low bits of a register (R731). -/
theorem toNat_selectors (v : Word) (sel : Nat → BitVec 2) :
    (0#32 ++ slice v 0 24 ++ sel 3 ++ sel 2 ++ sel 1 ++ sel 0).toNat =
      (v.toNat * 2 ^ 8 + (sel 3).toNat * 2 ^ 6 + (sel 2).toNat * 2 ^ 4 + (sel 1).toNat * 2 ^ 2 + (sel 0).toNat) % 2 ^ 32 := by
  have h0 := (sel 0).isLt
  have h1 := (sel 1).isLt
  have h2 := (sel 2).isLt
  have h3 := (sel 3).isLt
  simp only [toNat_append', toNat_slice, BitVec.toNat_ofNat]
  omega

end

/-- Settles O58: the components of each pixel as numbers, and the interleaving bit by bit. -/
theorem pixelFormats : Obligations.PixelFormats := by
  intro m o n s a w b bit comp pack half luma sel
  have hcomp (p : Half) (k : Nat) : (unpack5 p k).toNat = comp p.toNat k := by
    rw [toNat_unpack5, componentNat]
    simp only [decide_eq_true_iff]
    rfl
  refine ⟨.of_retire rfl fun j hj => ?unpack, .of_retire rfl (words_words4 fun k => ?unpackWide), .of_retire rfl ?pack,
    .of_retire rfl ?packWide, .of_retire rfl (lowBytes_bytes4 fun k => toNat_high_byte _), .of_retire rfl (words_words4 fun k => toNat_twice8 _),
    .of_retire rfl fun k hk => toNat_lane16_halved a hk, rgb5minmax_gives,
    .of_retire rfl (toNat_selectors (getReg s n) fun k => Config.rgb5Classify (lane16 a k) (lane16 (getReg s o) 1) (lane16 (getReg s o) 0)),
    .of_retire rfl (lowBytes_bytes4 fun k => toNat_paletteIndex _), .of_retire rfl fun k hk => ?shuffle, .of_retire rfl fun k hk => ?unshuffle,
    .of_retire rfl fun k hk => ?load, .of_retire_drawnN rfl ⟨?storeLow, fun k hk hw => ?store⟩⟩
  case unpack =>
    rw [lane8_bytes8 hj]
    exact hcomp _ _
  case unpackWide => rw [toNat_twice8, hcomp]
  case pack =>
    rw [toNat_append', toNat_append', toNat_pack5, toNat_pack5, BitVec.toNat_zero, Nat.zero_mul, Nat.zero_add]
    rfl
  case packWide =>
    rw [toNat_zero_append, toNat_pack5]
    simp only [toNat_high_byte]
    rfl
  case shuffle =>
    rw [map16, lane16_words4 hk]
    exact interleaved_shuffle3 _
  case unshuffle =>
    rw [map16, lane16_words4 hk]
    obtain ⟨htop, hbits⟩ := interleaved_unshuffle3 (lane16 a k)
    exact ⟨htop.symm, hbits⟩
  case load =>
    rw [lane16_words4 hk]
    refine (toNat_rgb30Half a hk).trans ?_
    interval_cases k <;> rfl
  case storeLow =>
    rw [toNat_zero_append]
    exact (toNat_packRgb30_zero a _).1
  case store =>
    rw [toNat_zero_append]
    exact ((toNat_packRgb30_zero a _).2 k hk).trans (toNat_halfToE5_unsigned _ hw)

end Sys2Proof.Machine

/-! ### Interpolation and blocks (48_rgb_blocks.md R739 to R749, R1002, R1003) -/

namespace Sys2Proof.Machine

open Sys2Proof

section

/-! Interpolated components. -/

theorem toNat_blerp1 (a b t : Half) : (blerp1 a b t).toNat = (a.toNat * (65535 - t.toNat) + b.toNat * t.toNat) / 2 ^ 16 := by
  have ha : a.toNat ≤ 65535 := Nat.le_of_lt_succ a.isLt
  have hb : b.toNat ≤ 65535 := Nat.le_of_lt_succ b.isLt
  have ht : t.toNat ≤ 65535 := Nat.le_of_lt_succ t.isLt
  have hbound : a.toNat * (65535 - t.toNat) + b.toNat * t.toNat ≤ 65535 * 65535 :=
    calc a.toNat * (65535 - t.toNat) + b.toNat * t.toNat
        ≤ 65535 * (65535 - t.toNat) + 65535 * t.toNat := Nat.add_le_add (Nat.mul_le_mul_right _ ha) (Nat.mul_le_mul_right _ hb)
      _ = 65535 * 65535 := by rw [← Nat.mul_add, Nat.sub_add_cancel ht]
  rw [blerp1, BitVec.toNat_ofNat]
  exact Nat.mod_eq_of_lt (by omega)

/-- The blend of two numbers by a selector (R740). -/
def mixNat (c u v : Nat) : Nat := if c = 0 then v else if c = 1 then thirds v u else if c = 2 then thirds u v else u
theorem thirds_lt {a b n : Nat} (ha : a < n) (hb : b < n) : thirds a b < n := by
  rw [thirds]
  omega
theorem mixNat_lt {c u v n : Nat} (hu : u < n) (hv : v < n) : mixNat c u v < n := by
  have huv := thirds_lt hu hv
  have hvu := thirds_lt hv hu
  rw [mixNat]
  split_ifs <;> assumption
theorem blend_eq (sel : BitVec 2) (a b : Nat) : blend sel a b = mixNat sel.toNat a b := by
  fin_cases sel <;> rfl

end

section

/-! UTX2 (R740). -/

variable {v free : Word} {i k : Nat}

/-- Component k of a UTX2 pixel read as opaque or as translucent, blended. -/
def utx2Linear (opq : Bool) (v : Word) (i : Nat) : Word := words4 fun k => BitVec.ofNat 16 (blend (slice v (32 + 2 * i) 2)
  (twice8 (unpackAs opq (lane16 v 0) k)).toNat (twice8 (unpackAs opq (lane16 v 1) k)).toNat)
theorem words_utx2Linear (opq : Bool) (v : Word) (i : Nat) : Words (utx2Linear opq v i) fun k =>
    mixNat (v.toNat / 2 ^ (32 + 2 * i) % 4) (257 * componentNat opq (lane16 v 0).toNat k) (257 * componentNat opq (lane16 v 1).toNat k) := by
  refine words_words4 fun k => ?_
  rw [blend_eq, BitVec.toNat_ofNat, Nat.mod_eq_of_lt (mixNat_lt (BitVec.isLt _) (BitVec.isLt _)), toNat_slice, toNat_twice8, toNat_twice8,
    toNat_unpackAs, toNat_unpackAs]
  rfl
theorem utx2_opaque (ha : (lane16 v 0).toNat < 2 ^ 15) (hb : (lane16 v 1).toNat < 2 ^ 15) : utx2 v i free = utx2Linear true v i := by
  have ha' : bitAt (lane16 v 0) 15 = false := by rw [bitAt_top, decide_eq_false_iff_not]; omega
  have hb' : bitAt (lane16 v 1) 15 = false := by rw [bitAt_top, decide_eq_false_iff_not]; omega
  simp only [utx2, ha', hb']
  rfl
theorem utx2_translucent (ha : 2 ^ 15 ≤ (lane16 v 0).toNat) (hb : 2 ^ 15 ≤ (lane16 v 1).toNat) : utx2 v i free = utx2Linear false v i := by
  have ha' : bitAt (lane16 v 0) 15 = true := by rw [bitAt_top, decide_eq_true_iff]; omega
  have hb' : bitAt (lane16 v 1) 15 = true := by rw [bitAt_top, decide_eq_true_iff]; omega
  simp only [utx2, ha', hb']
  rfl
theorem words_utx2_mixed (ha : (lane16 v 0).toNat < 2 ^ 15) (hb : 2 ^ 15 ≤ (lane16 v 1).toNat) : Words (utx2 v i free) fun k =>
    257 * componentNat false (if (if k = 3 then v.toNat / 2 ^ (32 + 2 * i) % 4 % 2 else v.toNat / 2 ^ (32 + 2 * i) % 4 / 2) = 1
      then (lane16 v 0).toNat else (lane16 v 1).toNat) k := by
  have ha' : bitAt (lane16 v 0) 15 = false := by rw [bitAt_top, decide_eq_false_iff_not]; omega
  have hb' : bitAt (lane16 v 1) 15 = true := by rw [bitAt_top, decide_eq_true_iff]; omega
  have hsel : (slice v (32 + 2 * i) 2).toNat = v.toNat / 2 ^ (32 + 2 * i) % 4 := toNat_slice _ _ _
  have hlow : bitAt (slice v (32 + 2 * i) 2) 0 = decide (v.toNat / 2 ^ (32 + 2 * i) % 4 % 2 = 1) := by
    rw [← hsel, bitAt, BitVec.getLsbD, Nat.testBit_zero]
  have hhigh : bitAt (slice v (32 + 2 * i) 2) 1 = decide (v.toNat / 2 ^ (32 + 2 * i) % 4 / 2 = 1) := by
    rw [← hsel, bitAt_top]
    exact decide_eq_decide.2 (by have := (slice v (32 + 2 * i) 2).isLt; omega)
  simp only [utx2, ha', hb', hlow, hhigh, decide_eq_true_iff]
  refine words_words4 fun k => ?_
  split
  · next h3 =>
    subst h3
    rw [toNat_twice8, toNat_unpackAs, apply_ite BitVec.toNat]
  · rw [toNat_twice8, toNat_unpackAs, apply_ite BitVec.toNat]

end

section

/-! UTX1 (R742) and UTX3 (R743, R744). -/

variable (v : Word) (s : State)

theorem pixelIndex_eq (o : Reg) : pixelIndex s o = (getReg s o).toNat % 16 := by
  rw [pixelIndex, toNat_slice, pow_zero, Nat.div_one]; rfl
theorem toNat_utx1Component {hi : Bool} {k free : Nat} {d : Nat} {low : Int} (hd : 17 * (v.toNat / 2 ^ 12 % 2 ^ 4) = d)
    (hlow : ((17 * (v.toNat / 2 ^ (4 * k) % 2 ^ 4) : Nat) : Int) - (d / 2 : Nat) = low) (h0 : 0 ≤ low) (h255 : low + d ≤ 255) :
    ((utx1Component v hi k free).toNat : Int) = 257 * (low + (if hi then d else 0 : Nat)) := by
  have hbyte {z : Int} (hz : 0 ≤ z) (hz' : z ≤ 255) : ((twice8 (BitVec.ofInt 8 z)).toNat : Int) = 257 * z := by
    rw [toNat_twice8, BitVec.toNat_ofInt]
    omega
  rw [utx1Component]
  simp only [toNat_slice]
  rw [hd, hlow, if_pos ⟨h0, h255⟩]
  cases hi
  · exact (hbyte h0 (by omega)).trans (by simp)
  · exact hbyte (by omega) h255

theorem toNat_fp8uToHalf_fields (b : Byte) : (fp8uToHalf b).toNat = if b.toNat = 0 then 0 else (b.toNat / 16 + 8) * 2 ^ 10 + b.toNat % 16 * 2 ^ 6 := by
  rw [toNat_fp8uToHalf, Nat.zero_mul, Nat.zero_add]
theorem toNat_blendLdr (sel : BitVec 2) (a b : Byte) : (blendLdr sel a b).toNat = 257 * mixNat sel.toNat a.toNat b.toNat := by
  rw [blendLdr, toNat_twice8, blend_eq, BitVec.toNat_ofNat, Nat.mod_eq_of_lt (mixNat_lt a.isLt b.isLt)]
/-- A third between two FP8U end points widened (R743). -/
def thirdsHdrNat (a b : Byte) : Nat := max (min (fp8uToHalf a).toNat (fp8uToHalf b).toNat)
  (min (max (fp8uToHalf a).toNat (fp8uToHalf b).toNat) (Config.utx3hInterp a b).toNat)
theorem toNat_thirdsHdr (a b : Byte) : (thirdsHdr a b).toNat = thirdsHdrNat a b := by
  have ha := (fp8uToHalf a).isLt
  have hb := (fp8uToHalf b).isLt
  rw [thirdsHdr, BitVec.toNat_ofNat]
  exact Nat.mod_eq_of_lt (by omega)
theorem toNat_blendHdr (sel : BitVec 2) (a b : Byte) : (blendHdr sel a b).toNat =
    if sel.toNat = 0 then (fp8uToHalf b).toNat else if sel.toNat = 1 then thirdsHdrNat b a else if sel.toNat = 2 then thirdsHdrNat a b
    else (fp8uToHalf a).toNat := by
  fin_cases sel
  · rfl
  · exact toNat_thirdsHdr b a
  · exact toNat_thirdsHdr a b
  · rfl
theorem utx3_gives {f : BitVec 2 → Byte → Byte → Half} {i : Instr} {x : Pair} {o n : Reg} {g : Nat → Nat} (hx : pairAllowed x = true)
    (hi : exec i s = withPairs [x] (retire (setReg s n (utx3 f (getPair s x) (pixelIndex s o)))))
    (hg : ∀ k, (f (slice (getPair s x) ((if k = 3 then 96 else 64) + 2 * pixelIndex s o) 2) (slice (getPair s x) (8 * k) 8)
      (slice (getPair s x) (32 + 8 * k) 8)).toNat = g k) : Gives i n s (fun v => Words v g) := by
  refine .of_retire (hi.trans (withPairs_eq (by simp [hx]))) (words_words4 fun k => ?_)
  rw [← hg]
  split <;> rfl

end

section

variable {m o p n : Reg} {s : State}

theorem slice_eq_ofNat_mod {w : Nat} (v : BitVec w) (lo len : Nat) : slice v lo len = BitVec.ofNat len (v.toNat / 2 ^ lo % 2 ^ len) := by
  rw [← BitVec.toNat_inj, toNat_slice, BitVec.toNat_ofNat, Nat.mod_mod]
theorem slice_low_eq_ofNat (v : Word) : slice v 0 4 = BitVec.ofNat 4 (v.toNat % 16) := by
  rw [slice_eq_ofNat_mod, pow_zero, Nat.div_one]
  rfl
theorem vec2_mapWords_gives {i : Instr} {f : Half → Half → Half} {g : Nat → Nat} (hi : exec i s = vec2 (mapWords f) m o n s)
    (hg : ∀ k, (f (lane16 (getReg s m) k) (lane16 (getReg s o) k)).toNat = g k) : Gives i n s (fun v => Words v g) :=
  .of_retire hi (words_words4 hg)
/-- UTX1: opaque, and a component given where its end points are in range (R742). -/
theorem blkutx1_gives : GivesFree (.blkutx1 m o n) 3 n s (fun v => lane16 v 3 = 0xFFFF#16 ∧ ∀ k, k < 3 → ∃ free,
    lane16 v k = utx1Component (getReg s m) (bitAt (getReg s m) (16 + (getReg s o).toNat % 16)) k free) := by
  have hwords (c : Nat → Half) : 0xFFFF#16 ++ c 2 ++ c 1 ++ c 0 = words4 fun k => if k = 3 then 0xFFFF#16 else c k := rfl
  rw [← pixelIndex_eq]
  refine .of_retire_drawnN rfl ⟨?_, fun k hk => ⟨freeNat s k, ?_⟩⟩
  · rw [hwords fun k => utx1Component (getReg s m) (bitAt (getReg s m) (16 + pixelIndex s o)) k (freeNat s k), lane16_words4 (by decide)]
    rfl
  · rw [hwords fun k => utx1Component (getReg s m) (bitAt (getReg s m) (16 + pixelIndex s o)) k (freeNat s k), lane16_words4 (by omega),
      if_neg (by omega)]
/-- UAB1: the sample in both channels (R1002). -/
theorem blkuab1_gives : Gives (.blkuab1 m o n) n s (fun v => v.toNat < 2 ^ 32 ∧ lane16 v 1 = lane16 v 0 ∧
    ∃ u, lane16 v 0 = Config.uabDecode false u (BitVec.ofNat 4 ((getReg s o).toNat % 16)) ∧ u.toNat = (getReg s m).toNat % 2 ^ 32) := by
  refine .of_retire rfl ⟨toNat_zero_append_two_lt _ _, ?_, zext 32 (getReg s m), ?_, toNat_zext _ (by decide)⟩
  · rw [lane16_zero_append_two _ _ (by decide), lane16_zero_append_two _ _ (by decide)]
    rfl
  · rw [lane16_zero_append_two _ _ (by decide), if_pos rfl, slice_low_eq_ofNat]
/-- UAB2: the bias off the right channel and on the left, unless the block is reserved (R1003). -/
theorem blkuab2_gives : GivesFree (.blkuab2 m o n) 1 n s (fun v => v.toNat < 2 ^ 32 ∧ ((getReg s m).getLsbD 23 = false →
    lane16 v 0 = Config.uabDecode true (setSlice (getReg s m) 24 8 0#8) (slice (getReg s o) 0 4) + uab2Bias (slice (getReg s m) 24 8) ∧
    lane16 v 1 = Config.uabDecode true (setSlice (getReg s m) 24 8 0#8) (slice (getReg s o) 0 4) - uab2Bias (slice (getReg s m) 24 8))) := by
  refine .of_retire_drawn rfl ?_
  by_cases hsign : bitAt (getReg s m) 23 = true
  · rw [if_pos hsign]
    refine ⟨?_, fun h => absurd hsign (by rw [bitAt, h]; decide)⟩
    rw [toNat_zext _ (by decide)]
    exact Nat.mod_lt _ (by decide)
  · rw [if_neg hsign]
    exact ⟨toNat_zero_append_two_lt _ _, fun _ => ⟨lane16_zero_append_two _ _ (by decide), lane16_zero_append_two _ _ (by decide)⟩⟩
theorem getLsbD_clear_bias (v : Word) {k : Nat} (hk : k < 64) :
    (setSlice v 24 8 0#8).getLsbD k = (decide (k < 24 ∨ 32 ≤ k) && v.getLsbD k) := by
  rw [getLsbD_setSlice]
  by_cases h : 24 ≤ k ∧ k < 24 + 8 ∧ k < 64
  · rw [if_pos h, BitVec.getLsbD_zero, decide_eq_false (by omega), Bool.false_and]
  · rw [if_neg h, decide_eq_true (by omega), Bool.true_and]
theorem uab2Bias_eq (b : Byte) : uab2Bias b = if b = 0#8 then 0#16 else Config.uabBias b := by
  rw [uab2Bias]
  simp only [beq_iff_eq]

end

/-- Settles O59: each component of the pixel selected, the free values apart. -/
theorem interpolationAndBlocks : Obligations.InterpolationAndBlocks := by
  intro m o p n j x s a i w lerp bit comp mid mix sel A B y field U V fp8u interp
  have hi : pixelIndex s o = i := pixelIndex_eq s o
  have hUlt (k : Nat) : U k < 256 := Nat.mod_lt _ (by decide)
  have hVlt (k : Nat) : V k < 256 := Nat.mod_lt _ (by decide)
  have hU (k : Nat) : slice (getPair s x) (8 * k) 8 = BitVec.ofNat 8 (U k) := slice_eq_ofNat_mod _ _ _
  have hV (k : Nat) : slice (getPair s x) (32 + 8 * k) 8 = BitVec.ofNat 8 (V k) := slice_eq_ofNat_mod _ _ _
  have hfp8u {u : Nat} (hu : u < 256) : (fp8uToHalf (BitVec.ofNat 8 u)).toNat = fp8u u := by
    rw [toNat_fp8uToHalf_fields, BitVec.toNat_ofNat, Nat.mod_eq_of_lt hu]
  have hinterp {u v : Nat} (hu : u < 256) (hv : v < 256) : thirdsHdrNat (BitVec.ofNat 8 u) (BitVec.ofNat 8 v) = interp u v := by
    rw [thirdsHdrNat, hfp8u hu, hfp8u hv]
  refine ⟨vec2_mapWords_gives rfl fun k => toNat_blerp1 _ _ _, vec2_mapWords_gives rfl fun k => toNat_blerp1 _ _ _,
    .of_retire_drawn rfl ⟨fun ha hb => ?plain, fun ha hb => ?translucent, fun ha hb => ?mixed⟩, ?utx1,
    fun hx => ⟨utx3_gives s (f := blendLdr) hx rfl fun k => ?ldr, utx3_gives s (f := blendHdr) hx rfl fun k => ?hdr⟩, fun hx => ?pair, ?uvf, blkuab1_gives, ?uab2⟩
  case plain =>
    rw [utx2_opaque ha hb, hi]
    exact words_utx2Linear true a i
  case translucent =>
    rw [utx2_translucent ha hb, hi]
    exact words_utx2Linear false a i
  case mixed =>
    rw [hi]
    exact words_utx2_mixed ha hb
  case utx1 =>
    obtain ⟨v, hv, htop, hcomp⟩ := blkutx1_gives (m := m) (o := o) (n := n) (s := s)
    refine ⟨v, hv, congrArg BitVec.toNat htop, fun k hk => ?_⟩
    obtain ⟨free, hfree⟩ := hcomp k hk
    intro d low h0 h255
    exact (congrArg (fun c : Half => (c.toNat : Int)) hfree).trans (toNat_utx1Component a (d := d) (low := low) rfl rfl h0 h255)
  case ldr =>
    rw [toNat_blendLdr, toNat_slice, toNat_slice, toNat_slice, hi]
    rfl
  case hdr =>
    rw [toNat_blendHdr, toNat_slice, hi, hU k, hV k, hfp8u (hUlt k), hfp8u (hVlt k), hinterp (hUlt k) (hVlt k), hinterp (hVlt k) (hUlt k)]
    rfl
  case pair =>
    have hall : [x].all pairAllowed = false := by simp [hx]
    exact ⟨withPairs_refused hall, withPairs_refused hall⟩
  case uvf =>
    exact List.forall_mem_cons.2 ⟨.of_retire rfl rfl, List.forall_mem_cons.2 ⟨.of_retire rfl rfl,
      List.forall_mem_cons.2 ⟨.of_retire rfl rfl, List.forall_mem_singleton.2 (.of_retire rfl rfl)⟩⟩⟩
  case uab2 =>
    obtain ⟨v, hv, hlt, hlanes⟩ := blkuab2_gives (m := m) (o := o) (n := n) (s := s)
    refine ⟨v, hv, hlt, fun hsign => ?_⟩
    obtain ⟨hleft, hright⟩ := hlanes hsign
    rw [slice_low_eq_ofNat, uab2Bias_eq] at hleft hright
    exact ⟨_, _, _, fun k hk => getLsbD_clear_bias a hk, rfl, rfl, hleft, hright⟩

end Sys2Proof.Machine
